-- ==== Sys2Proof/Word.lean ====
section
/-! DEFINITION. The word types of the Uluson block: bit strings of the widths the manual gives
(R10: bit 0 is the least significant bit), and lines, tiles and stages of them. -/

namespace Sys2Proof

/-- One byte. -/
abbrev Byte := BitVec 8

/-- One 32-bit register word, semaphore word, lane or tile element. -/
abbrev W32 := BitVec 32

/-- A scalar register (R198), a timebase (R466). -/
abbrev W64 := BitVec 64

/-- A fault or log code (R441). -/
abbrev Code := BitVec 16

/-- A line: 128 lanes of 32 bits, 512 B (R125). -/
abbrev Line := Vector W32 128

/-- An accumulator tile: 128 rows of 128 values (R68). -/
abbrev Tile := Vector Line 128

/-- An operand stage: 128 stage rows of 128 packets of 16 bits (R74). -/
abbrev Stage := Vector (Vector (BitVec 16) 128) 128

/-- Bytes of an addressed memory that differ from what an unlisted address reads as,
addresses strictly rising. -/
abbrev Memory := List (Nat × Byte)

/-- A line of zeros. -/
def Line.zero : Line := Vector.replicate 128 0

end Sys2Proof
end

