-- ==== Sys2Proof/Syntax.lean ====
section
/-! DEFINITION. The commands of the Uluson block: one constructor of `Instr` for every row of
spec/opcode_table.json. The table gives its rows no bits and no operands, so the operands stand
here as the manual's own names for what a step acts on: a control port, a core, an engine queue
context, a caravan channel, a register and the value written to it. Operands that the environment
decides (whether a stack trained, which words of a row went bad, what a link delivered) are named
in the docstring of their type. -/

namespace Sys2Proof

/-- The two hardware contexts of an engine queue (R224). -/
inductive Duet where
  | a
  | b
deriving DecidableEq, Repr

/-- The four queued engines of a core (R219: load, matrix, vector, store). -/
inductive Engine where
  | load
  | matrix
  | vector
  | store
deriving DecidableEq, Repr

/-- A caravan channel: channel `n` of the core with partition-local index `l`, or a trunk channel
(R28). -/
inductive ChanId where
  | core (p : Fin 12) (l : Fin 32) (n : Fin 4)
  | trunk (p : Fin 12) (t : Fin 8)
deriving DecidableEq, Repr

/-- Who makes a register or memory access (R494). -/
inductive Source where
  | port (h : Fin 4)
  | seq (p : Fin 12)
  | chan (c : ChanId)
  | link (n : Fin 16)
deriving DecidableEq, Repr

/-- Where a semaphore or counter word lives (R245). -/
inductive SemSpace where
  | part (p : Fin 12)
  | hub (h : Fin 4)
deriving DecidableEq, Repr

/-- The units whose head waits the watchdog times (R261). -/
inductive WaitUnit where
  | seq (p : Fin 12)
  | eng (p : Fin 12) (l : Fin 32) (e : Engine) (x : Duet)
  | chan (c : ChanId)
deriving DecidableEq, Repr

/-- The toll classes of a port (R281). -/
inductive TollClass where
  | read
  | write
  | remote
deriving DecidableEq, Repr

/-- The 33 descriptor caches of a partition (R183). -/
inductive CacheId where
  | core (p : Fin 12) (l : Fin 32)
  | trunk (p : Fin 12)
deriving DecidableEq, Repr

/-- A scratchpad word whose check bits are found wrong: one bad bit, or more (R168, R170). -/
inductive Ecc where
  | corrected
  | uncorrectable
deriving DecidableEq, Repr

/-- Engine-written state that a later read may find as it was (R240, R241): an operand-cache slot, a mask, VCNT, a
stage row (128 of stage 0, then of stage 1), a scratchpad row, a channel-counter set, the channel scales, the grid table. -/
inductive Spot where
  | slot (n : Fin 64)
  | mask (x : Duet) (n : Fin 8)
  | vcnt (x : Duet)
  | stageRow (n : Fin 256)
  | row (n : Fin 49152)
  | cset (n : Fin 1024)
  | csr
  | grid
deriving DecidableEq, Repr

/-- What is found at the issue of an engine slot: nothing; a parity error of the engine (R446); or the meetings of its
reads and writes with writes of the core already issued (R127, R143, R240, R241). `early` has (spot, n) where a read
precedes the last n of the landings that are under way; `late` has (slot, n, same) where those n land after this
instruction's write of the slot or, for `same`, in its cycle; `clash` counts the other writes and reads of one row in one
cycle. -/
inductive Found where
  | clean
  | parity
  | hazard (early : List (Spot × Nat)) (late : List (Fin 64 × Nat × Bool)) (clash : Nat)
deriving DecidableEq, Repr

/-- What the environment decides in a power-up (R471): the straps as the package ties them (R24: of compute die d
`die_col` in bits [2:0] and `die_row` in bits [4:3], of hub h, entry 24 + h, `hub_id` in bits [1:0]), which dies' PLLs
lock, which hubs' control ports train and which stacks train. -/
structure BootEnv where
  straps : Vector (BitVec 5) 28
  pll   : BitVec 28
  ports : BitVec 4
  stack : BitVec 24
deriving DecidableEq, Repr

/-- The commands. Each is one step of the block, whole and indivisible. -/
inductive Instr where
  /-- R471 `COLD_RESET`. The rising edge of blk_rst_n that ends cold reset runs the power-up sequence: PLL lock, bridge and port training, key derivation, stack training and the block-wide wipe. -/
  | coldReset (env : BootEnv)
  /-- R470 `PWR_OK_FALL`. A fall of pwr_ok stops the block at once without a wipe, and the stack contents are lost cryptographically with the region keys. -/
  | pwrOkFall
  /-- R473 `WARM_RESET`. A control-port write to TIME_RST with key 0x5752 and WARM = 1 stops all tasks, isolates every partition, wipes state, rotates every region key and returns the links to IDLE. -/
  | warmReset (h : Fin 4) (v : W32)
  /-- R307 `STACK_TRAINING_DONE`. A stack port finishes training or retraining at its rate, or fails and marks the stack down with log 0x5D05. -/
  | stackTrainingDone (d : Fin 24) (ok : Bool)
  /-- R466 `TIMING_MESSAGE`. Every 10 us hub 0 sends a timing message, and each die corrects its timebase to within 4 ns of hub 0. -/
  | timingMessage
  /-- R405 `CONTROL_READ`. A READ message from a host die reads whole words of the block and is answered with a COMPLETION that carries the data, or with an error or BUSY. -/
  | controlRead (h : Fin 4) (hdr : BitVec 128) (data : List W32)
  /-- R405 `CONTROL_WRITE`. A WRITE message from a host die writes whole words and is answered once the write has landed, or with an error or BUSY. -/
  | controlWrite (h : Fin 4) (hdr : BitVec 128) (data : List W32)
  /-- R411 `DOORBELL`. A DOORBELL message sets a new TAIL for the hub's own task ring, with overrun checks. -/
  | doorbell (h : Fin 4) (hdr : BitVec 128) (data : List W32)
  /-- R326 `STREAM`. A STREAM message carries personality stream bytes to the hub's loader in order. -/
  | stream (h : Fin 4) (hdr : BitVec 128) (data : List W32)
  /-- R12 `REGISTER_WRITE`. A write to a register field that has no behaviour of its own stores, ignores or clears bits by its access code. -/
  | registerWrite (src : Source) (a : BitVec 56) (v : W32) (clash : W32 := 0)
  /-- R12 `READ_CLEAR`. A read of an RC counter or flag returns its value and clears it to 0 in the same access. -/
  | readClear (src : Source) (a : BitVec 56)
  /-- R478 `LATCHING_READ`. A read of TIME_NOW_LO or a STAT_PCNT LO word returns the low bits and latches the high word. -/
  | latchingRead (src : Source) (a : BitVec 56)
  /-- R39 `GRID_ENT_WRITE`. A write to a GRID_ENT register is validated and is either stored or rejected, in which case it sets GRID_FLAGS.ENT_REJ. -/
  | gridEntWrite (src : Source) (p : Fin 12) (l : Fin 32) (e : Fin 128) (v : W32)
  /-- R94 `GRID_CSR_WRITE`. A write to a channel-scale register is validated and is either stored or rejected, in which case it sets QNT_FLAGS.WR_REJ. -/
  | gridCsrWrite (src : Source) (p : Fin 12) (l : Fin 32) (n : Fin 4096) (v : W32)
  /-- R101 `STEER_SLOT_WRITE`. A write to a steer-slot word is checked against the Q limits, the set range and STRIPE_N, and is rejected with WR_REJ when a check fails. -/
  | steerSlotWrite (src : Source) (p : Fin 12) (l : Fin 32) (k : Fin 64) (w : Fin 8) (v : W32)
  /-- R172 `GMASK_UPDATE`. A new SP_ARB.GMASK value takes effect at the next toll-wheel position 0. -/
  | gmaskUpdate (p : Fin 12) (l : Fin 32)
  /-- R177 `DESCRIPTOR_ENTRY_WRITE`. A whole 64 B entry write to the descriptor store is validated, then accepted with its hardware fields and cache invalidation, or rejected with a cause. -/
  | descriptorEntryWrite (src : Source) (p : Fin 12) (hd : BitVec 17) (ent : BitVec 512)
  /-- R266 `RING_COMMIT`. A write to a channel's RING_HI commits the staged ring and resets HEAD and TAIL, or is rejected with RING_REJ and log 0x3B05. -/
  | ringCommit (src : Source) (c : ChanId) (v : W32)
  /-- R266 `TAIL_WRITE`. A write to a channel's TAIL makes bales available, or is rejected as a ring overrun. -/
  | tailWrite (src : Source) (c : ChanId) (v : W32)
  /-- R268 `TRUNK_CTAIL_BC`. A broadcast write advances TAIL of one per-core channel in every live core. -/
  | trunkCtailBc (src : Source) (p : Fin 12) (v : W32)
  /-- R285 `TRUNK_DEPOT_INV`. A write of GO empties both depot halves of the partition within 4,096 ACLK cycles. -/
  | trunkDepotInv (src : Source) (p : Fin 12) (v : W32)
  /-- R286 `RELAY_PUSH`. A register write pushes a handle onto a relay queue, or is rejected with FULL_REJ when the queue is full. -/
  | relayPush (src : Source) (p : Fin 12) (q : Fin 64) (v : W32)
  /-- R286 `RELAY_POP`. A register read pops a handle from a relay queue, or returns EMPTY. -/
  | relayPop (src : Source) (p : Fin 12) (q : Fin 64)
  /-- R243 `CLAIM_READ`. A claiming read of RT_CLM returns FREE and OWNER and records the reader as owner when the resource was free. -/
  | claimRead (src : Source) (p : Fin 12) (n : Fin 32)
  /-- R243 `CLAIM_RELEASE`. A write of 1 to RT_REL frees the claim register and clears its owner. -/
  | claimRelease (src : Source) (p : Fin 12) (n : Fin 32) (v : W32)
  /-- R248 `SEMAPHORE_SET`. A SET-view write stores COUNT and LIMIT of a semaphore, or is rejected when COUNT exceeds the effective limit. -/
  | semaphoreSet (src : Source) (sp : SemSpace) (i : BitVec 12) (v : W32)
  /-- R245 `ADD_ALIAS`. A write to the ADD alias performs an ADD of the written amount on the semaphore. -/
  | addAlias (src : Source) (sp : SemSpace) (i : BitVec 12) (v : W32)
  /-- R245 `SUB_ALIAS`. A write to the SUB alias performs a SUB of the written amount on the semaphore. -/
  | subAlias (src : Source) (sp : SemSpace) (i : BitVec 12) (v : W32)
  /-- R245 `COUNTER_SET`. A SET-view write stores the value of a monotonic counter. -/
  | counterSet (src : Source) (sp : SemSpace) (i : BitVec 12) (v : W32)
  /-- R245 `INC_ALIAS`. A write to the INC alias increments a monotonic counter by the written value. -/
  | incAlias (src : Source) (sp : SemSpace) (i : BitVec 12) (v : W32)
  /-- R429 `GLOBAL_OWNER_WRITE`. A control-port write to SEC_GOWN changes the owner of global blocks and zeroes their words, unless the old owner runs a task. -/
  | globalOwnerWrite (src : Source) (hub : Fin 4) (w : Fin 4) (v : W32)
  /-- R419 `TASK_RING_COMMIT`. A write to TASK_RING_HI commits the staged task ring and resets HEAD and TAIL, or is rejected with 0x3F04. -/
  | taskRingCommit (src : Source) (h : Fin 4) (v : W32)
  /-- R411 `TASK_TAIL_WRITE`. A write to TASK_TAIL advances the task ring, or is rejected as an overrun with 0x3F02. -/
  | taskTailWrite (src : Source) (h : Fin 4) (v : W32)
  /-- R402 `LINK_CERT_WRITE`. A write to LINK_CERT updates the certificate in all hubs and recomputes LINK_CERTV.VALID. -/
  | linkCertWrite (src : Source) (w : Fin 64) (v : W32)
  /-- R375 `LINK_DISABLE`. Setting LINK_CTL.DISABLE holds the link in IDLE, and clearing it lets the link leave IDLE. -/
  | linkDisable (src : Source) (n : Fin 16) (v : W32)
  /-- R375 `REARM`. A write of LINK_CTL.REARM returns a quarantined or disabled link to IDLE. -/
  | rearm (src : Source) (n : Fin 16) (v : W32)
  /-- R392 `REKEY`. A write of LINK_CTL.REKEY makes the sender send KEYUPD and move both directions to the next key. -/
  | rekey (src : Source) (n : Fin 16) (v : W32)
  /-- R488 `PCTL_CLR`. A write of STAT_PCTL.CLR zeroes every performance counter of the partition. -/
  | pctlClr (src : Source) (p : Fin 12) (v : W32)
  /-- R489 `TRACE_ENABLE`. Setting STAT_TRC_CTL.EN starts trace records, or is rejected when the ring lies outside an enabled window. -/
  | traceEnable (src : Source) (p : Fin 12) (v : W32)
  /-- R194 `BUNDLE_ISSUE`. The sequencer issues one bundle once no stall holds: it executes the scalar slot, hands the other slots to the promenade and counts SKIP. -/
  | bundleIssue (p : Fin 12) (parity : Bool)
  /-- R194 `BUNDLE_CACHE_FILL`. Bundle data returns after a bundle-cache miss, and the sequencer's fetch stall ends. -/
  | bundleCacheFill (p : Fin 12)
  /-- R198 `SCALAR_LOAD_RETURN`. The data of a scalar load returns into its register and ends any interlock stall, or an error status aborts the task. -/
  | scalarLoadReturn (p : Fin 12)
  /-- R226 `SLOT_DISPATCH`. Broadcast slots reach a core's dispatcher, which checks them and writes them into the engine queues. -/
  | slotDispatch (p : Fin 12) (l : Fin 32)
  /-- R69 `OPA`. OPA issues and runs N x B rank-k steps from its feeds into the named tile. -/
  | opa (p : Fin 12) (l : Fin 32) (x : Duet) (found : Found)
  /-- R82 `STRIPE`. STRIPE runs a BF16 float-path OPA that accumulates the outlier stripe into its own tile. -/
  | stripe (p : Fin 12) (l : Fin 32) (x : Duet) (found : Found)
  /-- R83 `DRAIN`. DRAIN moves N tile lines through the rescaler to the store engine or the vector engine, one per engine cycle. -/
  | drain (p : Fin 12) (l : Fin 32) (x : Duet) (found : Found)
  /-- R81 `CLEAR`. CLEAR zeroes the named tile and tags it EMPTY. -/
  | clear (p : Fin 12) (l : Fin 32) (x : Duet) (found : Found)
  /-- R76 `STAGE`. STAGE fills stage rows from scratchpad with the given spread. -/
  | stage (p : Fin 12) (l : Fin 32) (x : Duet) (found : Found)
  /-- R212 `SLOT`. SLOT loads scratchpad rows into consecutive operand-cache slots. -/
  | slot (p : Fin 12) (l : Fin 32) (x : Duet) (found : Found)
  /-- R95 `CSR`. CSR loads 128 channel-scale registers from one row, validating each. -/
  | csr (p : Fin 12) (l : Fin 32) (x : Duet) (found : Found)
  /-- R40 `GRID`. GRID loads all 128 grid-table entries from one row, validating each. -/
  | grid (p : Fin 12) (l : Fin 32) (x : Duet) (found : Found)
  /-- R214 `WSLOT`. WSLOT writes operand-cache slots, or halves of them, to scratchpad. -/
  | wslot (p : Fin 12) (l : Fin 32) (x : Duet) (found : Found)
  /-- R214 `WDRAIN`. WDRAIN writes drained lines from the store drain queue to scratchpad, converted to the named format. -/
  | wdrain (p : Fin 12) (l : Fin 32) (x : Duet) (found : Found)
  /-- R214 `WSETS`. WSETS writes rows of channel-counter sets to scratchpad. -/
  | wsets (p : Fin 12) (l : Fin 32) (x : Duet) (found : Found)
  /-- R208 `SETR`. SETR sets an engine address, stride or loop register. -/
  | setr (p : Fin 12) (l : Fin 32) (e : Engine) (x : Duet)
  /-- R208 `ADDR`. ADDR adds a value to an engine register. -/
  | addr (p : Fin 12) (l : Fin 32) (e : Engine) (x : Duet)
  /-- R208 `RANKADD`. RANKADD adds the core's rank times a value to an address register. -/
  | rankadd (p : Fin 12) (l : Fin 32) (e : Engine) (x : Duet)
  /-- R209 `LOOP`. LOOP repeats the next NB queue entries from the loop buffer as many times as an L register says, applying loop strides at each repeat end. -/
  | loop (p : Fin 12) (l : Fin 32) (e : Engine) (x : Duet)
  /-- R182 `BIND`. BIND checks a descriptor handle and sets an address register and its strides from it. -/
  | bind (p : Fin 12) (l : Fin 32) (e : Engine) (x : Duet)
  /-- R238 `DESCRIPTOR_CACHE_FILL`. An entry arrives from the descriptor store after a cache miss, and the waiting use issues. -/
  | descriptorCacheFill (u : CacheId)
  /-- R136 `VADD`. VADD writes a + b per active lane, rounded once. -/
  | vadd (p : Fin 12) (l : Fin 32) (x : Duet) (found : Found)
  /-- R136 `VSUB`. VSUB writes a - b per active lane, rounded once. -/
  | vsub (p : Fin 12) (l : Fin 32) (x : Duet) (found : Found)
  /-- R136 `VMUL`. VMUL writes a x b per active lane, rounded once. -/
  | vmul (p : Fin 12) (l : Fin 32) (x : Duet) (found : Found)
  /-- R136 `VFMA`. VFMA writes a x b + c per active lane, rounded once. -/
  | vfma (p : Fin 12) (l : Fin 32) (x : Duet) (found : Found)
  /-- R136 `VFMS`. VFMS writes a x b - c per active lane, rounded once. -/
  | vfms (p : Fin 12) (l : Fin 32) (x : Duet) (found : Found)
  /-- R135 `VMIN`. VMIN writes the IEEE minimum of a and b per active lane. -/
  | vmin (p : Fin 12) (l : Fin 32) (x : Duet) (found : Found)
  /-- R135 `VMAX`. VMAX writes the IEEE maximum of a and b per active lane. -/
  | vmax (p : Fin 12) (l : Fin 32) (x : Duet) (found : Found)
  /-- R135 `VABS`. VABS writes |a| per active lane. -/
  | vabs (p : Fin 12) (l : Fin 32) (x : Duet) (found : Found)
  /-- R135 `VNEG`. VNEG writes -a per active lane. -/
  | vneg (p : Fin 12) (l : Fin 32) (x : Duet) (found : Found)
  /-- R142 `VDIV`. VDIV writes a / b per active lane within 1 ulp. -/
  | vdiv (p : Fin 12) (l : Fin 32) (x : Duet) (found : Found)
  /-- R142 `VSQRT`. VSQRT writes the correctly rounded square root of a per active lane. -/
  | vsqrt (p : Fin 12) (l : Fin 32) (x : Duet) (found : Found)
  /-- R135 `VADDI`. VADDI writes the INT32 sum of a and b, wrapping. -/
  | vaddi (p : Fin 12) (l : Fin 32) (x : Duet) (found : Found)
  /-- R135 `VSUBI`. VSUBI writes the INT32 difference of a and b, wrapping. -/
  | vsubi (p : Fin 12) (l : Fin 32) (x : Duet) (found : Found)
  /-- R135 `VMULI`. VMULI writes the low 32 bits of the INT32 product. -/
  | vmuli (p : Fin 12) (l : Fin 32) (x : Duet) (found : Found)
  /-- R135 `VMINI`. VMINI writes the signed INT32 minimum. -/
  | vmini (p : Fin 12) (l : Fin 32) (x : Duet) (found : Found)
  /-- R135 `VMAXI`. VMAXI writes the signed INT32 maximum. -/
  | vmaxi (p : Fin 12) (l : Fin 32) (x : Duet) (found : Found)
  /-- R135 `VAND`. VAND writes the bitwise AND of a and b. -/
  | vand (p : Fin 12) (l : Fin 32) (x : Duet) (found : Found)
  /-- R135 `VOR`. VOR writes the bitwise OR of a and b. -/
  | vor (p : Fin 12) (l : Fin 32) (x : Duet) (found : Found)
  /-- R135 `VXOR`. VXOR writes the bitwise XOR of a and b. -/
  | vxor (p : Fin 12) (l : Fin 32) (x : Duet) (found : Found)
  /-- R135 `VNOT`. VNOT writes the bitwise complement of a. -/
  | vnot (p : Fin 12) (l : Fin 32) (x : Duet) (found : Found)
  /-- R135 `VSHL`. VSHL shifts a left by b[4:0]. -/
  | vshl (p : Fin 12) (l : Fin 32) (x : Duet) (found : Found)
  /-- R135 `VSHRL`. VSHRL shifts a right logically by b[4:0]. -/
  | vshrl (p : Fin 12) (l : Fin 32) (x : Duet) (found : Found)
  /-- R135 `VSHRA`. VSHRA shifts a right arithmetically by b[4:0]. -/
  | vshra (p : Fin 12) (l : Fin 32) (x : Duet) (found : Found)
  /-- R137 `VCMP_EQ`. VCMP.EQ sets mask bits where a equals b. -/
  | vcmpEq (p : Fin 12) (l : Fin 32) (x : Duet) (found : Found)
  /-- R137 `VCMP_NE`. VCMP.NE sets mask bits where a differs from b, true on NaN. -/
  | vcmpNe (p : Fin 12) (l : Fin 32) (x : Duet) (found : Found)
  /-- R137 `VCMP_LT`. VCMP.LT sets mask bits where a < b. -/
  | vcmpLt (p : Fin 12) (l : Fin 32) (x : Duet) (found : Found)
  /-- R137 `VCMP_LE`. VCMP.LE sets mask bits where a <= b. -/
  | vcmpLe (p : Fin 12) (l : Fin 32) (x : Duet) (found : Found)
  /-- R137 `VCMP_GT`. VCMP.GT sets mask bits where a > b. -/
  | vcmpGt (p : Fin 12) (l : Fin 32) (x : Duet) (found : Found)
  /-- R137 `VCMP_GE`. VCMP.GE sets mask bits where a >= b. -/
  | vcmpGe (p : Fin 12) (l : Fin 32) (x : Duet) (found : Found)
  /-- R135 `VSEL`. VSEL writes a where the selector mask is 1 and b elsewhere. -/
  | vsel (p : Fin 12) (l : Fin 32) (x : Duet) (found : Found)
  /-- R135 `VMOV`. VMOV copies a to d. -/
  | vmov (p : Fin 12) (l : Fin 32) (x : Duet) (found : Found)
  /-- R135 `VBCST`. VBCST broadcasts one lane or an immediate to d. -/
  | vbcst (p : Fin 12) (l : Fin 32) (x : Duet) (found : Found)
  /-- R135 `VIOTA`. VIOTA writes the lane index plus an immediate. -/
  | viota (p : Fin 12) (l : Fin 32) (x : Duet) (found : Found)
  /-- R135 `VSLIDE`. VSLIDE writes a[lambda + n], or +0 outside the line. -/
  | vslide (p : Fin 12) (l : Fin 32) (x : Duet) (found : Found)
  /-- R138 `VCVT`. VCVT converts between formats into or from a half or quarter of a slot. -/
  | vcvt (p : Fin 12) (l : Fin 32) (x : Duet) (found : Found)
  /-- R142 `VEXP2`. VEXP2 writes 2^a within 2 ulp. -/
  | vexp2 (p : Fin 12) (l : Fin 32) (x : Duet) (found : Found)
  /-- R142 `VEXP`. VEXP writes e^a within 3 ulp. -/
  | vexp (p : Fin 12) (l : Fin 32) (x : Duet) (found : Found)
  /-- R142 `VLOG2`. VLOG2 writes log2 a within its bound. -/
  | vlog2 (p : Fin 12) (l : Fin 32) (x : Duet) (found : Found)
  /-- R142 `VLN`. VLN writes ln a within its bound. -/
  | vln (p : Fin 12) (l : Fin 32) (x : Duet) (found : Found)
  /-- R142 `VRCP`. VRCP writes 1/a within 1 ulp. -/
  | vrcp (p : Fin 12) (l : Fin 32) (x : Duet) (found : Found)
  /-- R142 `VRSQRT`. VRSQRT writes 1/sqrt(a) within 2 ulp. -/
  | vrsqrt (p : Fin 12) (l : Fin 32) (x : Duet) (found : Found)
  /-- R142 `VTANH`. VTANH writes tanh a within its bound. -/
  | vtanh (p : Fin 12) (l : Fin 32) (x : Duet) (found : Found)
  /-- R142 `VSIGM`. VSIGM writes the logistic sigmoid of a within 4 ulp. -/
  | vsigm (p : Fin 12) (l : Fin 32) (x : Duet) (found : Found)
  /-- R142 `VERF`. VERF writes erf a within its bound. -/
  | verf (p : Fin 12) (l : Fin 32) (x : Duet) (found : Found)
  /-- R139 `VCMPR`. VCMPR packs the active lanes of a into the low lanes of d and sets VCNT. -/
  | vcmpr (p : Fin 12) (l : Fin 32) (x : Duet) (found : Found)
  /-- R139 `VEXPD`. VEXPD spreads successive lanes of a into the active lanes of d and sets VCNT. -/
  | vexpd (p : Fin 12) (l : Fin 32) (x : Duet) (found : Found)
  /-- R140 `VSCAN_SUM`. VSCAN.SUM writes inclusive or exclusive, optionally segmented, prefix sums. -/
  | vscanSum (p : Fin 12) (l : Fin 32) (x : Duet) (found : Found)
  /-- R140 `VSCAN_MAX`. VSCAN.MAX writes prefix maxima. -/
  | vscanMax (p : Fin 12) (l : Fin 32) (x : Duet) (found : Found)
  /-- R140 `VSCAN_MIN`. VSCAN.MIN writes prefix minima. -/
  | vscanMin (p : Fin 12) (l : Fin 32) (x : Duet) (found : Found)
  /-- R141 `VRED_SUM`. VRED.SUM writes the sum and the active count, or the identity and EMPTY. -/
  | vredSum (p : Fin 12) (l : Fin 32) (x : Duet) (found : Found)
  /-- R141 `VRED_MAX`. VRED.MAX writes the maximum and the active count. -/
  | vredMax (p : Fin 12) (l : Fin 32) (x : Duet) (found : Found)
  /-- R141 `VRED_MIN`. VRED.MIN writes the minimum and the active count. -/
  | vredMin (p : Fin 12) (l : Fin 32) (x : Duet) (found : Found)
  /-- R141 `VRED_ARGMAX`. VRED.ARGMAX writes the index and value of the maximum and the active count. -/
  | vredArgmax (p : Fin 12) (l : Fin 32) (x : Duet) (found : Found)
  /-- R141 `VRED_ARGMIN`. VRED.ARGMIN writes the index and value of the minimum and the active count. -/
  | vredArgmin (p : Fin 12) (l : Fin 32) (x : Duet) (found : Found)
  /-- R141 `VRED_AND`. VRED.AND writes the bitwise AND of the active lanes. -/
  | vredAnd (p : Fin 12) (l : Fin 32) (x : Duet) (found : Found)
  /-- R141 `VRED_OR`. VRED.OR writes the bitwise OR of the active lanes. -/
  | vredOr (p : Fin 12) (l : Fin 32) (x : Duet) (found : Found)
  /-- R141 `VRED_XOR`. VRED.XOR writes the bitwise XOR of the active lanes. -/
  | vredXor (p : Fin 12) (l : Fin 32) (x : Duet) (found : Found)
  /-- R135 `VMLOG_AND`. VMLOG.AND writes the AND of two masks. -/
  | vmlogAnd (p : Fin 12) (l : Fin 32) (x : Duet) (found : Found)
  /-- R135 `VMLOG_OR`. VMLOG.OR writes the OR of two masks. -/
  | vmlogOr (p : Fin 12) (l : Fin 32) (x : Duet) (found : Found)
  /-- R135 `VMLOG_XOR`. VMLOG.XOR writes the XOR of two masks. -/
  | vmlogXor (p : Fin 12) (l : Fin 32) (x : Duet) (found : Found)
  /-- R135 `VMLOG_ANDN`. VMLOG.ANDN writes one mask AND NOT the other. -/
  | vmlogAndn (p : Fin 12) (l : Fin 32) (x : Duet) (found : Found)
  /-- R135 `VMNOT`. VMNOT writes the complement of a mask. -/
  | vmnot (p : Fin 12) (l : Fin 32) (x : Duet) (found : Found)
  /-- R135 `VMFIRST`. VMFIRST sets mask bits for the lanes below an immediate. -/
  | vmfirst (p : Fin 12) (l : Fin 32) (x : Duet) (found : Found)
  /-- R135 `VMFROM`. VMFROM sets each mask bit from bit 0 of a lane. -/
  | vmfrom (p : Fin 12) (l : Fin 32) (x : Duet) (found : Found)
  /-- R135 `VMTO`. VMTO writes each mask bit as 0 or 1 into a lane. -/
  | vmto (p : Fin 12) (l : Fin 32) (x : Duet) (found : Found)
  /-- R131 `VMPOL`. VMPOL sets a mask's merge or zero policy. -/
  | vmpol (p : Fin 12) (l : Fin 32) (x : Duet) (found : Found)
  /-- R130 `SETVL`. SETVL sets the vector length from an immediate, an L register or VCNT. -/
  | setvl (p : Fin 12) (l : Fin 32) (x : Duet) (found : Found)
  /-- R103 `QUANT`. QUANT quantises a line into grid or INT8 codes, counting clip, vanished and NaN events and writing any shadow and stripe records. -/
  | quant (p : Fin 12) (l : Fin 32) (x : Duet) (found : Found)
  /-- R114 `STEER`. STEER in normal form takes and resets the slot's counters in each core and leaves a decision outstanding. -/
  | steer (p : Fin 12) (l : Fin 32) (x : Duet) (found : Found)
  /-- R106 `STEER_CAL`. STEER in CAL form sets each channel's scale register from its range trackers and resets the counters. -/
  | steerCal (p : Fin 12) (l : Fin 32) (x : Duet) (found : Found)
  /-- R112 `STEER_DECISION`. When every live core has issued the STEER, the sequencer computes the scale move, the promotions and any panic, and the decision lands in every live core. -/
  | steerDecision (p : Fin 12) (k : Fin 64)
  /-- R145 `VCUST_S`. VCUST.S sends a request to the custom-operation port without waiting for a reply. -/
  | vcustS (p : Fin 12) (l : Fin 32) (x : Duet) (found : Found)
  /-- R145 `VCUST_R`. VCUST.R pops the oldest response and writes its line to d. -/
  | vcustR (p : Fin 12) (l : Fin 32) (x : Duet) (found : Found)
  /-- R147 `COP_RESPONSE`. A response arrives from the fabric and is queued, faulted on a bad status or tag, or discarded as unsolicited. -/
  | copResponse (p : Fin 12) (l : Fin 32) (beat : BitVec 1024) (more : List (BitVec 1024))
  /-- R148 `CUSTOM_OP_TIMEOUT`. No response header arrives within 65,536 ACLK cycles of a request, and fault 0x9301 aborts the task. -/
  | customOpTimeout (p : Fin 12) (l : Fin 32)
  /-- R370 `COP_REQUEST_STALL`. A request header stays untransferred for 65,536 ACLK cycles, and fault 0x9301 is raised. -/
  | copRequestStall (p : Fin 12) (l : Fin 32)
  /-- R249 `WAIT_GE`. A WAIT_GE is consumed once its unit sees COUNT >= n. -/
  | waitGe (u : WaitUnit)
  /-- R250 `WAIT_SUB`. A WAIT_SUB is granted in arrival order once COUNT >= n, subtracting n atomically. -/
  | waitSub (u : WaitUnit) (meet : List WaitUnit := [])
  /-- R251 `WAIT_REACH`. A WAIT_REACH is consumed once the counter or arrival counter reaches the target in the 2^31 window. -/
  | waitReach (u : WaitUnit)
  /-- R249 `SEM_ADD`. An ADD signal is released at its release point and adds to the semaphore, faulting on overflow. -/
  | semAdd (p : Fin 12) (l : Fin 32) (e : Engine) (x : Duet) (meet : List WaitUnit := [])
  /-- R249 `SEM_SUB`. A SUB signal is released at its release point and subtracts from the semaphore, faulting on underflow. -/
  | semSub (p : Fin 12) (l : Fin 32) (e : Engine) (x : Duet) (meet : List WaitUnit := [])
  /-- R251 `INC`. An INC signal is released at its release point and adds to a monotonic counter modulo 2^32. -/
  | inc (p : Fin 12) (l : Fin 32) (e : Engine) (x : Duet) (meet : List WaitUnit := [])
  /-- R261 `WATCHDOG_EXPIRY`. A head wait goes unconsumed beyond SEM_WDOG.LIMIT, and fault 0x9A01 aborts the task. -/
  | watchdogExpiry (u : WaitUnit)
  /-- R412 `TASK_DESCRIPTOR_CHECK`. The dispatcher takes the next task descriptor from its ring and runs the submission checks, rejecting it with an end record or an event on failure. -/
  | taskDescriptorCheck (h : Fin 4)
  /-- R413 `TASK_DELIVERY`. Once every named partition's delivery queue has room, the dispatcher delivers the task and advances HEAD. -/
  | taskDelivery (h : Fin 4)
  /-- R31 `TASK_START`. A free partition starts its next delivered task: it resets its channels, checks the code object, chooses a bucket and snapshots the semaphore range. -/
  | taskStart (p : Fin 12) (parity : Bool)
  /-- R204 `TASK_FINISH`. After END the partition finishes the task once its queues, engines, channels and STEER decisions are done, and the balance check runs. -/
  | taskFinish (p : Fin 12)
  /-- R415 `END_RECORD`. Once every named partition is idle or finished, the hub writes the 64 B end record and then any task-done event. -/
  | endRecord (h : Fin 4)
  /-- R414 `ABORT_PROPAGATE`. The dispatching hub receives an abort report and aborts the task on every other named partition. -/
  | abortPropagate (h : Fin 4)
  /-- R290 `CHANNEL_FLUSH_TIMEOUT`. A remote write of an aborting channel goes uncompleted for 50 us, and it is abandoned and logged with 0x9B01. -/
  | channelFlushTimeout (c : ChanId)
  /-- R262 `ABORT_DUMP`. After its engines stop and its channels flush, an aborted partition writes its semaphore dump and its abort log entry and becomes idle. -/
  | abortDump (p : Fin 12)
  /-- R276 `BALE_FETCH`. A channel fetches the next available bale and checks its OP and Zero fields. -/
  | baleFetch (c : ChanId) (parity : Bool)
  /-- R286 `BALE_RELAY_POP`. A bale's relay pop takes a handle once its queue is non-empty. -/
  | baleRelayPop (c : ChanId)
  /-- R276 `BALE_START`. After its waits, a bale's references are checked, its timer is armed and its data movement begins, merged with following bales where permitted. -/
  | baleStart (c : ChanId) (parity : Bool) (more : Nat)
  /-- R276 `BALE_COMPLETE`. When all its writes and reads are done, a bale releases its signals, push and disarm in ring order and advances HEAD. -/
  | baleComplete (c : ChanId)
  /-- R286 `BALE_RELAY_PUSH`. A bale push held on a full relay queue goes ahead once an entry is free, releasing the held bales. -/
  | baleRelayPush (c : ChanId)
  /-- R288 `DEADLINE_MISS`. An armed deadline timer reaches its limit: it disarms, counts, logs 0xAB01 and sends an event. -/
  | deadlineMiss (p : Fin 12) (n : Fin 16)
  /-- R157 `SCRATCHPAD_DMA_ACCESS`. The head request of the owning toll class takes its scratchpad bank through the DMA port and counts arrival rows, with guard checks. -/
  | scratchpadDmaAccess (p : Fin 12) (l : Fin 32) (cls : TollClass) (flips : List (Nat × Ecc)) (parity : Bool)
  /-- R168 `ECC_WRITE_BACK`. A corrected scratchpad word is written back in the first free non-guaranteed cycle. -/
  | eccWriteBack (p : Fin 12) (l : Fin 32)
  /-- R310 `STACK_PORT_ACCESS`. A stack port accepts an access in toll order and performs it with encryption and the check code. -/
  | stackPortAccess (d : Fin 24) (cls : TollClass) (sel : Nat) (bad : Nat) (ca : Nat := 0)
  /-- R279 `READ_DATA_RETURN`. Read data returns to a channel and frees its read tag. -/
  | readDataReturn (c : ChanId)
  /-- R284 `DEPOT_LINE_FILL`. A depot line fill returns from HBM and serves the reads that waited for it. -/
  | depotLineFill (d : Fin 24)
  /-- R320 `PATROL_SCRUB`. At its scheduled time the port reads a 64 B unit and corrects or logs what it finds. -/
  | patrolScrub (d : Fin 24) (unit : BitVec 30) (bad : Nat) (ca : Nat := 0)
  /-- R321 `TEMPERATURE_READ`. Every 1 ms the port reads the stack temperature and enters or leaves throttle or hold. -/
  | temperatureRead (d : Fin 24) (t : Byte)
  /-- R321 `REFRESH`. The port issues per-bank refresh at the interval the stack temperature requires. -/
  | refresh (d : Fin 24) (rfm : Bool := false)
  /-- R315 `REGION_KEY_SWAP`. Once accepted accesses to a region are done, the port installs the new keys and accepts new accesses. -/
  | regionKeySwap (r : Fin 1536)
  /-- R316 `ZERO_FILL_DONE`. A region's zero-fill completes, and accesses to the region are served again. -/
  | zeroFillDone (r : Fin 1536)
  /-- R329 `STREAM_HEADER`. The loader checks a stream header and then isolates the target partitions, or rejects the stream. -/
  | streamHeader (h : Fin 4)
  /-- R354 `BORDER_DRAIN_TIMEOUT`. Requests still outstanding 50 us after isolation are abandoned and logged with 0x9B01. -/
  | borderDrainTimeout (h : Fin 4)
  /-- R332 `SEGMENT`. A whole segment record is checked for INDEX and tag, decrypted, and its commands are executed. -/
  | segment (h : Fin 4)
  /-- R349 `PERSONALITY_RELEASE`. Once the fabric PLLs lock, the loader applies register writes, claims and measurements, sets flip-flop initial values, ends isolation and logs 0x7E20. -/
  | personalityRelease (h : Fin 4)
  /-- R364 `FABRIC_PLL_LOCK_TIMEOUT`. A fabric PLL does not lock within 20 us at release, and the stream is rejected with 0x7E15. -/
  | fabricPllLockTimeout (h : Fin 4)
  /-- R352 `STREAM_TIMEOUT`. 100 ms pass between records of a stream, and the load ends with 0x7E0E. -/
  | streamTimeout (h : Fin 4)
  /-- R376 `LINK_TRAIN_START`. At its stagger slot a hub enables one lane group of a claimed link and begins training. -/
  | linkTrainStart (h : Fin 4)
  /-- R375 `LINK_TRAIN_DONE`. FEC locks and flits align on all lanes, and the link enters AUTH and sends HELLO. -/
  | linkTrainDone (n : Fin 16) (rev : Bool)
  /-- R375 `LINK_TRAIN_TIMEOUT`. Training does not succeed within 100 ms, and the link goes DOWN. -/
  | linkTrainTimeout (n : Fin 16)
  /-- R375 `LINK_AUTH_TIMEOUT`. Authentication does not finish within 100 ms of HELLO, and the link goes DOWN. -/
  | linkAuthTimeout (n : Fin 16)
  /-- R375 `LINK_RETRAIN`. 1 s after entering DOWN, the link returns to TRAIN. -/
  | linkRetrain (n : Fin 16)
  /-- R381 `FLIT_TRANSMIT`. In each flit slot the transmitter sends a sync, control, data or idle flit with acknowledgement and credits. -/
  | flitTransmit (n : Fin 16)
  /-- R383 `FLIT_RECEIVE`. A received flit is checked and then accepted or discarded with a NAK, and its acknowledgement, NAK and credits are acted on. -/
  | flitReceive (n : Fin 16) (fecOk : Bool) (flit : List Byte)
  /-- R383 `ACK_INTERVAL`. The receiver acknowledges when 100 ns pass without an acknowledgement. -/
  | ackInterval (n : Fin 16)
  /-- R399 `HEARTBEAT_SEND`. Every 10 us the link sends a HEARTBEAT on the sync VC. -/
  | heartbeatSend (n : Fin 16)
  /-- R258 `HUB_ALIAS_FORWARD`. A hub forwards an alias write from a link or control port into the mesh once earlier ordered writes from that source have completed. -/
  | hubAliasForward (h : Fin 4)
  /-- R399 `FLIT_SILENCE`. No flit arrives for 1 ms, and the link goes DOWN. -/
  | flitSilence (n : Fin 16)
  /-- R398 `CREDIT_STARVATION`. No credit arrives for 10 ms while traffic waits, and the link goes DOWN with 0x6C07. -/
  | creditStarvation (n : Fin 16)
  /-- R386 `REMOTE_REQUEST_TIMEOUT`. A remote request has no response within LINK_TMO, and it completes with 0x9C01. -/
  | remoteRequestTimeout (n : Fin 16) (tag : Option (BitVec 16))
  /-- R418 `EVENT_QUEUE_ROOM`. When room returns in the hub event queue, pending coalesced events are sent and held end records proceed. -/
  | eventQueueRoom (h : Fin 4) (room : Nat)
  /-- R430 `TENANT_SET`. TENANT_SET isolates and wipes the named partitions, returns a departing lessee's resources and assigns the new tenant. -/
  | tenantSet (h : Fin 4) (v : W32)
  /-- R431 `REGION_SET`. REGION_SET assigns regions to a tenant with their HOST bit, rotating keys and optionally zero-filling. -/
  | regionSet (h : Fin 4) (v : W32)
  /-- R424 `ATTEST`. ATTEST writes a signed 2 KiB report of measurements and tenancy bound to a nonce. -/
  | attest (h : Fin 4) (v : W32)
  /-- R436 `LC_ADVANCE`. LC_ADVANCE checks authorisation, burns life-cycle fuses, wipes the block and rederives keys. -/
  | lcAdvance (h : Fin 4) (v : W32)
  /-- R448 `FENCE`. A fence request removes a core from the broadcast mask, gates it and recomputes ranks, the live-core count and the array width. -/
  | fence (src : Source) (p : Fin 12) (l : Fin 32) (v : W32)
  /-- R450 `UNFENCE`. An unfence request wipes the core and returns it to the broadcast mask with ranks recomputed. -/
  | unfence (src : Source) (p : Fin 12) (l : Fin 32) (v : W32)
  /-- R450 `BYPASS_OCTET`. A bypass request sets a core's bypassed column octet, and the array width is recomputed. -/
  | bypassOctet (src : Source) (p : Fin 12) (l : Fin 32) (v : W32)
  /-- R451 `PARTITION_RESET`. A write of FENCE_PRST.GO aborts any task, isolates and resets the partition and leaves it GATED. -/
  | partitionReset (src : Source) (p : Fin 12) (v : W32)
  /-- R453 `CAPTURE`. A write of LOG_CAP_CTL.GO checks the capture region and begins quiescing the named partitions. -/
  | capture (h : Fin 4) (v : W32)
  /-- R454 `CAPTURE_QUIESCED`. When the named partitions have nothing in flight, the capture isolates them, writes their images and resumes them. -/
  | captureQuiesced
  /-- R454 `CAPTURE_QUIESCE_TIMEOUT`. Quiesce does not finish within 12 us, the capture fails with 0x9002 and the partitions resume. -/
  | captureQuiesceTimeout
  /-- R454 `CAPTURE_WRITE_DONE`. The image writes finish, isolation ends, issue resumes and the completion event is sent. -/
  | captureWriteDone (status : Code)
  /-- R476 `RAMP_START`. A partition's ramp up or down starts once fewer than TIME_RAMP.MAX ramps run. -/
  | rampStart (p : Fin 12)
  /-- R475 `RAMP_STEP`. Each 1 us ramp step enables or disables one core per die, and the last step makes the partition RUNNING or GATED. -/
  | rampStep (p : Fin 12)
  /-- R479 `TAP_RESET`. A low trst_n or Test-Logic-Reset selects IDCODE in every TAP controller. -/
  | tapReset
  /-- R481 `BYPASS`. The BYPASS instruction selects the 1-bit bypass register. -/
  | bypass (d : Fin 28)
  /-- R480 `IDCODE`. The IDCODE instruction selects the die's 32-bit identification register. -/
  | idcode (d : Fin 28)
  /-- R481 `SAMPLE_PRELOAD`. SAMPLE/PRELOAD selects the boundary register for sampling and preloading. -/
  | samplePreload (d : Fin 28)
  /-- R482 `EXTEST`. EXTEST drives the pins from the boundary register while blk_rst_n is low. -/
  | extest (d : Fin 28)
  /-- R482 `CLAMP`. CLAMP holds the pins from the boundary register while blk_rst_n is low. -/
  | clamp (d : Fin 28)
  /-- R482 `HIGHZ`. HIGHZ places the pins at high impedance while blk_rst_n is low. -/
  | highz (d : Fin 28)
  /-- R483 `WSP_SELECT`. WSP_SELECT gives access to an IEEE 1500 wrapper through a 40-bit register. -/
  | wspSelect (d : Fin 28)
  /-- R483 `WS_BYPASS`. The wrapper instruction WS_BYPASS selects the wrapper bypass. -/
  | wsBypass (d : Fin 28) (t : BitVec 5) (data : W32)
  /-- R484 `WS_EXTEST`. The wrapper instruction WS_EXTEST is accepted only for a fenced core or a gated die. -/
  | wsExtest (d : Fin 28) (t : BitVec 5) (data : W32)
  /-- R484 `WS_INTEST`. The wrapper instruction WS_INTEST is accepted only for a fenced core or a gated die. -/
  | wsIntest (d : Fin 28) (t : BitVec 5) (data : W32)
  /-- R484 `MBIST`. The wrapper instruction MBIST starts memory built-in self-test when accepted. -/
  | mbist (d : Fin 28) (t : BitVec 5) (data : W32)
  /-- R483 `MBIST_STATUS`. The wrapper instruction MBIST_STATUS returns the self-test status. -/
  | mbistStatus (d : Fin 28) (t : BitVec 5) (data : W32)
  /-- R481 `STACK1500`. STACK1500 connects the TAP to the stack's IEEE 1500 port when the gate is open. -/
  | stack1500 (d : Fin 28)
  /-- R485 `PROBESEL`. PROBESEL loads the hub's probe selection for its 16 probe pins. -/
  | probesel (d : Fin 28) (sel : BitVec 256)
  /-- R481 `SECSCAN`. SECSCAN selects internal scan of the security engine and key stores when the gate is open. -/
  | secscan (d : Fin 28)
  /-- R470 `BLK_RST_N_LOW`. blk_rst_n held low for 1 us or more puts the block into cold reset, abandoning all work and ending any warm reset in progress. -/
  | blkRstNLow
  /-- R148 `COP_REQUEST_ACCEPTED`. The fabric accepts the last beat of a custom-operation request, freeing outbound queue space and starting the 65,536-cycle response timeout. -/
  | copRequestAccepted (p : Fin 12) (l : Fin 32) (n : Nat := 9)
  /-- R483 `MBIST_COMPLETE`. A running memory built-in self-test finishes and its wrapper status changes from MBIST running to pass or fail. -/
  | mbistComplete (d : Fin 28) (t : BitVec 5) (pass : Bool)
deriving DecidableEq, Repr

end Sys2Proof
end

