-- ==== Sys2Proof/Decode.lean ====
section
/-! DEFINITION. The decoder of command words. The opcode table gives no row any bits: a command of
this block is a message, a register access or an event, and no word spells it. -/

namespace Sys2Proof

/-- The command that a word of `nbits` bits spells. No row of the table gives bits, so no word spells
a command. -/
def decodeTableWord (_nbits _w : Nat) : Option Instr := none

end Sys2Proof
end

