-- ==== Sys2Proof/Machine/Float.lean ====
section
/-! DEFINITION. The number formats of R34 and exact arithmetic on them: a value is decoded into a
sign, a magnitude and a power of two, computed on exactly, and rounded once, to nearest with ties to
even (R52, R136). -/

namespace Sys2Proof.Machine

/-- A decoded number: NaN, an infinity, or ±m·2^e. -/
inductive Num where
  | nan
  | inf (neg : Bool)
  | fin (neg : Bool) (m : Nat) (e : Int)
deriving DecidableEq, Repr

/-- A float format of R34: bits, fraction bits, bias, whether it has infinities. E4M3 has none. -/
structure FFmt where
  bits : Nat
  frac : Nat
  bias : Nat
  hasInf : Bool
deriving DecidableEq, Repr

/-- BF16. -/
def ffBF16 : FFmt := { bits := 16, frac := 7, bias := 127, hasInf := true }
/-- FP16. -/
def ffFP16 : FFmt := { bits := 16, frac := 10, bias := 15, hasInf := true }
/-- FP8 E4M3. -/
def ffE4M3 : FFmt := { bits := 8, frac := 3, bias := 7, hasInf := false }
/-- FP8 E5M2. -/
def ffE5M2 : FFmt := { bits := 8, frac := 2, bias := 15, hasInf := true }
/-- FP32. -/
def ffFP32 : FFmt := { bits := 32, frac := 23, bias := 127, hasInf := true }

/-- The float format of a code of R34. -/
def floatFmt (c : BitVec 4) : Option FFmt :=
  if c = 0 then some ffBF16 else if c = 1 then some ffFP16 else if c = 2 then some ffE4M3
  else if c = 3 then some ffE5M2 else if c = 8 then some ffFP32 else none

/-- Bits that an element of a format takes where it is stored (R34, R36): GRID3 is held in 4. -/
def fmtBits (c : BitVec 4) : Nat :=
  if c = 0 ∨ c = 1 then 16 else if c = 2 ∨ c = 3 ∨ c = 4 then 8 else if c = 5 ∨ c = 6 then 4
  else if c = 7 then 2 else if c = 8 ∨ c = 9 then 32 else 0

/-- A reserved format code (R34). -/
def fmtReserved (c : BitVec 4) : Bool := decide (10 ≤ c.toNat)

/-- A grid code format. -/
def fmtGrid (c : BitVec 4) : Bool := decide (c = 5 ∨ c = 6 ∨ c = 7)

/-- The image of the sign and the magnitude. -/
def FFmt.signed (f : FFmt) (neg : Bool) (mag : Nat) : Nat := (if neg then 2 ^ (f.bits - 1) else 0) + mag

/-- Magnitude image of infinity (for E4M3, of NaN). -/
def FFmt.infMag (f : FFmt) : Nat :=
  if f.hasInf then 2 ^ (f.bits - 1) - 2 ^ f.frac else 2 ^ (f.bits - 1) - 1

/-- Magnitude image of the largest finite value. -/
def FFmt.maxMag (f : FFmt) : Nat := f.infMag - 1

/-- The canonical NaN of R34. -/
def FFmt.nan (f : FFmt) : Nat := if f.hasInf then f.infMag + 2 ^ (f.frac - 1) else f.infMag

/-- The exponent of the least subnormal. -/
def FFmt.emin (f : FFmt) : Int := 1 - (f.bias : Int) - (f.frac : Int)

/-- Decode an image (R34). -/
def FFmt.decode (f : FFmt) (x : Nat) : Num :=
  let neg := decide (2 ^ (f.bits - 1) ≤ x % 2 ^ f.bits)
  let mag := x % 2 ^ (f.bits - 1)
  if f.infMag ≤ mag then (if f.hasInf && decide (mag = f.infMag) then .inf neg else .nan)
  else
    let be := mag / 2 ^ f.frac
    let fr := mag % 2 ^ f.frac
    if be = 0 then .fin neg fr f.emin
    else .fin neg (fr + 2 ^ f.frac) (f.emin + ((be - 1 : Nat) : Int))

/-- m / 2^k rounded to nearest, ties to even. -/
def rneShift (m k : Nat) : Nat :=
  let q := m / 2 ^ k
  let r := 2 * (m % 2 ^ k)
  if r > 2 ^ k ∨ (r = 2 ^ k ∧ q % 2 = 1) then q + 1 else q

/-- Magnitude image of m·2^e rounded to nearest even with an unbounded exponent (R52): at or above
`infMag` it lies beyond the largest finite value. -/
def FFmt.roundMag (f : FFmt) (m : Nat) (e : Int) : Nat :=
  if m = 0 then 0
  else
    let top : Int := (Nat.log2 m : Int) + e
    let q : Int := max f.emin (top - (f.frac : Int))
    let mant := if q ≤ e then m * 2 ^ (e - q).toNat else rneShift m (q - e).toNat
    (q - f.emin).toNat * 2 ^ f.frac + mant

/-- Round to an image, an overflow giving infinity of the sign (R49, R136), or, in a format without
infinities, the largest finite value. -/
def FFmt.encode (f : FFmt) : Num → Nat
  | .nan => f.nan
  | .inf neg => f.signed neg (if f.hasInf then f.infMag else f.maxMag)
  | .fin neg m e =>
    let g := f.roundMag m e
    if f.infMag ≤ g then f.signed neg (if f.hasInf then f.infMag else f.maxMag) else f.signed neg g

/-- The exact sum (R136): opposite infinities give NaN, an exact zero is +0 unless both are negative. -/
def Num.add : Num → Num → Num
  | .nan, _ => .nan
  | _, .nan => .nan
  | .inf a, .inf b => if a = b then .inf a else .nan
  | .inf a, .fin .. => .inf a
  | .fin .., .inf b => .inf b
  | .fin an am ae, .fin bn bm be =>
    let e := min ae be
    let x : Int := (am * 2 ^ (ae - e).toNat : Nat)
    let y : Int := (bm * 2 ^ (be - e).toNat : Nat)
    let z := (if an then -x else x) + (if bn then -y else y)
    if z = 0 then .fin (an && bn) 0 0 else .fin (decide (z < 0)) z.natAbs e

/-- The negation. -/
def Num.neg : Num → Num
  | .nan => .nan
  | .inf n => .inf (!n)
  | .fin n m e => .fin (!n) m e

/-- The magnitude. -/
def Num.abs : Num → Num
  | .nan => .nan
  | .inf _ => .inf false
  | .fin _ m e => .fin false m e

/-- The exact product: zero times infinity is NaN. -/
def Num.mul : Num → Num → Num
  | .nan, _ => .nan
  | _, .nan => .nan
  | .inf a, .inf b => .inf (a != b)
  | .inf a, .fin b m _ => if m = 0 then .nan else .inf (a != b)
  | .fin a m _, .inf b => if m = 0 then .nan else .inf (a != b)
  | .fin a m e, .fin b n k => .fin (a != b) (m * n) (e + k)

/-- The quotient, with enough bits that one rounding of the answer is the rounding of the exact
quotient, and a comparison with a short number the comparison of the exact one: the last bit is sticky. -/
def Num.div : Num → Num → Num
  | .nan, _ => .nan
  | _, .nan => .nan
  | .inf _, .inf _ => .nan
  | .inf a, .fin b _ _ => .inf (a != b)
  | .fin a _ _, .inf b => .fin (a != b) 0 0
  | .fin a m e, .fin b n k =>
    if n = 0 then (if m = 0 then .nan else .inf (a != b))
    else
      let sh := 128 + Nat.log2 n
      let num := m * 2 ^ sh
      let q := num / n
      .fin (a != b) (if num % n = 0 then 2 * q else 2 * q + 1) (e - k - (sh : Int) - 1)

/-- Integer square root by bits, from the top. -/
def sqrtBits : Nat → Nat → Nat → Nat
  | 0, _, r => r
  | i + 1, n, r =>
    let r' := r + 2 ^ i
    if r' * r' ≤ n then sqrtBits i n r' else sqrtBits i n r

/-- The square root, with a sticky last bit; of a negative number NaN; √−0 = −0. -/
def Num.sqrt : Num → Num
  | .nan => .nan
  | .inf neg => if neg then .nan else .inf false
  | .fin neg m e =>
    if m = 0 then .fin neg 0 0
    else if neg then .nan
    else
      let sh := 128 + (e % 2).toNat
      let n := m * 2 ^ sh
      let r := sqrtBits (Nat.log2 n / 2 + 1) n 0
      .fin false (if r * r = n then 2 * r else 2 * r + 1) ((e - (sh : Int)) / 2 - 1)

/-- An integer as a number. -/
def Num.ofInt (i : Int) : Num := .fin (decide (i < 0)) i.natAbs 0

/-- Less than, of numbers that are not NaN; −0 and +0 are equal. -/
def Num.lt (a b : Num) : Bool :=
  match a, b with
  | .nan, _ => false
  | _, .nan => false
  | .inf x, .inf y => x && !y
  | .inf x, .fin .. => x
  | .fin .., .inf y => !y
  | .fin an am ae, .fin bn bm be =>
    let e := min ae be
    let x : Int := (am * 2 ^ (ae - e).toNat : Nat)
    let y : Int := (bm * 2 ^ (be - e).toNat : Nat)
    decide ((if an then -x else x) < (if bn then -y else y))

/-- Equal in value. -/
def Num.eq (a b : Num) : Bool :=
  match a, b with
  | .nan, _ => false
  | _, .nan => false
  | _, _ => !Num.lt a b && !Num.lt b a

/-- NaN. -/
def Num.isNan : Num → Bool
  | .nan => true
  | _ => false

/-- Infinite. -/
def Num.isInf : Num → Bool
  | .inf _ => true
  | _ => false

/-- Neither infinite nor NaN. -/
def Num.isFin : Num → Bool
  | .fin .. => true
  | _ => false

/-- The sign bit. -/
def Num.isNeg : Num → Bool
  | .nan => false
  | .inf n => n
  | .fin n _ _ => n

/-- Zero of either sign. -/
def Num.isZero : Num → Bool
  | .fin _ m _ => decide (m = 0)
  | _ => false

/-- IEEE 754-2019 minimum (R135): a NaN gives NaN, and −0 < +0. -/
def Num.min (a b : Num) : Num :=
  if a.isNan || b.isNan then .nan
  else if Num.lt a b then a
  else if Num.lt b a then b
  else if a.isNeg then a else b

/-- IEEE 754-2019 maximum. -/
def Num.max (a b : Num) : Num :=
  if a.isNan || b.isNan then .nan
  else if Num.lt a b then b
  else if Num.lt b a then a
  else if a.isNeg then b else a

/-- Rounded to an integer, to nearest with ties to even (R52). -/
def Num.toInt (neg : Bool) (m : Nat) (e : Int) : Int :=
  let g : Int := if 0 ≤ e then ((m * 2 ^ e.toNat : Nat) : Int) else ((rneShift m (-e).toNat : Nat) : Int)
  if neg then -g else g

/-- FP32 image of a number. -/
def f32 (v : Num) : W32 := BitVec.ofNat 32 (ffFP32.encode v)

/-- The number of an FP32 image. -/
def num32 (x : W32) : Num := ffFP32.decode x.toNat

/-- What a conversion did beside its result: how much it adds to GRID_CONV_CNT, and which flag it
sets (R53, R54). -/
structure ConvFx where
  cnt : Nat
  sat : Bool
  nan : Bool
deriving DecidableEq, Repr

/-- A conversion that counts nothing. -/
def ConvFx.none : ConvFx := { cnt := 0, sat := false, nan := false }
/-- A saturation or an overflow to infinity. -/
def ConvFx.sat1 : ConvFx := { cnt := 1, sat := true, nan := false }
/-- A NaN converted to an integer. -/
def ConvFx.nan1 : ConvFx := { cnt := 1, sat := false, nan := true }

/-- Both. -/
def ConvFx.and (a b : ConvFx) : ConvFx :=
  { cnt := a.cnt + b.cnt, sat := a.sat || b.sat, nan := a.nan || b.nan }

/-- Clamp to an n-bit two's complement range, as its image. -/
def clampInt (n : Nat) (i : Int) : Nat × ConvFx :=
  let hi : Int := 2 ^ (n - 1) - 1
  let lo : Int := -2 ^ (n - 1)
  if hi < i then (hi.toNat, .sat1)
  else if i < lo then (2 ^ (n - 1), .sat1)
  else ((BitVec.ofInt n i).toNat, .none)

/-- Convert a number to a format of R34 (R52 to R55). -/
def convNum (ieee : Bool) (dst : BitVec 4) (v : Num) : Nat × ConvFx :=
  match floatFmt dst with
  | some f =>
    match v with
    | .nan => (f.nan, .none)
    | .inf neg => if f.hasInf then (f.signed neg f.infMag, .none) else (f.signed neg f.maxMag, .sat1)
    | .fin neg m e =>
      let g := f.roundMag m e
      if f.infMag ≤ g then
        if dst = 8 then (f.signed neg f.infMag, .none)
        else (f.signed neg (if ieee && f.hasInf then f.infMag else f.maxMag), .sat1)
      else (f.signed neg g, .none)
  | none =>
    let n := fmtBits dst
    match v with
    | .nan => (0, .nan1)
    | .inf neg => (if neg then 2 ^ (n - 1) else 2 ^ (n - 1) - 1, .sat1)
    | .fin neg m e => clampInt n (Num.toInt neg m e)

/-- The number an element image of a float or integer format stands for. -/
def fmtNum (src : BitVec 4) (x : Nat) : Num :=
  match floatFmt src with
  | some f => f.decode x
  | none => Num.ofInt (if src = 4 then (BitVec.ofNat 8 x).toInt else (BitVec.ofNat 32 x).toInt)

/-- A conversion between two formats of R55. -/
def convert (ieee : Bool) (src dst : BitVec 4) (x : Nat) : Nat × ConvFx := convNum ieee dst (fmtNum src x)

/-- FP32 rounded toward +∞ of a positive quotient p/q (R106): the image, clamped as R106 says. -/
def ceilDiv32 (p : Num) (q : Nat) : Num :=
  if q = 0 then .fin false 0 0
  else
  match p with
  | .fin _ m e =>
    if m = 0 then .fin false 0 0
    else
      let sh := 64 + Nat.log2 q
      let num := m * 2 ^ sh
      let d := num / q
      let dm := if num % q = 0 then 2 * d else 2 * d + 1
      let de := e - (sh : Int) - 1
      let top : Int := (Nat.log2 dm : Int) + de
      let k : Int := max ffFP32.emin (top - 23)
      if k ≤ de then .fin false dm de
      else
        let s := (k - de).toNat
        .fin false (if dm % 2 ^ s = 0 then dm / 2 ^ s else dm / 2 ^ s + 1) k
  | x => x

end Sys2Proof.Machine
end

