-- ==== Sys2Proof/Config.lean ====
section
/-! DEFINITION. What the manual leaves open: every value here is an opaque constant, so that no
proof can see what it is. The assumption log names each. -/

namespace Sys2Proof

/-- What an input of a routing multiplexer may be wired to (R361): nothing, the output of a logic cell, the output of a
multiplexer of a column, a pin, a signal of a custom-operation port. -/
inductive Wire where
  | absent
  | cell (k : Nat)
  | mux (col m : Nat)
  | pin (n : Nat)
  | port (l b : Nat)
deriving DecidableEq, Repr, Inhabited

/-- What takes a link DOWN (R399). -/
inductive DownCause where
  | training
  | auth
  | retry
  | silence
  | credits
deriving DecidableEq, Repr

/-- The number that stands for a cause in a log entry (R399; log entry 6). -/
opaque Config.downCause : DownCause → W64

/-- The input list of a routing multiplexer (R361; log entry 108): hub or compute die, BUILD, column, multiplexer, the byte
that selects. -/
opaque Config.muxInput : Bool → BitVec 16 → Nat → Nat → Byte → Wire

/-- The multiplexer of its own column that drives an input of a logic cell (R359; log entry 108): hub or compute die, BUILD,
cell, and 0 to 5 for the table's inputs or 6 for the clock enable. -/
opaque Config.cellInput : Bool → BitVec 16 → Nat → Nat → Nat

/-- The column and multiplexer that drive a bit of a pin's cell (R365; log entry 108): BUILD, pin, bit. -/
opaque Config.padInput : BitVec 16 → Nat → Nat → Nat × Nat

/-- The number of the free bit that a ring of routing takes (log entry 108). -/
opaque Config.loopBit : Wire → Nat

/-- Packets of a credit class that a link's egress queue holds beside the one it always takes (R382; log entry 110). -/
opaque Config.egressRoom : Nat

/-- The free values (log entry 6): draw `n` of the run, lane `i` of it. -/
opaque Config.freeBits : Nat → Nat → W32

/-- What a byte of HBM reads as when nothing has been written to it since its region took key pair
`key` (R313, R316; log entry 7): by key and linear address. -/
opaque Config.erasedByte : Nat → Nat → Byte

/-- The random generator of the security engine (R422; log entry 8): draw `n`, 256 bits. -/
opaque Config.draw : Nat → BitVec 256

/-- SHA-384 (R331, R349, R390; log entry 8). -/
opaque Config.sha384 : List Byte → BitVec 384

/-- HMAC-SHA-256 (R331; log entry 8): the key and the message; byte 0 of the digest lowest. -/
opaque Config.hmac : List Byte → List Byte → BitVec 256

/-- The public key of a private key on P-384 (R423; log entry 8). -/
opaque Config.publicKey : Nat → BitVec 768

/-- An ECDSA P-384 signature over bytes by a private key (R425; log entry 8): 96 bytes. -/
opaque Config.sign : Nat → List Byte → BitVec 768

/-- Whether an ECDSA P-384 signature over bytes verifies under a public key (R329, R390, R434). -/
opaque Config.verify : BitVec 768 → List Byte → BitVec 768 → Bool

/-- The shared secret of an ECDH exchange (R332, R391): private key, peer public key. -/
opaque Config.shared : Nat → BitVec 768 → BitVec 384

/-- Byte i of the key stream of AES-256-GCM (R332, R391; log entry 8): key and nonce. -/
opaque Config.keyStream : BitVec 256 → List Byte → Nat → Byte

/-- The tag of AES-256-GCM: key, nonce, additional data, ciphertext; 16 bytes. -/
opaque Config.tag : BitVec 256 → List Byte → List Byte → List Byte → BitVec 128

/-- The public key of the domain authority, whose digest and key R390 and R434 name without saying
how the key itself enters the block (log entry 5): by its digest. -/
opaque Config.authorityKey : BitVec 384 → BitVec 768

/-- The block cipher AES-128 of the stack ports (R311; log entry 7): key and block; byte 0 lowest. -/
opaque Config.aes128 : BitVec 128 → BitVec 128 → BitVec 128

/-- The key pair of a region (R311, R313; log entry 7): the number of the rotation that installed it, and the region. -/
opaque Config.regionKeys : Nat → Nat → BitVec 128 × BitVec 128

/-- The check symbols of a 64-byte unit of ciphertext (R312, R317; log entry 7). -/
opaque Config.checkSymbols : BitVec 512 → BitVec 64

end Sys2Proof
end

