-- ==== Sys2Proof/Machine/Sparse.lean ====
section
/-! DEFINITION. Sparse tables: a large array of the block (a semaphore memory, the descriptor
store, a scratchpad) as the list of its entries that differ from a stated default, keys strictly
rising. Equal tables are then equal lists. -/

namespace Sys2Proof.Machine

/-- Entries that differ from the default, by rising key. -/
abbrev Sparse (α : Type) := List (Nat × α)

/-- The entry of a key; an unlisted key reads as the default `d`. -/
def Sparse.get {α : Type} (d : α) : Sparse α → Nat → α
  | [], _ => d
  | (k', v) :: t, k => if k' = k then v else Sparse.get d t k

/-- Put an entry at its place in the rising order, replacing one of the same key. -/
def Sparse.insert {α : Type} (k : Nat) (v : α) : Sparse α → Sparse α
  | [] => [(k, v)]
  | (k', v') :: t =>
    if k' = k then (k, v) :: t
    else if k < k' then (k, v) :: (k', v') :: t
    else (k', v') :: Sparse.insert k v t

/-- Drop an entry. -/
def Sparse.drop {α : Type} (k : Nat) : Sparse α → Sparse α
  | [] => []
  | (k', v) :: t => if k' = k then Sparse.drop k t else (k', v) :: Sparse.drop k t

/-- Write an entry; writing the default removes it. -/
def Sparse.put {α : Type} [DecidableEq α] (d : α) (k : Nat) (v : α) (m : Sparse α) : Sparse α :=
  if v = d then Sparse.drop k m else Sparse.insert k v m

/-- Every key of the table lies above `b`, keys rise strictly, and no entry equals the default. -/
def Sparse.wfAbove {α : Type} [DecidableEq α] (d : α) : Nat → Sparse α → Bool
  | _, [] => true
  | b, (k, v) :: t => decide (b ≤ k) && decide (v ≠ d) && Sparse.wfAbove d (k + 1) t

/-- The canonical form of a table. -/
def Sparse.wf {α : Type} [DecidableEq α] (d : α) (m : Sparse α) : Bool := Sparse.wfAbove d 0 m

/-- Every key below `n`. -/
def Sparse.below {α : Type} (n : Nat) (m : Sparse α) : Bool := m.all fun e => decide (e.1 < n)

end Sys2Proof.Machine
end

