-- ==== Sys2Proof/Machine/Bits.lean ====
section
/-! DEFINITION. Bits and bytes: fields of words, little-endian byte strings (R10), packets of narrow
elements (R36), and the CRCs that chapters 11 and 14 name. -/

namespace Sys2Proof.Machine

/-- Field [lo + w − 1 : lo] of a number. -/
def fieldN (x lo w : Nat) : Nat := x / 2 ^ lo % 2 ^ w

/-- Field [lo + w − 1 : lo] of a bit string, as a number. -/
def fld {n : Nat} (x : BitVec n) (lo w : Nat) : Nat := fieldN x.toNat lo w

/-- Bit i of a bit string. -/
def bit {n : Nat} (x : BitVec n) (i : Nat) : Bool := x.getLsbD i

/-- A number's n low-order bytes, lowest first (R10). -/
def bytesOf : Nat → Nat → List Byte
  | 0, _ => []
  | n + 1, x => BitVec.ofNat 8 x :: bytesOf n (x / 256)

/-- The number a byte string spells, lowest byte first (R10). -/
def ofBytes : List Byte → Nat
  | [] => 0
  | b :: t => b.toNat + 256 * ofBytes t

/-- The 4-byte words of a byte string. -/
def wordsOf (l : List Byte) : List W32 :=
  (List.range (l.length / 4)).map fun i => BitVec.ofNat 32 (ofBytes ((l.drop (4 * i)).take 4))

/-- The bytes of words. -/
def bytesOfWords (l : List W32) : List Byte := l.flatMap fun w => bytesOf 4 w.toNat

/-- The element at i, or a default. -/
def nth {α : Type} (d : α) (l : List α) (i : Nat) : α := (l[i]?).getD d

/-- The element of a vector at a number taken modulo its length, or a default when it is empty. -/
def vget {α : Type} {n : Nat} (d : α) (v : Vector α n) (i : Nat) : α := (v[i]?).getD d

/-- Replace the element of a vector; an index beyond it changes nothing. -/
def vset {α : Type} {n : Nat} (v : Vector α n) (i : Nat) (x : α) : Vector α n := v.setIfInBounds i x

/-- Sign of an n-bit number. -/
def sext (n x : Nat) : Int := (BitVec.ofNat n x).toInt

/-- The lower of two's complement sums: x + y modulo 2^32. -/
def add32 (x : W32) (y : Int) : W32 := x + BitVec.ofInt 32 y

/-- A counter that holds at its maximum rather than wrap. -/
def satAdd {n : Nat} (x : BitVec n) (k : Nat) : BitVec n := BitVec.ofNat n (min (x.toNat + k) (2 ^ n - 1))

/-- Element e of n bits in a byte string (R36, little-endian). -/
def elemAt (l : List Byte) (n e : Nat) : Nat :=
  if n = 0 then 0
  else if 8 ≤ n then ofBytes ((l.drop (n / 8 * e)).take (n / 8))
  else fieldN (nth 0 l (n * e / 8)).toNat (n * e % 8) n

/-- The byte string that packs elements of n bits (R36). -/
def packElems (n : Nat) (l : List Nat) : List Byte :=
  if n = 0 then []
  else if 8 ≤ n then l.flatMap fun x => bytesOf (n / 8) x
  else
    let k := 8 / n
    (List.range ((l.length + k - 1) / k)).map fun i =>
      BitVec.ofNat 8 (((List.range k).map fun j => (nth 0 l (k * i + j) % 2 ^ n) * 2 ^ (n * j)).sum)

/-- One step of a bitwise CRC on the low bit of a byte string, reflected. -/
def crcBit (w poly : Nat) (c : Nat) : Nat := if c % 2 = 1 then Nat.xor (c / 2) poly % 2 ^ w else c / 2

/-- A reflected CRC over bytes: width, reflected polynomial, value so far. -/
def crcRef (w poly : Nat) (c : Nat) (l : List Byte) : Nat :=
  l.foldl (fun c b => crcBit w poly (crcBit w poly (crcBit w poly (crcBit w poly
    (crcBit w poly (crcBit w poly (crcBit w poly (crcBit w poly (Nat.xor c b.toNat))))))))) c

/-- One step of a bitwise CRC from the top bit. -/
def crcTop (w poly : Nat) (c : Nat) : Nat :=
  if 2 ^ (w - 1) ≤ c then Nat.xor (2 * c % 2 ^ w) poly else 2 * c % 2 ^ w

/-- A CRC over bytes, most significant bit first: width, polynomial, value so far. -/
def crcMsb (w poly : Nat) (c : Nat) (l : List Byte) : Nat :=
  l.foldl (fun c b => crcTop w poly (crcTop w poly (crcTop w poly (crcTop w poly
    (crcTop w poly (crcTop w poly (crcTop w poly (crcTop w poly
      (Nat.xor c (b.toNat * 2 ^ (w - 8))))))))))) c

/-- Read n bytes of a memory whose unlisted bytes read as `d` says. -/
def memRead (d : Nat → Byte) (m : Memory) (a n : Nat) : List Byte :=
  (List.range n).map fun i => match m.find? (fun c => c.1 == a + i) with
    | some c => c.2
    | none => d (a + i)

/-- Write bytes into a memory whose unlisted bytes read 0, keeping its canonical form. -/
def memWrite (m : Memory) (a : Nat) : List Byte → Memory
  | [] => m
  | b :: t => memWrite (Sparse.put 0 a b m) (a + 1) t

/-- Write bytes into a memory whose unlisted bytes read as free values: every byte written is listed. -/
def memList (m : Memory) (a : Nat) : List Byte → Memory
  | [] => m
  | b :: t => memList (Sparse.insert a b m) (a + 1) t

/-- The canonical form of the stacks' contents: addresses rise strictly. What an unlisted byte reads as is free (log
entry 7) but in a zero-filled region, so a byte listed cannot be compared with it. -/
def Memory.wf (m : Memory) : Bool := decide ((m.map Prod.fst).Pairwise (· < ·))

end Sys2Proof.Machine
end

