-- ==== Sys2Proof/Machine/Grid.lean ====
section
/-! DEFINITION. Two-term levels and grid-table entries (02_arithmetic.md, R37 to R42). -/

namespace Sys2Proof.Machine

/-- ZL of a GRID_ENT image (R38). -/
def Grid.zl (e : BitVec 32) : Bool := e.getLsbD 15
/-- S1. -/
def Grid.s1 (e : BitVec 32) : Bool := e.getLsbD 14
/-- E1. -/
def Grid.e1 (e : BitVec 32) : Nat := (e.extractLsb' 11 3).toNat
/-- T2. -/
def Grid.t2 (e : BitVec 32) : Bool := e.getLsbD 10
/-- S2. -/
def Grid.s2 (e : BitVec 32) : Bool := e.getLsbD 9
/-- E2. -/
def Grid.e2 (e : BitVec 32) : Nat := (e.extractLsb' 6 3).toNat

/-- A signed power of two. -/
def Grid.term (neg : Bool) (e : Nat) : Int := if neg then -(2 ^ e : Int) else 2 ^ e

/-- The level of an entry (R37, R38). -/
def Grid.level (e : BitVec 32) : Int :=
  if Grid.zl e then 0
  else Grid.term (Grid.s1 e) (Grid.e1 e) + (if Grid.t2 e then Grid.term (Grid.s2 e) (Grid.e2 e) else 0)

/-- A write of this image to a GRID_ENT register is rejected (R39). -/
def Grid.rejects (e : BitVec 32) : Bool :=
  (Grid.zl e && decide (e.extractLsb' 6 9 ≠ 0))
    || (!Grid.t2 e && (Grid.s2 e || decide (Grid.e2 e ≠ 0)))
    || (Grid.t2 e && decide (Grid.e1 e = Grid.e2 e) && decide (Grid.s1 e ≠ Grid.s2 e))
    || decide ((Grid.level e).natAbs > 160)

/-- What the register stores of a written word: Zero fields read 0 (R13, R38). -/
def Grid.stored (v : BitVec 32) : BitVec 32 := v &&& 0xFFC0#32

/-- An entry image from its fields. -/
def Grid.image (s1 : Bool) (e1 : Nat) (two : Option (Bool × Nat)) : Nat :=
  (if s1 then 0x4000 else 0) + e1 * 0x800 +
    match two with
    | none => 0
    | some (s2, e2) => 0x400 + (if s2 then 0x200 else 0) + e2 * 0x40

/-- The pairs of exponents with E1 > E2. -/
def Grid.pairs : List (Nat × Nat) :=
  (List.range 8).flatMap fun a => (List.range a).map fun b => (a, b)

/-- The canonical entry of a level (R42): E1 > E2, the same-sign form first. The model's choice (log entry 107): a level that is a
power of two takes the form of one term, T2 = 0. -/
def Grid.canonical (v : Int) : Nat :=
  if v = 0 then 0x8000
  else
    let m := v.natAbs
    let neg := decide (v < 0)
    match (List.range 8).find? (fun e => 2 ^ e == m) with
    | some e => Grid.image neg e none
    | none =>
      match Grid.pairs.find? (fun p => 2 ^ p.1 + 2 ^ p.2 == m) with
      | some p => Grid.image neg p.1 (some (neg, p.2))
      | none =>
        match Grid.pairs.find? (fun p => 2 ^ p.1 - 2 ^ p.2 == m) with
        | some p => Grid.image neg p.1 (some (!neg, p.2))
        | none => 0x8000

/-- The default levels of tables 0 to 5 (R42). -/
def Grid.defaults : List (List Int) :=
  [ [-80, -56, -40, -28, -20, -12, -6, 0, 6, 12, 20, 28, 40, 56, 80, 112],
    [0, 1, 2, 3, 4, 5, 6, 7, -8, -7, -6, -5, -4, -3, -2, -1],
    [0, 1, 2, 3, 4, 6, 8, 12, 0, -1, -2, -3, -4, -6, -8, -12],
    [-40, -20, -8, 0, 8, 20, 40, 72],
    [-24, -8, 8, 24],
    [0, 1, -2, -1] ]

/-- GRID_ENT(n) at reset before any personality (R42): the default levels in canonical form, and
0x8000 in unused entries and in tables 6 and 7. -/
def Grid.resetEnt (n : Nat) : Nat :=
  match Grid.defaults[n / 16]? with
  | none => 0x8000
  | some t =>
    match t[n % 16]? with
    | none => 0x8000
    | some v => Grid.canonical v

end Sys2Proof.Machine
end

