-- ==== Sys2Proof/Machine/Mesh.lean ====
section
/-! DEFINITION. The die grid (R16, R17), the straps that tell a die its place (R24), the mesh bridges and what each
connects to (R19, R20), the check of R25, and the routes of R21. -/

namespace Sys2Proof.Machine

/-- The edge a mesh bridge of a compute die faces (R19). -/
inductive Side where
  | n
  | e
  | s
  | w
deriving DecidableEq, Repr

/-- What stands at an end of a mesh bridge: a compute die or a hub. -/
inductive MeshNode where
  | die (d : Fin 24)
  | hub (h : Fin 4)
deriving DecidableEq, Repr

/-- Column of a compute die (R16). -/
def dieCol (d : Fin 24) : Nat := d.val / 2 % 6

/-- Row of a compute die (R16): die A in the even row, die B in the odd one. -/
def dieRow (d : Fin 24) : Nat := d.val / 2 / 6 * 2 + d.val % 2

/-- The compute die in a column and a row (R16). -/
def dieAt (col row : Nat) : Fin 24 := ⟨(2 * (6 * (row / 2) + col) + row % 2) % 24, Nat.mod_lt _ (by decide)⟩

/-- The home hub of a partition (R17, R18). -/
def homeHub (p : Fin 12) : Fin 4 :=
  if p.val < 3 then 0 else if p.val < 6 then 2 else if p.val < 9 then 1 else 3

/-- The column whose dies a hub stands beside (R17): hubs 0 and 1 at the west edge, 2 and 3 at the east edge. -/
def hubCol (h : Fin 4) : Nat := if h < 2 then 0 else 5

/-- The side of those dies that the hub faces. -/
def hubSide (h : Fin 4) : Side := if h < 2 then .w else .e

/-- The attached rows of a hub (R17): `i` = 0 or 1. -/
def hubRow (h : Fin 4) (i : Fin 2) : Nat := 2 * (h.val % 2) + i.val

/-- The hub beside the edge of a row (R17). -/
def edgeHub (east : Bool) (row : Nat) : Fin 4 := if east then (if row < 2 then 2 else 3) else (if row < 2 then 0 else 1)

/-- What the bridge on a side of the die in a column and row connects to (R19): none where it is unconnected. -/
def endOf (col row : Nat) : Side → Option MeshNode
  | .n => if row = 0 then none else some (.die (dieAt col (row - 1)))
  | .s => if row = 3 then none else some (.die (dieAt col (row + 1)))
  | .e => if col = 5 then some (.hub (edgeHub true row)) else some (.die (dieAt (col + 1) row))
  | .w => if col = 0 then some (.hub (edgeHub false row)) else some (.die (dieAt (col - 1) row))

/-- What the bridge of a compute die connects to (R19). -/
def bridgeEnd (d : Fin 24) (sd : Side) : Option MeshNode := endOf (dieCol d) (dieRow d) sd

/-- The die at the other end of a hub's bridge (R19): one per attached row. -/
def hubBridgeEnd (h : Fin 4) (i : Fin 2) : Fin 24 := dieAt (hubCol h) (hubRow h i)

/-- Strap values of the 28 dies, by die; of a compute die bits [2:0] are `die_col` and [4:3] `die_row`, of a hub bits
[1:0] are `hub_id` (R24). -/
abbrev Straps := Vector (BitVec 5) 28

/-- The place a compute die's straps name (R24): none for an invalid column. -/
def strapPlace (x : BitVec 5) : Option (Nat × Nat) :=
  if x.toNat % 8 < 6 then some (x.toNat % 8, x.toNat / 8) else none

/-- The hub a hub die's straps name. -/
def strapHub (x : BitVec 5) : Fin 4 := ⟨x.toNat % 4, Nat.mod_lt _ (by decide)⟩

/-- The straps of a package tied as R16, R17 and R24 say. -/
def rightStraps : Straps :=
  Vector.ofFn fun d : Fin 28 =>
    if h : d.val < 24 then BitVec.ofNat 5 (dieCol ⟨d.val, h⟩ + dieRow ⟨d.val, h⟩ * 8) else BitVec.ofNat 5 (d.val - 24)

/-- The straps that stand at a node. -/
def Straps.at (t : Straps) : MeshNode → BitVec 5
  | .die d => t[d.val]
  | .hub h => t[24 + h.val]

/-- The strap value of a node names the place of that node. -/
def Straps.names (t : Straps) (m : MeshNode) (want : MeshNode) : Bool :=
  match m, want with
  | .die _, .die w => decide (strapPlace (t.at m) = some (dieCol w, dieRow w))
  | .hub _, .hub w => decide (strapHub (t.at m) = w)
  | _, _ => false

/-- A compute die's bridge comes up (R25): it has a die at its other end, its own straps are valid, and the strap
values it is sent are those of the neighbour that R19 names for its own. -/
def bridgeComesUp (t : Straps) (d : Fin 24) (sd : Side) : Bool :=
  match bridgeEnd d sd, strapPlace t[d.val] with
  | some m, some (col, row) => match endOf col row sd with
    | some want => t.names m want
    | none => false
  | _, _ => false

/-- A hub's bridge comes up (R25). -/
def hubBridgeComesUp (t : Straps) (h : Fin 4) (i : Fin 2) : Bool :=
  t.names (.die (hubBridgeEnd h i)) (.die (hubBridgeEnd (strapHub t[24 + h.val]) i))

/-- The number of a side in a die's row of bridges. -/
def Side.no : Side → Fin 4
  | .n => 0
  | .e => 1
  | .s => 2
  | .w => 3

/-- The side with a number. -/
def sideOf (i : Fin 4) : Side := if i = 0 then .n else if i = 1 then .e else if i = 2 then .s else .w

/-- Which bridges of the compute dies are powered with valid asserted (R20, R25), by die and side. -/
abbrev Bridges := Vector (Vector Bool 4) 24

/-- The bridges after the neighbour check (R25): an unconnected one is powered down (R20). -/
def bridgesUp (t : Straps) : Bridges :=
  Vector.ofFn fun d : Fin 24 => Vector.ofFn fun i : Fin 4 => bridgeComesUp t d (sideOf i)

/-- Which bridges of the hubs are up, by hub and attached row. -/
abbrev HubBridges := Vector (Vector Bool 2) 4

/-- The hubs' bridges after the check. -/
def hubBridgesUp (t : Straps) : HubBridges :=
  Vector.ofFn fun h : Fin 4 => Vector.ofFn fun i : Fin 2 => hubBridgeComesUp t h i

/-- No bridge of the block finds a mismatch (R25). -/
def meshAgrees (t : Straps) : Bool :=
  ((List.finRange 24).all fun d => [Side.n, .e, .s, .w].all fun sd => (bridgeEnd d sd).isNone || bridgeComesUp t d sd)
    && (List.finRange 4).all fun h => (List.finRange 2).all fun i => hubBridgeComesUp t h i

/-- A bridge that a packet crosses: the compute die at its inner end, and the side. -/
abbrev Hop := Fin 24 × Side

/-- Along a row (R21). -/
def alongRow (row c1 c2 : Nat) : List Hop :=
  if c1 ≤ c2 then (List.range (c2 - c1)).map fun i => (dieAt (c1 + i) row, Side.e)
  else (List.range (c1 - c2)).map fun i => (dieAt (c1 - i) row, Side.w)

/-- Along a column (R21). -/
def alongCol (col r1 r2 : Nat) : List Hop :=
  if r1 ≤ r2 then (List.range (r2 - r1)).map fun i => (dieAt col (r1 + i), Side.s)
  else (List.range (r1 - r2)).map fun i => (dieAt col (r1 - i), Side.n)

/-- The effective row of a hub for an end in a row (R21): the attached row nearest to it. -/
def effRow (h : Fin 4) (row : Nat) : Nat := if row ≤ hubRow h 0 then hubRow h 0 else hubRow h 1

/-- The effective row of hub g on a route to or from hub h (R21): equally near rows give the even one. -/
def effRowHub (g h : Fin 4) : Nat := if hubRow g 0 < hubRow h 0 then hubRow g 1 else hubRow g 0

/-- The bridges that a packet crosses, in order (R21). -/
def meshRoute : MeshNode → MeshNode → List Hop
  | .die d, .die e => alongRow (dieRow d) (dieCol d) (dieCol e) ++ alongCol (dieCol e) (dieRow d) (dieRow e)
  | .die d, .hub h =>
    let r := effRow h (dieRow d)
    alongCol (dieCol d) (dieRow d) r ++ alongRow r (dieCol d) (hubCol h) ++ [(dieAt (hubCol h) r, hubSide h)]
  | .hub h, .die e =>
    let r := effRow h (dieRow e)
    (dieAt (hubCol h) r, hubSide h) :: alongRow r (hubCol h) (dieCol e) ++ alongCol (dieCol e) r (dieRow e)
  | .hub g, .hub h =>
    if g = h then []
    else
      let r := effRowHub g h
      let r' := effRowHub h g
      (dieAt (hubCol g) r, hubSide g) :: alongRow r (hubCol g) (hubCol h) ++ alongCol (hubCol h) r r'
        ++ [(dieAt (hubCol h) r', hubSide h)]

end Sys2Proof.Machine
end

