-- ==== Sys2Proof/Machine/State.lean ====
section
/-! DEFINITION. The state of the Uluson block as plain data: every register, queue, buffer, counter,
mode and pin the manual gives it, the queue of the commands that wait, and the reset value of each.
A field's docstring names the register or the thing and the rule that gives it. -/

namespace Sys2Proof.Machine

/-- A steering profile (R110). -/
structure Profile where
  /-- R110: QNT_BAND: [31:16] BH, [15:0] BL. -/
  band : W32
  /-- R110: QNT_STEP: HOLD, DNP, UPP, PANIC. -/
  step : W32
  /-- R110: QNT_PROM: VPROM, CPROM. -/
  prom : W32
  /-- R110: QNT_OPT: [0] PANIC_NAN. -/
  opt : W32
deriving DecidableEq, Repr

/-- Profile at reset. -/
def Profile.reset : Profile where
  band := 0x00400004
  step := 0x10300800
  prom := 0x20000200
  opt := 0

/-- A steer slot (R99, R100). -/
structure Steer where
  /-- R99: STS_CTL.HOLDC. -/
  holdc : BitVec 8
  /-- R99: STS_CTL.DNC. -/
  dnc : BitVec 4
  /-- R99: STS_CTL.UPC. -/
  upc : BitVec 2
  /-- R99: STS_CTL.FBNEXT. -/
  fbnext : Bool
  /-- R99: STS_CTL.FB (W1C). -/
  fb : Bool
  /-- R99: STS_CTL.SVALID. -/
  svalid : Bool
  /-- R99: STS_CTL.WATCH. -/
  watch : Bool
  /-- R99: STS_CTL.PROF. -/
  prof : BitVec 2
  /-- R99: STS_CTL.Q, signed. -/
  q : BitVec 12
  /-- R100: STS_RANGE.QMAX, signed. -/
  qmax : BitVec 12
  /-- R100: STS_RANGE.QMIN, signed. -/
  qmin : BitVec 12
  /-- R100: STS_SETS.STRIPE_N. -/
  stripeN : BitVec 7
  /-- R100: STS_SETS.SETCOUNT. -/
  setCount : BitVec 11
  /-- R100: STS_SETS.SETBASE. -/
  setBase : BitVec 10
  /-- R100: STS_MAP.CSRBASE. -/
  csrBase : BitVec 12
  /-- R100: STS_MAP.CHBASE. -/
  chBase : BitVec 16
  /-- R100: STS_CLIP. -/
  clip : W32
  /-- R100: STS_VAN. -/
  van : W32
  /-- R100: STS_NAN. -/
  nan : W32
  /-- R100: STS_TOT. -/
  tot : W32
deriving DecidableEq, Repr

/-- Steer at reset. -/
def Steer.reset : Steer where
  holdc := 0
  dnc := 0
  upc := 0
  fbnext := false
  fb := false
  svalid := false
  watch := false
  prof := 0
  q := 0
  qmax := 0x1F0
  qmin := 0xE10
  stripeN := 0
  setCount := 0
  setBase := 0
  csrBase := 0
  chBase := 0
  clip := 0
  van := 0
  nan := 0
  tot := 0

/-- A channel-counter set (R104). -/
structure CSet where
  /-- R104: CLIP [23:0]. -/
  clip : BitVec 24
  /-- R104: VAN [55:32]. -/
  van : BitVec 24
  /-- R104: NAN [79:64]. -/
  nan : BitVec 16
  /-- R104: TOT [127:96]. -/
  tot : W32
  /-- R104: MAX [159:128], FP32. -/
  max : W32
  /-- R104: MIN [191:160], FP32. -/
  min : W32
deriving DecidableEq, Repr

/-- CSet at reset. -/
def CSet.reset : CSet where
  clip := 0
  van := 0
  nan := 0
  tot := 0
  max := 0xFF800000
  min := 0x7F800000

/-- The type tag of an accumulator tile (R70). -/
inductive TileTag where
  | empty
  | int32
  | fp32
deriving DecidableEq, Repr

/-- An entry of an engine queue: an engine slot or a sync operation (R224), as its bits stand in
the bundle, with the scalar value a control form with SRC = 1 read when its bundle issued (R208). -/
structure Entry where
  sync : Bool
  word : BitVec 96
  sval : W32
deriving DecidableEq, Repr

/-- A running LOOP of a context (R209, R225): the body as far as it has been recorded in the loop
buffer, its length NB, the entries issued in this repeat, the repeats left with this one, and AMASK. -/
structure Frame where
  body  : List Entry
  nb    : Nat
  pos   : Nat
  left  : Nat
  amask : BitVec 16
deriving DecidableEq, Repr

/-- A signal between its turn in the queue and its release point (R234): its word, its amount, and the DRAINs of
its context before it. -/
structure Signal where
  word   : BitVec 96
  amount : Nat
  after  : Nat
deriving DecidableEq, Repr

/-- One context of one engine: its queue, its registers and its loops (R206, R209, R224). -/
structure EngCtx where
  /-- R224: engine queue context, up to 64 entries. -/
  queue : List Entry
  /-- R206: A0-A15. -/
  a : Vector W32 16
  /-- R206: AS0-AS15, signed. -/
  as : Vector W32 16
  /-- R206: AB0-AB15, signed. -/
  ab : Vector W32 16
  /-- R206: AL0-AL15, signed. -/
  al : Vector W32 16
  /-- R206: L0-L3. -/
  lr : Vector (BitVec 24) 4
  /-- R209: loop stack, up to 3 deep, innermost first, with the loop buffer of 64. -/
  loops : List Frame
  /-- R209: entries still to discard of the body of a LOOP whose count was 0. -/
  skip : Nat
  /-- R261: block timebase when the head wait became head (R262 SINCE). -/
  since : W64
  /-- R261: the head is a wait that is being timed. -/
  waiting : Bool
  /-- R64: IEEE_OVF as it stood when the WDRAIN at the head issued. -/
  ieee : Bool
  /-- R234: signals passed by the head and not yet at their release point, oldest first. -/
  signals : List Signal
  /-- R234: DRAINs that the context has issued. -/
  drains : Nat
  /-- R237: lines that the WDRAIN at the head has written while a later line is absent. -/
  prog : Nat
deriving DecidableEq, Repr

/-- EngCtx at reset. -/
def EngCtx.reset : EngCtx where
  queue := []
  a := Vector.replicate 16 0
  as := Vector.replicate 16 0
  ab := Vector.replicate 16 0
  al := Vector.replicate 16 0
  lr := Vector.replicate 4 0
  loops := []
  skip := 0
  since := 0
  waiting := false
  ieee := false
  signals := []
  drains := 0
  prog := 0

/-- The vector state of one context (R128, R131). -/
structure VCtx where
  /-- R128: VL, 0 to 128 (128 at task start). -/
  vl : BitVec 8
  /-- R128: VCNT (0 at task start). -/
  vcnt : BitVec 8
  /-- R128: M0-M7 (all ones at task start). -/
  masks : Vector (BitVec 128) 8
  /-- R131: POL of M0-M7, 0 merge (merge at task start). -/
  pol : BitVec 8
deriving DecidableEq, Repr

/-- VCtx at reset. -/
def VCtx.reset : VCtx where
  vl := 128
  vcnt := 0
  masks := Vector.replicate 8 (BitVec.allOnes 128)
  pol := 0

/-- A line in the store drain queue, with the axis it was drained on (R214, R132). -/
structure StoreLine where
  line : Line
  row  : Bool
deriving DecidableEq, Repr

/-- A drained line on its way (R83, R87): the context and the number of its DRAIN, the line, DEST. -/
structure HeldLine where
  ctx   : Duet
  no    : Nat
  line  : StoreLine
  toVec : Bool
deriving DecidableEq, Repr

/-- What a piece of engine-written state held before a write of an engine; of a slot also the bits written, as a
mask, and their values. -/
inductive Undo where
  | slot (n : Fin 64) (old mask data : Line)
  | mask (x : Duet) (n : Fin 8) (old : BitVec 128)
  | vcnt (x : Duet) (old : BitVec 8)
  | stageRow (n : Fin 256) (old : Vector (BitVec 16) 128)
  | row (n : Fin 49152) (old : List Byte) (valid : Bool) (bad : List (Nat × Option Ecc))
  | cset (n : Fin 1024) (old : CSet)
  | csr (old : Vector W32 4096)
  | grid (old : Vector W32 128)
deriving DecidableEq, Repr

/-- A write of an engine that may not have landed (R143, R236): the engine cycles left to it at most. -/
structure Landing where
  eng  : Engine
  left : Nat
  what : Undo
deriving DecidableEq, Repr

/-- What the model keeps of the engines' cycles (R86, R87, R143, R240). -/
structure Timing where
  /-- R240: writes that may not have landed, the latest to land first. -/
  past : List Landing
  /-- R87: array cycles before the first drained line held back is due. -/
  slack : Nat
  /-- R86: tile of the latest DRAIN. -/
  holdTile : Nat
  /-- R86: array cycles in which that DRAIN may hold a later instruction. -/
  hold : Nat
  /-- R444: tiles that the array may still be writing, and array cycles to the last write at most. -/
  busy : List (Nat × Nat)
deriving DecidableEq, Repr

/-- Timing at reset. -/
def Timing.reset : Timing where
  past := []
  slack := 0
  holdTile := 0
  hold := 0
  busy := []

/-- The slots of one bundle on their way over the promenade (R226). -/
structure Broadcast where
  ctx    : Duet
  vector : Option (BitVec 64)
  matrix : Option (BitVec 96)
  load   : Option (BitVec 64)
  store  : Option (BitVec 64)
  sync   : Option W32
  svals  : List W32
deriving DecidableEq, Repr

/-- A custom-operation request (R145, R146): the header fields, the lines, whether its header has
been presented and since when, and how many of its beats have transferred (R368). -/
structure CopReq where
  func  : Byte
  tag   : BitVec 4
  fmt   : BitVec 4
  vl    : BitVec 8
  mask  : BitVec 128
  lines : List Line
  sent  : Nat
  since : W64
deriving DecidableEq, Repr

/-- What a core gave to an outstanding STEER (R114): the slot's counters, its candidate channels
(R109). -/
structure SteerTake where
  clip   : Nat
  van    : Nat
  nan    : Nat
  tot    : Nat
  cands  : List Nat
deriving DecidableEq, Repr

/-- Who waits for an access: a bale's read piece or write, a ring read of a channel (by its number), a request that a link
brought, a depot fill, an access of a partition's sequencer in the task of that number (a scalar load or store, a bundle
fetch, a read of its code object by its number), dump or trace, a control port, a hub's descriptor fetch, end record (by its
task) or report. -/
inductive Requester where
  | chan (c : ChanId) (bale : W32) (piece : Nat)
  | link (n : Fin 16) (tag : BitVec 16) (src : Byte)
  | fill (d : Fin 24) (line : Nat)
  | seqLoad (p : Fin 12) (task : Nat) (rd : Fin 32)
  | seqStore (p : Fin 12) (task : Nat)
  | seqFetch (p : Fin 12) (task : Nat)
  | dump (p : Fin 12)
  | trace (p : Fin 12)
  | port (h : Fin 4) (tag : Byte)
  | ring (c : ChanId) (no : W32)
  | code (p : Fin 12) (task : Nat) (i : Nat)
  | desc (h : Fin 4) (serial : Nat)
  | record (h : Fin 4) (serial : Nat)
  | report (h : Fin 4)
deriving DecidableEq, Repr

/-- What an access does: read, write, or one of the updates formed at the destination port
(R274: REDOP and format; R457). -/
inductive ReqKind where
  | read
  | write
  | redcopy (op : BitVec 2) (fmt : BitVec 4)
  | xoracc
deriving DecidableEq, Repr

/-- A request at a scratchpad DMA port or a stack port. `addr` is the block-local address of what is left of
it, `len` the bytes left, `data` the bytes still to write, `got` the bytes read so far, `arrive` the arrival
field (R163), `last` the last-in-row bit (R166) and `tail` the same for the second row of an element that lies in two
(R274), `consume` CONSUME (R166). -/
structure MemReq where
  who     : Requester
  src     : Source
  kind    : ReqKind
  addr    : Nat
  len     : Nat
  data    : List Byte
  got     : List Byte
  arrive  : Option (Fin 16)
  last    : Bool
  tail    : Bool
  consume : Bool
deriving DecidableEq, Repr

/-- Read data on its way back to a channel (R279): the bale, the piece, the status, the bytes. -/
structure Ret where
  bale   : W32
  piece  : Nat
  status : Code
  data   : List Byte
deriving DecidableEq, Repr

/-- One read of a bale: its number, its full address, its length, CONSUME, the depot policy of the
bale that asked for it. -/
structure Piece where
  no      : Nat
  addr    : Nat
  len     : Nat
  consume : Bool
  dpol    : BitVec 2
deriving DecidableEq, Repr

/-- How far the data movement of a started bale is: it reads its index tensor (GATHER, SCATTER), it
reads its source, it writes. -/
inductive RunPhase where
  | index
  | source
  | write
deriving DecidableEq, Repr

/-- A bale between start and completion (R276), or a merged transfer of several (R278): the number its requests
carry, the first bale's index, the bales' words, the resolved descriptors of each (source, destination, index), the
reads not yet issued, the reads outstanding, the data returned, the index values, the writes
outstanding, its writes to register space that wait for the writes of earlier bales (R258), and IEEE_OVF as it stood
at the start (R64). -/
structure BaleRun where
  no      : W32
  idx     : W32
  bales   : List (BitVec 512)
  descs   : List (BitVec 512 × BitVec 512 × BitVec 512)
  phase   : RunPhase
  todo    : List Piece
  reads   : Nat
  got     : List (Nat × List Byte)
  lines   : List Int
  writes  : Nat
  regs    : List (Nat × List Byte)
  ieee    : Bool
deriving DecidableEq, Repr

/-- The bale a channel has fetched and not started (R276 steps 1 to 4): its words as fetched, the
handle a relay pop gave, and which of the pop, W0 and W1 are done. -/
structure Cur where
  bale   : BitVec 512
  popped : Option (BitVec 17)
  popOk  : Bool
  w0     : Bool
  w1     : Bool
  since  : W64
deriving DecidableEq, Repr

/-- A caravan channel (R265, R292). -/
structure Chan where
  /-- R266: staged RING_LO (reset LSZ 0x04). -/
  stagedLo : W32
  /-- R266: committed RING_LO. -/
  ringLo : W32
  /-- R292: RING_HI. -/
  ringHi : W32
  /-- R292: HEAD. -/
  head : W32
  /-- R292: TAIL. -/
  tail : W32
  /-- R292: STAT.RING_REJ (W1C). -/
  ringRej : Bool
  /-- R292: STAT.TAIL_REJ (W1C). -/
  tailRej : Bool
  /-- R292: STAT.LASTERR. -/
  lastErr : Code
  /-- R292: STAT.STATE = 0b11 stopped. -/
  stopped : Bool
  /-- R276: the bale fetched and not started. -/
  cur : Option Cur
  /-- R276: up to 4 bales between start and completion, oldest first. -/
  runs : List BaleRun
  /-- R279: read data on its way back. -/
  ret : List Ret
  /-- R276: number of the next bale started: its requests carry it. -/
  serial : W32
  /-- R267: reads of the ring asked for: number, index of the bale, and what came back. -/
  ring : List (W32 × W32 × Option (Code × List Byte))
  /-- R286: relay pushes held on a full queue. -/
  pushHeld : List (BitVec 6 × BitVec 17)
  /-- R290: block timebase when the abort flush began. -/
  flush : Option W64
deriving DecidableEq, Repr

/-- Chan at reset. -/
def Chan.reset : Chan where
  stagedLo := 4
  ringLo := 4
  ringHi := 0
  head := 0
  tail := 0
  ringRej := false
  tailRej := false
  lastErr := 0
  stopped := false
  cur := none
  runs := []
  ret := []
  serial := 0
  ring := []
  pushHeld := []
  flush := none

/-- A line of a depot half: the full window address of its first byte (one line per window, R283)
and its 512 bytes. -/
structure DepotLine where
  base : Nat
  data : List Byte
deriving DecidableEq, Repr

/-- A set of a depot half: 16 ways and the tree pseudo-LRU bits (R283, R284). -/
structure DepotSet where
  ways : List (Option DepotLine)
  plru : BitVec 15
deriving DecidableEq, Repr

/-- An empty set. -/
def DepotSet.empty : DepotSet := { ways := List.replicate 16 none, plru := 0 }

/-- An outstanding line fill of a depot half (R284): the line's base, whether its data has come back
from the stack, the reads that wait for it, and the bytes that channels of the die have written to it since
(R285). -/
structure Fill where
  base   : Nat
  alloc  : Bool
  done   : Option (Code × List Byte)
  upd    : List (Nat × List Byte)
  wait   : List (ChanId × W32 × Nat × Nat × Nat)
deriving DecidableEq, Repr

/-- A depot half (R283). -/
structure Depot where
  sets  : Sparse DepotSet
  fills : List Fill
deriving DecidableEq, Repr

/-- An empty depot half. -/
def Depot.empty : Depot := { sets := [], fills := [] }

/-- An IEEE 1500 wrapper (R483): its instruction, its STATUS and its 32 bits of serial data. -/
structure Wrapper where
  wir    : BitVec 3
  status : BitVec 3
  data   : W32
  tested : Bool
deriving DecidableEq, Repr

/-- A core (R26). -/
structure Core where
  /-- R38: GRID_ENT0-127; reset levels of R42. -/
  gridEnt : Vector W32 128
  /-- R64: GRID_MODE.IEEE_OVF. -/
  ieeeOvf : Bool
  /-- R65: GRID_FLAGS: [6] ENT_REJ, [5] CONV_NAN, [4] CONV_SAT, [3:0] ACC_SAT (W1C). -/
  gridFlags : BitVec 7
  /-- R66: GRID_CONV_CNT (RC). -/
  convCnt : W32
  /-- R93: GRID_CSR0-4095. -/
  csr : Vector W32 4096
  /-- R122: QNT_FLAGS: Q_LIMIT, FB_RAISED, STRIPE_FULL, CNT_SAT, WR_REJ (W1C). -/
  qntFlags : BitVec 5
  /-- R110: steering profiles. -/
  profiles : Vector Profile 4
  /-- R99: steer slots. -/
  steer : Vector Steer 64
  /-- R107: stripe lists GRID_STL. -/
  stripe : Vector (Vector (BitVec 16) 64) 64
  /-- R104: channel-counter sets. -/
  sets : Vector CSet 1024
  /-- R151: VEC_FLAGS: [1] FINF, [0] EMPTY (W1C). -/
  vecFlags : BitVec 2
  /-- R114: decisions outstanding in this core, with what it gave. -/
  takes : List (Fin 64 × SteerTake)
  /-- R68: accumulator tiles. -/
  tiles : Vector Tile 4
  /-- R70: tile type tags. -/
  tileTag : Vector TileTag 4
  /-- R70: recorded pack modes. -/
  tileMode : Vector (BitVec 2) 4
  /-- R74: operand stages. -/
  stages : Vector Stage 2
  /-- R126: operand cache V0-V63. -/
  ocache : Vector Line 64
  /-- R133: vector drain queue D, up to 8 lines. -/
  drainQ : List Line
  /-- R214: store drain queue, up to 8 lines. -/
  storeQ : List StoreLine
  /-- R83: drained lines the array holds back because the queue that takes them is full (R87). -/
  draining : List HeldLine
  /-- R240: the engines' cycles. -/
  timing : Timing
  /-- R224: engine contexts, index 2e + x (e: load, matrix, vector, store). -/
  eng : Vector EngCtx 8
  /-- R231: current context of each engine (A at task start). -/
  current : Vector Duet 4
  /-- R128: vector state of the two contexts. -/
  vctx : Vector VCtx 2
  /-- R226: slots on their way to the dispatcher, oldest first. -/
  promenade : List Broadcast
  /-- R145: outbound queue of the custom-operation port, up to 4. -/
  copOut : List CopReq
  /-- R147: requests accepted and not answered: tag, time of acceptance. -/
  copWait : List (BitVec 4 × W64)
  /-- R368: the response whose header has transferred: whether it is dropped, and its data beats so far. -/
  copIn : Option (Bool × List (BitVec 1024))
  /-- R145: response queue, up to 4 lines. -/
  copRsp : List Line
  /-- R149: cop_flush is asserted. -/
  copFlush : Bool
  /-- R154: scratchpad bytes that are not zero, by core-local address. -/
  spad : Memory
  /-- R172: GUARD_VALID. -/
  valid : Vector W32 1536
  /-- R172: GUARD_CTL.EN. -/
  guardEn : Bool
  /-- R172: GUARD_BASE.ROW. -/
  guardBase : BitVec 16
  /-- R172: GUARD_LIMIT.ROW. -/
  guardLimit : BitVec 16
  /-- R172: GUARD_STAT: HOLE, UE, CE (W1C). -/
  guardStat : BitVec 3
  /-- R172: GUARD_ECC_CNT (RC). -/
  eccCnt : W32
  /-- R172: GUARD_ECC_ADDR.ROW. -/
  eccRow : BitVec 16
  /-- R172: GUARD_ECC_ADDR.WORD. -/
  eccWord : BitVec 7
  /-- R172: SP_ARB.GMASK as written. -/
  gmask : BitVec 16
  /-- R172: the GMASK in effect (from the next wheel position 0). -/
  gmaskEff : BitVec 16
  /-- R172: arrival counters GUARD_ARR0-15. -/
  arr : Vector W32 16
  /-- R168: words whose check bits are wrong, by word index row*128 + word. -/
  bad : Sparse (Option Ecc)
  /-- R168: corrected words waiting for their write-back. -/
  writeBack : List Nat
  /-- R157: DMA port queue of the read class. -/
  dmaRead : List MemReq
  /-- R157: DMA port queue of the write class. -/
  dmaWrite : List MemReq
  /-- R157: DMA port queue of the remote class. -/
  dmaRemote : List MemReq
  /-- R292: caravan channels. -/
  chans : Vector Chan 4
  /-- R183: descriptor cache, up to 128 entries, most recently used first. -/
  dcache : List (BitVec 17 × BitVec 512)
  /-- R279: read tags in use, of 192. -/
  readTags : Nat
  /-- R452: CORE_FENCE.CAUSE. -/
  fcause : BitVec 4
  /-- R452: CORE_FENCE.CAND (W1C). -/
  cand : Bool
  /-- R452: CORE_FENCE.FENCED. -/
  fenced : Bool
  /-- R91: CORE_CAPS.BYP and OCTET (from the repair fuses). -/
  bypass : Option (Fin 16)
  /-- R421: repair fuse of this core. -/
  repair : Option (Fin 16)
  /-- R483: IEEE 1500 wrapper of this core. -/
  wrap : Wrapper
deriving DecidableEq, Repr

/-- Core at reset. -/
def Core.reset : Core where
  gridEnt := Vector.ofFn fun i : Fin 128 => BitVec.ofNat 32 (Grid.resetEnt i.val)
  ieeeOvf := false
  gridFlags := 0
  convCnt := 0
  csr := Vector.replicate 4096 0x3F800000
  qntFlags := 0
  profiles := Vector.replicate 4 Profile.reset
  steer := Vector.replicate 64 Steer.reset
  stripe := Vector.replicate 64 (Vector.replicate 64 0)
  sets := Vector.replicate 1024 CSet.reset
  vecFlags := 0
  takes := []
  tiles := Vector.replicate 4 (Vector.replicate 128 Line.zero)
  tileTag := Vector.replicate 4 .empty
  tileMode := Vector.replicate 4 0
  stages := Vector.replicate 2 (Vector.replicate 128 (Vector.replicate 128 0))
  ocache := Vector.replicate 64 Line.zero
  drainQ := []
  storeQ := []
  draining := []
  timing := Timing.reset
  eng := Vector.replicate 8 EngCtx.reset
  current := Vector.replicate 4 .a
  vctx := Vector.replicate 2 VCtx.reset
  promenade := []
  copOut := []
  copWait := []
  copIn := none
  copRsp := []
  copFlush := false
  spad := []
  valid := Vector.replicate 1536 0
  guardEn := false
  guardBase := 0
  guardLimit := 0xBFFF
  guardStat := 0
  eccCnt := 0
  eccRow := 0
  eccWord := 0
  gmask := 0x0101
  gmaskEff := 0x0101
  arr := Vector.replicate 16 0
  bad := []
  writeBack := []
  dmaRead := []
  dmaWrite := []
  dmaRemote := []
  chans := Vector.replicate 4 Chan.reset
  dcache := []
  readTags := 0
  fcause := 0
  cand := false
  fenced := false
  bypass := none
  repair := none
  wrap := { wir := 0, status := 0, data := 0, tested := false }

/-- A WAIT_SUB request waiting in a semaphore memory (R250). -/
structure SubReq where
  who : WaitUnit
  idx : Nat
  n   : Nat
deriving DecidableEq, Repr

/-- A task as its descriptor gives it (R410), with the hub and the ring position it came from. -/
structure TaskDesc where
  id      : W64
  code    : BitVec 56
  shape   : W32
  pmask   : BitVec 12
  evt     : Bool
  sbase   : Nat
  scount  : Nat
  gbase   : Nat
  gcount  : Nat
  ghub    : Fin 4
  args    : Vector W64 4
  endAddr : BitVec 56
  hub     : Fin 4
  ridx    : W32
  serial  : Nat
deriving DecidableEq, Repr

/-- An entry of the bucket table (R189). -/
structure Bucket where
  maxShape : W32
  width    : Byte
  minLive  : Nat
  entry    : W32
deriving DecidableEq, Repr

/-- An entry of the fallback table (R190). -/
structure Fallback where
  slot  : Fin 64
  bkt   : Byte
  entry : W32
deriving DecidableEq, Repr

/-- A task abort under way on a partition (R444): the fault, its argument, when it was detected, the
core that raised it, the waiter records at that moment (R262), and, once the dump has begun, its
writes to another device that have not completed and whether one failed. -/
structure AbortInfo where
  code    : Code
  arg     : W64
  time    : W64
  core    : Byte
  waits   : List (Nat × BitVec 128)
  dump    : Option Nat
  dumpBad : Bool
deriving DecidableEq, Repr

/-- A fence request or a partition reset that arrived during an abort and waits for its end (R445): the
core of a CORE_FENCE write, the value written, and the control-port request it answers. -/
structure HeldReq where
  core : Option (Fin 32)
  v    : W32
  who  : Option (Fin 4 × Byte)
deriving DecidableEq, Repr

/-- The power states of a partition (R474). -/
inductive Power where
  | gated
  | rampUp
  | running
  | rampDown
deriving DecidableEq, Repr

/-- The states of a personality target (R356). -/
inductive PersState where
  | none
  | loaded
  | loading
  | held
deriving DecidableEq, Repr

/-- A claim register (R242). -/
structure Claim where
  bound : Bool
  owner : BitVec 4
  free  : Bool
deriving DecidableEq, Repr

/-- A descriptor address window (R180). -/
structure Window where
  bl : W32
  bh : W32
  ll : W32
  lh : W32
deriving DecidableEq, Repr

/-- A scalar load that has not returned (R198): its register, its address, its size, and what came back. -/
structure Load where
  rd     : Fin 32
  addr   : Nat
  size   : Nat
  answer : Option (Code × List Byte)
deriving DecidableEq, Repr

/-- A partition (R16, R26). -/
structure Part where
  /-- R28: cores, partition-local index l' (16 + l on die B). -/
  cores : Vector Core 32
  /-- R221: SEQ_STAT.STATE. -/
  seqState : BitVec 2
  /-- R221: SEQ_PC: offset of the last bundle issued. -/
  pc : W32
  /-- R203: offset of the bundle to issue next. -/
  next : W32
  /-- R192: SKIP cycles still to count, and the 2 of a taken branch. -/
  skip : BitVec 17
  /-- R221: SEQ_FBCNT (RC). -/
  fbCnt : W32
  /-- R221: SEQ_BUCKET.BKT. -/
  bucket : BitVec 4
  /-- R198: S0-S31 (0 at task start, R191); S0 reads 0. -/
  sreg : Vector W64 32
  /-- R198: scalar loads that have not returned. -/
  loads : List Load
  /-- R188: number of the task: tells the sequencer's accesses of one task from those of the next. -/
  taskNo : Nat
  /-- R188: the task has been taken, and its code object is being read. -/
  opening : Bool
  /-- R188: reads of the code object at task start (0 its header, 1 and 2 its tables), and what came back. -/
  codeReads : List (Nat × Option (Code × List Byte))
  /-- R203: call stack, up to 8 return points. -/
  calls : List W32
  /-- R202: RERUN: 0 normal, 1 panic branch, 2 FBCHK. -/
  rerun : BitVec 2
  /-- R202: FBSLOT. -/
  fbSlot : BitVec 6
  /-- R205: saved return point of a fallback. -/
  retPoint : W32
  /-- R117: SVALID of all live cores as it stood when the last of them issued the STEER, for the decisions outstanding, oldest first. -/
  shadows : List (Fin 64 × Bool)
  /-- R205: slots with a pending or held fallback branch. -/
  fbPend : BitVec 64
  /-- R188: SIZE of the code object of the task. -/
  codeSize : W32
  /-- R190: fallback table of the task. -/
  fallbacks : List Fallback
  /-- R501: bundle cache: bytes of the code object, by offset. -/
  bcache : List Host.Cell
  /-- R194: a bundle fetch has missed. -/
  bmiss : Bool
  /-- R201: a scalar store to another device has not completed. -/
  storeBusy : Bool
  /-- R201: what a remote bundle fetch brought back. -/
  fetchRet : Option (Code × List Byte)
  /-- R220: the sync-slot wait of the next bundle is consumed. -/
  waitDone : Bool
  /-- R261: when the sequencer's wait became head. -/
  waitSince : Option W64
  /-- R31: the task that runs. -/
  task : Option TaskDesc
  /-- R415: block timebase when the partition started its task. -/
  tstart : W64
  /-- R260: snapshot of the COUNTs of the declared partition range. -/
  snap : List (BitVec 16)
  /-- R413: delivery queue, up to 8 tasks. -/
  delivery : List TaskDesc
  /-- R444: the abort under way. -/
  abort : Option AbortInfo
  /-- R445: fence requests and resets that wait for the end of an abort. -/
  held : List HeldReq
  /-- R454: holds of captures, start and end: the watchdog and the deadline timers do not count them. -/
  holds : List (W64 × W64)
  /-- R487: entries logged by hazard audit in this task. -/
  audit : BitVec 15
  /-- R245: 4,096 semaphore words. -/
  sems : Sparse W32
  /-- R245: 1,024 monotonic counters. -/
  ctrs : Sparse W32
  /-- R250: WAIT_SUB requests waiting, up to 512. -/
  subQ : List SubReq
  /-- R263: SEM_STAT: DUMP_ERR, WDOG, UNBAL, WR_REJ, REMOTE_ERR (W1C). -/
  semStat : BitVec 5
  /-- R263: SEM_ERR: KIND, IDX, CODE. -/
  semErr : BitVec 29
  /-- R263: SEM_WDOG.LIMIT in us. -/
  wdog : BitVec 20
  /-- R263: SEM_DUMP_LO: ADDR [31:15], EN [0]. -/
  dumpLo : W32
  /-- R263: SEM_DUMP_HI.ADDR. -/
  dumpHi : BitVec 24
  /-- R173: descriptor store, 131,072 entries. -/
  store : Sparse (BitVec 512)
  /-- R186: DESC_STAT.REJ (W1C). -/
  descRej : Bool
  /-- R186: DESC_STAT.CAUSE. -/
  descCause : BitVec 4
  /-- R186: DESC_STAT.HANDLE. -/
  descHandle : BitVec 17
  /-- R185: DESC_EPOCH.EPOCH. -/
  epoch : BitVec 16
  /-- R180: address windows DESC_WIN0-7. -/
  wins : Vector Window 8
  /-- R286: relay queues, 16 handles each, head first. -/
  relay : Vector (List (BitVec 17)) 64
  /-- R294: RELAY_STAT.FULL_REJ (W1C). -/
  fullRej : Bool
  /-- R292: trunk channels. -/
  trunk : Vector Chan 8
  /-- R183: descriptor cache of the trunk channels, up to 128 entries. -/
  tcache : List (BitVec 17 × BitVec 512)
  /-- R238: descriptor-cache misses waiting for the store in arrival order: the core, or none for the trunk channels, and the handle. -/
  misses : List (Option (Fin 32) × BitVec 17)
  /-- R279: trunk read tags in use, of 384. -/
  trunkTags : Nat
  /-- R293: TRUNK_TOLL_SPA. -/
  tollSpa : W32
  /-- R293: TRUNK_TOLL_SPB. -/
  tollSpb : W32
  /-- R293: TRUNK_TOLL_DMA. -/
  tollDma : W32
  /-- R283: depot halves of die A and die B. -/
  depots : Vector Depot 2
  /-- R296: STAT_CONV_FLAGS [5:4]: CONV_NAN, CONV_SAT (W1C). -/
  tconvFlags : BitVec 2
  /-- R296: STAT_CONV_CNT (RC). -/
  tconvCnt : W32
  /-- R489: STAT_AUDIT.COUNT (RC). -/
  auditCount : BitVec 8
  /-- R489: STAT_AUDIT.LIMIT. -/
  auditLimit : BitVec 15
  /-- R489: STAT_AUDIT.EN. -/
  auditEn : Bool
  /-- R489: STAT_PCTL.RUN. -/
  pctlRun : Bool
  /-- R488: performance counters. -/
  pcnt : Vector W64 8
  /-- R488: STAT_PCNT HI words as latched. -/
  pcntHi : Vector W32 8
  /-- R489: STAT_TRC_LO. -/
  trcLo : W32
  /-- R489: STAT_TRC_HI.ADDR. -/
  trcHi : BitVec 24
  /-- R489: STAT_TRC_CTL.WRAP. -/
  trcWrap : Bool
  /-- R489: STAT_TRC_CTL.BALE. -/
  trcBale : Bool
  /-- R489: STAT_TRC_CTL.EN. -/
  trcEn : Bool
  /-- R489: STAT_TRC_WR. -/
  trcWr : W32
  /-- R489: STAT_TRC_DROP (RC). -/
  trcDrop : W32
  /-- R295: RT_CTL.EN. -/
  rtEn : Bool
  /-- R295: RT_MISS (RC). -/
  rtMiss : W32
  /-- R295: RT_TMR_LIM0-15. -/
  tmrLim : Vector (BitVec 20) 16
  /-- R295: RT_TMR_STAT.ARMED, with the time of arming. -/
  tmrArm : Vector (Option W64) 16
  /-- R242: claim registers RT_CLM0-31. -/
  claims : Vector Claim 32
  /-- R427: tenant (SEC_PTEN). -/
  tenant : BitVec 4
  /-- R356: PERS_PART.ST. -/
  pers : PersState
  /-- R330: the partition is unavailable. -/
  unavail : Bool
  /-- R354: border isolation holds. -/
  isolated : Bool
  /-- R349: measurement: CONTENT (absent before any load). -/
  content : BitVec 384
  /-- R349: measurement: SHA-384 of AKEY (absent before any load). -/
  akey : BitVec 384
  /-- R344: custom-operation ports claimed, by core. -/
  copClaims : W32
  /-- R344: claims recorded: CLASS, SCOPE, INDEX, FEATURE. -/
  featClaims : List (Byte × Nat × Nat × BitVec 16)
  /-- R343: the personality's initial values of grid tables 6 and 7. -/
  grid67 : Vector (BitVec 16) 32
  /-- R474: TIME_PWR.ST. -/
  power : Power
  /-- R475: ramp steps done, 0 to 16. -/
  rampAt : Nat
  /-- R349: a personality has been released and no task has started since: the engines ramp in, and stay in (none). -/
  rampIn : Bool
  /-- R483: IEEE 1500 wrappers of the two dies. -/
  wraps : Vector Wrapper 2
  /-- R336: configuration memory of both dies' margin fabric: frames by die*2^17 + column*256 + frame, 256 B each, unlisted all zero. -/
  fabric : Sparse (List Byte)
  /-- R359: flip-flops of the margin fabric that hold 1, rising: cell k of die A, 200000 + k of die B (cleared). -/
  flops : List Nat
deriving DecidableEq, Repr

/-- Part at reset. -/
def Part.reset : Part where
  cores := Vector.replicate 32 Core.reset
  seqState := 0
  pc := 0
  next := 0
  skip := 0
  fbCnt := 0
  bucket := 0
  sreg := Vector.replicate 32 0
  loads := []
  taskNo := 0
  opening := false
  codeReads := []
  calls := []
  rerun := 0
  fbSlot := 0
  retPoint := 0
  shadows := []
  fbPend := 0
  codeSize := 0
  fallbacks := []
  bcache := []
  bmiss := false
  storeBusy := false
  fetchRet := none
  waitDone := false
  waitSince := none
  task := none
  tstart := 0
  snap := []
  delivery := []
  abort := none
  held := []
  holds := []
  audit := 0
  sems := []
  ctrs := []
  subQ := []
  semStat := 0
  semErr := 0
  wdog := 0x186A0
  dumpLo := 0
  dumpHi := 0
  store := []
  descRej := false
  descCause := 0
  descHandle := 0
  epoch := 0
  wins := Vector.replicate 8 { bl := 0, bh := 0, ll := 0, lh := 0 }
  relay := Vector.replicate 64 []
  fullRej := false
  trunk := Vector.replicate 8 Chan.reset
  tcache := []
  misses := []
  trunkTags := 0
  tollSpa := 0x002040A0
  tollSpb := 0x002040A0
  tollDma := 0x002040A0
  depots := Vector.replicate 2 Depot.empty
  tconvFlags := 0
  tconvCnt := 0
  auditCount := 0
  auditLimit := 0x100
  auditEn := false
  pctlRun := false
  pcnt := Vector.replicate 8 0
  pcntHi := Vector.replicate 8 0
  trcLo := 0
  trcHi := 0
  trcWrap := false
  trcBale := false
  trcEn := false
  trcWr := 0
  trcDrop := 0
  rtEn := false
  rtMiss := 0
  tmrLim := Vector.replicate 16 0
  tmrArm := Vector.replicate 16 none
  claims := Vector.replicate 32 { bound := false, owner := 0, free := true }
  tenant := 0
  pers := .none
  unavail := false
  isolated := false
  content := 0
  akey := 0
  copClaims := 0
  featClaims := []
  grid67 := Vector.replicate 32 0x8000
  power := .gated
  rampAt := 0
  rampIn := false
  wraps := Vector.replicate 2 { wir := 0, status := 0, data := 0, tested := false }
  fabric := []
  flops := []

/-- A trouble-log entry (R458). -/
structure LogEntry where
  time  : W64
  code  : Code
  part  : Byte
  core  : Byte
  flags : Byte
  arg0  : W64
  arg1  : W64
deriving DecidableEq, Repr

/-- An event message (R416). -/
structure Event where
  kind : BitVec 16
  code : Code
  part : Byte
  lop  : Byte
  coal : Bool
  arg  : W64
  time : W64
  seq  : W64
deriving DecidableEq, Repr

/-- A message of the block to a host die (R404). -/
inductive HostMsg where
  | completion (tag : Byte) (status : Code) (data : List W32)
  | busy (tag : Byte) (lop : BitVec 4) (prog : Byte)
  | event (e : Event)
deriving DecidableEq, Repr

/-- A task a hub has delivered and not yet closed (R414, R415): the partitions not yet done, those
that started, the first start, the first fault and its partition, the first imbalance, the global
snapshot (R260). -/
structure RunTask where
  desc    : TaskDesc
  left    : BitVec 12
  ran     : BitVec 12
  tstart  : W64
  status  : Code
  aborted : Bool
  notrun  : Bool
  fpart   : Byte
  unbal   : Option (Nat × Byte × Byte)
  gsnap   : List (BitVec 16)
deriving DecidableEq, Repr

/-- The state of a personality loader (R356). -/
inductive LoadState where
  | idle
  | header
  | committed
  | releasing
deriving DecidableEq, Repr

/-- A personality loader (R325, R326): its state, the bytes received and not consumed, the header,
the segments verified, the plaintext not yet consumed by a command, the plaintext so far (for the
digest), what CLAIM, REGW and GRIDI recorded, whether END was executed, when the latest record was there whole
(R352), when isolation took hold, whether the isolation wait has ended (R354), when the release began to wait for the
fabric PLLs (R364), and what the targets were before the stream (R350). -/
structure Loader where
  state   : LoadState
  started : Bool
  buf     : List Byte
  hdr     : List Byte
  seed    : BitVec 256
  done    : Nat
  plain   : List Byte
  text    : List Byte
  claims  : List (BitVec 64)
  regw    : List (BitVec 64 × W32)
  gridi   : List (Fin 12 × List (BitVec 64))
  ended   : Bool
  since   : W64
  isoAt   : W64
  prog    : Byte
  lastErr : Code
  drained : Bool
  pllFrom : Option W64
  prev    : Vector PersState 12
  prevHub : PersState
deriving DecidableEq, Repr

/-- An idle loader (R356). -/
def Loader.idle : Loader :=
  { state := .idle, started := false, buf := [], hdr := [], seed := 0, done := 0, plain := [],
    text := [], claims := [], regw := [], gridi := [], ended := false, since := 0, isoAt := 0, prog := 0,
    lastErr := 0, drained := false, pllFrom := none, prev := Vector.replicate 12 .none, prevHub := .none }

/-- A long operation that makes a port BUSY (R407): LOP, the progress byte, and whether it is block-wide. -/
structure Busy where
  lop  : BitVec 4
  prog : Byte
deriving DecidableEq, Repr

/-- A request that a hub holds until earlier ones of its source have completed (R258, R406): its source, its
block-local address, the length it reads (0 for a write), the words it writes, who is answered, and the earlier
requests it waits for: TAG and SRC of a link's, the tag of a port's. -/
structure HubReq where
  src    : Source
  addr   : Nat
  len    : Nat
  data   : List W32
  who    : Requester
  waits  : List (BitVec 16 × Byte)
deriving DecidableEq, Repr

/-- A hub (R26). -/
structure Hub where
  /-- R245: 2,048 global semaphore words. -/
  gsems : Sparse W32
  /-- R245: 512 global counters. -/
  gctrs : Sparse W32
  /-- R438: SEC_GOWN: owner of each global block. -/
  gown : Vector (BitVec 4) 32
  /-- R250: WAIT_SUB requests waiting, up to 1,024. -/
  subQ : List SubReq
  /-- R263: SEM_STAT of the hub: WR_REJ, REMOTE_ERR (W1C). -/
  semStat : BitVec 5
  /-- R263: SEM_ERR of the hub. -/
  semErr : BitVec 29
  /-- R458: log ring, 8,192 entries, by position. -/
  log : Sparse (Option LogEntry)
  /-- R461: LOG_WR. -/
  logWr : W32
  /-- R461: LOG_RD. -/
  logRd : W32
  /-- R461: LOG_THR.THR. -/
  logThr : BitVec 14
  /-- R461: LOG_LOST (RC). -/
  logLost : W32
  /-- R459: the next entry written takes LOST = 1. -/
  lostNext : Bool
  /-- R460: the log-threshold event has been sent since the count was last below LOG_THR. -/
  thrSent : Bool
  /-- R418: event queue, up to 256 entries. -/
  evq : List Event
  /-- R416: events sent since cold reset. -/
  evSeq : W64
  /-- R419: EVT_MASK. -/
  evMask : BitVec 4
  /-- R419: EVT_PEND. -/
  evPend : W32
  /-- R418: tasks whose end record waits for room in the event queue. -/
  evHeld : List RunTask
  /-- R404: messages sent to the host die, oldest first (the completion event of LOP 0x4, R471). -/
  outbox : List HostMsg
  /-- R418: the control port is up. -/
  portUp : Bool
  /-- R407: the long operation that makes this port BUSY. -/
  busy : Option Busy
  /-- R405: outstanding control-port tags. -/
  tagsOut : List Byte
  /-- R411: writes of this port that came before the latest doorbell and have not landed. -/
  bellWaits : List Byte
  /-- R419: committed TASK_RING_LO (RSZ 0x4). -/
  ringLo : W32
  /-- R419: staged TASK_RING_LO (RSZ 0x4). -/
  stagedLo : W32
  /-- R419: TASK_RING_HI. -/
  ringHi : BitVec 24
  /-- R419: TASK_HEAD. -/
  head : W32
  /-- R419: TASK_TAIL. -/
  tail : W32
  /-- R419: TASK_STAT.LASTERR. -/
  taskErr : Code
  /-- R419: TASK_STAT.WAITQ. -/
  waitQ : Bool
  /-- R419: TASK_STAT.REJ (W1C). -/
  taskRej : Bool
  /-- R411: the fetch of the descriptor at HEAD, and what came back. -/
  descRead : Option (Option (Code × List Byte))
  /-- R415: tasks whose end record is being written. -/
  records : List RunTask
  /-- R418: completion events that wait for room in the event queue. -/
  evLate : List Event
  /-- R412: the descriptor that has passed its checks and waits for delivery. -/
  checked : Option TaskDesc
  /-- R415: tasks delivered and not closed. -/
  tasks : List RunTask
  /-- R444: abort reports on their way to this hub: partition, number of the task, fault. -/
  reports : List (Fin 12 × Nat × Code)
  /-- R413: number of the next task this hub takes from its ring: tells its tasks apart. -/
  nextTask : Nat
  /-- R325: personality loader. -/
  loader : Loader
  /-- R356: PERS_HUBF.ST. -/
  hubf : PersState
  /-- R349: measurement of the hub fabric: CONTENT. -/
  content : BitVec 384
  /-- R349: measurement of the hub fabric: SHA-384 of AKEY. -/
  akey : BitVec 384
  /-- R336: configuration memory of the pad-ring fabric: frames by column*256 + frame. -/
  fabric : Sparse (List Byte)
  /-- R359: flip-flops of the pad-ring fabric that hold 1, rising (cleared). -/
  flops : List Nat
  /-- R344: claims recorded for the hub: CLASS, SCOPE, INDEX, FEATURE. -/
  hubClaims : List (Byte × Nat × Nat × BitVec 16)
  /-- R438: SEC_CSTAT.STATE. -/
  cmdStat : BitVec 2
  /-- R438: SEC_CSTAT.CODE. -/
  cmdCode : Code
  /-- R438: SEC_ARG0: RCNT, RBASE. -/
  arg0 : W32
  /-- R438: SEC_ARG1.PMASK. -/
  arg1 : BitVec 12
  /-- R438: SEC_ARG2. -/
  arg2 : W32
  /-- R438: SEC_ARG3. -/
  arg3 : BitVec 24
  /-- R438: SEC_NONCE. -/
  nonce : Vector W32 8
  /-- R478: TIME_NOW_HI as latched by this hub. -/
  nowHi : W32
  /-- R258: alias writes, and requests behind them, held at the hub, oldest first. -/
  aliases : List HubReq
  /-- R402: LINK_TMO.US. -/
  tmo : BitVec 16
  /-- R402: LINK_CERTV.VALID. -/
  certv : Bool
  /-- R402: LINK_DAH. -/
  dah : Vector W32 12
  /-- R376: the last stagger slot in which this hub enabled a group. -/
  lastSlot : Option Nat
  /-- R469: blk_alert_n is asserted. -/
  alert : Bool
  /-- R483: IEEE 1500 wrapper of the hub die. -/
  wrap : Wrapper
  /-- R485: PROBESEL. -/
  probe : BitVec 256
deriving DecidableEq, Repr

/-- Hub at reset. -/
def Hub.reset : Hub where
  gsems := []
  gctrs := []
  gown := Vector.replicate 32 0
  subQ := []
  semStat := 0
  semErr := 0
  log := []
  logWr := 0
  logRd := 0
  logThr := 0x1000
  logLost := 0
  lostNext := false
  thrSent := false
  evq := []
  evSeq := 1
  evMask := 0
  evPend := 0
  evHeld := []
  outbox := [.event { kind := 5, code := 0, part := 0xFF, lop := 4, coal := false, arg := 0, time := 0, seq := 0 }]
  portUp := true
  busy := none
  tagsOut := []
  bellWaits := []
  ringLo := 4
  stagedLo := 4
  ringHi := 0
  head := 0
  tail := 0
  taskErr := 0
  waitQ := false
  taskRej := false
  descRead := none
  records := []
  evLate := []
  checked := none
  tasks := []
  reports := []
  nextTask := 0
  loader := Loader.idle
  hubf := .none
  content := 0
  akey := 0
  fabric := []
  flops := []
  hubClaims := []
  cmdStat := 0
  cmdCode := 0
  arg0 := 0
  arg1 := 0
  arg2 := 0
  arg3 := 0
  nonce := Vector.replicate 8 0
  nowHi := 0
  aliases := []
  tmo := 0x03E8
  certv := false
  dah := Vector.replicate 12 0
  lastSlot := none
  alert := false
  wrap := { wir := 0, status := 0, data := 0, tested := false }
  probe := 0

/-- The states of a link (R375). -/
inductive LinkState where
  | idle
  | train
  | auth
  | active
  | down
  | quar
  | disabled
deriving DecidableEq, Repr

/-- A packet in a link's egress queue (R382): its virtual channel, its 24 B header, its data. -/
structure OutPacket where
  vc   : BitVec 2
  hdr  : BitVec 192
  data : List Byte
deriving DecidableEq, Repr

/-- A packet that waits at its source for room in a link's egress queue (R382): its header, without TAG where it is a request
of this block, its data, its source; the request it carries (who waits, is it a read, its length); and, for a packet that a
link brought and that still fills its buffer, that link with the credits it takes (R380); and since when it waits. -/
structure Waiting where
  hdr   : BitVec 192
  data  : List Byte
  src   : Source
  req   : Option (Requester × Bool × Nat)
  back  : Option (Fin 16 × Nat × Nat)
  since : W64
deriving DecidableEq, Repr

/-- A remote request that waits for its response (R386). -/
structure Outst where
  tag   : BitVec 16
  who   : Requester
  read  : Bool
  len   : Nat
  since : W64
deriving DecidableEq, Repr

/-- A Dutraix link (R372). -/
structure Link where
  /-- R402: LINK_MODE.PHY (personality). -/
  phy : BitVec 2
  /-- R375: LINK_STAT.STATE. -/
  state : LinkState
  /-- R402: LINK_STAT.RETRY (W1C). -/
  fRetry : Bool
  /-- R402: LINK_STAT.AUTHF (W1C). -/
  fAuth : Bool
  /-- R402: LINK_STAT.DOWN (W1C). -/
  fDown : Bool
  /-- R402: LINK_STAT.REV. -/
  rev : Bool
  /-- R402: LINK_CTL.DISABLE. -/
  disable : Bool
  /-- R402: LINK_PEER.EXPECT. -/
  expect : Byte
  /-- R402: LINK_PEER.SEEN. -/
  seen : Byte
  /-- R402: LINK_TEN.BOUND. -/
  bound : Bool
  /-- R402: LINK_TEN.TENANT. -/
  tenant : BitVec 4
  /-- R402: LINK_RETRY.COUNT (RC). -/
  retry : W32
  /-- R402: LINK_BAD.COUNT (RC). -/
  badCnt : W32
  /-- R402: LINK_TX (personality). -/
  tx : BitVec 24
  /-- R344: the link is claimed. -/
  claimed : Bool
  /-- R376: lane groups enabled since IDLE, 0 to 2. -/
  groups : Nat
  /-- R375: block timebase at the entry to the state, or of the own HELLO in AUTH. -/
  since : W64
  /-- R375: times of the latest entries to DOWN. -/
  downs : List W64
  /-- R389: own HELLO sent in this AUTH, 480 B. -/
  helloTx : List Byte
  /-- R389: partner HELLO received in this AUTH, 480 B. -/
  helloRx : List Byte
  /-- R389: ephemeral private key of this AUTH. -/
  eph : Nat
  /-- R389: the partner FINISH has verified. -/
  finOk : Bool
  /-- R391: key of the sending direction (none before AUTH). -/
  txKey : BitVec 256
  /-- R391: key of the receiving direction (none before AUTH). -/
  rxKey : BitVec 256
  /-- R391: packet counter of the sending direction. -/
  txCtr : W64
  /-- R391: packet counter of the receiving direction. -/
  rxCtr : W64
  /-- R378: SEQ of the next data flit sent. -/
  txSeq : BitVec 12
  /-- R378: SEQ of the next data flit expected. -/
  rxSeq : BitVec 12
  /-- R383: replay buffer, up to 512 data flits, oldest first. -/
  replay : List (BitVec 12 × List Byte)
  /-- R383: flits to send again after a NAK. -/
  resend : List (BitVec 12 × List Byte)
  /-- R383: a NAK is to be sent. -/
  nakOwed : Bool
  /-- R383: a discard episode is open: no further NAK until the next good flit. -/
  nakOpen : Bool
  /-- R383: data flits received since the last acknowledgement. -/
  ackOwed : Nat
  /-- R383: block timebase when the first of those flits was received. -/
  ackSince : W64
  /-- R384: NAKs received in a row for one SEQ. -/
  nakRun : Nat
  /-- R384: the SEQ of those NAKs. -/
  nakSeq : BitVec 12
  /-- R379: send credits of 64 B: ordered, READ half of unordered, control, sync, response half of unordered. -/
  cred : Vector Nat 5
  /-- R380: credits to return: ordered, READ half of unordered, control, sync, response half. -/
  owed : Vector Nat 5
  /-- R380: credits of packets that wait to be forwarded and have not left the buffer. -/
  held : Vector Nat 5
  /-- R382: egress queue, in order. -/
  egress : List OutPacket
  /-- R382: what waits at its source for room in the egress queue, oldest first. -/
  waits : List Waiting
  /-- R378: bytes of a packet that continues in the next flit of its VC. -/
  txBody : List (BitVec 2 × List Byte)
  /-- R378: packet bytes received so far, by VC. -/
  rxBody : Vector (List Byte) 4
  /-- R391: key and counter of the packet being received, by VC. -/
  rxAt : Vector (BitVec 256 × W64) 4
  /-- R386: remote requests without a response. -/
  outst : List Outst
  /-- R385: next TAG. -/
  nextTag : BitVec 16
  /-- R386: tags freed by a timeout whose response may still arrive. -/
  late : List (BitVec 16)
  /-- R397: ordered writes of the partner accepted and not answered: TAG and SRC. -/
  inReqs : List (BitVec 16 × Byte)
  /-- R399: block timebase of the last flit received. -/
  lastRx : W64
  /-- R398: since when traffic waits for credits and none has come. -/
  credWait : Option W64
  /-- R399: block timebase of the last HEARTBEAT sent. -/
  lastBeat : W64
  /-- R381: which of ordered and unordered is next. -/
  altVc : Bool
  /-- R381: flits put on the link, oldest first. -/
  txDone : List (List Byte)
deriving DecidableEq, Repr

/-- Link at reset. -/
def Link.reset : Link where
  phy := 0
  state := .idle
  fRetry := false
  fAuth := false
  fDown := false
  rev := false
  disable := false
  expect := 0xFF
  seen := 0xFF
  bound := false
  tenant := 0
  retry := 0
  badCnt := 0
  tx := 0x1B4100
  claimed := false
  groups := 0
  since := 0
  downs := []
  helloTx := []
  helloRx := []
  eph := 0
  finOk := false
  txKey := 0
  rxKey := 0
  txCtr := 0
  rxCtr := 0
  txSeq := 0
  rxSeq := 0
  replay := []
  resend := []
  nakOwed := false
  nakOpen := false
  ackOwed := 0
  ackSince := 0
  nakRun := 0
  nakSeq := 0
  cred := #v[4096, 1024, 256, 256, 1024]
  owed := Vector.replicate 5 0
  held := Vector.replicate 5 0
  egress := []
  waits := []
  txBody := []
  rxBody := Vector.replicate 4 []
  rxAt := Vector.replicate 4 (0, 0)
  outst := []
  nextTag := 0
  late := []
  inReqs := []
  lastRx := 0
  credWait := none
  lastBeat := 0
  altVc := false
  txDone := []

/-- A stack port (R305). -/
structure Stack where
  /-- R322: STAT_SP_CTL.RATE (personality). -/
  rate : BitVec 2
  /-- R322: STAT_SP_STAT.UE (W1C). -/
  ue : Bool
  /-- R322: STAT_SP_STAT.CE (W1C). -/
  ce : Bool
  /-- R322: STAT_SP_STAT.HOLD. -/
  hold : Bool
  /-- R322: STAT_SP_STAT.THROT. -/
  throt : Bool
  /-- R322: STAT_SP_STAT.UP (0 at reset, 1 once trained in the power-up that ends cold reset). -/
  up : Bool
  /-- R307: the port retrains, and accesses wait. -/
  training : Bool
  /-- R322: STAT_SP_CECNT (RC). -/
  ceCnt : W32
  /-- R322: STAT_SP_UEADDR and _HI. -/
  ueAddr : BitVec 36
  /-- R322: STAT_SP_SCRUB.HOURS. -/
  hours : BitVec 16
  /-- R322: STAT_SP_TEMP.T. -/
  temp : Byte
  /-- R319: 64 B units found uncorrectable and not written since. -/
  badUnits : List (Nat)
  /-- R310: requests of the read class. -/
  qRead : List MemReq
  /-- R310: requests of the write class. -/
  qWrite : List MemReq
  /-- R310: requests of the remote class. -/
  qRemote : List MemReq
  /-- R321: refresh commands issued. -/
  refreshes : Nat
  /-- R306: refresh management commands issued. -/
  rfms : Nat
deriving DecidableEq, Repr

/-- Stack at reset. -/
def Stack.reset : Stack where
  rate := 0
  ue := false
  ce := false
  hold := false
  throt := false
  up := true
  training := false
  ceCnt := 0
  ueAddr := 0
  hours := 0x18
  temp := 0
  badUnits := []
  qRead := []
  qWrite := []
  qRemote := []
  refreshes := 0
  rfms := 0

/-- A 1 GiB region of a stack (R311, R438). -/
structure Region where
  /-- R438: SEC_REG.TEN. -/
  ten : BitVec 4
  /-- R438: SEC_REG.HOST. -/
  host : Bool
  /-- R438: SEC_REG.FILL. -/
  fill : Bool
  /-- R311: number of the key pair in the port (the keys cannot be read). -/
  keyGen : Nat
  /-- R316: the region has been zero-filled since its last key: an unlisted byte reads 0. -/
  zero : Bool
  /-- R315: a key swap waits for accepted accesses; true when it asks for zero-fill. -/
  swap : Option Bool
deriving DecidableEq, Repr

/-- Region at reset. -/
def Region.reset : Region where
  ten := 0
  host := true
  fill := false
  keyGen := 0
  zero := false
  swap := none

/-- The grades (R2). -/
inductive Grade where
  | u12
  | u12s
  | u10
deriving DecidableEq, Repr

/-- What the block as a whole is doing: unpowered or in cold reset, stopped in power-up, or ready (R471). -/
inductive Phase where
  | off
  | stuck
  | ready
deriving DecidableEq, Repr

/-- The capture engine (R453, R454, R461). -/
inductive CapState where
  | idle
  | quiescing
  | writing
  | resuming
deriving DecidableEq, Repr

/-- The completion of a register access that did not come as a control-port message (R12): its
status and the data a read returned. -/
structure Answer where
  status : Code
  data   : W32
deriving DecidableEq, Repr

/-- A security command that waits for the engine or for a port-local operation (R409, R426). -/
structure SecCmd where
  hub : Fin 4
  v   : W32
deriving DecidableEq, Repr

/-- The fuses of a bank that life-cycle transitions burn (R421, R433). -/
structure Fuses where
  /-- R433: PROV. -/
  prov : Bool
  /-- R433: SVC0. -/
  svc0 : Bool
  /-- R433: SCRAP. -/
  scrap : Bool
  /-- R433: RET. -/
  ret : BitVec 16
  /-- R433: SVC. -/
  svc : BitVec 16
  /-- R421: IDSEED. -/
  idSeed : BitVec 256
  /-- R421: AUTHH. -/
  authH : BitVec 384
deriving DecidableEq, Repr

/-- Fuses at reset. -/
def Fuses.reset : Fuses where
  prov := false
  svc0 := false
  scrap := false
  ret := 0
  svc := 0
  idSeed := 0
  authH := 0

/-- What a running security command waits for (R354, R424, R430, R431): the border drain of its partitions, the rotation
of its regions, the write of its report. -/
inductive SecPhase where
  | drain
  | rotate
  | report
deriving DecidableEq, Repr

/-- The security command that runs (R426): since when, its phase, the regions it rotates, and how the write of its report has
ended. -/
structure SecRun where
  cmd   : SecCmd
  since : W64
  phase : SecPhase
  regs  : List (Fin 1536)
  ended : Option Code
deriving DecidableEq, Repr

/-- Why the model itself stops. No command of the block ends in a fault: what the manual calls a
fault (an abort, an error status, a log entry) is an effect on State. The one constructor is for a
state that no run reaches. -/
inductive Fault where
  /-- Raised by nobody in a state that a run reaches: kept so that the type is inhabited. Safe. -/
  | unreachable
deriving DecidableEq, Repr

/-- Why a command has no meaning. -/
inductive Refusal where
  /-- Raised by the dispatch for a command that is not modelled yet. Safe: nothing is claimed of it. -/
  | notModelled (mnemonic : String)
deriving DecidableEq, Repr

/-- The Uluson block. -/
structure State where
  /-- R1: commands that wait, first in, first out (empty). -/
  pending : List Instr
  /-- R16: partitions. -/
  parts : Vector Part 12
  /-- R17: hubs. -/
  hubs : Vector Hub 4
  /-- R372: Dutraix links. -/
  links : Vector Link 16
  /-- R305: stack ports. -/
  stackPorts : Vector Stack 24
  /-- R311: HBM regions. -/
  regions : Vector Region 1536
  /-- R309: HBM bytes written since their region took its key, by linear address; an unlisted byte reads as a free value, or 0 in a zero-filled region. -/
  hbm : Memory
  /-- R466: timebase of each die: 0 to 23 compute, 24 + h hub. -/
  dieTime : Vector W64 28
  /-- R466: the next MCLK cycle advances by 3 (by 2 first). -/
  half : Bool
  /-- R471: unpowered, in cold reset, stuck in power-up, or TIME_STAT.READY. -/
  phase : Phase
  /-- R469: pwr_ok. -/
  pwrOk : Bool
  /-- R469: blk_rst_n. -/
  rstN : Bool
  /-- R478: TIME_STAT.WARM. -/
  warm : Bool
  /-- R478: TIME_RAMP.MAX. -/
  rampMax : BitVec 2
  /-- R478: TIME_PLL.LOCK (all PLLs locked). -/
  pll : BitVec 28
  /-- R24: the straps of the 28 dies as sampled at the last rising edge of blk_rst_n. -/
  straps : Straps
  /-- R20: mesh bridges of the compute dies that are up, their valid signals asserted, by die and side. -/
  bridges : Bridges
  /-- R20: mesh bridges of the hubs that are up, by hub and attached row. -/
  hubBridges : HubBridges
  /-- R2: grade fuses. -/
  grade : Grade
  /-- R499: BLK_CAPS.PLIVE, from the grade fuses. -/
  plive : BitVec 12
  /-- R498: BLK_ID.BUILD. -/
  build : BitVec 16
  /-- R421: the fuses that LC_ADVANCE burns. -/
  fuses : Fuses
  /-- R421: the redundant copy of those fuses. -/
  fuseCopy : Fuses
  /-- R423: temporary seed drawn in BLANK (a random draw). -/
  tmpSeed : BitVec 256
  /-- R438: SEC_IDPUB (zero in BLANK). -/
  idPub : BitVec 768
  /-- R438: SEC_KAPUB (derived from a random draw). -/
  kaPub : BitVec 768
  /-- R438: SEC_AUTH. -/
  auth : Vector W32 48
  /-- R426: security commands that wait. -/
  secQ : List SecCmd
  /-- R402: LINK_DEVNUM.NUM, the same in all hubs. -/
  devNum : Byte
  /-- R402: LINK_MINEP, the same in all hubs. -/
  minEp : W64
  /-- R402: LINK_CERT, the same in all hubs. -/
  cert : Vector W32 64
  /-- R402: LINK_RT, the same in all hubs. -/
  routes : Vector (BitVec 10) 256
  /-- R461: LOG_CAP_OFF.OFF. -/
  capOff : BitVec 16
  /-- R461: LOG_CAP_STAT.CODE. -/
  capCode : Code
  /-- R461: LOG_CAP_STAT.STATE. -/
  capState : CapState
  /-- R453: partitions of the running capture. -/
  capMask : BitVec 12
  /-- R454: block timebase at the start of the quiesce. -/
  capSince : W64
  /-- R454: block timebase at the start of the hold. -/
  capHeld : W64
  /-- R409: captures that wait for the operations before them, in order of request. -/
  capWait : List (Fin 4 × W32)
  /-- R426: the security command that runs. -/
  secNow : Option SecRun
  /-- R479: instruction selected in each TAP controller (IDCODE). -/
  tap : Vector Byte 28
  /-- R422: random values drawn from the generator. -/
  drbg : Nat
  /-- R1: free values taken so far: indexes Config.freeBits. -/
  free : Nat
  /-- R12: completion of the latest register access made by a unit of the block. -/
  answer : Answer
deriving DecidableEq, Repr

/-- The machine right after reset: cold reset has completed (R471), nothing has been commanded. -/
def State.reset : State where
  pending := []
  parts := Vector.replicate 12 Part.reset
  hubs := Vector.replicate 4 Hub.reset
  links := Vector.replicate 16 Link.reset
  stackPorts := Vector.replicate 24 Stack.reset
  regions := Vector.replicate 1536 Region.reset
  hbm := []
  dieTime := Vector.replicate 28 0
  half := false
  phase := .ready
  pwrOk := true
  rstN := true
  warm := false
  rampMax := 0b10
  pll := BitVec.allOnes 28
  straps := rightStraps
  bridges := bridgesUp rightStraps
  hubBridges := hubBridgesUp rightStraps
  grade := .u12
  plive := 0xFFF
  build := 1
  fuses := Fuses.reset
  fuseCopy := Fuses.reset
  tmpSeed := 0
  idPub := 0
  kaPub := 0
  auth := Vector.replicate 48 0
  secQ := []
  devNum := 0xFF
  minEp := 0
  cert := Vector.replicate 64 0
  routes := Vector.replicate 256 0
  capOff := 0
  capCode := 0
  capState := .idle
  capMask := 0
  capSince := 0
  capHeld := 0
  capWait := []
  secNow := none
  tap := Vector.replicate 28 1
  drbg := 0
  free := 0
  answer := { status := 0, data := 0 }

end Sys2Proof.Machine
end

