-- ==== Sys2Proof/Machine/Heads.lean ====
section
/-! DEFINITION. What stands at the head of each unit (R192, R193, R219, R225, R262, R270, R276): sync
slots, bundles as the sequencer reads them from its bundle cache, the head of an engine context, the
wait word that holds a channel; and the waiter records of a dump, taken when a task aborts (R262). -/

namespace Sys2Proof.Machine

/-- An engine slot or a sync slot, as its bits stand in the bundle. -/
abbrev Slot := BitVec 96

/-- The opcode of an engine slot. -/
def slotOp (w : Slot) : Nat := fld w 0 7

/-- Number of an engine (R262). -/
def engNo : Engine → Nat
  | .load => 0
  | .matrix => 1
  | .vector => 2
  | .store => 3

/-- Number of a context. -/
def duetNo : Duet → Nat
  | .a => 0
  | .b => 1

/-- Position of a context among the engine contexts of a core. -/
def ctxNo (e : Engine) (x : Duet) : Nat := 2 * engNo e + duetNo x

/-- A context of a core. -/
def Core.ctx (c : Core) (e : Engine) (x : Duet) : EngCtx := vget EngCtx.reset c.eng (ctxNo e x)

/-- A register A. -/
def EngCtx.ra (c : EngCtx) (n : Nat) : W32 := vget 0 c.a n

/-- A step stride. -/
def EngCtx.rs (c : EngCtx) (n : Nat) : W32 := vget 0 c.as n

/-- A batch stride. -/
def EngCtx.rb (c : EngCtx) (n : Nat) : W32 := vget 0 c.ab n

/-- A loop register. -/
def EngCtx.rl (c : EngCtx) (n : Nat) : Nat := (vget 0 c.lr n).toNat

/-- Sync slot: OP (R219). -/
def syncOp (w : Slot) : Nat := fld w 0 3

/-- ENG. -/
def syncEng (w : Slot) : Nat := fld w 3 3

/-- SPACE. -/
def syncSpace (w : Slot) : Nat := fld w 6 2

/-- HUB. -/
def syncHub (w : Slot) : Nat := fld w 8 2

/-- ONE. -/
def syncOne (w : Slot) : Bool := bit w 10

/-- IDX. -/
def syncIdx (w : Slot) : Nat := fld w 11 12

/-- VSRC. -/
def syncVsrc (w : Slot) : Bool := bit w 23

/-- VAL. -/
def syncVal (w : Slot) : Nat := fld w 24 8

/-- WAIT_GE, WAIT_SUB or WAIT_REACH. -/
def syncIsWait (w : Slot) : Bool := decide (syncOp w = 0 ∨ syncOp w = 3 ∨ syncOp w = 5)

/-- The next entry of a context: the innermost loop replays what it has recorded, and records what
the loop around it, or the queue, gives next (R225). -/
def peekFrom : List Frame → List Entry → Option Entry
  | [], q => q.head?
  | f :: fs, q => match f.body[f.pos]? with
    | some e => some e
    | none => peekFrom fs q

/-- The head entry of a context. -/
def EngCtx.head (c : EngCtx) : Option Entry := peekFrom c.loops c.queue

/-- A bundle as fetched (R192, R193). -/
structure Bundle where
  len    : Nat
  hdr    : W32
  scalar : Option W32
  vector : Option (BitVec 64)
  matrix : Option (BitVec 96)
  load   : Option (BitVec 64)
  store  : Option (BitVec 64)
  sync   : Option W32
deriving DecidableEq, Repr

/-- DUET. -/
def Bundle.duet (b : Bundle) : Duet := if bit b.hdr 6 then .b else .a

/-- EOG. -/
def Bundle.eog (b : Bundle) : Bool := bit b.hdr 7

/-- SKIP. -/
def Bundle.skip (b : Bundle) : BitVec 16 := BitVec.ofNat 16 (fld b.hdr 16 16)

/-- Bytes of the slots that a header names (R193). -/
def slotBytes (hdr : W32) : Nat :=
  (if bit hdr 0 then 4 else 0) + (if bit hdr 1 then 8 else 0) + (if bit hdr 2 then 12 else 0)
    + (if bit hdr 3 then 8 else 0) + (if bit hdr 4 then 8 else 0) + (if bit hdr 5 then 4 else 0)

/-- The bundle cache holds n bytes at an offset. -/
def Part.cached (q : Part) (off : Nat) : Nat → Option (List Byte)
  | 0 => some []
  | n + 1 => match q.bcache.find? fun c => c.1 == off with
    | none => none
    | some c => (Part.cached q (off + 1) n).map fun t => c.2 :: t

/-- What the fetch of the next bundle gives (R193, R194). -/
inductive Fetch where
  | miss
  | fault (code : Code)
  | ok (b : Bundle)
deriving DecidableEq, Repr

/-- Split the slots of a bundle (R193). -/
def parseSlots (hdr : W32) (d : List Byte) : Bundle :=
  let p0 := if bit hdr 0 then 4 else 0
  let p1 := p0 + if bit hdr 1 then 8 else 0
  let p2 := p1 + if bit hdr 2 then 12 else 0
  let p3 := p2 + if bit hdr 3 then 8 else 0
  let p4 := p3 + if bit hdr 4 then 8 else 0
  let at' := fun (o n : Nat) => ofBytes ((d.drop o).take n)
  { len := 4 + d.length, hdr := hdr,
    scalar := if bit hdr 0 then some (BitVec.ofNat 32 (at' 0 4)) else none,
    vector := if bit hdr 1 then some (BitVec.ofNat 64 (at' p0 8)) else none,
    matrix := if bit hdr 2 then some (BitVec.ofNat 96 (at' p1 12)) else none,
    load := if bit hdr 3 then some (BitVec.ofNat 64 (at' p2 8)) else none,
    store := if bit hdr 4 then some (BitVec.ofNat 64 (at' p3 8)) else none,
    sync := if bit hdr 5 then some (BitVec.ofNat 32 (at' p4 4)) else none }

/-- Fetch the bundle at `next` (R192, R193, R222: the lowest code of the checks that fail). -/
def Part.fetch (q : Part) : Fetch :=
  let off := q.next.toNat
  if q.codeSize.toNat < off + 4 then .fault 0x490B
  else
    match q.cached off 4 with
    | none => .miss
    | some h =>
      let hdr : W32 := BitVec.ofNat 32 (ofBytes h)
      if fld hdr 8 8 ≠ 0 then .fault 0x4901
      else if q.codeSize.toNat < off + 4 + slotBytes hdr then .fault 0x490B
      else
        match q.cached (off + 4) (slotBytes hdr) with
        | none => .miss
        | some d => .ok (parseSlots hdr d)

/-- A sync slot as an entry's word. -/
def syncSlot (w : W32) : Slot := BitVec.ofNat 96 w.toNat

/-- The faults of a sync slot in rising order (R219, R222): 0 for none. -/
def syncCheck (w : Slot) : Code :=
  let op := syncOp w
  let sp := syncSpace w
  let isCtr := decide (op = 4 ∨ op = 5)
  let lim := if sp = 0 then (if isCtr then 1024 else 4096) else if sp = 1 then (if isCtr then 512 else 2048) else 16
  if op ≤ 5 ∧ sp ≤ 2 ∧ lim ≤ syncIdx w then 0x3902
  else if 5 < op then 0x4902
  else if (sp ≠ 1 ∧ syncHub w ≠ 0) ∨ (syncVsrc w = true ∧ (if syncEng w = 0 then 32 else 16) ≤ syncVal w) then 0x4903
  else if 4 < syncEng w ∨ sp = 3 ∨ (sp = 2 ∧ (op ≠ 5 ∨ syncEng w = 0)) then 0x4904
  else 0

/-- A scalar register; S0 reads 0 (R198). -/
def Part.s (q : Part) (n : Nat) : W64 := if n = 0 then 0 else vget 0 q.sreg n

/-- Amount or target of a sync slot of the sequencer (R219). -/
def Part.syncAmount (q : Part) (w : Slot) : Nat := if syncVsrc w then (q.s (syncVal w)).toNat else syncVal w

/-- The wait that holds the next bundle (R220): its sync slot, when it is a wait of the sequencer that
has not been consumed; once END has issued no bundle is next (R204). -/
def Part.seqWait (q : Part) : Option Slot :=
  match q.fetch with
  | .ok b => match b.sync with
    | some w =>
      let w := syncSlot w
      if syncEng w = 0 ∧ syncIsWait w = true ∧ syncCheck w = 0 ∧ q.waitDone = false ∧ q.seqState ≠ 2 then some w else none
    | none => none
  | _ => none

/-- Bale: RQOP. -/
def baleRqop (b : BitVec 512) : Nat := fld b 24 3

/-- The wait word j of a bale (R270). -/
def baleWait (b : BitVec 512) (j : Nat) : BitVec 64 := BitVec.ofNat 64 (fld b (256 + 64 * j) 64)

/-- The wait word that holds a channel (R276 step 3): 0 for W0, 1 for W1. -/
def Chan.waitWord (k : Chan) : Option Nat :=
  match k.cur with
  | none => none
  | some u =>
    if (baleRqop u.bale = 1 ∨ baleRqop u.bale = 2) ∧ u.popOk = false then none
    else if bit (baleWait u.bale 0) 0 ∧ u.w0 = false then some 0
    else if bit (baleWait u.bale 1) 0 ∧ u.w1 = false then some 1
    else none

/-- A unit's head wait (R219, R262, R270): the operation, the word, the amount or target, and since when. -/
structure WaitInfo where
  op    : Nat
  space : Nat
  hub   : Nat
  idx   : Nat
  value : Nat
  since : W64
deriving DecidableEq, Repr

/-- A sync slot that waits, as WaitInfo. -/
def slotWait (w : Slot) (v : Nat) (since : W64) : WaitInfo :=
  { op := syncOp w, space := syncSpace w, hub := syncHub w, idx := syncIdx w, value := v, since := since }

/-- Amount or target of a sync slot in an engine queue (R219). -/
def EngCtx.syncAmount (k : EngCtx) (w : Slot) : Nat :=
  if syncVsrc w then (k.ra (syncVal w % 16)).toNat else syncVal w

/-- The live cores of a partition, those not fenced, in order (R449). -/
def Part.live (q : Part) : List (Fin 32) := (List.finRange 32).filter fun l => !q.cores[l].fenced

/-- The sequencer's head wait (R220). -/
def Part.seqInfo (now : W64) (q : Part) : Option WaitInfo :=
  q.seqWait.map fun w => slotWait w (q.syncAmount w) (q.waitSince.getD now)

/-- The head wait of an engine context (R219). -/
def EngCtx.waitInfo (k : EngCtx) : Option WaitInfo :=
  match k.head with
  | some en => if en.sync && syncIsWait en.word then some (slotWait en.word (k.syncAmount en.word) k.since) else none
  | none => none

/-- A channel's head wait word (R276 step 3). -/
def Chan.waitInfo (k : Chan) : Option WaitInfo :=
  match k.cur, k.waitWord with
  | some u, some j =>
    let w := baleWait u.bale j
    some { op := fld w 1 3, space := fld w 4 2, hub := fld w 6 2, idx := fld w 8 12, value := fld w 32 32, since := u.since }
  | _, _ => none

/-- Bale: RQ. -/
def baleRq (b : BitVec 512) : Nat := fld b 18 6

/-- A channel's relay pop that waits (R276 step 2): its queue, and since when. -/
def Chan.popWait (k : Chan) : Option (Nat × W64) :=
  match k.cur with
  | some u => if (baleRqop u.bale = 1 ∨ baleRqop u.bale = 2) ∧ u.popOk = false then some (baleRq u.bale, u.since) else none
  | none => none

/-- A waiter record (R262). -/
def WaitInfo.image (i : WaitInfo) : BitVec 128 :=
  BitVec.ofNat 128 (1 + i.op * 2 + i.space * 2 ^ 4 + i.hub * 2 ^ 6 + i.idx % 4096 * 2 ^ 16
    + i.value % 2 ^ 32 * 2 ^ 32 + i.since.toNat * 2 ^ 64)

/-- The record of a channel. -/
def Chan.record (k : Chan) : Option (BitVec 128) :=
  match k.waitInfo, k.popWait with
  | some i, _ => some i.image
  | none, some (n, t) =>
    some (WaitInfo.image { op := 6, space := 0, hub := 0, idx := n, value := 0, since := t })
  | none, none => none

/-- The waiter records of a partition that are not empty, by record number (R262). -/
def Part.waiters (now : W64) (q : Part) : List (Nat × BitVec 128) :=
  let num : Nat → Option (BitVec 128) → List (Nat × BitVec 128) := fun n r => match r with
    | some v => [(n, v)]
    | none => []
  num 0 ((q.seqInfo now).map WaitInfo.image)
    ++ (q.live.flatMap fun l => (List.finRange 8).flatMap fun i =>
         num (1 + 8 * l.val + i.val) (q.cores[l].eng[i].waitInfo.map WaitInfo.image))
    ++ (q.live.flatMap fun l => (List.finRange 4).flatMap fun n => num (257 + 4 * l.val + n.val) q.cores[l].chans[n].record)
    ++ ((List.finRange 8).flatMap fun t => num (385 + t.val) q.trunk[t].record)

/-- The vector state of a context. -/
def Core.vec (c : Core) (x : Duet) : VCtx := vget VCtx.reset c.vctx (duetNo x)

/-- Apply a change to the vector state of a context. -/
def Core.modVec (x : Duet) (f : VCtx → VCtx) (c : Core) : Core :=
  { c with vctx := vset c.vctx (duetNo x) (f (c.vec x)) }

/-- The valid bit of a row. -/
def Core.rowValid (c : Core) (r : Nat) : Bool := (vget 0 c.valid (r / 32)).getLsbD (r % 32)

/-- Set or clear the valid bit of a row. -/
def Core.setRow (c : Core) (r : Nat) (v : Bool) : Core :=
  let w := vget 0 c.valid (r / 32)
  let m := BitVec.ofNat 32 (2 ^ (r % 32))
  { c with valid := vset c.valid (r / 32) (if v then w ||| m else w &&& ~~~m) }

/-- Bytes of the scratchpad. -/
def Core.bytes (c : Core) (a n : Nat) : List Byte := memRead (fun _ => 0) c.spad a n

/-- A stage row by its number. -/
def Core.stageRow (c : Core) (n : Nat) : Vector (BitVec 16) 128 :=
  vget (Vector.replicate 128 0) (vget (Vector.replicate 128 (Vector.replicate 128 0)) c.stages (n / 128)) (n % 128)

/-- Set a stage row by its number. -/
def Core.putStageRow (c : Core) (n : Nat) (v : Vector (BitVec 16) 128) : Core :=
  let st := vget (Vector.replicate 128 (Vector.replicate 128 0)) c.stages (n / 128)
  { c with stages := vset c.stages (n / 128) (vset st (n % 128) v) }

end Sys2Proof.Machine
end

