-- ==== Sys2Proof/Machine/Ops.lean ====
section
/-! DEFINITION. The operations every command is built from: reaching a unit of the state, the
timebase, free values, the trouble log (R458, R459), events (R416 to R418), the shape of a partition
(R28, R90, R449), and raising a fault (R442, R444). -/

namespace Sys2Proof.Machine

/-- The answer of every command. -/
abbrev Out := Host.Outcome State Fault Refusal

/-- Apply a change to partition p. -/
def State.modPart (p : Fin 12) (f : Part → Part) (s : State) : State :=
  { s with parts := s.parts.set p (f s.parts[p]) }

/-- Apply a change to core l of partition p. -/
def State.modCore (p : Fin 12) (l : Fin 32) (f : Core → Core) (s : State) : State :=
  s.modPart p fun q => { q with cores := q.cores.set l (f q.cores[l]) }

/-- Apply a change to hub h. -/
def State.modHub (h : Fin 4) (f : Hub → Hub) (s : State) : State :=
  { s with hubs := s.hubs.set h (f s.hubs[h]) }

/-- Apply a change to link n. -/
def State.modLink (n : Fin 16) (f : Link → Link) (s : State) : State :=
  { s with links := s.links.set n (f s.links[n]) }

/-- Apply a change to stack port d. -/
def State.modStack (d : Fin 24) (f : Stack → Stack) (s : State) : State :=
  { s with stackPorts := s.stackPorts.set d (f s.stackPorts[d]) }

/-- Apply a change to region r. -/
def State.modRegion (r : Fin 1536) (f : Region → Region) (s : State) : State :=
  { s with regions := s.regions.set r (f s.regions[r]) }

/-- Partition p. -/
def State.part (s : State) (p : Fin 12) : Part := s.parts[p]

/-- Core l of partition p. -/
def State.core (s : State) (p : Fin 12) (l : Fin 32) : Core := s.parts[p].cores[l]

/-- Hub h. -/
def State.hub (s : State) (h : Fin 4) : Hub := s.hubs[h]

/-- The block timebase: hub 0's (R466). -/
def State.now (s : State) : W64 := s.dieTime[24]

/-- Take one free value (log entry 6): draw n. -/
def State.drawn (s : State) : State := { s with free := s.free + 1 }

/-- Lane i of the free value the next draw gives. -/
def State.freeLane (s : State) (i : Nat) : W32 := Config.freeBits s.free i

/-- Record the completion of a register access a unit of the block made (R12). -/
def State.answered (st : Code) (d : W32) (s : State) : State :=
  { s with answer := { status := st, data := d } }

/-- The hub that owns a link (R28). -/
def linkHub (n : Fin 16) : Fin 4 := ⟨n.val / 4, by omega⟩

/-- The core that a unit of partition p with local index l is on: its die (R28). -/
def coreDie (p : Fin 12) (l : Fin 32) : Fin 24 := ⟨2 * p.val + l.val / 16, by omega⟩

/-- The live-core count (R29). -/
def Part.liveCount (q : Part) : Nat := q.live.length

/-- The rank of a core (R449). -/
def Part.rank (q : Part) (l : Fin 32) : Nat := (q.live.filter fun k => decide (k < l)).length

/-- The array width of a partition (R90). -/
def Part.width (q : Part) : Nat := if q.live.any fun l => q.cores[l].bypass.isSome then 120 else 128

/-- FENCE_LIVE.MASK (R452). -/
def Part.liveMask (q : Part) : W32 :=
  BitVec.ofNat 32 ((q.live.map fun l => 2 ^ l.val).sum)

/-- The task identifier of the task a partition runs; 0 for none (R458). -/
def Part.taskId (q : Part) : W64 := match q.task with
  | some t => t.id
  | none => 0

/-- A partition is fused off (R4, R23). -/
def State.fused (s : State) (p : Fin 12) : Bool := !s.plive.getLsbD p.val

/-- GRID2 and the margin fabric are present (R2). -/
def State.full (s : State) : Bool := decide (s.grade ≠ .u12s)

/-- An event message joins a hub's queue (R416, R418), unless its kind is masked. One of kinds 2 to 4 that finds the queue
full sets its bit of EVT_PEND instead; one of kind 1 or 5 then waits for room. -/
def State.sendEvent (h : Fin 4) (kind : Nat) (code : Code) (part : Nat) (lop : Nat) (arg : W64) (s : State) : State :=
  let b := s.hub h
  if 1 ≤ kind ∧ kind ≤ 4 ∧ b.evMask.getLsbD (kind - 1) = true then s
  else if 2 ≤ kind ∧ kind ≤ 4 ∧ 256 ≤ b.evq.length then
    let i := if part < 6 then 0 else if part < 12 then 1 else 2
    s.modHub h fun b => { b with evPend := b.evPend ||| BitVec.ofNat 32 (2 ^ (3 * (kind - 2) + i)) }
  else
    let e : Event := { kind := BitVec.ofNat 16 kind, code := code, part := BitVec.ofNat 8 part,
                       lop := BitVec.ofNat 8 lop, coal := false, arg := arg, time := s.now, seq := b.evSeq }
    s.modHub h fun b =>
      let b := { b with evSeq := b.evSeq + 1, alert := b.alert || !b.portUp }
      if 256 ≤ b.evq.length then { b with evLate := b.evLate ++ [e] } else { b with evq := b.evq ++ [e] }

/-- Unread entries of a log (R460). -/
def Hub.unread (b : Hub) : Nat := (b.logWr - b.logRd).toNat

/-- LOG_THR as it acts (R461). -/
def Hub.threshold (b : Hub) : Nat := min b.logThr.toNat 8192

/-- Write an entry into a hub's log ring (R459): the oldest unread entry of a full ring is overwritten. -/
def Hub.logPut (b : Hub) (e : LogEntry) : Hub :=
  let full := decide (8192 ≤ b.unread)
  let e' := if b.lostNext || full then { e with flags := e.flags ||| 4 } else e
  { b with log := Sparse.put none (b.logWr.toNat % 8192) (some e') b.log, logWr := b.logWr + 1,
           logRd := if full then b.logRd + 1 else b.logRd,
           logLost := if full then satAdd b.logLost 1 else b.logLost, lostNext := false }

/-- Write a trouble-log entry at hub h (R458) with the time of its detection, and send the
log-threshold event when the unread entries reach LOG_THR (R460). -/
def State.logStamp (h : Fin 4) (time : W64) (code : Code) (part core : Nat) (flags : Nat) (arg0 arg1 : W64) (s : State) : State :=
  let e : LogEntry := { time := time, code := code, part := BitVec.ofNat 8 part, core := BitVec.ofNat 8 core,
                        flags := BitVec.ofNat 8 flags, arg0 := arg0, arg1 := arg1 }
  let s := s.modHub h fun b => b.logPut e
  let b := s.hub h
  if 0 < b.threshold ∧ b.threshold ≤ b.unread ∧ b.thrSent = false then
    (s.modHub h fun b => { b with thrSent := true }).sendEvent h 4 0 0xFF 0 0
  else s

/-- Write a trouble-log entry now. -/
def State.logAt (h : Fin 4) (code : Code) (part core : Nat) (flags : Nat) (arg0 arg1 : W64) (s : State) : State :=
  s.logStamp h s.now code part core flags arg0 arg1

/-- An entry of a partition's unit, at its home hub (R458). -/
def State.logPart (p : Fin 12) (code : Code) (arg1 : W64) (s : State) : State :=
  s.logAt (homeHub p) code p.val 0xFF 0 (s.part p).taskId arg1

/-- An entry of a core. -/
def State.logCore (p : Fin 12) (l : Fin 32) (code : Code) (arg1 : W64) (s : State) : State :=
  s.logAt (homeHub p) code p.val l.val 0 (s.part p).taskId arg1

/-- An entry of a hub's own unit. -/
def State.logHub (h : Fin 4) (code : Code) (arg1 : W64) (s : State) : State :=
  s.logAt h code (0xF0 + h.val) 0xFF 0 0 arg1

/-- An entry of the security engine, the fuse controller or the whole block (R458). -/
def State.logBlock (code : Code) (arg1 : W64) (s : State) : State := s.logAt 0 code 0xFF 0xFF 0 0 arg1

/-- What an abort discards in an engine context (R224, R444 step 1). -/
def EngCtx.discard (c : EngCtx) : EngCtx :=
  { c with queue := [], loops := [], skip := 0, waiting := false, since := 0, prog := 0, signals := [] }

/-- What an abort discards in a core at once (R224, R444 steps 1 and 3, R149): the queues, the loop
buffers, the drain queues, the broadcasts on their way, the custom-operation queues, the part of
an outstanding decision, and the writes under way. -/
def Core.discard (c : Core) : Core :=
  { c with eng := c.eng.map EngCtx.discard, drainQ := [], storeQ := [], draining := [], promenade := [],
           copOut := [], copWait := [], copIn := none, copRsp := [], copFlush := true, takes := [], timing := Timing.reset }

/-- A GRID_CSR image is rejected (R94). -/
def csrRejects (v : W32) : Bool :=
  if v.getLsbD 31 then decide (fld v 0 31 ≠ 0) else decide (fld v 23 8 = 0 ∨ fld v 23 8 = 255)

/-- The destination of a write that has not landed becomes indeterminate (R444 step 1): f gives the free values. The bits that a
slot write takes are free, a mask, a stage row or VCNT is free as a whole, and so is a counter set that does not stand reset
(R444 step 3); of a scratchpad row, of the channel scales and of the levels what the write has changed is free, a register with a
check (R39, R94) among the values that pass it. -/
def Core.scatter (f : Nat → W32) (c : Core) : Undo → Core
  | .slot n _ m _ =>
    { c with ocache := c.ocache.set n (Vector.ofFn fun i => (c.ocache[n][i] &&& ~~~m[i]) ||| (f i.val &&& m[i])) }
  | .mask x n _ => c.modVec x fun k => { k with masks := k.masks.set n (f 0 ++ f 1 ++ f 2 ++ f 3) }
  | .vcnt x _ => c.modVec x fun k => { k with vcnt := BitVec.ofNat 8 ((f 0).toNat % 129) }
  | .stageRow n _ => c.putStageRow n.val (Vector.ofFn fun i => (f i.val).setWidth 16)
  | .row n old valid _ =>
    let now := c.bytes (512 * n.val) 512
    let data := (now.zip old).zipIdx.map fun e => if e.1.1 = e.1.2 then e.1.1 else (f e.2).setWidth 8
    ({ c with spad := memWrite c.spad (512 * n.val) data } : Core).setRow n.val
      (if c.rowValid n.val = valid then valid else (f 512).getLsbD 0)
  | .cset n _ =>
    if c.sets[n] = CSet.reset then c
    else { c with sets := c.sets.set n { clip := (f 0).setWidth 24, van := (f 1).setWidth 24, nan := (f 2).setWidth 16,
                                         tot := f 3, max := f 4, min := f 5 } }
  | .csr old => { c with csr := Vector.ofFn fun i : Fin 4096 => if c.csr[i] = old[i] ∨ csrRejects (f i.val) then c.csr[i] else f i.val }
  | .grid old =>
    { c with gridEnt := Vector.ofFn fun i : Fin 128 =>
        let v := Grid.stored (f i.val)
        if c.gridEnt[i] = old[i] ∨ Grid.rejects v then c.gridEnt[i] else v }

/-- What an abort does to the destinations of instructions that have issued and whose writes have not landed (R444 step 1): they
are indeterminate, and so are the tiles that the array may still be writing. -/
def Core.abandon (f : Nat → W32) (c : Core) : Core :=
  let tile := fun t : Nat => Vector.ofFn fun i : Fin 128 => Vector.ofFn fun j : Fin 128 => f (2 ^ 36 + 2 ^ 14 * t + 128 * i.val + j.val)
  let c := c.timing.busy.foldl (fun c b => { c with tiles := vset c.tiles b.1 (tile b.1) }) c
  c.timing.past.zipIdx.foldl (fun c u => c.scatter (fun i => f (2 ^ 14 * u.2 + i)) u.1.what) c

/-- Remove the WAIT_SUB requests that units of partition p have waiting (R256). -/
def dropSubs (p : Fin 12) (l : List SubReq) : List SubReq :=
  l.filter fun r => match r.who with
    | .seq q => decide (q ≠ p)
    | .eng q _ _ _ => decide (q ≠ p)
    | .chan (.core q _ _) => decide (q ≠ p)
    | .chan (.trunk q _) => decide (q ≠ p)

/-- Begin the flush of a channel (R290): no further bale starts, and the time counts. -/
def Chan.beginFlush (now : W64) (c : Chan) : Chan :=
  { c with flush := some now, cur := none, ring := [], pushHeld := [] }

/-- Stop a partition for an abort (R444 steps 1 and 3): fetch, dispatch and issue stop, what was
queued is discarded, the destinations of writes that have not landed are indeterminate, the channels flush, the waiting
WAIT_SUB requests go, and the sequencer's claims are released (R244). -/
def State.stopPart (p : Fin 12) (info : AbortInfo) (s : State) : State :=
  let now := s.now
  let open' := fun k : Nat => fun i : Nat => s.freeLane (2 ^ 40 * k + i)
  let s := s.drawn.modPart p fun q =>
    { q with abort := some info, opening := false, codeReads := [], loads := [], bmiss := false, fetchRet := none, waitDone := false, waitSince := none,
             fbPend := 0, shadows := [], cores := Vector.ofFn fun k : Fin 32 => { (q.cores[k].abandon (open' k.val)).discard with chans := q.cores[k].chans.map (Chan.beginFlush now) },
             trunk := q.trunk.map (Chan.beginFlush now), subQ := dropSubs p q.subQ,
             claims := q.claims.map fun c => if c.owner = 1 then { c with owner := 0, free := true } else c }
  { s with parts := s.parts.map fun q => { q with subQ := dropSubs p q.subQ },
           hubs := s.hubs.map fun b => { b with subQ := dropSubs p b.subQ } }

/-- Raise a fault with the effect Abort in partition p (R444): the first stops the partition and is
reported to the dispatching hub; one that comes while the task is already aborting is logged with
DURING = 1 (R445); with no task there is nothing to abort: it is logged, and a fault event is sent (R417). -/
def State.abortWith (p : Fin 12) (core : Nat) (code : Code) (arg : W64) (s : State) : State :=
  match (s.part p).task with
  | none => (s.logAt (homeHub p) code p.val core 0 0 arg).sendEvent (homeHub p) 2 code p.val 0 0
  | some t =>
    match (s.part p).abort with
    | some _ => s.logAt (homeHub p) code p.val core 2 t.id arg
    | none =>
      (s.stopPart p { code := code, arg := arg, time := s.now, core := BitVec.ofNat 8 core,
                       waits := (s.part p).waiters s.now, dump := none, dumpBad := false }).modHub t.hub fun b =>
        { b with reports := b.reports ++ [(p, t.serial, code)] }

/-- An abort raised by a core. -/
def State.abortCore (p : Fin 12) (l : Fin 32) (code : Code) (arg : W64) (s : State) : State :=
  s.abortWith p l.val code arg

/-- An abort raised by the sequencer or another unit of the partition. -/
def State.abort (p : Fin 12) (code : Code) (arg : W64) (s : State) : State := s.abortWith p 0xFF code arg

/-- An internal state error of a core's unit (R446): the fault of the unit's source nibble, and CAND. -/
def State.internalCore (p : Fin 12) (l : Fin 32) (code : Code) (s : State) : State :=
  (s.modCore p l fun c => { c with cand := true }).abortCore p l code 0

/-- A partition of the running capture that has stopped issuing (R454): its sequencer has passed its EOG
bundle, has issued END, or runs no task. -/
def State.frozen (s : State) (p : Fin 12) : Bool :=
  decide (s.capState ≠ .idle) && s.capMask.getLsbD p.val && decide ((s.part p).seqState ≠ 1)

/-- A core has a part in the task of its partition: live, its partition running a task that is not
aborting (R444, R448). -/
def State.alive (s : State) (p : Fin 12) (l : Fin 32) : Bool :=
  let q := s.part p
  q.task.isSome && q.abort.isNone && !q.cores[l].fenced && decide (s.phase = .ready)

/-- A core takes part in the task of its partition, and is not held for a capture (R454). -/
def State.runs (s : State) (p : Fin 12) (l : Fin 32) : Bool := s.alive p l && !s.frozen p

/-- Count n events of performance counter k of a partition while STAT_PCTL.RUN = 1 (R488). -/
def State.perf (p : Fin 12) (k n : Nat) (s : State) : State :=
  s.modPart p fun q => if q.pctlRun then { q with pcnt := vset q.pcnt k (vget 0 q.pcnt k + BitVec.ofNat 64 n) } else q

end Sys2Proof.Machine
end

