-- ==== Sys2Proof/Machine/Flags.lean ====
section
/-! DEFINITION. The sticky flags of a core and the trouble-log entries that go with them: GRID_FLAGS
and GRID_CONV_CNT (R65 to R67), QNT_FLAGS (R122, R123), VEC_FLAGS (R151, R152), GUARD_STAT (R172). -/

namespace Sys2Proof.Machine

/-- Set GRID_FLAGS bits of core (p, l); the log takes one entry with the given code for each bit that
changes from 0 to 1 (R67). -/
def State.setGridFlag (p : Fin 12) (l : Fin 32) (i : Nat) (code : Code) (s : State) : State :=
  let old := (s.core p l).gridFlags.getLsbD i
  let s := s.modCore p l fun c => { c with gridFlags := c.gridFlags ||| BitVec.ofNat 7 (2 ^ i) }
  if old then s else s.logCore p l code 0

/-- ACC_SAT of tile t (R47). -/
def State.accSat (p : Fin 12) (l : Fin 32) (t : Nat) (s : State) : State := s.setGridFlag p l t 0x1101

/-- ENT_REJ (R39). -/
def State.entRej (p : Fin 12) (l : Fin 32) (s : State) : State := s.setGridFlag p l 6 0x1401

/-- Count conversions of a core (R53, R54, R66), with the source's log codes (R67). -/
def State.convCount (p : Fin 12) (l : Fin 32) (satCode nanCode : Code) (fx : ConvFx) (s : State) : State :=
  let s := if fx.cnt = 0 then s else s.modCore p l fun c => { c with convCnt := satAdd c.convCnt fx.cnt }
  let s := if fx.sat then s.setGridFlag p l 4 satCode else s
  if fx.nan then s.setGridFlag p l 5 nanCode else s

/-- Conversions of the vector engine. -/
def State.convVec (p : Fin 12) (l : Fin 32) (fx : ConvFx) (s : State) : State := s.convCount p l 0x1302 0x1303 fx

/-- Conversions of the load and store engines. The model's choice (log entry 107): a WDRAIN whose conversion saturates logs 0x1502,
also for a rescaled line, and 0x1202 is never written. -/
def State.convLs (p : Fin 12) (l : Fin 32) (fx : ConvFx) (s : State) : State := s.convCount p l 0x1502 0x1503 fx

/-- Set a QNT_FLAGS bit (R122), with its log entry (R123). -/
def State.setQnt (p : Fin 12) (l : Fin 32) (i : Nat) (code : Code) (s : State) : State :=
  let old := (s.core p l).qntFlags.getLsbD i
  let s := s.modCore p l fun c => { c with qntFlags := c.qntFlags ||| BitVec.ofNat 5 (2 ^ i) }
  if old then s else s.logCore p l code 0

/-- WR_REJ. -/
def State.wrRej (p : Fin 12) (l : Fin 32) (s : State) : State := s.setQnt p l 0 0x1601
/-- CNT_SAT. -/
def State.cntSat (p : Fin 12) (l : Fin 32) (s : State) : State := s.setQnt p l 1 0x1602

/-- FINF (R151), logged when it sets (R152). -/
def State.setFinf (p : Fin 12) (l : Fin 32) (s : State) : State :=
  let old := (s.core p l).vecFlags.getLsbD 1
  let s := s.modCore p l fun c => { c with vecFlags := c.vecFlags ||| 2 }
  if old then s else s.logCore p l 0x1304 0

/-- EMPTY (R151). -/
def State.setEmpty (p : Fin 12) (l : Fin 32) (s : State) : State :=
  s.modCore p l fun c => { c with vecFlags := c.vecFlags ||| 1 }

/-- CE (R168): one corrected word is counted, and the log takes an entry when CE sets. -/
def State.eccCorrected (p : Fin 12) (l : Fin 32) (s : State) : State :=
  let old := (s.core p l).guardStat.getLsbD 0
  let s := s.modCore p l fun c => { c with guardStat := c.guardStat ||| 1, eccCnt := satAdd c.eccCnt 1 }
  if old then s else s.logCore p l 0x5701 0

/-- UE and GUARD_ECC_ADDR (R170), and CAND (R446). -/
def State.eccBad (p : Fin 12) (l : Fin 32) (word : Nat) (s : State) : State :=
  s.modCore p l fun c =>
    { c with guardStat := c.guardStat ||| 2, eccRow := BitVec.ofNat 16 (word / 128),
             eccWord := BitVec.ofNat 7 (word % 128), cand := true }

end Sys2Proof.Machine
end

