-- ==== Sys2Proof/Machine/Spad.lean ====
section
/-! DEFINITION. A core's scratchpad as its engines and its DMA port reach it: rows (R154), valid bits
and guard mode (R165 to R167), check bits (R168, R170). -/

namespace Sys2Proof.Machine

/-- Bytes of a scratchpad: 24 MiB (R154). -/
def spadSize : Nat := 0x1800000

/-- GUARD_BASE and GUARD_LIMIT as they act (R172). -/
def guardRow (v : BitVec 16) : Nat := min v.toNat 0xBFFF

/-- Guard mode checks row r (R165). -/
def Core.checked (c : Core) (r : Nat) : Bool :=
  c.guardEn && decide (guardRow c.guardBase ≤ r) && decide (r ≤ guardRow c.guardLimit)

/-- The words of a byte range. -/
def wordRange (a n : Nat) : List Nat :=
  if n = 0 then [] else (List.range ((a + n - 1) / 4 + 1 - a / 4)).map fun i => a / 4 + i

/-- What a read of words meets in the check bits (R168, R170): the first uncorrectable word, and the
corrected ones. -/
def Core.checkWords (c : Core) (ws : List Nat) : Option Nat × List Nat :=
  (ws.find? fun w => decide (Sparse.get none c.bad w = some .uncorrectable),
   ws.filter fun w => decide (Sparse.get none c.bad w = some .corrected))

/-- Apply the corrections of a read (R168). -/
def State.correct (p : Fin 12) (l : Fin 32) : List Nat → State → State
  | [], s => s
  | w :: t, s => State.correct p l t ((s.modCore p l fun c =>
      { c with writeBack := if c.writeBack.contains w then c.writeBack else c.writeBack ++ [w] }).eccCorrected p l)

/-- What became of an access to one row. -/
inductive RowResult where
  | ok (data : List Byte)
  | fault (code : Code)
deriving DecidableEq, Repr

/-- Read n bytes at a, inside one row (R156, R166 to R168, R170). -/
def State.rowRead (p : Fin 12) (l : Fin 32) (a n : Nat) (consume : Bool) (s : State) : RowResult × State :=
  let c := s.core p l
  let r := a / 512
  if c.checked r && !c.rowValid r then (.fault 0x2701, s)
  else
    let took := fun s : State => if consume then s.modCore p l fun c => c.setRow r false else s
    match c.checkWords (wordRange a n) with
    | (some w, _) => (.fault 0x5702, took (s.eccBad p l w))
    | (none, fixed) => (.ok (c.bytes a n), took (s.correct p l fixed))

/-- Words that a write makes good again (R170): every whole word it covers. -/
def coveredWords (a n : Nat) : List Nat :=
  (wordRange a n).filter fun w => decide (a ≤ 4 * w ∧ 4 * w + 4 ≤ a + n)

/-- Store bytes into a scratchpad; the check bits of the words covered become valid. -/
def Core.store (c : Core) (a : Nat) (data : List Byte) : Core :=
  let ws := coveredWords a data.length
  { c with spad := memWrite c.spad a data,
           bad := if c.bad.isEmpty then [] else c.bad.filter fun e => !ws.contains e.1,
           writeBack := c.writeBack.filter fun w => !ws.contains w }

/-- Write bytes at a, inside one row (R166, R167): `lastInRow` sets the valid bit. -/
def State.rowWrite (p : Fin 12) (l : Fin 32) (a : Nat) (data : List Byte) (lastInRow : Bool) (s : State) : RowResult × State :=
  let c := s.core p l
  let r := a / 512
  if c.checked r && c.rowValid r then (.fault 0x2702, s)
  else
    (.ok [], s.modCore p l fun c =>
      let c := c.store a data
      if lastInRow then c.setRow r true else c)

/-- Read of an engine (R502, R72): out of range, unfilled and uncorrectable reads abort the task. -/
def State.engRead (p : Fin 12) (l : Fin 32) (a n : Nat) (consume : Bool) (s : State) : Option (List Byte) × State :=
  if spadSize ≤ a then (none, s.abortCore p l 0x3101 0)
  else
    match s.rowRead p l a n consume with
    | (.ok d, s) => (some d, s)
    | (.fault code, s) => (none, s.abortCore p l code 0)

/-- Write of the store engine: an address outside, or a row not released, aborts the task (R502, R167). -/
def State.engWrite (p : Fin 12) (l : Fin 32) (a : Nat) (data : List Byte) (lastInRow : Bool) (s : State) : Bool × State :=
  if spadSize ≤ a then (false, s.abortCore p l 0x3101 0)
  else
    match s.rowWrite p l a data lastInRow with
    | (.ok _, s) => (true, s)
    | (.fault code, s) => (false, s.abortCore p l code 0)

/-- Writes of one instruction in order; the last write to a row sets its valid bit (R166). A write that
faults ends them, and those before it stand (R502). -/
def State.engWrites (p : Fin 12) (l : Fin 32) : List (Nat × List Byte) → State → State
  | [], s => s
  | (a, d) :: t, s =>
    match s.engWrite p l a d (!t.any fun w => w.1 / 512 == a / 512) with
    | (true, s) => State.engWrites p l t s
    | (false, s) => s

end Sys2Proof.Machine
end

