-- ==== Sys2Proof/Machine/Access.lean ====
section
/-! DEFINITION. Accesses to the memories of the block: the address map (R309, R490), who may reach what
(R314, R397, R428, R494), HBM units with their check code (R310, R317 to R319), and scratchpad rows
through a DMA port (R157, R163, R167, R170, R171). Error statuses are logged as R442 says. -/

namespace Sys2Proof.Machine

/-- What a block-local address names (R490). -/
inductive Place where
  | hbm (d : Fin 24) (loc : Nat)
  | spad (p : Fin 12) (l : Fin 32) (off : Nat)
  | part (p : Fin 12) (off : Nat)
  | hub (h : Fin 4) (off : Nat)
  | blk (off : Nat)
  | unmapped
deriving DecidableEq, Repr

/-- A number below 24 as a stack. -/
def stackNo (n : Nat) : Fin 24 := ⟨n % 24, Nat.mod_lt _ (by decide)⟩
/-- A number as a partition. -/
def partNo (n : Nat) : Fin 12 := ⟨n % 12, Nat.mod_lt _ (by decide)⟩
/-- A number as a partition-local core index. -/
def coreNo (n : Nat) : Fin 32 := ⟨n % 32, Nat.mod_lt _ (by decide)⟩
/-- A number as a hub. -/
def hubNo (n : Nat) : Fin 4 := ⟨n % 4, Nat.mod_lt _ (by decide)⟩

/-- The block-local map (R155, R309, R490). -/
def place (a : Nat) : Place :=
  let a := a % 2 ^ 48
  if a < 0x018000000000 then .hbm (stackNo (a / 2 ^ 36)) (a % 2 ^ 36)
  else if 0x020000000000 ≤ a ∧ a < 0x020300000000 then
    let c := (a - 0x020000000000) / 0x2000000
    .spad (partNo (c / 32)) (coreNo c) (a % 0x2000000)
  else if 0x021000000000 ≤ a ∧ a < 0x02100C000000 then .part (partNo ((a - 0x021000000000) / 2 ^ 24)) (a % 2 ^ 24)
  else if 0x022000000000 ≤ a ∧ a < 0x022004000000 then .hub (hubNo ((a - 0x022000000000) / 2 ^ 24)) (a % 2 ^ 24)
  else if 0x023000000000 ≤ a ∧ a < 0x023000010000 then .blk (a % 2 ^ 16)
  else if 0x040000000000 ≤ a ∧ a < 0x058000000000 then
    let o := a - 0x040000000000
    .hbm (stackNo (o / 4096)) (o / 4096 / 24 * 4096 + o % 4096)
  else .unmapped

/-- The address lies in HBM. -/
def isHbm (a : Nat) : Bool := match place a with
  | .hbm _ _ => true
  | _ => false

/-- The address lies in the interleaved window (R309). -/
def isInterleaved (a : Nat) : Bool := decide (0x040000000000 ≤ a % 2 ^ 48)

/-- Partition of a channel. -/
def chanPart : ChanId → Fin 12
  | .core p _ _ => p
  | .trunk p _ => p

/-- Partition of a unit of the block. -/
def srcPart : Source → Option (Fin 12)
  | .seq p => some p
  | .chan c => some (chanPart c)
  | _ => none

/-- Tenant that a source acts for: none for a control port. -/
def State.tenantOf (s : State) : Source → Option (BitVec 4)
  | .port _ => none
  | .link n => some s.links[n].tenant
  | .seq p => some (s.part p).tenant
  | .chan c => some (s.part (chanPart c)).tenant

/-- TASKID of the task concerned (R458). -/
def State.taskOf (s : State) (src : Source) : W64 := match srcPart src with
  | some p => (s.part p).taskId
  | none => 0

/-- The hub that a source belongs to (R18, R28). -/
def srcHub : Source → Fin 4
  | .port h => h
  | .link n => linkHub n
  | .seq p => homeHub p
  | .chan c => homeHub (chanPart c)

/-- PART of a log entry about a source itself (R458). -/
def srcPartByte : Source → Nat
  | .port h => 0xF0 + h.val
  | .link n => 0xF0 + (linkHub n).val
  | .seq p => p.val
  | .chan c => (chanPart c).val

/-- Log an error status that the source's own hub gives (R442). -/
def State.logSrc (src : Source) (code : Code) (s : State) : State :=
  s.logAt (srcHub src) code (srcPartByte src) 0xFF 0 (s.taskOf src) 0

/-- Log an error status that a unit of partition p gives to a source. -/
def State.logDest (p : Fin 12) (core : Nat) (src : Source) (code : Code) (s : State) : State :=
  s.logAt (homeHub p) code p.val core 0 (s.taskOf src) 0

/-- The partition of a stack. -/
def stackPart (d : Fin 24) : Fin 12 := ⟨d.val / 2, by omega⟩

/-- The region of a stack-local address (R311). -/
def regionNo (d : Fin 24) (loc : Nat) : Fin 1536 := ⟨(64 * d.val + loc / 2 ^ 30 % 64) % 1536, Nat.mod_lt _ (by decide)⟩

/-- Linear address of a stack-local one. -/
def linear (d : Fin 24) (loc : Nat) : Nat := d.val * 2 ^ 36 + loc

/-- What an HBM byte reads as that nothing has written since its region took its key (R313, R316). -/
def State.unlisted (s : State) (d : Fin 24) (loc : Nat) : Byte :=
  let r := s.regions[regionNo d loc]
  if r.zero then 0 else Config.erasedByte r.keyGen (linear d loc)

/-- Bytes of a stack, as the port delivers them (R312). -/
def State.hbmBytes (s : State) (d : Fin 24) (loc n : Nat) : List Byte :=
  memRead (fun a => s.unlisted d (a - d.val * 2 ^ 36)) s.hbm (linear d loc) n

/-- Whether a source may make an access to a stack-local address (R4, R307, R314, R316, R397): 0, or
the error status. -/
def State.hbmStatus (s : State) (src : Source) (d : Fin 24) (loc : Nat) : Code :=
  let r := s.regions[regionNo d loc]
  let bound := match src with
    | .link n => s.links[n].bound
    | _ => true
  if s.fused (stackPart d) then 0x7E10
  else if s.stackPorts[d].up = false then 0x5D05
  else if bound = false then 0x8C05
  else if r.fill then 0x5D04
  else match s.tenantOf src with
    | none => if r.host then 0 else 0x8D01
    | some t => if r.ten = t then 0 else 0x8D01

/-- An uncorrectable unit met by a read (R319). -/
def State.hbmBad (src : Source) (d : Fin 24) (loc : Nat) (s : State) : State :=
  (s.modStack d fun k => { k with ue := true, ueAddr := BitVec.ofNat 36 (loc / 64 * 64) }).logDest (stackPart d) 0xFF src 0x5D02

/-- A corrected unit (R318): the count, and the log entry when CE sets. -/
def State.hbmFixed (d : Fin 24) (s : State) : State :=
  let old := s.stackPorts[d].ce
  let s := s.modStack d fun k => { k with ce := true, ceCnt := satAdd k.ceCnt 1 }
  if old then s else s.logPart (stackPart d) 0x5D01 0

/-- Store bytes into one region of a stack: in a zero-filled one a byte 0 is what an unlisted byte reads. -/
def State.hbmStore (d : Fin 24) (loc : Nat) (data : List Byte) (s : State) : State :=
  { s with hbm := if s.regions[regionNo d loc].zero then memWrite s.hbm (linear d loc) data
                  else memList s.hbm (linear d loc) data }

/-- First linear address of a region (R311). -/
def regionBase (r : Fin 1536) : Nat := r.val / 64 * 2 ^ 36 + r.val % 64 * 2 ^ 30

/-- Install new keys in a region (R313, R315): what was written under the old ones is gone. -/
def State.rekeyRegion (r : Fin 1536) (fill : Bool) (s : State) : State :=
  let lo := regionBase r
  let s := s.modRegion r fun e => { e with keyGen := e.keyGen + 1, swap := none, zero := false, fill := e.fill || fill }
  { s with hbm := s.hbm.filter fun c => !(decide (lo ≤ c.1) && decide (c.1 < lo + 2 ^ 30)) }

/-- A key rotation of a region that is still due takes effect before an access accepted after it (R315). -/
def State.swapDue (r : Fin 1536) (s : State) : State :=
  match s.regions[r].swap with
  | some fill => s.rekeyRegion r fill
  | none => s

/-- A read inside one 64 B unit that its source may make (R310, R319). -/
def State.unitRead (src : Source) (d : Fin 24) (loc n : Nat) (s : State) : Code × List Byte × State :=
  if s.stackPorts[d].badUnits.contains (loc / 64) then (0x5D02, [], s.hbmBad src d loc)
  else (0, s.hbmBytes d loc n, s)

/-- A write inside one 64 B unit (R310, R319): a partial one of an uncorrectable unit is not performed. -/
def State.unitWrite (src : Source) (d : Fin 24) (loc : Nat) (data : List Byte) (s : State) : Code × State :=
  if s.stackPorts[d].badUnits.contains (loc / 64) then
    (if data.length < 64 then (0x5D02, s.hbmBad src d loc)
     else (0, (s.modStack d fun k => { k with badUnits := k.badUnits.filter fun u => decide (u ≠ loc / 64) }).hbmStore d loc data))
  else (0, s.hbmStore d loc data)

/-- Split a byte range at multiples of `unit`. -/
def splitRange (unit : Nat) : Nat → Nat → Nat → List (Nat × Nat)
  | 0, _, _ => []
  | fuel + 1, a, n =>
    if n = 0 then []
    else
      let m := min n (unit - a % unit)
      (a, m) :: splitRange unit fuel (a + m) (n - m)

/-- Split n bytes at a at multiples of `unit`. -/
def pieces (unit a n : Nat) : List (Nat × Nat) := splitRange unit (n / unit + 2) a n

/-- An HBM access that is refused: its status, logged (R442). -/
def State.hbmRefuse (src : Source) (d : Fin 24) (code : Code) (s : State) : State := s.logDest (stackPart d) 0xFF src code

/-- May the source reach the scratchpad of core (p, l), and is no byte in the hole (R171, R354, R397,
R428, R448, R492): 0, or the error status. -/
def State.spadStatus (s : State) (src : Source) (p : Fin 12) (l : Fin 32) (off n : Nat) (write : Bool) : Code :=
  let q := s.part p
  if s.fused p then 0x7E10
  else if q.isolated then 0x7E10
  else
    let who : Code := match src with
      | .port _ => 0
      | .link k => if s.links[k].bound && decide (s.links[k].tenant = q.tenant) then 0 else 0x8C05
      | _ => if s.tenantOf src = some q.tenant then 0 else 0x8E08
    if who ≠ 0 then who
    else
      let port := match src with
        | .port _ => true
        | _ => false
      if q.cores[l].fenced && (!port || write) then 0x3007
      else if spadSize < off + n then 0x3701
      else 0

/-- A DMA access that is refused: its status, logged; an access to the hole sets HOLE (R171). -/
def State.spadRefuse (src : Source) (p : Fin 12) (l : Fin 32) (code : Code) (s : State) : State :=
  let s := if code = 0x3701 then s.modCore p l fun c => { c with guardStat := c.guardStat ||| 4 } else s
  s.logDest p l.val src code

/-- A DMA read of part of one row that its source may make (R166, R167, R170). -/
def State.dmaRead (src : Source) (p : Fin 12) (l : Fin 32) (off n : Nat) (consume : Bool) (s : State) : Code × List Byte × State :=
  match s.rowRead p l off n consume with
  | (.ok d, s) => (0, d, s)
  | (.fault code, s) => (code, [], s.logDest p l.val src code)

/-- Words of a byte range that it covers only in part (R157). -/
def partWords (a n : Nat) : List Nat := (wordRange a n).filter fun w => !(coveredWords a n).contains w

/-- A DMA write of part of one row (R157, R166, R167, R170): a word it covers in part is read first. -/
def State.dmaWrite (src : Source) (p : Fin 12) (l : Fin 32) (off : Nat) (data : List Byte) (last : Bool) (s : State) : Code × State :=
  let c := s.core p l
  if c.checked (off / 512) && c.rowValid (off / 512) then (0x2702, s.logDest p l.val src 0x2702)
  else
    match c.checkWords (partWords off data.length) with
    | (some w, _) => (0x5702, (s.eccBad p l w).logDest p l.val src 0x5702)
    | (none, fixed) =>
      match (s.correct p l fixed).rowWrite p l off data last with
      | (.ok _, s) =>
        (0, s.modCore p l fun c => { c with bad := c.bad.filter fun e => !(partWords off data.length).contains e.1 })
      | (.fault code, s) => (code, s.logDest p l.val src code)

/-- A row has been counted for an arrival counter (R163). -/
def State.arrive (p : Fin 12) (l : Fin 32) (i : Option (Fin 16)) (s : State) : State :=
  match i with
  | none => s
  | some i => s.modCore p l fun c => { c with arr := c.arr.set i (c.arr[i] + 1) }

end Sys2Proof.Machine
end

