-- ==== Sys2Proof/Machine/Fabric.lean ====
section
/-! DEFINITION. The margin fabric (R358 to R365): its configuration memory as frames, the cells and routing multiplexers
that the frames configure, its clocks, and an edge of them. What each multiplexer's inputs are stands in a database that
the manual only names: it is free here (log entry 108). -/

namespace Sys2Proof.Machine

/-- A frame of zeros (R336). -/
def zeroFrame : List Byte := List.replicate 256 0

/-- First clock-tree column of a die (R358): the number of its logic and I/O columns. -/
def treeCol (die : Nat) : Nat := if die < 24 then 250 else 128

/-- Logic columns of a die (R358). -/
def logicCols (die : Nat) : Nat := if die < 24 then 250 else 112

/-- Logic cells of a die (R358, R360): 100 tiles of 8 in each column. -/
def logicCells (die : Nat) : Nat := 800 * logicCols die

/-- A configuration byte of a die (R336). -/
def State.fabricByte (s : State) (die col frame b : Nat) : Nat :=
  let m := if die < 24 then (s.part (partNo (die / 2))).fabric else (s.hub (hubNo die)).fabric
  (nth 0 (Sparse.get zeroFrame m ((if die < 24 then die % 2 * 2 ^ 17 else 0) + col * 256 + frame)) b).toNat

/-- Byte b of tile t in column col (R360): frame 2t is its bytes 0 to 255, frame 2t + 1 the rest. -/
def State.tileByte (s : State) (die col t b : Nat) : Nat := s.fabricByte die col (2 * t + b / 256) (b % 256)

/-- Truth table of cell k of a die (R358, R360). -/
def State.cellTable (s : State) (die k : Nat) : Nat :=
  ofBytes ((List.range 8).map fun i => BitVec.ofNat 8 (s.tileByte die (k / 800) (k / 8 % 100) (8 * (k % 8) + i)))

/-- Control byte of cell k (R360): OUT, INIT, TREE, CE. -/
def State.cellControl (s : State) (die k : Nat) : Nat := s.tileByte die (k / 800) (k / 8 % 100) (64 + k % 8)

/-- Byte of routing multiplexer m of a column (R360, R361; I/O columns by *Hub I/O cells*): of a logic column 440 for each
tile, then the long-line ones. -/
def State.muxByte (s : State) (die col m : Nat) : Nat :=
  if logicCols die ≤ col then s.fabricByte die col (1 + m / 256) (m % 256)
  else if m < 44000 then s.tileByte die col (m / 440) (72 + m % 440)
  else s.fabricByte die col (200 + (m - 44000) / 256) (m % 256)

/-- DIVx of a die (R362). -/
def State.fclkDiv (s : State) (die x : Nat) : Nat := s.fabricByte die (treeCol die) 1 x

/-- SRC of a tree (R362). -/
def State.treeSrc (s : State) (die t : Nat) : Nat := s.fabricByte die (treeCol die + t) 0 0

/-- The fabric PLL of a die runs (R362). -/
def State.pllRuns (s : State) (die : Nat) : Bool := decide (8 ≤ s.fclkDiv die 0) || decide (8 ≤ s.fclkDiv die 1)

/-- SCOPE of a die's clock trees (R344). -/
def dieScope (die : Nat) : Nat := if die < 24 then die else 0x80 + (die - 24)

/-- The claims in force of a die's partition or hub (R347). -/
def State.dieClaims (s : State) (die : Nat) : List (Byte × Nat × Nat × BitVec 16) :=
  if die < 24 then (s.part (partNo (die / 2))).featClaims else (s.hub (hubNo die)).hubClaims

/-- The die's fabric is loaded and released (R348, R349, R351). -/
def State.fabricLoaded (s : State) (die : Nat) : Bool :=
  if die < 24 then decide ((s.part (partNo (die / 2))).pers = .loaded) else decide ((s.hub (hubNo die)).hubf = .loaded)

/-- The clock of tree t runs (R344, R362): the tree is claimed, and its SRC names an FCLK that is not stopped. -/
def State.treeRuns (s : State) (die t : Nat) : Bool :=
  let src := s.treeSrc die t
  s.fabricLoaded die && decide (src = 1 ∨ src = 2) && decide (8 ≤ s.fclkDiv die (src - 1))
    && (s.dieClaims die).any fun c => decide (c.1 = 4) && decide (c.2.1 = dieScope die) && decide (c.2.2.1 = t)

/-- The tree that clocks the fabric side of a core's custom-operation port (R362). -/
def State.pclkTree (s : State) (p : Fin 12) (l : Fin 32) : Nat := s.fabricByte (coreDie p l).val 250 2 (l.val % 16) % 4

/-- PCLK of a core's port runs (R362). -/
def State.pclkRuns (s : State) (p : Fin 12) (l : Fin 32) : Bool := s.treeRuns (coreDie p l).val (s.pclkTree p l)

/-- The flip-flop of cell k of a die (R359). -/
def State.flop (s : State) (die k : Nat) : Bool :=
  if die < 24 then (s.part (partNo (die / 2))).flops.contains (die % 2 * logicCells die + k) else (s.hub (hubNo die)).flops.contains k

/-- The value of a wire of a die's fabric (R359 to R361), `outside` giving what enters the fabric. A multiplexer whose
byte is 0, and an input that its list marks absent, give 0; the fuel exceeds the number of multiplexers, so that only a
ring of routing without a flip-flop ends it, whose value is free too (log entry 108). -/
def State.wire (s : State) (die : Nat) (outside : Wire → Bool) : Nat → Wire → Bool
  | 0, w => outside w
  | _ + 1, .absent => false
  | n + 1, .cell k =>
    if s.cellControl die k % 2 = 1 then s.flop die k
    else (s.cellTable die k).testBit (((List.range 6).map fun i =>
      if s.wire die outside n (.mux (k / 800) (Config.cellInput (decide (24 ≤ die)) s.build k i)) then 2 ^ i else 0).sum)
  | n + 1, .mux col m =>
    if s.muxByte die col m = 0 then false
    else s.wire die outside n (Config.muxInput (decide (24 ≤ die)) s.build col m (BitVec.ofNat 8 (s.muxByte die col m)))
  | _ + 1, w => outside w

/-- Fuel for a wire: more than the multiplexers and cells of a die. -/
def wireFuel : Nat := 2 ^ 25

/-- The output of a look-up table (R359): what its flip-flop takes. -/
def State.cellValue (s : State) (die : Nat) (outside : Wire → Bool) (k : Nat) : Bool :=
  (s.cellTable die k).testBit (((List.range 6).map fun i =>
    if s.wire die outside wireFuel (.mux (k / 800) (Config.cellInput (decide (24 ≤ die)) s.build k i)) then 2 ^ i else 0).sum)

/-- The clock enable of a cell (R359, R360). -/
def State.cellEnabled (s : State) (die : Nat) (outside : Wire → Bool) (k : Nat) : Bool :=
  decide (s.cellControl die k / 16 % 2 = 0)
    || s.wire die outside wireFuel (.mux (k / 800) (Config.cellInput (decide (24 ≤ die)) s.build k 6))

/-- The cells of the tiles that configuration memory holds, with their control bytes, in rising order (R360): the cells of
a partition's second die after those of its first. -/
def fabricCells (cols : Nat) (m : Sparse (List Byte)) : List (Nat × Byte) :=
  m.flatMap fun e =>
    let col := e.1 / 256 % 512
    let f := e.1 % 256
    if col < cols ∧ f % 2 = 0 ∧ f < 200 then
      (List.range 8).map fun i => (e.1 / 2 ^ 17 * (800 * cols) + 800 * col + 4 * f + i, nth 0 e.2 (64 + i))
    else []

/-- The flip-flops whose initial value is 1 (R340, R360). -/
def initFlops (cols : Nat) (m : Sparse (List Byte)) : List Nat :=
  ((fabricCells cols m).filter fun c => bit c.2 1).map Prod.fst

/-- The port of a core acts as a fenced core's port (R355, R370): cop_flush is high, cop_req_vld low. -/
def Part.copHeld (q : Part) (l : Fin 32) : Bool :=
  q.cores[l].fenced || q.cores[l].copFlush || q.isolated || decide (q.power ≠ .running)

/-- The header beat of a request of local core index n, as a number (R146). -/
def CopReq.header (r : CopReq) (n : Nat) : Nat :=
  r.func.toNat + r.tag.toNat * 2 ^ 8 + (if r.lines.length = 2 then 2 ^ 12 else 0) + r.fmt.toNat * 2 ^ 16
    + r.vl.toNat * 2 ^ 20 + n % 16 * 2 ^ 28 + r.mask.toNat * 2 ^ 32

/-- Data beat n of a line (R146): lane 32n + m in bits [32m + 31 : 32m]. -/
def dataBeat (v : Line) (n : Nat) : BitVec 1024 :=
  BitVec.ofNat 1024 (ofBytes (bytesOfWords ((List.range 32).map fun m => vget 0 v (32 * n + m))))

/-- The line that four data beats carry (R146). -/
def beatLine (l : List (BitVec 1024)) : Line :=
  Vector.ofFn fun i : Fin 128 => BitVec.ofNat 32 (fld (nth 0 l (i.val / 32)) (32 * (i.val % 32)) 32)

/-- The beats of a request in the order they transfer (R146, R368): the header, then 4 for each line. -/
def CopReq.beats (r : CopReq) (n : Nat) : List (BitVec 1024) :=
  BitVec.ofNat 1024 (r.header n) :: r.lines.flatMap fun v => (List.range 4).map (dataBeat v)

/-- cop_req_vld of a core (R146, R370): a request waits to be sent. -/
def Part.copReqVld (q : Part) (l : Fin 32) : Bool := !q.copHeld l && !q.cores[l].copOut.isEmpty

/-- cop_req_dat of a core (R146): the beat presented. -/
def Part.copReqDat (q : Part) (l : Fin 32) : BitVec 1024 := match q.cores[l].copOut with
  | [] => 0
  | r :: _ => nth 0 (r.beats l.val) r.sent

/-- cop_rsp_rdy of a core (R146, R370): low while the response queue is full, high under cop_flush. -/
def Part.copRspRdy (q : Part) (l : Fin 32) : Bool := q.copHeld l || decide (q.cores[l].copRsp.length < 4)

/-- A bit of the hard side of a custom-operation port (R146, R149, R367): request valid, response ready, flush, then the bits
of the beat that is presented. -/
def Part.portBit (q : Part) (l : Fin 32) (b : Nat) : Bool :=
  if b = 0 then q.copReqVld l else if b = 1 then q.copRspRdy l else if b = 2 then q.copHeld l
  else (q.copReqDat l).getLsbD (b - 3)

/-- What enters the fabric of a die: port signals as they stand, and pins, which are free (log entry 108). -/
def State.fabricInput (s : State) (die : Nat) : Wire → Bool
  | .port l b => (s.part (partNo (die / 2))).portBit (coreNo (16 * (die % 2) + l)) b
  | .pin n => (s.freeLane (32 * die + n / 32)).getLsbD (n % 32)
  | w => (s.freeLane (2 ^ 16 + 32 * die + Config.loopBit w / 32)).getLsbD (Config.loopBit w % 32)

/-- FCLKx of a die has an edge in this cycle: which of them do is free (log entry 108). -/
def State.fclkEdge (s : State) (die x : Nat) : Bool := (s.freeLane (2 ^ 17 + die)).getLsbD x

/-- The flip-flops of a die's cells that hold 1 after this cycle (R359): those of a tree with an edge take their table's
output where they are enabled. -/
def State.nextFlops (s : State) (die : Nat) (cells : List (Nat × Byte)) : List Nat :=
  (cells.filter fun c =>
    let k := c.1 % logicCells die
    let t := fld c.2 2 2
    if s.treeRuns die t && s.fclkEdge die (s.treeSrc die t - 1) && s.cellEnabled die (s.fabricInput die) k then
      s.cellValue die (s.fabricInput die) k
    else s.flop die k).map Prod.fst

/-- The next flip-flop values of a partition's two dies. -/
def State.partFlops (s : State) (p : Fin 12) : List Nat :=
  let cells := fabricCells 250 (s.part p).fabric
  s.nextFlops (2 * p.val) (cells.filter fun c => decide (c.1 < 200000))
    ++ s.nextFlops (2 * p.val + 1) (cells.filter fun c => decide (200000 ≤ c.1))

/-- The fabric clocks in one MCLK cycle (R359, R362). -/
def State.fabricEdges (s : State) : State :=
  if (s.parts.all fun q => q.fabric.isEmpty) && (s.hubs.all fun b => b.fabric.isEmpty) then s
  else
    { s with
      parts := Vector.ofFn fun p : Fin 12 => { s.part p with flops := s.partFlops p }
      hubs := Vector.ofFn fun h : Fin 4 =>
        { s.hub h with flops := s.nextFlops (24 + h.val) (fabricCells 112 (s.hub h).fabric) } }.drawn

/-- Mode, direction, output enable and pull of an I/O cell word (R365). -/
def padMode (w : Nat) : Nat := fieldN w 0 3
/-- DIR. -/
def padDir (w : Nat) : Bool := decide (fieldN w 3 1 = 1)
/-- OE from routing. -/
def padOe (w : Nat) : Bool := decide (fieldN w 4 1 = 1)
/-- TREE. -/
def padTree (w : Nat) : Nat := fieldN w 5 2
/-- PD. -/
def padPull (w : Nat) : Bool := decide (fieldN w 7 1 = 1)

/-- Bits that a mode serialises in one clock of the fabric side (R365); 0 for the modes that leave the pin
high-impedance. -/
def padRate (mode : Nat) : Nat := nth 0 [0, 1, 2, 4, 8] mode

/-- The cell word of fabric I/O pin n of a hub, or of probe pin n - 64 (R365). -/
def State.cellWord (s : State) (h : Fin 4) (n : Nat) : Nat :=
  let col := if n < 64 then 112 + n / 4 else 112 + (n - 64)
  let b := if n < 64 then 2 * (n % 4) else 8
  s.fabricByte (24 + h.val) col 0 b + 256 * s.fabricByte (24 + h.val) col 0 (b + 1)

/-- A bit that routing gives a pin's cell (R365): 0 to 7 the word it serialises, 8 the output enable. -/
def State.padBit (s : State) (h : Fin 4) (n i : Nat) : Bool :=
  let c := Config.padInput s.build n i
  s.wire (24 + h.val) (s.fabricInput (24 + h.val)) wireFuel (.mux c.1 c.2)

/-- The output of a claimed pin's cell is enabled (R365). -/
def State.padDrives (s : State) (h : Fin 4) (n : Nat) : Bool :=
  let w := s.cellWord h n
  decide (0 < padRate (padMode w)) && (decide (n < 64) || (decide (padMode w ≤ 2) && padDir w))
    && (if padOe w then s.padBit h n 8 else padDir w)

end Sys2Proof.Machine
end

