-- ==== Sys2Proof/Machine/Operands.lean ====
section
/-! DEFINITION. The operand forms of queue entries: the fields of the slots (R208 to R219) and what
they name, as every engine reads them. -/

namespace Sys2Proof.Machine

/-- The other context. -/
def otherDuet : Duet → Duet
  | .a => .b
  | .b => .a

/-- Apply a change to a context. -/
def Core.modCtx (e : Engine) (x : Duet) (f : EngCtx → EngCtx) (c : Core) : Core :=
  { c with eng := vset c.eng (ctxNo e x) (f (c.ctx e x)) }

/-- S(Q) = round_f32(2^(Q/4)) (R99): the image of 2^0, 2^(1/4), 2^(1/2), 2^(3/4) scaled by whole
powers of two. -/
def scaleQ (q : BitVec 12) : W32 :=
  let i := q.toInt
  let base : Nat := nth 0x3F800000 [0x3F800000, 0x3F9837F0, 0x3FB504F3, 0x3FD744FD] (i % 4).toNat
  BitVec.ofInt 32 ((base : Int) + (i / 4) * 0x800000)

/-- A steer slot of a core. -/
def Core.slot (c : Core) (k : Nat) : Steer := vget Steer.reset c.steer (k % 64)

/-- The level of a code of a grid table (R37, R38). -/
def Core.level (c : Core) (table code : Nat) : Int := Grid.level (vget 0 c.gridEnt (16 * table + code))

/-- A decision for steer slot k is outstanding in this core (R114). -/
def Core.outstanding (c : Core) (k : Nat) : Bool := c.takes.any fun t => t.1.val == k % 64

/-- The steer slots a QUANT names: s, and (s + 1) mod 64 under SPLIT (R103). -/
def quantSlots (w : Slot) : List Nat :=
  if bit w 44 then [fld w 35 6, (fld w 35 6 + 1) % 64] else [fld w 35 6]

/-- The steer slots a DRAIN takes column factors from (R96): by the groups of the tile's recorded mode. -/
def drainSlots (w : Slot) (mode : Nat) : List Nat :=
  if fld w 50 2 = 2 then
    let s := fld w 52 6
    if mode = 0 then [s] else if mode = 1 then [s, (s + 1) % 64] else (List.range 4).map fun g => (s + g) % 64
  else []

/-- How often a vector instruction names the drain queue D (R133, R215, R217). -/
def namesD (w : Slot) : Nat :=
  if slotOp w = 0x61 ∨ 0x70 ≤ slotOp w then 0
  else if slotOp w = 0x60 then (if bit w 30 then 1 else 0)
  else (if bit w 23 then 1 else 0) + (if fld w 24 2 = 1 then 1 else 0)
    + (if fld w 24 2 ≠ 3 ∧ bit w 44 = true then 1 else 0)

/-- A BIND whose handle the core's descriptor cache misses (R183). -/
def Core.bindMisses (c : Core) (w : Slot) : Bool :=
  decide (slotOp w = 0x74) && decide (fld w 11 17 ≠ 0) && !c.dcache.any fun d => decide (d.1 = BitVec.ofNat 17 (fld w 11 17))

/-- What the entry at the head of a context waits for at issue (R230), the partition having claimed
the core's custom-operation port or not: on an unclaimed port a VCUST faults before any wait (R150). A sync wait counts as waiting until its command consumes it. -/
def Core.waits (c : Core) (claimed : Bool) (e : Engine) (x : Duet) (en : Entry) : Bool :=
  let w := en.word
  if en.sync then syncIsWait w
  else
    match e with
    | .vector =>
      if (slotOp w = 0x68 ∨ slotOp w = 0x69) ∧ claimed = false then false
      else (decide (0 < namesD w) && c.drainQ.isEmpty)
        || (decide (slotOp w = 0x60) && (quantSlots w).any c.outstanding)
        || (decide (slotOp w = 0x69) && c.copRsp.isEmpty)
    | .matrix => (decide (slotOp w = 0x01) && (drainSlots w (vget 0 c.tileMode (fld w 20 3)).toNat).any c.outstanding)
        || c.bindMisses w
    | .store =>
      (decide (slotOp w = 0x01) && decide ((c.ctx e x).rl (fld w 17 2) ≠ 0) && c.storeQ.isEmpty
          && decide ((c.ctx e x).prog = 0))
        || c.bindMisses w
    | .load => c.bindMisses w

end Sys2Proof.Machine
end

