-- ==== Sys2Proof/Machine/Hazard.lean ====
section
/-! DEFINITION. Writes of the engines that may not have landed (R127, R143, R236, R240, R241): what a read that comes
before them sees, and in which order writes of one slot land. An instruction takes its sources as a read at its issue
sees them, and writes at once into the state as it stands when every issued write has landed. -/

namespace Sys2Proof.Machine

/-- Engine cycles of a vector instruction: its occupancy and its latency (R143). -/
def vecTiming (w : Slot) : Nat × Nat :=
  let op := slotOp w
  if op = 0x61 then (4, 4)
  else if op = 0x68 then (if bit w 30 then 2 else 1, 0)
  else if op = 0x58 ∨ op = 0x5C ∨ 0x70 ≤ op then (1, 1)
  else if op = 0x60 then (1, 5)
  else if op = 0x09 ∨ op = 0x0A ∨ op = 0x36 ∨ op = 0x37 ∨ op = 0x38 then (2, 10)
  else if op ≤ 0x08 ∨ op = 0x2C ∨ op = 0x3C ∨ op = 0x3D then (1, 4)
  else if op = 0x2D then (1, 3)
  else if op = 0x30 ∨ op = 0x32 ∨ op = 0x34 ∨ op = 0x35 then (1, 6)
  else if op = 0x31 ∨ op = 0x33 ∨ (0x40 ≤ op ∧ op ≤ 0x4B) then (1, 8)
  else (1, 2)

/-- Occupancy of an engine instruction and the cycles to the landing of its last write (R85, R143, R236). -/
def engTiming (e : Engine) (w : Slot) (k : EngCtx) : Nat × Nat :=
  let of := fun n : Nat => (max 1 n, max 1 n + 1)
  if 0x70 ≤ slotOp w then (1, 1)
  else
    match e with
    | .vector => vecTiming w
    | .matrix => if slotOp w = 0 ∨ slotOp w = 3 then (max 1 (k.rl (fld w 23 2) * fld w 41 16), 0) else (1, 0)
    | .load => if slotOp w = 0 then of (k.rl (fld w 16 2) / 2) else if slotOp w = 1 then of (k.rl (fld w 17 2)) else (1, 2)
    | .store => if slotOp w = 2 then of (k.rl (fld w 21 2)) else of (k.rl (fld w 17 2))

/-- The piece that a record is about. -/
def Undo.spot : Undo → Spot
  | .slot n _ _ _ => .slot n
  | .mask x n _ => .mask x n
  | .vcnt x _ => .vcnt x
  | .stageRow n _ => .stageRow n
  | .row n _ _ _ => .row n
  | .cset n _ => .cset n
  | .csr _ => .csr
  | .grid _ => .grid

/-- What a piece holds. -/
def Core.hold (c : Core) : Spot → Undo
  | .slot n => .slot n c.ocache[n] Line.zero c.ocache[n]
  | .mask x n => .mask x n (c.vec x).masks[n]
  | .vcnt x => .vcnt x (c.vec x).vcnt
  | .stageRow n => .stageRow n (c.stageRow n.val)
  | .row n => .row n (c.bytes (512 * n.val) 512) (c.rowValid n.val) (c.bad.filter fun b => decide (b.1 / 128 = n.val))
  | .cset n => .cset n c.sets[n]
  | .csr => .csr c.csr
  | .grid => .grid c.gridEnt

/-- Give a piece the contents that a record names. -/
def Core.undo (c : Core) : Undo → Core
  | .slot n old _ _ => { c with ocache := c.ocache.set n old }
  | .mask x n old => c.modVec x fun k => { k with masks := k.masks.set n old }
  | .vcnt x old => c.modVec x fun k => { k with vcnt := old }
  | .stageRow n old => c.putStageRow n.val old
  | .row n old valid bad =>
    ({ c with spad := memWrite c.spad (512 * n.val) old,
              bad := bad.foldl (fun m b => Sparse.put none b.1 b.2 m) (c.bad.filter fun b => decide (b.1 / 128 ≠ n.val)) } : Core).setRow
      n.val valid
  | .cset n old => { c with sets := c.sets.set n old }
  | .csr old => { c with csr := old }
  | .grid old => { c with gridEnt := old }

/-- The core with a piece as it stood before the last n landings. -/
def Core.before (c : Core) (pc : Spot) (n : Nat) : Core :=
  (c.timing.past.take n).foldl (fun c u => if u.what.spot = pc then c.undo u.what else c) c

/-- The core as the reads of an instruction see it (R240). -/
def Core.seen (early : List (Spot × Nat)) (c : Core) : Core := early.foldl (fun c r => c.before r.1 r.2) c

/-- The core with pieces as another state of it holds them. -/
def Core.borrow (early : List (Spot × Nat)) (src : Core) (c : Core) : Core :=
  early.foldl (fun c r => c.undo (src.hold r.1)) c

/-- The reads found early. -/
def foundEarly : Found → List (Spot × Nat)
  | .hazard early _ _ => early
  | _ => []

/-- The slot writes found to land before, or with, others. -/
def foundLate : Found → List (Fin 64 × Nat × Bool)
  | .hazard _ late _ => late
  | _ => []

/-- The core with every bit of what a run may write inverted: two runs agree on the bits that the instruction writes. -/
def Core.inverted (c : Core) : Core :=
  { c with ocache := c.ocache.map fun v => v.map fun w => ~~~w,
           vctx := c.vctx.map fun k => { k with masks := k.masks.map fun m => ~~~m, vcnt := ~~~k.vcnt },
           stages := c.stages.map fun st => st.map fun r => r.map fun w => ~~~w }

/-- The bits of a line on which two runs agree. -/
def agreeing (a b : Line) : Line := Vector.ofFn fun i => ~~~(a[i] ^^^ b[i])

/-- The scratchpad rows that lines i to j of a store instruction write (R214). -/
def storeRows (k : EngCtx) (w : Slot) (i j : Nat) : List (Fin 49152) :=
  if 0x70 ≤ slotOp w then []
  else
    let an := if slotOp w = 2 then fld w 17 4 else fld w 13 4
    ((List.range (j - i)).map fun m =>
      (⟨(k.ra an + BitVec.ofNat 32 (i + m) * k.rs an).toNat / 512 % 49152, Nat.mod_lt _ (by decide)⟩ : Fin 49152)).eraseDups

/-- What an instruction wrote, each piece with what it held: c before it, c' after it, probe after its run on inverted contents. -/
def Core.writes (c c' probe : Core) (rows : List (Fin 49152)) : List Undo :=
  ((List.finRange 64).filterMap fun n : Fin 64 =>
      let m := agreeing c'.ocache[n] probe.ocache[n]
      if m = Line.zero then none else some (.slot n c.ocache[n] m c'.ocache[n]))
    ++ ([Duet.a, .b].flatMap fun x =>
      ((List.finRange 8).filterMap fun n : Fin 8 =>
          if (c'.vec x).masks[n] ^^^ (probe.vec x).masks[n] = BitVec.allOnes 128 then none else some (c.hold (.mask x n)))
        ++ (if (c'.vec x).vcnt = (probe.vec x).vcnt then [c.hold (.vcnt x)] else []))
    ++ ((List.finRange 256).filterMap fun n : Fin 256 => if c'.stageRow n.val = probe.stageRow n.val then some (c.hold (.stageRow n)) else none)
    ++ (rows.map fun r => c.hold (.row r))
    ++ ((List.finRange 1024).filterMap fun n : Fin 1024 => if c'.sets[n] = c.sets[n] then none else some (c.hold (.cset n)))
    ++ (if c'.csr = c.csr then [] else [.csr c.csr]) ++ (if c'.gridEnt = c.gridEnt then [] else [.grid c.gridEnt])

/-- A line with the masked bits of another. -/
def mergeBits (a m b : Line) : Line := Vector.ofFn fun i => (a[i] &&& ~~~m[i]) ||| (b[i] &&& m[i])

/-- A landing that writes the slot. -/
def Landing.hits (n : Fin 64) (u : Landing) : Bool := decide (u.what.spot = .slot n)

/-- A landing after a write that lands below it. -/
def Landing.over (n : Fin 64) (m v : Line) (u : Landing) : Landing :=
  match u.what with
  | .slot n' old m' v' => if n' = n then { u with what := .slot n' (mergeBits old m v) m' v' } else u
  | _ => u

/-- The line of a slot after the landings of a list, oldest last. -/
def overwrite (n : Fin 64) (us : List Landing) (v : Line) : Line :=
  us.foldr (fun u v => match u.what with
    | .slot n' _ m' v' => if n' = n then mergeBits v m' v' else v
    | _ => v) v

/-- How many landings of the slot's late entry stand over this write (R127, R143): of the same cycle only where a load
meets the vector engine; of its own engine only those with more cycles left than it has. -/
def lateCount (e : Engine) (left : Nat) (late : List (Fin 64 × Nat × Bool)) (past : List Landing) (n : Fin 64) : Nat :=
  match late.find? fun r => decide (r.1 = n) with
  | none => 0
  | some (_, k, same) =>
    let us := (past.take k).filter (Landing.hits n)
    if us.all fun u => if same then decide (e = .load ∧ u.eng = .vector) else decide (u.eng ≠ e) || decide (left < u.left) then k
    else 0

/-- Enter a write of an engine among the landings; a slot write that lands below others leaves their bits. -/
def Core.land (e : Engine) (left : Nat) (late : List (Fin 64 × Nat × Bool)) (c : Core) (u : Undo) : Core :=
  let past := c.timing.past
  match u with
  | .slot n old m v =>
    let k := lateCount e left late past n
    let us := past.take k
    let old := ((us.filter (Landing.hits n)).getLast?.bind fun u => match u.what with
      | .slot _ o _ _ => some o
      | _ => none).getD old
    { c with timing := { c.timing with
               past := us.map (Landing.over n m v) ++ { eng := e, left := left, what := .slot n old m v } :: past.drop k },
             ocache := if late.isEmpty then c.ocache else c.ocache.set n (overwrite n us c.ocache[n]) }
  | _ => { c with timing := { c.timing with past := { eng := e, left := left, what := u } :: past } }

/-- Engine cycles pass (R143): landings of that engine come nearer, and those that have come leave the list. -/
def Timing.elapse (e : Engine) (n : Nat) (t : Timing) : Timing :=
  let t := { t with past := t.past.filterMap fun u =>
    if u.eng ≠ e then some u else if u.left ≤ n then none else some { u with left := u.left - n } }
  if e = .matrix then { t with slack := t.slack - n, hold := t.hold - n } else t

/-- The pieces found early that a landing under way does write: the reads before landing of R241. -/
def Core.earlyReads (early : List (Spot × Nat)) (c : Core) : Nat :=
  (early.filter fun r => (c.timing.past.take r.2).any fun u => decide (u.what.spot = r.1)).length

/-- The slot writes found to land in one cycle with one under way: the collisions of R127 and R241. -/
def Core.collisions (late : List (Fin 64 × Nat × Bool)) (c : Core) : Nat :=
  (late.filter fun r => r.2.2 && (c.timing.past.take r.2.1).any (Landing.hits r.1)).length

/-- The rows that a store instruction has written in this step, up to the line it stays at (R237). -/
def storedRows (e : Engine) (w : Slot) (k k' : EngCtx) (stays : Bool) : List (Fin 49152) :=
  if e ≠ .store then []
  else storeRows k w k.prog (if stays then k'.prog else if slotOp w = 2 then k.rl (fld w 21 2) else k.rl (fld w 17 2))

/-- The tiles that the array may be writing after an issue: the last write of an OPA or a STRIPE lands three cycles after its
last step, that of a CLEAR three after its issue (R85). -/
def Timing.writes (e : Engine) (w : Slot) (cycles : Nat) (t : Timing) : Timing :=
  if e ≠ .matrix then t
  else
    let left := t.busy.filterMap fun b => if b.2 ≤ cycles then none else some (b.1, b.2 - cycles)
    { t with busy := if slotOp w = 0 ∨ slotOp w = 2 ∨ slotOp w = 3 then left ++ [(fld w 20 3, 3)] else left }

/-- What an issue leaves in the account of the engines' cycles: its writes, and the cycles of its occupancy. -/
def Core.account (e : Engine) (x : Duet) (w : Slot) (found : Found) (stays : Bool) (c probe c' : Core) : Core :=
  let k := c.ctx e x
  let tm := engTiming e w k
  let late := foundLate found
  let landed := (c.writes c' probe (storedRows e w k (c'.ctx e x) stays)).foldl (Core.land e tm.2 late) c'
  { c' with timing := (landed.timing.elapse e tm.1).writes e w tm.1, ocache := if late.isEmpty then c'.ocache else landed.ocache }

end Sys2Proof.Machine
end

