-- ==== Sys2Proof/Machine/Queues.lean ====
section
/-! DEFINITION. Engine queues: the head of a context through its hardware loops (R209, R225), the
choice between the two contexts (R231), issue, and the end of a loop repeat. -/

namespace Sys2Proof.Machine

/-- Take that entry. -/
def takeFrom (e : Entry) : List Frame → List Entry → List Frame × List Entry
  | [], q => ([], q.drop 1)
  | f :: fs, q => match f.body[f.pos]? with
    | some _ => ({ f with pos := f.pos + 1 } :: fs, q)
    | none =>
      let r := takeFrom e fs q
      ({ f with body := f.body ++ [e], pos := f.pos + 1 } :: r.1, r.2)

/-- Take the head entry off. -/
def EngCtx.take (c : EngCtx) (e : Entry) : EngCtx :=
  let r := takeFrom e c.loops c.queue
  { c with loops := r.1, queue := r.2 }

/-- The loop advance (R208, R209): A n moves by AL n for every n of AMASK. -/
def EngCtx.strides (c : EngCtx) (mask : BitVec 16) : EngCtx :=
  { c with a := Vector.ofFn fun i : Fin 16 => if mask.getLsbD i.val then c.a[i] + c.al[i] else c.a[i] }

/-- End every repeat whose last entry has gone (R209): the advance, then the next repeat, or the end
of the loop, which may end a repeat of the loop around it. -/
def EngCtx.endRepeats : Nat → EngCtx → EngCtx
  | 0, c => c
  | n + 1, c => match c.loops with
    | [] => c
    | f :: fs =>
      if f.pos < f.nb then c
      else
        let c := c.strides f.amask
        if f.left ≤ 1 then EngCtx.endRepeats n { c with loops := fs }
        else { c with loops := { f with pos := 0, left := f.left - 1 } :: fs }

/-- Discard the body entries of a LOOP whose count was 0, as far as they have arrived (R209). -/
def EngCtx.settle : Nat → EngCtx → EngCtx
  | 0, c => c
  | n + 1, c =>
    if c.skip = 0 then c
    else match c.head with
      | none => c
      | some e => EngCtx.settle n (EngCtx.endRepeats 4 { c.take e with skip := c.skip - 1 })

/-- Signals whose turn has come leave the queue, to be held until their release points (R234), the amount read in queue
order. -/
def EngCtx.pass : Nat → EngCtx → EngCtx
  | 0, c => c
  | n + 1, c =>
    match c.head with
    | none => c
    | some e =>
      if e.sync && !syncIsWait e.word then
        EngCtx.pass n ((EngCtx.endRepeats 4 { c.take e with
          signals := c.signals ++ [{ word := e.word, amount := c.syncAmount e.word, after := c.drains }] }).settle 65)
      else c

/-- The head may have changed: time a wait that became head (R261). -/
def EngCtx.mark (now : W64) (c : EngCtx) : EngCtx :=
  match c.head with
  | some e => if e.sync && syncIsWait e.word then { c with waiting := true, since := now }
              else { c with waiting := false }
  | none => { c with waiting := false }

/-- Put an entry into a context (R224). -/
def EngCtx.push (now : W64) (c : EngCtx) (e : Entry) : EngCtx :=
  let had := c.head.isSome
  let c := (EngCtx.settle 65 { c with queue := c.queue ++ [e] }).pass 64
  if had then c else c.mark now

/-- The head entry has issued or has been consumed: it leaves, a repeat may end, discarded bodies go. -/
def EngCtx.pop (now : W64) (c : EngCtx) (e : Entry) : EngCtx :=
  (((EngCtx.endRepeats 4 (c.take e)).settle 65).pass 64).mark now

/-- The custom-operation port of a core is claimed by the loaded personality (R150). -/
def Part.copClaimed (q : Part) (l : Fin 32) : Bool := q.copClaims.getLsbD l.val

/-- A drain under way may hold the entry at the head of the array's queue (R86). -/
def Core.mayHold (c : Core) (e : Engine) (en : Entry) : Bool :=
  decide (e = .matrix) && !en.sync
    && (if slotOp en.word = 1 then decide (0 < c.timing.hold)
        else decide (slotOp en.word ≤ 3 ∧ fld en.word 20 3 = c.timing.holdTile ∧ 1 < c.timing.hold))

/-- Context x may issue: it is current, or the current context is empty, waits or may be held (R231), and no WDRAIN
of the current context is part done (R237). -/
def Core.selects (c : Core) (claimed : Bool) (e : Engine) (x : Duet) : Bool :=
  let cur := vget Duet.a c.current (engNo e)
  if x = cur then true
  else
    match (c.ctx e cur).head with
    | none => true
    | some en => (c.waits claimed e cur en || c.mayHold e en) && decide ((c.ctx e cur).prog = 0)

/-- Context x would send a VCUST.S now (R144). -/
def Core.sends (c : Core) (claimed : Bool) (x : Duet) : Bool :=
  match (c.ctx .vector x).head with
  | none => false
  | some en => c.selects claimed .vector x && !en.sync && decide (slotOp en.word = 0x68)
      && claimed && !c.waits claimed .vector x en

/-- The engine is frozen (R87, R144, R229, R237): the array once the first line that it holds back is due; the vector
engine while its port refuses a VCUST.S; the store engine while a later line of its WDRAIN is absent. -/
def Core.engFrozen (c : Core) (claimed : Bool) : Engine → Bool
  | .matrix => !c.draining.isEmpty && decide (c.timing.slack = 0)
  | .vector => (c.sends claimed .a || c.sends claimed .b) && decide (4 ≤ c.copOut.length)
  | .store => (decide ((c.ctx .store .a).prog ≠ 0) || decide ((c.ctx .store .b).prog ≠ 0)) && c.storeQ.isEmpty
  | .load => false

/-- A WDRAIN of the core is part done (R237). -/
def Core.partDone (c : Core) : Bool := c.eng.any fun k => decide (k.prog ≠ 0)

/-- An engine may issue now (R228): its core takes part in the task, or completes a WDRAIN while the partition quiesces
(R454), and it is not frozen. -/
def State.engRuns (p : Fin 12) (l : Fin 32) (e : Engine) (s : State) : Bool :=
  (s.runs p l || (s.alive p l && decide (e = .store) && (s.core p l).partDone))
    && !(s.core p l).engFrozen ((s.part p).copClaimed l) e

/-- The engine slot that context x of engine e issues next, if it may issue now (R230, R231). -/
def State.ready (p : Fin 12) (l : Fin 32) (e : Engine) (x : Duet) (s : State) : Option Entry :=
  let c := s.core p l
  let claimed := (s.part p).copClaimed l
  if s.engRuns p l e && c.selects claimed e x then
    match (c.ctx e x).head with
    | some en => if en.sync || c.waits claimed e x en then none else some en
    | none => none
  else none

/-- The instruction at the head of a context has issued (R207, R209, R231). -/
def State.advance (p : Fin 12) (l : Fin 32) (e : Engine) (x : Duet) (s : State) : State :=
  match (s.part p).abort with
  | some _ => s
  | none =>
    match ((s.core p l).ctx e x).head with
    | none => s
    | some en =>
      s.modCore p l fun c => { c.modCtx e x (fun k => k.pop s.now en) with current := vset c.current (engNo e) x }

/-- What an instruction did at its issue: it issued, or it stays at the head. -/
inductive Issued where
  | done (s : State)
  | stay (s : State)
deriving DecidableEq, Repr

/-- The code of a hazard of an engine (R241). -/
def hazardCode (e : Engine) (collide : Bool) : Code :=
  (match e with
    | .matrix => 0x2110
    | .vector => 0x2310
    | .load => 0x2510
    | .store => 0x2510) + (if collide then 1 else 0)

/-- Hazard audit (R241, R487): while it is on, a hazard is logged, up to LIMIT entries in a task, and counted in COUNT
beyond that. -/
def State.audited (p : Fin 12) (l : Fin 32) (code : Code) (s : State) : State :=
  let q := s.part p
  if q.auditEn = false then s
  else if q.audit.toNat < q.auditLimit.toNat then (s.logCore p l code 0).modPart p fun q => { q with audit := q.audit + 1 }
  else s.modPart p fun q => { q with auditCount := satAdd q.auditCount 1 }

/-- What an issue reports of what was found at it (R241): an entry for each read before a landing, and one for each
collision. -/
def State.hazard (p : Fin 12) (l : Fin 32) (e : Engine) (found : Found) (s : State) : State :=
  let c := s.core p l
  let clash := match found with
    | .hazard _ _ n => n
    | _ => 0
  let s := (List.range (c.earlyReads (foundEarly found))).foldl (fun s _ => s.audited p l (hazardCode e false)) s
  (List.range (c.collisions (foundLate found) + clash)).foldl (fun s _ => s.audited p l (hazardCode e true)) s

/-- The state an issue ends in. -/
def Issued.state : Issued → State
  | .done s => s
  | .stay s => s

/-- The state as the reads of an instruction at core (p, l) see it (R240). -/
def State.seen (p : Fin 12) (l : Fin 32) (early : List (Spot × Nat)) (s : State) : State :=
  match early with
  | [] => s
  | _ => s.modCore p l (Core.seen early)

/-- The state with the spots read early as core (p, l) of another state holds them. -/
def State.borrow (p : Fin 12) (l : Fin 32) (early : List (Spot × Nat)) (s src : State) : State :=
  match early with
  | [] => s
  | _ => s.modCore p l (Core.borrow early (src.core p l))

/-- Issue the head of a context when it is the instruction wanted: a parity error of the engine raises
its internal fault (R446); otherwise it runs whole, its reads as they find the core (R240), and leaves the queue; hazard
audit may report it. `run` takes the state that its reads see and the state that it writes. When the head is another
entry, waits or may not issue, the engine spins (R232) and nothing changes. -/
def State.issueBy (p : Fin 12) (l : Fin 32) (e : Engine) (x : Duet) (found : Found) (code : Code)
    (want : Slot → Bool) (run : Entry → State → State → Issued) (s : State) : State :=
  match s.ready p l e x with
  | none => s
  | some en =>
    if want en.word then
      if found = .parity then s.internalCore p l code
      else
        let src := s.seen p l (foundEarly found)
        let probe := (run en src (s.modCore p l Core.inverted)).state.core p l
        let keep := fun (stays : Bool) (s' : State) => s'.modCore p l (Core.account e x en.word found stays (s.core p l) probe)
        let s1 := s.hazard p l e found
        match run en src s1 with
        | .done s' => (keep false s').advance p l e x
        | .stay s' => keep true s'
    else s

/-- Issue an instruction whose reads and writes are of different state: it runs on the core as its reads find it, and what
it read goes back to what stands there. -/
def State.issue (p : Fin 12) (l : Fin 32) (e : Engine) (x : Duet) (found : Found) (code : Code)
    (want : Slot → Bool) (f : Entry → State → Issued) (s : State) : State :=
  s.issueBy p l e x found code want (fun en src t => match f en (t.borrow p l (foundEarly found) src) with
    | .done s' => .done (s'.borrow p l (foundEarly found) t)
    | .stay s' => .stay (s'.borrow p l (foundEarly found) t))

/-- Room that drained lines find (R87, R133, R214): lines the array holds back move on, in order, as
long as the queue that takes the first of them is not full; each gives the array a cycle until the next is due. -/
def Core.refill : Nat → Core → Core
  | 0, c => c
  | n + 1, c => match c.draining with
    | [] => c
    | d :: t =>
      let c' := { c with draining := t, timing := { c.timing with slack := c.timing.slack + 1 } }
      if d.toVec then (if c.drainQ.length < 8 then Core.refill n { c' with drainQ := c.drainQ ++ [d.line.line] } else c)
      else (if c.storeQ.length < 8 then Core.refill n { c' with storeQ := c.storeQ ++ [d.line] } else c)

end Sys2Proof.Machine
end

