-- ==== Sys2Proof/Machine/Desc.lean ====
section
/-! DEFINITION. Tensor descriptors, the descriptor store, its caches and the address windows
(07_descriptors.md). -/

namespace Sys2Proof.Machine

/-- A descriptor record (R176). -/
abbrev DescRec := BitVec 512

/-- BASE. -/
def descBase (d : DescRec) : Nat := fld d 0 56
/-- FMT. -/
def descFmt (d : DescRec) : BitVec 4 := BitVec.ofNat 4 (fld d 56 4)
/-- GTAB. -/
def descGtab (d : DescRec) : Nat := fld d 60 3
/-- EXT n. -/
def descExt (d : DescRec) (n : Nat) : Nat := fld d (64 + 24 * n) 24
/-- STR n, for n from 1 to 3. -/
def descStr (d : DescRec) (n : Nat) : Nat := fld d (120 + 40 * n) 40
/-- Dimensions beyond dimension 0. -/
def descDims (d : DescRec) : Nat := fld d 280 2
/-- RO. -/
def descRo (d : DescRec) : Bool := bit d 282
/-- CONS. -/
def descCons (d : DescRec) : Bool := bit d 283
/-- ARRE and ARRI (R163). -/
def descArr (d : DescRec) : Option (Fin 16) :=
  if bit d 284 then some ⟨fld d 285 4, Nat.mod_lt _ (by decide)⟩ else none
/-- WIN. -/
def descWin (d : DescRec) : Nat := fld d 289 3
/-- LOC. -/
def descLoc (d : DescRec) : Bool := bit d 292
/-- VLD. -/
def descVld (d : DescRec) : Bool := bit d 293
/-- TENANT. -/
def descTenant (d : DescRec) : Nat := fld d 296 4
/-- EPOCH. -/
def descEpoch (d : DescRec) : Nat := fld d 304 16

/-- An empty tensor (R178); the null handle's entry is all zeros and so is empty. -/
def descEmpty (d : DescRec) : Bool := (List.range (descDims d + 1)).any fun n => descExt d n == 0

/-- Bytes from the lowest byte of the footprint to its highest (R179). -/
def descSpan (d : DescRec) : Nat :=
  ((List.range (descDims d)).map fun n => (descExt d (n + 1) - 1) * descStr d (n + 1)).sum
    + descExt d 0 * fmtBits (descFmt d) / 8 - 1

/-- Elements of the whole shape. -/
def descCount (d : DescRec) : Nat := ((List.range (descDims d + 1)).map fun n => descExt d n).prod

/-- A window as a range of full addresses (R180): none when it is disabled or covers nothing. -/
def windowRange (w : Window) : Option (Nat × Nat) :=
  let lo := fld w.bh 0 12 * 2 ^ 44 + w.bl.toNat * 4096
  let hi := fld w.lh 0 12 * 2 ^ 44 + w.ll.toNat * 4096 + 0xFFF
  if bit w.bh 31 && decide (lo ≤ hi) && decide (lo / 2 ^ 48 = hi / 2 ^ 48) then some (lo, hi) else none

/-- Bytes lo to hi lie in a window. -/
def windowHolds (w : Window) (lo hi : Int) : Bool :=
  match windowRange w with
  | some r => decide ((r.1 : Int) ≤ lo) && decide (hi ≤ (r.2 : Int))
  | none => false

/-- Bytes lo to hi lie in some enabled window of a partition. -/
def Part.inWindows (q : Part) (lo hi : Nat) : Bool := q.wins.any fun w => windowHolds w lo hi

/-- The footprint of a tensor, moved by an offset, passes R179. -/
def descFits (q : Part) (d : DescRec) (offset : Int) : Bool :=
  let lo : Int := (descBase d : Int) + offset
  let hi : Int := lo + (descSpan d : Int)
  if descEmpty d then true
  else if descLoc d then decide (0 ≤ lo) && decide (hi ≤ 0x17FFFFF)
  else windowHolds (vget { bl := 0, bh := 0, ll := 0, lh := 0 } q.wins (descWin d)) lo hi

/-- Alignment of a format (R177 cause 0x6). -/
def fmtAlign (f : BitVec 4) : Nat :=
  if f = 8 ∨ f = 9 then 4 else if f = 2 ∨ f = 3 ∨ f = 4 then 1 else 2

/-- Elements per packet of a format (R177 cause 0x7). -/
def fmtPacket (f : BitVec 4) : Nat := if f = 5 ∨ f = 6 then 4 else if f = 7 then 8 else 1

/-- The cause of R177 for an entry written whole and aligned from a unit that may write it; 0 when it
is accepted. -/
def descCause (q : Part) (grid2 : Bool) (hd : BitVec 17) (d : DescRec) : Nat :=
  let f := descFmt d
  if hd = 0 then 1
  else if fmtReserved f ∨ (fmtGrid f = false ∧ descGtab d ≠ 0) then 4
  else if f = 7 ∧ grid2 = false then 5
  else if descBase d % fmtAlign f ≠ 0 ∨
      ((List.range (descDims d)).any fun n => decide (descStr d (n + 1) % fmtAlign f ≠ 0)) = true then 6
  else if descExt d 0 % fmtPacket f ≠ 0 then 7
  else if ((List.range 4).any fun n => decide (descDims d + 1 ≤ n) &&
      (decide (descExt d n ≠ 0) || decide (n ≠ 0 ∧ descStr d n ≠ 0))) = true then 8
  else if bit d 63 = true ∨ fld d 294 2 ≠ 0 ∨ fld d 300 4 ≠ 0 ∨ fld d 384 128 ≠ 0 ∨
      (descLoc d = true ∧ fld d 25 31 ≠ 0) then 9
  else if descFits q d 0 = false then 0xA
  else if descEmpty d = false ∧ descLoc d = false ∧ 2 ^ 48 ≤ descBase d % 2 ^ 48 + descSpan d then 0xB
  else 0

/-- The record as accepted: the store fills VLD, TENANT and EPOCH (R176). -/
def descAccepted (q : Part) (d : DescRec) : DescRec :=
  (d &&& ~~~(BitVec.ofNat 512 (2 ^ 293 + 15 * 2 ^ 296 + 65535 * 2 ^ 304)))
    ||| BitVec.ofNat 512 (2 ^ 293 + q.tenant.toNat * 2 ^ 296 + q.epoch.toNat * 2 ^ 304)

/-- Drop a handle from every cache of the partition (R184). -/
def Part.uncache (q : Part) (hd : BitVec 17) : Part :=
  { q with cores := q.cores.map fun c => { c with dcache := c.dcache.filter fun e => decide (e.1 ≠ hd) },
           tcache := q.tcache.filter fun e => decide (e.1 ≠ hd) }

/-- An entry write is rejected (R177): the cause and the handle are recorded, and the log takes an
entry when REJ sets. -/
def State.descReject (p : Fin 12) (hd : BitVec 17) (cause : Nat) (s : State) : State :=
  let old := (s.part p).descRej
  let s := s.modPart p fun q => { q with descRej := true, descCause := BitVec.ofNat 4 cause, descHandle := hd }
  if old then s else s.logPart p 0x3801 0

/-- An error status that aborts the task of its sender: every one but that of a rejected entry write (R177). -/
def aborts (st : Code) : Bool := decide (st ≠ 0 ∧ st ≠ 0x3801)

/-- A whole, aligned entry write (R175 to R177, R184): the cause, and the state after it. -/
def State.descWrite (p : Fin 12) (hd : BitVec 17) (d : DescRec) (s : State) : Nat × State :=
  let cause := descCause (s.part p) s.full hd d
  if cause = 0 then
    (0, s.modPart p fun q => { (q.uncache hd) with store := Sparse.put 0 hd.toNat (descAccepted q d) q.store })
  else (cause, s.descReject p hd cause)

/-- An entry as a read returns it (R174): one of another tenant reads as zeros. -/
def Part.descRead (q : Part) (hd : Nat) : DescRec :=
  let d := Sparse.get 0 q.store hd
  if descTenant d = q.tenant.toNat ∧ descEpoch d = q.epoch.toNat then d else 0

/-- The checks 1 to 3 of a use (R181): the fault of the first that fails. -/
def descUse (q : Part) (hd : BitVec 17) (d : DescRec) (offset : Int) : Option Code :=
  if hd = 0 then none
  else if descVld d = false then some 0x3803
  else if descTenant d ≠ q.tenant.toNat ∨ descEpoch d ≠ q.epoch.toNat then some 0x3804
  else if descFits q d offset = false then some 0x3805
  else none

/-- The full address of the first byte of a core's scratchpad window (R155). -/
def spadBase (p : Fin 12) (l : Fin 32) : Nat := 0x020000000000 + (32 * p.val + l.val) * 0x2000000

/-- A device number names this device (R491). -/
def State.thisDevice (s : State) (dev : Nat) : Bool := dev == 0xFF || dev == s.devNum.toNat

/-- The core-local address of the moved base, when check 4 of R181 passes. -/
def State.bindAddr (p : Fin 12) (l : Fin 32) (d : DescRec) (offset : Int) (s : State) : Option Int :=
  let lo : Int := (descBase d : Int) + offset
  if descLoc d then some lo
  else
    let loc : Int := lo % (2 ^ 48 : Int) - (spadBase p l : Int)
    let span : Int := if descEmpty d then 0 else (descSpan d : Int)
    if decide (0 ≤ lo) && s.thisDevice (lo.toNat / 2 ^ 48) && decide (0 ≤ loc) && decide (loc + span < 0x2000000)
    then some loc else none

/-- Move an entry to the front of a least-recently-used list (R183). -/
def lruTouch (hd : BitVec 17) (l : List (BitVec 17 × DescRec)) : List (BitVec 17 × DescRec) :=
  match l.find? fun e => decide (e.1 = hd) with
  | some e => e :: l.filter fun e => decide (e.1 ≠ hd)
  | none => l

/-- Put an entry into a cache of 128, the least recently used leaving (R183). -/
def lruPut (hd : BitVec 17) (d : DescRec) (l : List (BitVec 17 × DescRec)) : List (BitVec 17 × DescRec) :=
  ((hd, d) :: l.filter fun e => decide (e.1 ≠ hd)).take 128

/-- Look a handle up in a cache. -/
def lruFind (hd : BitVec 17) (l : List (BitVec 17 × DescRec)) : Option DescRec :=
  (l.find? fun e => decide (e.1 = hd)).map fun e => e.2

/-- A descriptor-cache miss joins those that the store serves in arrival order (R183, R238); one already waiting is not asked twice. -/
def Part.miss (u : Option (Fin 32)) (hd : BitVec 17) (q : Part) : Part :=
  if q.misses.contains (u, hd) then q else { q with misses := q.misses ++ [(u, hd)] }

/-- R238 DESCRIPTOR_CACHE_FILL: the oldest outstanding miss of the partition, when it is this cache's, is served from the store. -/
def execDescriptorCacheFill (u : CacheId) (s : State) : Out :=
  let entry := fun (p : Fin 12) (hd : BitVec 17) => Sparse.get 0 (s.part p).store hd.toNat
  .next (match u with
    | .core p l => match (s.part p).misses with
      | (some k, hd) :: t => if k = l then
          (s.modCore p l fun c => { c with dcache := lruPut hd (entry p hd) c.dcache }).modPart p fun q => { q with misses := t }
        else s
      | _ => s
    | .trunk p => match (s.part p).misses with
      | (none, hd) :: t => s.modPart p fun q => { q with misses := t, tcache := lruPut hd (entry p hd) q.tcache }
      | _ => s)

end Sys2Proof.Machine
end

