-- ==== Sys2Proof/Machine/Check.lean ====
section
/-! DEFINITION. The checks that a dispatcher makes on an engine slot when it arrives (R35, R78, R79, R82,
R84, R130, R133, R138, R208 to R218, R222, R223). Each slot kind has one list of checks with their codes;
of those that fail the lowest code is raised (R222). -/

namespace Sys2Proof.Machine

/-- The lowest code among the checks that fail (R222); 0 when none does. -/
def lowest (l : List (Bool × Code)) : Code :=
  l.foldl (fun a e => if e.1 && (decide (a = 0) || decide (e.2 < a)) then e.2 else a) 0

/-- A format code field. -/
def fmtAt (w : Slot) (lo : Nat) : BitVec 4 := BitVec.ofNat 4 (fld w lo 4)

/-- A field is not zero. -/
def nz (w : Slot) (lo n : Nat) : Bool := decide (fld w lo n ≠ 0)

/-- GRID2 is named on a part that has none (R3, R223). -/
def grid2Bad (full : Bool) (f : BitVec 4) : Bool := !full && decide (f = 7)

/-- The control forms 0x70 to 0x74 (R208). -/
def isControl (w : Slot) : Bool := decide (0x70 ≤ slotOp w ∧ slotOp w ≤ 0x74)

/-- Checks of a control form (R208). NB of a LOOP is checked at issue. -/
def controlChecks (w : Slot) : List (Bool × Code) :=
  let op := slotOp w
  if op = 0x73 then [(nz w 16 16 || nz w 48 16, 0x4903)]
  else if op = 0x74 then [(nz w 28 4, 0x4903)]
  else
    [(nz w 20 12 || (!bit w 14 && nz w 15 5) || (bit w 14 && (nz w 32 32 || decide (op = 0x72))), 0x4903),
     (decide (4 < fld w 7 3) || (decide (op = 0x72) && nz w 7 3) || (decide (fld w 7 3 = 4) && decide (3 < fld w 10 4)), 0x4904)]

/-- Checks of a matrix slot (R210, R211, R84, R79, R78, R82, R35, R223). -/
def matrixChecks (full : Bool) (w : Slot) : List (Bool × Code) :=
  let op := slotOp w
  if isControl w then (nz w 64 32, 0x4903) :: controlChecks w
  else if op = 1 then
    [(decide (3 < fld w 20 3) || decide (3 < fld w 34 3) || (bit w 33 && decide (fld w 34 3 = fld w 20 3)), 0x4101),
     (nz w 7 13 || nz w 25 6 || nz w 64 32 || (!bit w 33 && nz w 34 3) || (!bit w 37 && nz w 38 12)
        || (decide (fld w 50 2 = 0) && nz w 52 12) || (decide (fld w 50 2 = 2) && nz w 58 6), 0x4903),
     (decide (fld w 50 2 = 3), 0x4904)]
  else if op = 2 then [(decide (3 < fld w 20 3), 0x4101), (nz w 7 13 || nz w 23 73, 0x4903)]
  else if op = 0 ∨ op = 3 then
    let fa := fmtAt w 7
    let fb := fmtAt w 11
    [(decide (3 < fld w 20 3), 0x4101),
     (decide (fld w 18 2 = 3) || (decide (fld w 18 2 = 2) && (bit w 25 || bit w 32)), 0x4103),
     (bit w 25 && bit w 32 && decide (fld w 30 1 = fld w 37 1), 0x4104),
     (decide (op = 3) && !(decide (fa = 0) && decide (fb = 0)), 0x4106),
     (fmtReserved fa || fmtReserved fb, 0x4201),
     (decide (fa = 8 ∨ fa = 9 ∨ fb = 8 ∨ fb = 9), 0x4202),
     (nz w 57 39 || (nz w 15 3 && !fmtGrid fa && !fmtGrid fb) || (!bit w 25 && bit w 30) || (!bit w 32 && bit w 37), 0x4903),
     (grid2Bad full fa || grid2Bad full fb, 0x4905)]
  else [(true, 0x4902)]

/-- The spread of a STAGE suits its stored format (R213). -/
def spreadOk (f : Nat) (fmt : BitVec 4) : Bool :=
  if f = 1 then decide (fmt = 0)
  else (decide (fmt = 2 ∨ fmt = 3 ∨ fmt = 4) || fmtGrid fmt) && decide (f * fmtBits fmt ≤ 16)

/-- Checks of a load slot (R212, R213). -/
def loadChecks (full : Bool) (w : Slot) : List (Bool × Code) :=
  let op := slotOp w
  if isControl w then controlChecks w
  else if op = 0 then
    let fmt := fmtAt w 20
    [(fmtReserved fmt, 0x4201), (!spreadOk (2 ^ fld w 18 2) fmt, 0x4501), (nz w 25 39, 0x4903), (grid2Bad full fmt, 0x4905)]
  else if op = 1 then [(nz w 20 44, 0x4903)]
  else if op = 2 then [(nz w 17 47, 0x4903)]
  else if op = 3 then [(nz w 7 1 || nz w 13 51, 0x4903)]
  else [(true, 0x4902)]

/-- Checks of a store slot (R214). -/
def storeChecks (w : Slot) : List (Bool × Code) :=
  let op := slotOp w
  if isControl w then controlChecks w
  else if op = 0 then [(nz w 21 43, 0x4903), (decide (fld w 19 2 = 3), 0x4904)]
  else if op = 1 then
    [(fmtReserved (fmtAt w 19), 0x4201), (fmtGrid (fmtAt w 19) || fmtReserved (fmtAt w 19), 0x4503), (nz w 7 6 || nz w 23 41, 0x4903)]
  else if op = 2 then [(nz w 23 41, 0x4903)]
  else [(true, 0x4902)]

/-- Checks of a QUANT (R217, R35, R223). -/
def quantChecks (full : Bool) (w : Slot) : List (Bool × Code) :=
  let tf := fmtAt w 7
  let lim := if tf = 7 then 15 else if tf = 4 then 3 else 7
  [(fmtReserved tf, 0x4201), (!fmtReserved tf && !fmtGrid tf && decide (tf ≠ 4), 0x4301),
   (bit w 63 || (decide (tf = 4) && nz w 11 3) || (bit w 30 && nz w 24 6) || (!bit w 34 && nz w 31 3)
      || (!bit w 46 && nz w 47 7) || (!bit w 54 && nz w 55 8), 0x4903),
   (decide (fld w 41 2 = 3) || decide (lim < fld w 20 4) || (bit w 43 && bit w 54 && nz w 61 2), 0x4904),
   (grid2Bad full tf, 0x4905)]

/-- Checks of a STEER (R218). -/
def steerChecks (full : Bool) (w : Slot) : List (Bool × Code) :=
  let tf := fmtAt w 14
  if bit w 13 then
    [(fmtReserved tf, 0x4201), (!fmtReserved tf && !fmtGrid tf && decide (tf ≠ 4), 0x4301), (nz w 21 43, 0x4903),
     (grid2Bad full tf, 0x4905)]
  else [(nz w 14 50, 0x4903)]

/-- Format classes of R135: float, integer, both, any 32-bit, all of R125, any. -/
inductive FmtClass where
  | float
  | int
  | floatInt
  | word
  | all
  | open
deriving DecidableEq, Repr

/-- A format is listed for the class. -/
def FmtClass.has (c : FmtClass) (f : BitVec 4) : Bool :=
  match c with
  | .float => decide (f = 8 ∨ f = 0 ∨ f = 1)
  | .int => decide (f = 9)
  | .floatInt => decide (f = 8 ∨ f = 0 ∨ f = 1 ∨ f = 9)
  | .word => decide (f = 8 ∨ f = 9)
  | .all => decide (f.toNat ≤ 4 ∨ f = 8 ∨ f = 9)
  | .open => true

/-- The formats R135 lists for a vector opcode of R216; none for an opcode that is not listed. -/
def vecClass (op : Nat) : Option FmtClass :=
  if op ≤ 0x0A then some .float
  else if 0x10 ≤ op ∧ op ≤ 0x1B then some .int
  else if 0x20 ≤ op ∧ op ≤ 0x25 then some .floatInt
  else if op = 0x28 then some .word
  else if op = 0x29 then some .open
  else if op = 0x2A then some .word
  else if op = 0x2B then some .int
  else if op = 0x2C then some .word
  else if op = 0x2D then some .all
  else if 0x30 ≤ op ∧ op ≤ 0x38 then some .float
  else if op = 0x3C ∨ op = 0x3D then some .word
  else if 0x40 ≤ op ∧ op ≤ 0x42 then some .word
  else if 0x44 ≤ op ∧ op ≤ 0x48 then some .word
  else if 0x49 ≤ op ∧ op ≤ 0x4B then some .int
  else if 0x50 ≤ op ∧ op ≤ 0x55 then some .open
  else if op = 0x56 ∨ op = 0x57 then some .int
  else if op = 0x58 ∨ op = 0x5C then some .open
  else if op = 0x68 ∨ op = 0x69 then some .open
  else none

/-- The opcode uses AUX (R216); a SETVL in immediate form does not. -/
def vecAux (op : Nat) : Bool :=
  decide (op = 0x28 ∨ op = 0x2C ∨ op = 0x2D ∨ (0x40 ≤ op ∧ op ≤ 0x42) ∨ op = 0x58 ∨ op = 0x68)

/-- The destination is a mask (R215, R216). -/
def vecMaskDest (op : Nat) : Bool :=
  decide ((0x20 ≤ op ∧ op ≤ 0x25) ∨ (0x50 ≤ op ∧ op ≤ 0x56) ∨ op = 0x58)

/-- Highest half or quarter that a VCVT between two formats may name (R138): that of each narrower one; 0 between two
32-bit formats. The model's choice (log entry 107): a higher value raises 0x4904. -/
def partLimit (f o : BitVec 4) : Nat :=
  if fmtBits f = 32 ∧ fmtBits o = 32 then 0 else if fmtBits f = 16 ∨ fmtBits o = 16 then 1 else 3

/-- Checks of the other vector instructions (R215, R216). The model's choice (log entry 107): a SETVL that takes its immediate
(AUX[1:0] = 0b00) with KB other than 0b11 raises 0x4904. -/
def vectorChecks (full : Bool) (w : Slot) : List (Bool × Code) :=
  let op := slotOp w
  if isControl w && decide (op ≠ 0x74) then controlChecks w
  else if op = 0x60 then quantChecks full w
  else if op = 0x61 then steerChecks full w
  else
    match vecClass op with
    | none => [(true, 0x4902)]
    | some cls =>
      let f := fmtAt w 7
      let imm := decide (fld w 24 2 = 3)
      let aux := if imm then 0 else fld w 52 12
      let cvt := decide (op = 0x2D) && !imm
      let o : BitVec 4 := BitVec.ofNat 4 (aux % 16)
      let setvl := decide (op = 0x5C)
      let useAux := vecAux op || (setvl && !imm)
      let named := (if bit w 23 then 1 else 0) + (if fld w 24 2 = 1 then 1 else 0) + (if !imm && bit w 44 then 1 else 0)
      let custom := decide (op = 0x68 ∨ op = 0x69)
      [(fmtReserved f || (cvt && fmtReserved o), 0x4201),
       ((!fmtReserved f && !cls.has f) || (cvt && fmtGrid o), 0x4301),
       (decide (1 < named), 0x4302),
       (setvl && imm && decide (128 < fld w 32 32), 0x4304),
       (bit w 31 || (bit w 23 && nz w 17 6) || (!bit w 29 && nz w 26 3)
          || (bit w 30 && !(decide (op = 0x68) || decide (0x40 ≤ op ∧ op ≤ 0x42))) || (vecMaskDest op && nz w 14 3)
          || (!imm && ((bit w 44 && nz w 38 6) || (decide (fld w 24 2 ≠ 2) && nz w 45 7) || (!useAux && decide (aux ≠ 0)))), 0x4903),
       ((imm && (decide (op = 3 ∨ op = 4) || vecAux op)) || (decide (op = 0x2B ∨ op = 0x55) && !imm)
          || (decide (op = 0x55) && imm && decide (128 < fld w 32 32)) || (decide (op = 0x2C) && !imm && decide (aux % 256 = 128))
          || (setvl && !imm && decide (aux % 4 = 0 ∨ aux % 4 = 3))
          || (cvt && FmtClass.has .all o && FmtClass.has .all f && decide (partLimit f o < aux / 32 % 4)), 0x4904),
       (grid2Bad full f || (cvt && grid2Bad full o) || (!full && custom), 0x4905)]

/-- Code of the checks that a slot of an engine fails (R222); 0 for none. -/
def slotCheck (full : Bool) (e : Engine) (w : Slot) : Code :=
  lowest (match e with
    | .load => loadChecks full w
    | .matrix => matrixChecks full w
    | .vector => vectorChecks full w
    | .store => storeChecks w)

end Sys2Proof.Machine
end

