-- ==== Sys2Proof/Machine/Sem.lean ====
section
/-! DEFINITION. Semaphore and counter words (10_synchronisation.md): the operations of R249 and R251,
their errors (R247, R255, R263), and the views that registers and alias writes give (R245). -/

namespace Sys2Proof.Machine

/-- Words of a space: semaphores, or counters (R245). -/
def semLimit : SemSpace → Bool → Nat
  | .part _, false => 4096
  | .part _, true => 1024
  | .hub _, false => 2048
  | .hub _, true => 512

/-- The hub of a space's memory (R18). -/
def spaceHub : SemSpace → Fin 4
  | .part p => homeHub p
  | .hub h => h

/-- PART of a log entry about a space. -/
def spacePart : SemSpace → Nat
  | .part p => p.val
  | .hub h => 0xF0 + h.val

/-- A word: a semaphore, or a counter. -/
def State.word (s : State) (sp : SemSpace) (ctr : Bool) (i : Nat) : W32 :=
  match sp, ctr with
  | .part p, false => Sparse.get 0 (s.part p).sems i
  | .part p, true => Sparse.get 0 (s.part p).ctrs i
  | .hub h, false => Sparse.get 0 (s.hub h).gsems i
  | .hub h, true => Sparse.get 0 (s.hub h).gctrs i

/-- Store a word. -/
def State.putWord (sp : SemSpace) (ctr : Bool) (i : Nat) (v : W32) (s : State) : State :=
  match sp, ctr with
  | .part p, false => s.modPart p fun q => { q with sems := Sparse.put 0 i v q.sems }
  | .part p, true => s.modPart p fun q => { q with ctrs := Sparse.put 0 i v q.ctrs }
  | .hub h, false => s.modHub h fun b => { b with gsems := Sparse.put 0 i v b.gsems }
  | .hub h, true => s.modHub h fun b => { b with gctrs := Sparse.put 0 i v b.gctrs }

/-- COUNT of a semaphore word. -/
def semCount (w : W32) : Nat := fld w 0 16
/-- The effective limit (R248). -/
def semMax (w : W32) : Nat := if fld w 16 16 = 0 then 65535 else fld w 16 16

/-- The WAIT_SUB requests of a space. -/
def State.subs (s : State) : SemSpace → List SubReq
  | .part p => (s.part p).subQ
  | .hub h => (s.hub h).subQ

/-- Replace them. -/
def State.setSubs (sp : SemSpace) (l : List SubReq) (s : State) : State :=
  match sp with
  | .part p => s.modPart p fun q => { q with subQ := l }
  | .hub h => s.modHub h fun b => { b with subQ := l }

/-- WAIT_SUB requests that a memory can hold (R250). -/
def subRoom : SemSpace → Nat
  | .part _ => 512
  | .hub _ => 1024

/-- Set a bit of SEM_STAT (R263). -/
def State.semFlag (sp : SemSpace) (i : Nat) (s : State) : State :=
  let m : BitVec 5 := BitVec.ofNat 5 (2 ^ i)
  match sp with
  | .part p => s.modPart p fun q => { q with semStat := q.semStat ||| m }
  | .hub h => s.modHub h fun b => { b with semStat := b.semStat ||| m }

/-- Store SEM_ERR as a whole. -/
def State.putSemErr (sp : SemSpace) (v : BitVec 29) (s : State) : State :=
  match sp with
  | .part p => s.modPart p fun q => { q with semErr := v }
  | .hub h => s.modHub h fun b => { b with semErr := v }

/-- Record an error of this chapter at a word (R263). -/
def State.semErrAt (sp : SemSpace) (ctr : Bool) (i : Nat) (code : Code) (s : State) : State :=
  s.putSemErr sp (BitVec.ofNat 29 (code.toNat + i % 4096 * 2 ^ 16 + (if ctr then 2 ^ 28 else 0)))

/-- Record an error that names no word: KIND and IDX take a free value (log entry 12). -/
def State.semErrFree (sp : SemSpace) (code : Code) (s : State) : State :=
  (s.putSemErr sp (BitVec.ofNat 29 (code.toNat + fld (s.freeLane 0) 0 13 * 2 ^ 16))).drawn

/-- Owner of a global word (R429). -/
def State.wordOwner (s : State) (h : Fin 4) (ctr : Bool) (i : Nat) : BitVec 4 :=
  vget 0 (s.hub h).gown (if ctr then i / 16 else i / 64)

/-- The tenant may act on the word (R247). -/
def State.mayUse (s : State) (sp : SemSpace) (ctr : Bool) (i : Nat) (t : BitVec 4) : Bool :=
  match sp with
  | .part _ => true
  | .hub h => decide (s.wordOwner h ctr i = t)

/-- What can be done to a word (R245, R249, R251). -/
inductive SemOp where
  | set
  | add
  | sub
  | cset
  | inc
deriving DecidableEq, Repr

/-- The operation is on counters. -/
def SemOp.ctr : SemOp → Bool
  | .cset => true
  | .inc => true
  | _ => false

/-- The word after an operation with an amount, and the fault (0 for none). -/
def SemOp.apply (o : SemOp) (w : W32) (n : Nat) : W32 × Code :=
  match o with
  | .set =>
    let v := BitVec.ofNat 32 n
    if semMax v < semCount v then (w, 0x2A05) else (v, 0)
  | .add =>
    if 65535 < n then (w, 0x2A03)
    else if semMax w < semCount w + n then (BitVec.ofNat 32 (fld w 16 16 * 65536 + semMax w), 0x2A02)
    else (w + BitVec.ofNat 32 n, 0)
  | .sub =>
    if 65535 < n then (w, 0x2A03)
    else if semCount w < n then (w, 0x2A01)
    else (w - BitVec.ofNat 32 n, 0)
  | .cset => (BitVec.ofNat 32 n, 0)
  | .inc => if 0x7FFFFFFF < n then (w, 0x2A03) else (w + BitVec.ofNat 32 n, 0)

/-- Perform an operation at the memory: the fault, recorded in SEM_ERR. -/
def State.semDo (sp : SemSpace) (o : SemOp) (i n : Nat) (s : State) : Code × State :=
  let r := o.apply (s.word sp o.ctr i) n
  let s := s.putWord sp o.ctr i r.1
  (r.2, if r.2 = 0 then s else s.semErrAt sp o.ctr i r.2)

/-- Log an error of the memory for a source (R442). -/
def State.semLog (sp : SemSpace) (src : Source) (code : Code) (s : State) : State :=
  s.logAt (spaceHub sp) code (spacePart sp) 0xFF 0 (s.taskOf src) 0

/-- A sync-slot operation or a bale's signal by a unit of partition p (R247, R255): the fault that it
raises. -/
def State.signal (p : Fin 12) (sp : SemSpace) (o : SemOp) (i n : Nat) (s : State) : Code × State :=
  if s.mayUse sp o.ctr i (s.part p).tenant then s.semDo sp o i n
  else (0x2A04, s.semErrAt sp o.ctr i 0x2A04)

/-- The word is closed to this source (R247, R397). -/
def State.semClosed (s : State) (src : Source) (sp : SemSpace) (ctr : Bool) (i : Nat) : Bool :=
  match s.tenantOf src with
  | none => false
  | some t => !s.mayUse sp ctr i t

/-- A control port or a link (R255). -/
def isRemote : Source → Bool
  | .port _ => true
  | .link _ => true
  | _ => false

/-- A write through a view or an alias (R245, R247, R248, R255): its status. -/
def State.semWrite (src : Source) (sp : SemSpace) (o : SemOp) (i : Nat) (v : W32) (s : State) : Code × State :=
  if s.semClosed src sp o.ctr i then (0x2A04, (s.semErrAt sp o.ctr i 0x2A04).semLog sp src 0x2A04)
  else
    let n := match o with
      | .add => fld v 0 16
      | .sub => fld v 0 16
      | _ => v.toNat
    let r := s.semDo sp o i n
    if r.1 = 0 then r
    else if r.1 = 0x2A05 then (r.1, (r.2.semFlag sp 1).semLog sp src r.1)
    else if isRemote src then (r.1, (r.2.semFlag sp 0).semLog sp src r.1)
    else r

/-- A read through a view. -/
def State.semRead (src : Source) (sp : SemSpace) (ctr : Bool) (i : Nat) (s : State) : Code × W32 × State :=
  if s.semClosed src sp ctr i then (0x2A04, 0, (s.semErrAt sp ctr i 0x2A04).semLog sp src 0x2A04)
  else (0, s.word sp ctr i, s)

/-- The view an offset lies in: a write's operation, and the index; none for a gap (R245). -/
def semView (sp : SemSpace) (off : Nat) : Option (SemOp × Nat) :=
  let n := 4 * semLimit sp false
  let m := 4 * semLimit sp true
  if 0x400000 ≤ off ∧ off < 0x400000 + n then some (.set, (off - 0x400000) / 4)
  else if 0x410000 ≤ off ∧ off < 0x410000 + n then some (.add, (off - 0x410000) / 4)
  else if 0x420000 ≤ off ∧ off < 0x420000 + n then some (.sub, (off - 0x420000) / 4)
  else if 0x430000 ≤ off ∧ off < 0x430000 + m then some (.cset, (off - 0x430000) / 4)
  else if 0x431000 ≤ off ∧ off < 0x431000 + m then some (.inc, (off - 0x431000) / 4)
  else none

/-- An offset that R245 governs. -/
def isSemArea (off : Nat) : Bool := decide (0x400000 ≤ off) && decide (off < 0x440000)

/-- A partial or misaligned access, or one between the views (R245): nothing is done. -/
def State.semInvalid (src : Source) (sp : SemSpace) (off : Nat) (s : State) : State :=
  let s := (s.semFlag sp 0).semLog sp src 0x2A05
  match semView sp off with
  | some (o, i) => s.semErrAt sp o.ctr i 0x2A05
  | none => s.semErrFree sp 0x2A05

/-- C has reached T (R251). -/
def reached (c t : W32) : Bool := decide ((c - t).toNat < 2 ^ 31)

end Sys2Proof.Machine
end

