-- ==== Sys2Proof/Machine/Bundle.lean ====
section
/-! DEFINITION. Bundles (R192, R193, R219): the header and slots as the sequencer reads them from its
bundle cache, and what they name. -/

namespace Sys2Proof.Machine

/-- The word a sync slot names, for a unit of partition p. -/
def syncPlace (p : Fin 12) (w : Slot) : SemSpace := if syncSpace w = 0 then .part p else .hub (hubNo (syncHub w))

/-- The operation of a signal (R219). -/
def syncSem (w : Slot) : SemOp := if syncOp w = 1 then .add else if syncOp w = 2 then .sub else .inc

/-- The sequencer issues bundles: its partition runs a task that is not aborting, and END has not issued. -/
def State.seqRuns (s : State) (p : Fin 12) : Bool :=
  let q := s.part p
  q.task.isSome && q.abort.isNone && !q.opening && decide (q.seqState = 1) && decide (s.phase = .ready)

/-- Scalar slot: OP (R199). -/
def scOp (w : W32) : Nat := fld w 0 6
/-- RD, or RA in form B. -/
def scRd (w : W32) : Nat := fld w 6 5
/-- RA, or RB in form B. -/
def scRa (w : W32) : Nat := fld w 11 5
/-- RB. -/
def scRb (w : W32) : Nat := fld w 16 5
/-- IMM16 or OFF16. -/
def scImm (w : W32) : Nat := fld w 16 16
/-- IMM16, sign-extended. -/
def scSimm (w : W32) : Int := sext 16 (scImm w)

/-- Code of the checks that a scalar slot fails (R199, R200, R222); 0 for none. -/
def scalarCheck (w : W32) : Code :=
  let op := scOp w
  let zr := decide (fld w 21 11 ≠ 0)
  if op = 0 then lowest [(decide (fld w 6 26 ≠ 0), 0x4903)]
  else if op ≤ 0x0D then lowest [(zr, 0x4903)]
  else if 0x10 ≤ op ∧ op ≤ 0x13 then 0
  else if 0x14 ≤ op ∧ op ≤ 0x16 then lowest [(decide (64 ≤ scImm w), 0x4903)]
  else if op = 0x17 then lowest [(decide (4 ≤ scRa w), 0x4903)]
  else if 0x18 ≤ op ∧ op ≤ 0x1B then 0
  else if op = 0x1C then lowest [(zr, 0x4903), (decide (24 < scRa w), 0x4904)]
  else if op = 0x1D then lowest [(decide (256 ≤ scImm w), 0x4903)]
  else if 0x20 ≤ op ∧ op ≤ 0x25 then 0
  else if op = 0x26 then lowest [(zr || decide (scRd w ≠ 0) || decide (scRb w ≠ 0), 0x4903)]
  else if op = 0x27 then lowest [(decide (fld w 6 10 ≠ 0), 0x4903)]
  else if op = 0x28 ∨ op = 0x2A ∨ op = 0x2B then lowest [(zr, 0x4903)]
  else if op = 0x29 then lowest [(decide (fld w 12 4 ≠ 0), 0x4903)]
  else if op = 0x2C then 0
  else 0x4902

/-- Scalar registers that a scalar slot reads or writes (R198). -/
def scalarRegs (w : W32) : List Nat :=
  let op := scOp w
  if 0x01 ≤ op ∧ op ≤ 0x0D then [scRa w, scRb w, scRd w]
  else if (0x10 ≤ op ∧ op ≤ 0x16) ∨ (0x18 ≤ op ∧ op ≤ 0x1B) then [scRa w, scRd w]
  else if op = 0x17 ∨ op = 0x1D then [scRd w]
  else if op = 0x1C then [scRb w, scRd w] ++ (List.range 8).map fun i => scRa w + i
  else if 0x20 ≤ op ∧ op ≤ 0x25 then [scRd w, scRa w]
  else if op = 0x26 then [scRa w]
  else []

/-- The register SIDX of a control form with SRC = 1 (R208). -/
def slotReg (w : Slot) : List Nat :=
  if 0x70 ≤ slotOp w ∧ slotOp w ≤ 0x72 ∧ bit w 14 = true then [fld w 15 5] else []

/-- The engine slots of a bundle, each with its engine (R193). -/
def Bundle.slots (b : Bundle) : List (Engine × Slot) :=
  (match b.vector with
   | some w => [(Engine.vector, BitVec.ofNat 96 w.toNat)]
   | none => [])
  ++ (match b.matrix with
   | some w => [(Engine.matrix, w)]
   | none => [])
  ++ (match b.load with
   | some w => [(Engine.load, BitVec.ofNat 96 w.toNat)]
   | none => [])
  ++ (match b.store with
   | some w => [(Engine.store, BitVec.ofNat 96 w.toNat)]
   | none => [])

/-- Number of a sync slot's engine as an engine (R219). -/
def syncEngine (w : Slot) : Option Engine :=
  if syncEng w = 1 then some .load else if syncEng w = 2 then some .matrix else if syncEng w = 3 then some .vector
  else if syncEng w = 4 then some .store else none

/-- Registers that a bundle needs (R198, R208, R219). -/
def Bundle.regs (b : Bundle) : List Nat :=
  (match b.scalar with
   | some w => scalarRegs w
   | none => [])
  ++ (match b.sync with
   | some w => if syncEng (syncSlot w) = 0 ∧ syncVsrc (syncSlot w) = true then [syncVal (syncSlot w) % 32] else []
   | none => [])
  ++ b.slots.flatMap fun e => slotReg e.2

/-- Entries that a bundle puts into the queue of engine e (R227). -/
def Bundle.entries (b : Bundle) (e : Engine) : Nat :=
  (b.slots.filter fun x => decide (x.1 = e)).length
    + (match b.sync with
       | some w => if syncEngine (syncSlot w) = some e then 1 else 0
       | none => 0)

/-- Entries of a broadcast for engine e of context x. -/
def Broadcast.entries (r : Broadcast) (e : Engine) (x : Duet) : Nat :=
  if r.ctx ≠ x then 0
  else
    (match e with
     | .load => if r.load.isSome then 1 else 0
     | .matrix => if r.matrix.isSome then 1 else 0
     | .vector => if r.vector.isSome then 1 else 0
     | .store => if r.store.isSome then 1 else 0)
    + (match r.sync with
       | some w => if syncEngine (syncSlot w) = some e then 1 else 0
       | none => 0)

/-- Entries of a queue context, those on the promenade included (R224, R227). -/
def Core.debits (c : Core) (e : Engine) (x : Duet) : Nat :=
  (c.ctx e x).queue.length + (c.promenade.map fun r => r.entries e x).sum

/-- Every queue context that the bundle names has room in every live core (R194, R227). -/
def Part.room (q : Part) (b : Bundle) : Bool :=
  q.live.all fun l => [Engine.load, .matrix, .vector, .store].all fun e =>
    decide (b.entries e = 0) || decide (q.cores[l].debits e b.duet + b.entries e ≤ 64)

/-- A register of the bundle waits for a load (R198). -/
def Part.interlock (q : Part) (b : Bundle) : Bool :=
  b.regs.any fun r => decide (r ≠ 0) && q.loads.any fun d => decide (d.rd.val = r)

/-- Code of the sequencer's own checks of a bundle (R222): its scalar slot, and a sync slot that names no
engine. -/
def Bundle.check (b : Bundle) : Code :=
  let sc := match b.scalar with
    | some w => scalarCheck w
    | none => 0
  let sy := match b.sync with
    | some w => if (syncEngine (syncSlot w)).isSome then 0 else syncCheck (syncSlot w)
    | none => 0
  lowest [(decide (sc ≠ 0), sc), (decide (sy ≠ 0), sy)]

/-- The next bundle could issue but for its wait (R194, R220): its SKIP is served, it is in the bundle cache and passes its
checks, no earlier access and no register holds it, and its queues have room. -/
def Part.couldIssue (q : Part) : Bool :=
  decide (q.skip = 0) && !q.storeBusy && !q.bmiss && (match q.fetch with
    | .ok b => decide (b.check = 0) && !q.interlock b && q.room b
    | _ => false)

end Sys2Proof.Machine
end

