-- ==== Sys2Proof/Machine/Sync.lean ====
section
/-! DEFINITION. Waits and signals of sync slots and of bales (R219, R220, R230, R233, R234, R247 to
R256, R270), and the watchdog (R261). -/

namespace Sys2Proof.Machine

/-- A caravan channel (R265). -/
def State.chan (s : State) : ChanId → Chan
  | .core p l n => (s.core p l).chans[n]
  | .trunk p t => (s.part p).trunk[t]

/-- Apply a change to a channel. -/
def State.modChan (c : ChanId) (f : Chan → Chan) (s : State) : State :=
  match c with
  | .core p l n => s.modCore p l fun k => { k with chans := k.chans.set n (f k.chans[n]) }
  | .trunk p t => s.modPart p fun q => { q with trunk := q.trunk.set t (f q.trunk[t]) }

/-- CORE of a log entry about a channel (R458). -/
def chanCore : ChanId → Nat
  | .core _ l _ => l.val
  | .trunk _ _ => 0xFF

/-- A fault of a channel (R292 LASTERR), which aborts the task. -/
def State.chanFault (c : ChanId) (code : Code) (arg : W64) (s : State) : State :=
  (s.modChan c fun k => { k with lastErr := code }).abortWith (chanPart c) (chanCore c) code arg

/-- A channel works on its bales (R268, R290, R448): its partition runs a task that is not aborting, and
it is neither stopped nor that of a fenced core. -/
def State.chanRuns (s : State) (c : ChanId) : Bool :=
  let q := s.part (chanPart c)
  let k := s.chan c
  q.task.isSome && q.abort.isNone && !k.stopped && k.flush.isNone && decide (s.phase = .ready)
    && !s.frozen (chanPart c)
    && (match c with
        | .core _ l _ => !q.cores[l].fenced
        | .trunk _ _ => true)

/-- The wait at the head of a unit. -/
def State.headWait (s : State) : WaitUnit → Option WaitInfo
  | .seq p => (s.part p).seqInfo s.now
  | .eng p l e x => ((s.core p l).ctx e x).waitInfo
  | .chan c => (s.chan c).waitInfo

/-- The unit may consume a wait now: the sequencer when the bundle it holds could issue but for it (R220), an engine in an
engine cycle (R233). -/
def State.unitRuns (s : State) : WaitUnit → Bool
  | .seq p => s.seqRuns p && (s.part p).couldIssue
  | .eng p l e _ => s.runs p l && s.engRuns p l e
  | .chan c => s.chanRuns c

/-- Partition of a unit. -/
def unitPart : WaitUnit → Fin 12
  | .seq p => p
  | .eng p _ _ _ => p
  | .chan c => chanPart c

/-- The unit raises a fault. -/
def State.unitFault (u : WaitUnit) (code : Code) (arg : W64) (s : State) : State :=
  match u with
  | .seq p => s.abort p code arg
  | .eng p l _ _ => s.abortCore p l code arg
  | .chan c => s.chanFault c code arg

/-- The unit's head wait is consumed (R220, R233, R276). -/
def State.consume (u : WaitUnit) (s : State) : State :=
  match u with
  | .seq p => s.modPart p fun q => { q with waitDone := true, waitSince := none }
  | .eng p l e x =>
    match ((s.core p l).ctx e x).head with
    | some en => s.modCore p l fun c => c.modCtx e x fun k => k.pop s.now en
    | none => s
  | .chan c => s.modChan c fun k => { k with cur := k.cur.map fun q =>
      { q with w0 := true, w1 := q.w1 || k.waitWord == some 1, since := s.now } }

/-- The word a wait names. -/
def waitPlace (p : Fin 12) (i : WaitInfo) : SemSpace := if i.space = 0 then .part p else .hub (hubNo i.hub)

/-- Arrival counter of the core a unit belongs to (R164, R219). -/
def State.unitArr (s : State) (u : WaitUnit) (i : Nat) : W32 :=
  match u with
  | .eng p l _ _ => vget 0 (s.core p l).arr i
  | .chan (.core p l _) => vget 0 (s.core p l).arr i
  | _ => 0

/-- Perform a wait of the given operation when it stands at the head of a unit. WAIT_GE 0 and WAIT_SUB 0
are consumed at once (R249); a word of another tenant and an amount above 65,535 fault (R247, R249). -/
def State.waitOp (u : WaitUnit) (op : Nat) (test : SemSpace → WaitInfo → State → State) (s : State) : State :=
  if s.unitRuns u then
    match s.headWait u with
    | none => s
    | some i =>
      if i.op ≠ op then s
      else if op ≠ 5 ∧ i.value = 0 then s.consume u
      else if i.space = 2 then (if op = 5 ∧ reached (s.unitArr u i.idx) (BitVec.ofNat 32 i.value) = true then s.consume u else s)
      else
        let sp := waitPlace (unitPart u) i
        let ctr := decide (op = 5)
        if s.mayUse sp ctr i.idx (s.part (unitPart u)).tenant = false then
          (s.semErrAt sp ctr i.idx 0x2A04).unitFault u 0x2A04 0
        else if op ≠ 5 ∧ 65535 < i.value then (s.semErrAt sp ctr i.idx 0x2A03).unitFault u 0x2A03 0
        else test sp i s
  else s

/-- R249 WAIT_GE. -/
def execWaitGe (u : WaitUnit) (s : State) : Out :=
  .next (s.waitOp u 0 fun sp i s => if i.value ≤ semCount (s.word sp false i.idx) then s.consume u else s)

/-- A WAIT_SUB request reaches its memory (R250); one that finds the table full stays at its waiter. -/
def State.subRequest (u : WaitUnit) (sp : SemSpace) (i : WaitInfo) (s : State) : State :=
  let q := s.subs sp
  if q.any (fun r => decide (r.who = u)) = true ∨ subRoom sp ≤ q.length then s
  else s.setSubs sp (q ++ [{ who := u, idx := i.idx, n := i.value }])

/-- A WAIT_SUB request and its grant (R249, R250): it joins those on its semaphore, and is granted once it is the first of
them and COUNT is at least its amount. -/
def State.subOp (u : WaitUnit) (s : State) : State :=
  s.waitOp u 3 fun sp i s =>
    let s := s.subRequest u sp i
    match (s.subs sp).find? fun r => r.idx == i.idx with
    | none => s
    | some r =>
      let w := s.word sp false i.idx
      if r.who = u ∧ r.n ≤ semCount w then
        ((s.setSubs sp ((s.subs sp).filter fun r => decide (r.who ≠ u))).putWord sp false i.idx (w - BitVec.ofNat 32 r.n)).consume u
      else s

/-- R251 WAIT_REACH: a counter, or an arrival counter (R164), has reached the target. -/
def execWaitReach (u : WaitUnit) (s : State) : Out :=
  .next (s.waitOp u 5 fun sp i s =>
    if reached (s.word sp true i.idx) (BitVec.ofNat 32 i.value) then s.consume u else s)

/-- Every instruction of the context before a signal has completed (R234): the lines of the DRAINs before it are delivered. -/
def Core.atRelease (c : Core) (e : Engine) (x : Duet) (g : Signal) : Bool :=
  match e with
  | .matrix => !c.draining.any fun d => decide (d.ctx = x ∧ d.no ≤ g.after)
  | _ => true

/-- The oldest unreleased signal of an engine context leaves at its release point (R234). With ONE = 1 only the
core of rank 0 performs it (R219). -/
def State.signalOp (p : Fin 12) (l : Fin 32) (e : Engine) (x : Duet) (op : Nat) (s : State) : State :=
  let c := s.core p l
  if s.alive p l && !c.engFrozen ((s.part p).copClaimed l) e then
    match (c.ctx e x).signals with
    | [] => s
    | g :: rest =>
      if syncOp g.word = op ∧ c.atRelease e x g = true then
        let w := g.word
        let r := if syncOne w ∧ (s.part p).rank l ≠ 0 then (0, s)
                 else s.signal p (syncPlace p w) (syncSem w) (syncIdx w) g.amount
        if r.1 = 0 then r.2.modCore p l fun c => c.modCtx e x fun k => ({ k with signals := rest }.pass 64).mark s.now
        else r.2.abortCore p l r.1 0
      else s
  else s

/-- The semaphore operation that a unit has next, as R219 numbers it: its oldest unreleased signal, or a WAIT_SUB at its
head; 7 for none. -/
def State.semNext (s : State) (u : WaitUnit) : Nat :=
  let sig := match u with
    | .eng p l e x => ((s.core p l).ctx e x).signals.head?
    | _ => none
  match sig, s.headWait u with
  | some g, _ => syncOp g.word
  | none, some i => if i.op = 3 then 3 else 7
  | none, none => 7

/-- Kinds in the order in which one cycle of a semaphore memory applies them (R253), and within a kind the arrival port:
the cores in local order, the trunk channels, the sequencer. -/
def semRank (r : WaitUnit × Nat) : Nat :=
  let port := match r.1 with
    | .eng _ l e x => 64 * l.val + ctxNo e x
    | .chan (.core _ l n) => 64 * l.val + 32 + n.val
    | .chan (.trunk _ t) => 2048 + t.val
    | .seq _ => 2056
  4096 * (if r.2 = 1 ∨ r.2 = 4 then 0 else r.2) + port

/-- Insert an operation among those of its cycle. -/
def semInsert (r : WaitUnit × Nat) : List (WaitUnit × Nat) → List (WaitUnit × Nat)
  | [] => [r]
  | a :: t => if semRank r < semRank a then r :: a :: t else a :: semInsert r t

/-- One operation of a unit. -/
def State.semPerform (r : WaitUnit × Nat) (s : State) : State :=
  if r.2 = 3 then s.subOp r.1
  else
    match r.1 with
    | .eng p l e x => s.signalOp p l e x r.2
    | _ => s

/-- The operations that reach the semaphore memories in one cycle (R253): the one commanded, and the next of each unit named
beside it. -/
def State.semCycle (r : WaitUnit × Nat) (meet : List WaitUnit) (s : State) : State :=
  (meet.foldl (fun l u => semInsert (u, s.semNext u) l) [r]).foldl (fun s r => s.semPerform r) s

/-- R250, R253 WAIT_SUB. -/
def execWaitSub (u : WaitUnit) (s : State) (meet : List WaitUnit := []) : Out := .next (s.semCycle (u, 3) meet)
/-- R249, R253 ADD. -/
def execSemAdd (p : Fin 12) (l : Fin 32) (e : Engine) (x : Duet) (s : State) (meet : List WaitUnit := []) : Out :=
  .next (s.semCycle (.eng p l e x, 1) meet)
/-- R249, R253 SUB. -/
def execSemSub (p : Fin 12) (l : Fin 32) (e : Engine) (x : Duet) (s : State) (meet : List WaitUnit := []) : Out :=
  .next (s.semCycle (.eng p l e x, 2) meet)
/-- R251, R253 INC. -/
def execInc (p : Fin 12) (l : Fin 32) (e : Engine) (x : Duet) (s : State) (meet : List WaitUnit := []) : Out :=
  .next (s.semCycle (.eng p l e x, 4) meet)

/-- Since when a unit's head has waited (R261, R276): a sync wait, or a bale's relay pop. -/
def State.waitSince (s : State) (u : WaitUnit) : Option W64 :=
  match s.headWait u with
  | some i => some i.since
  | none => match u with
    | .chan c => (s.chan c).popWait.map Prod.snd
    | _ => none

/-- The watchdog counts (R454: it stops while a capture holds the partition). -/
def State.timersRun (s : State) (p : Fin 12) : Bool :=
  !((s.capState == .writing || s.capState == .resuming) && s.capMask.getLsbD p.val)

/-- Nanoseconds since t that captures have held the partition (R454). -/
def Part.heldSince (q : Part) (t : W64) : Nat :=
  ((q.holds.filter fun h => decide (t.toNat ≤ h.1.toNat)).map fun h => h.2.toNat - h.1.toNat).sum

/-- The watchdog times the head wait of a unit (R261): of a partition with a task that is not aborting, of a live core, and of
a channel that is not stopped. SKIP cycles and freezes do not stop it. -/
def State.watched (s : State) (u : WaitUnit) : Bool :=
  let q := s.part (unitPart u)
  q.task.isSome && q.abort.isNone && decide (s.phase = .ready) && s.timersRun (unitPart u)
    && (match u with
        | .seq _ => true
        | .eng _ l _ _ => !q.cores[l].fenced
        | .chan c => !(s.chan c).stopped && (s.chan c).flush.isNone && (match c with
          | .core _ l _ => !q.cores[l].fenced
          | .trunk _ _ => true))

/-- R261 WATCHDOG_EXPIRY: a head wait has gone unconsumed for longer than SEM_WDOG.LIMIT. -/
def execWatchdogExpiry (u : WaitUnit) (s : State) : Out :=
  let p := unitPart u
  let lim := (s.part p).wdog.toNat
  .next (if s.watched u && decide (lim ≠ 0) then
      match s.waitSince u with
      | none => s
      | some t =>
        if lim * 1000 + (s.part p).heldSince t < (s.now - t).toNat then
          let s := s.semFlag (.part p) 3
          let s := match s.headWait u with
            | some i => s.semErrAt (.part p) (decide (i.op = 5)) i.idx 0x9A01
            | none => s.semErrFree (.part p) 0x9A01
          s.unitFault u 0x9A01 0
        else s
    else s)

end Sys2Proof.Machine
end

