-- ==== Sys2Proof/Machine/Packet.lean ====
section
/-! DEFINITION. Requests that leave the block on a Dutraix link, and the completion of any request toward
whoever made it (R291, R385, R386, R393, R394). -/

namespace Sys2Proof.Machine

/-- A packet header (R385). -/
structure Header where
  ptype  : Nat
  orig   : Nat
  src    : Nat
  dst    : Nat
  hops   : Nat
  arr    : Option (Fin 16)
  lir    : Bool
  redop  : Nat
  fmt    : Nat
  len4   : Nat
  tag    : Nat
  addr   : Nat
  status : Nat
deriving DecidableEq, Repr

/-- The 24 bytes of a header as a number. -/
def Header.bits (h : Header) : BitVec 192 :=
  BitVec.ofNat 192 (h.ptype % 16 + h.orig % 16 * 2 ^ 4 + h.src % 256 * 2 ^ 8 + h.dst % 256 * 2 ^ 16 + h.hops % 16 * 2 ^ 24
    + (match h.arr with
       | some i => 2 ^ 28 + i.val * 2 ^ 29
       | none => 0)
    + (if h.lir then 2 ^ 33 else 0) + h.redop % 4 * 2 ^ 34 + h.fmt % 16 * 2 ^ 36 + h.len4 % 256 * 2 ^ 40
    + h.tag % 2 ^ 16 * 2 ^ 48 + h.addr % 2 ^ 56 * 2 ^ 64 + h.status % 2 ^ 16 * 2 ^ 128)

/-- Read a header. -/
def Header.ofBits (b : BitVec 192) : Header :=
  { ptype := fld b 0 4, orig := fld b 4 4, src := fld b 8 8, dst := fld b 16 8, hops := fld b 24 4,
    arr := if bit b 28 then some ⟨fld b 29 4, Nat.mod_lt _ (by decide)⟩ else none, lir := bit b 33,
    redop := fld b 34 2, fmt := fld b 36 4, len4 := fld b 40 8, tag := fld b 48 16, addr := fld b 64 56,
    status := fld b 128 16 }

/-- Zero fields of a header (R385). -/
def headerZero (b : BitVec 192) : Bool := decide (fld b 120 8 = 0 ∧ fld b 144 48 = 0)

/-- Virtual channel of a packet type (R379). -/
def packVc (ptype : Nat) : Nat :=
  if ptype = 1 ∨ ptype = 2 then 0 else if ptype = 3 ∨ ptype = 4 ∨ ptype = 5 then 1 else if ptype = 9 then 3 else 2

/-- Bytes of a packet (R385): READ carries no data, HELLO and FINISH no tag. -/
def packBytes (ptype len4 : Nat) : Nat :=
  24 + (if ptype = 3 then 0 else 4 * len4) + (if ptype = 6 ∨ ptype = 7 then 0 else 16)

/-- Credits of a packet (R380). -/
def packCost (ptype len4 : Nat) : Nat := (packBytes ptype len4 + 63) / 64

/-- The credits a packet takes (R379, R380): ordered, READ half, control, sync, response half. -/
def creditClass (ptype : Nat) : Nat := if packVc ptype = 1 then (if ptype = 3 then 1 else 4) else packVc ptype

/-- The cost of a packet that waits. -/
def OutPacket.cost (o : OutPacket) : Nat := packCost (Header.ofBits o.hdr).ptype (Header.ofBits o.hdr).len4

/-- The class of a packet that waits. -/
def OutPacket.cls (o : OutPacket) : Nat := creditClass (Header.ofBits o.hdr).ptype

/-- The class of a packet that waits at its source. -/
def Waiting.cls (w : Waiting) : Nat := creditClass (Header.ofBits w.hdr).ptype

/-- The link that carries a packet for a device (R394): none when the entry is not valid or no named
link is ACTIVE; entry 0xFF and the block's own are not used (R393). -/
def State.route (s : State) (dev orig : Nat) : Option (Fin 16) :=
  let e := vget 0 s.routes dev
  let la : Fin 16 := ⟨fld e 1 4, Nat.mod_lt _ (by decide)⟩
  let lb : Fin 16 := ⟨fld e 6 4, Nat.mod_lt _ (by decide)⟩
  let up := fun n : Fin 16 => decide (s.links[n].state = .active)
  let first := if bit e 5 ∧ orig % 2 = 1 then lb else la
  let other := if bit e 5 ∧ orig % 2 = 1 then la else lb
  if dev = 0xFF ∨ dev = s.devNum.toNat ∨ bit e 0 = false then none
  else if up first then some first
  else if bit e 5 && up other then some other
  else none

/-- Put a packet of the hub itself into a link's egress queue (R382). -/
def State.egress (n : Fin 16) (h : Header) (data : List Byte) (s : State) : State :=
  s.modLink n fun k => { k with egress := k.egress ++ [{ vc := BitVec.ofNat 2 (packVc h.ptype), hdr := h.bits, data := data }] }

/-- A tag that no outstanding request of the block uses (log entry 13). -/
def State.newTag (n : Fin 16) (s : State) : BitVec 16 :=
  let used := s.links.toList.flatMap fun k => k.outst.map Outst.tag
  let t0 := s.links[n].nextTag
  let free := (List.range (used.length + 1)).find? fun i => !used.contains (t0 + BitVec.ofNat 16 i)
  t0 + BitVec.ofNat 16 (free.getD 0)

/-- The egress queue has space for a packet of a class (R380, R382; log entry 110). -/
def Link.space (c : Nat) (k : Link) : Bool := decide ((k.egress.filter fun o => o.cls == c).length ≤ Config.egressRoom)

/-- The hub accepts a packet for a link now (R382): there is space, and none of its class came before it. -/
def Link.takes (c : Nat) (k : Link) : Bool := k.space c && !k.waits.any fun w => w.cls == c

/-- A packet that a link brought has left its buffer: its credits go back (R380). -/
def State.unbuffer (back : Option (Fin 16 × Nat × Nat)) (s : State) : State :=
  match back with
  | some (m, c, n) => s.modLink m fun k => { k with held := vset k.held c (vget 0 k.held c - n), owed := vset k.owed c (vget 0 k.owed c + n) }
  | none => s

/-- A packet enters a link's egress queue (R382). A request of this block takes its TAG (R385); LINK_TMO counts from when it
was made (R386, R398; log entry 110). -/
def State.accept (n : Fin 16) (w : Waiting) (s : State) : State :=
  let s := s.unbuffer w.back
  match w.req with
  | none => s.egress n (Header.ofBits w.hdr) w.data
  | some (who, read, len) =>
    let t := s.newTag n
    let o : Outst := { tag := t, who := who, read := read, len := len, since := w.since }
    (s.modLink n fun k => { k with outst := k.outst ++ [o], nextTag := t + 1, late := k.late.filter fun x => decide (x ≠ t) }).egress n
      { Header.ofBits w.hdr with tag := t.toNat } w.data

/-- A packet goes to the link that carries it, and waits at its source while that link has no space (R289, R382, R394): none
when no link carries it. -/
def State.launch (w : Waiting) (s : State) : Option State :=
  let h := Header.ofBits w.hdr
  match s.route h.dst h.orig with
  | none => none
  | some n => some (if s.links[n].takes w.cls then s.accept n w else s.modLink n fun k => { k with waits := k.waits ++ [w] })

/-- What waits for a link enters its egress queue as space comes, in order (R382). -/
def State.enterLink (n : Fin 16) : Nat → State → State
  | 0, s => s
  | f + 1, s => match s.links[n].waits.find? fun w => s.links[n].space w.cls with
    | none => s
    | some w => State.enterLink n f ((s.modLink n fun k => { k with waits := k.waits.erase w }).accept n w)

/-- ORIG of a source (R385). -/
def origOf (src : Source) : Nat := match srcPart src with
  | some p => p.val
  | none => 15

/-- Send a request to another device (R385, R386, R394): none when no link carries it. -/
def State.sendReq (who : Requester) (src : Source) (kind : ReqKind) (a len : Nat) (data : List Byte)
    (arr : Option (Fin 16)) (lir : Bool) (s : State) : Option State :=
  let r := match kind with
    | .redcopy op _ => op.toNat
    | .xoracc => 3
    | _ => 0
  let f := match kind with
    | .redcopy _ f => f.toNat
    | _ => 0
  let pt := match kind with
    | .read => 3
    | .write => 1
    | _ => 2
  let h : Header :=
    { ptype := pt, orig := origOf src, src := s.devNum.toNat, dst := a / 2 ^ 48 % 256, hops := 15, arr := arr, lir := lir, redop := r,
      fmt := f, len4 := (len + 3) / 4, tag := 0, addr := a, status := 0 }
  s.launch { hdr := h.bits, data := if kind = .read then [] else data, src := src, req := some (who, decide (kind = .read), len),
             back := none, since := s.now }

/-- Answer a request that link n brought (R386, R395): the response leaves by the route to its sender,
or nowhere. -/
def State.respond (n : Fin 16) (tag : BitVec 16) (src : Byte) (read : Bool) (status : Code) (data : List Byte) (s : State) : State :=
  let h : Header :=
    { ptype := if read then 4 else 5, orig := 15, src := s.devNum.toNat, dst := src.toNat, hops := 15, arr := none,
      lir := false, redop := 0, fmt := 0, len4 := (data.length + 3) / 4, tag := tag.toNat, addr := src.toNat * 2 ^ 48,
      status := status.toNat }
  (s.launch { hdr := h.bits, data := data, src := .link n, req := none, back := none, since := s.now }).getD s

/-- An ordered write that link n brought has completed: alias writes behind it wait for it no longer (R258). -/
def State.ordered (n : Fin 16) (tag : BitVec 16) (src : Byte) (s : State) : State :=
  let rest := fun l : List (BitVec 16 × Byte) => l.filter fun e => decide (e ≠ (tag, src))
  (s.modLink n fun k => { k with inReqs := rest k.inReqs }).modHub (linkHub n) fun b =>
    { b with aliases := b.aliases.map fun (a : HubReq) => if a.src = .link n then { a with waits := rest a.waits } else a }

/-- A read piece has come back, or a write has completed, at a channel (R279, R290, R291). -/
def State.chanDone (c : ChanId) (bale : W32) (piece : Nat) (read : Bool) (status : Code) (data : List Byte) (s : State) : State :=
  if read then s.modChan c fun k => { k with ret := k.ret ++ [{ bale := bale, piece := piece, status := status, data := data }] }
  else
    let s := s.modChan c fun k =>
      { k with runs := k.runs.map fun r => if r.no = bale then { r with writes := r.writes - 1 } else r }
    if status = 0 ∨ (s.part (chanPart c)).abort.isSome = true then s else s.chanFault c 0x5B01 (BitVec.ofNat 64 status.toNat)

/-- A message joins those that the hub has sent to its host die (R404). -/
def State.say (h : Fin 4) (m : HostMsg) (s : State) : State := s.modHub h fun b => { b with outbox := b.outbox ++ [m] }

/-- A request of a control port is answered: its tag is free again, and what the hub holds behind it waits for
it no longer (R258, R405, R406, R411). -/
def State.portFree (h : Fin 4) (tag : Byte) (s : State) : State :=
  s.modHub h fun b =>
    { b with tagsOut := b.tagsOut.filter fun t => decide (t ≠ tag)
             bellWaits := b.bellWaits.filter fun t => decide (t ≠ tag)
             aliases := b.aliases.map fun (a : HubReq) =>
               if a.src = .port h then { a with waits := a.waits.filter fun e => decide (e ≠ (tag.setWidth 16, 0)) } else a }

/-- Answer a control-port request (R405). -/
def State.portAnswer (h : Fin 4) (tag : Byte) (status : Code) (data : List W32) (s : State) : State :=
  (s.portFree h tag).say h (.completion tag status data)

/-- A control-port message that is not valid (R405): answered, and logged (R442). -/
def State.portInvalid (h : Fin 4) (tag : Byte) (s : State) : State :=
  (s.logHub h 0x3F01 0).say h (.completion tag 0x3F01 [])

/-- The end record of a task has landed (R415, R417): its event is sent for a status, NOTRUN or UNBAL, and for a success when EVT
= 1. -/
def State.recordDone (h : Fin 4) (n : Nat) (s : State) : State :=
  match (s.hub h).records.find? fun t => t.desc.serial == n with
  | none => s
  | some t =>
    let s := s.modHub h fun b => { b with records := b.records.filter fun t => t.desc.serial != n }
    if t.status ≠ 0 ∨ t.notrun = true ∨ t.unbal.isSome = true ∨ t.desc.evt = true then
      s.sendEvent h 1 t.status t.fpart.toNat 0 t.desc.id
    else s

/-- A request completes toward whoever made it. -/
def State.complete (who : Requester) (read : Bool) (status : Code) (data : List Byte) (s : State) : State :=
  match who with
  | .chan c b i => s.chanDone c b i read status data
  | .link n tag src => ((if read then s else s.ordered n tag src)).respond n tag src read status data
  | .fill d line => s.modPart (stackPart d) fun q =>
      let half := vget Depot.empty q.depots (d.val % 2)
      let f := half.fills.map fun f => if f.base = line then { f with done := some (status, data) } else f
      { q with depots := vset q.depots (d.val % 2) { half with fills := f } }
  | .seqLoad p t rd => s.modPart p fun q =>
      match (if q.taskNo = t then q.loads.findIdx? fun l => decide (l.rd = rd) && l.answer.isNone else none) with
      | some i => { q with loads := q.loads.modify i fun l => { l with answer := some (status, data) } }
      | none => q
  | .seqStore p t =>
      if (s.part p).storeBusy = true ∧ (s.part p).taskNo = t then
        let s := s.modPart p fun q => { q with storeBusy := false }
        if status = 0 then s else s.abort p status 0
      else s
  | .seqFetch p t => s.modPart p fun q => if q.bmiss = true ∧ q.taskNo = t then { q with fetchRet := some (status, data) } else q
  | .code p t i => s.modPart p fun q =>
      if q.taskNo = t then
        { q with codeReads := q.codeReads.map fun e => if e.1 = i ∧ e.2 = none then (e.1, some (status, data)) else e }
      else q
  | .ring c no => s.modChan c fun k =>
      { k with ring := k.ring.map fun e => if e.1 = no then (e.1, e.2.1, some (status, data)) else e }
  | .desc h n => s.modHub h fun b => if b.nextTask = n ∧ b.descRead = some none then { b with descRead := some (some (status, data)) } else b
  | .record h n => s.recordDone h n
  | .report _ => { s with secNow := s.secNow.map fun r => if r.phase = .report then { r with ended := some status } else r }
  | .dump p => s.modPart p fun q =>
      { q with abort := q.abort.map fun a => { a with dump := a.dump.map fun k => k - 1, dumpBad := a.dumpBad || decide (status ≠ 0) } }
  | .trace _ => s
  | .port h tag => s.portAnswer h tag status (wordsOf data)

/-- Requests from control ports and links are of the remote class (R281). -/
def remoteClass : Source → Bool
  | .port _ => true
  | .link _ => true
  | _ => false

/-- Put a request into a class of a stack port (R281). -/
def Stack.ask (m : MemReq) (k : Stack) : Stack :=
  if remoteClass m.src then { k with qRemote := k.qRemote ++ [m] }
  else if m.kind = .read then { k with qRead := k.qRead ++ [m] }
  else { k with qWrite := k.qWrite ++ [m] }

/-- Put a request into a class of a DMA port (R157, R281). -/
def Core.ask (m : MemReq) (c : Core) : Core :=
  if remoteClass m.src then { c with dmaRemote := c.dmaRemote ++ [m] }
  else if m.kind = .read then { c with dmaRead := c.dmaRead ++ [m] }
  else { c with dmaWrite := c.dmaWrite ++ [m] }

/-- A memory request reaches the port that serves its first byte; one that names no memory ends with 0x3F01
(R492), an empty one is complete. -/
def State.memAsk (m : MemReq) (s : State) : State :=
  if m.len = 0 then s.complete m.who (decide (m.kind = .read)) 0 []
  else
    match place m.addr with
    | .hbm d _ => s.modStack d (Stack.ask m)
    | .spad p l _ => s.modCore p l (Core.ask m)
    | _ => (s.logSrc m.src 0x3F01).complete m.who (decide (m.kind = .read)) 0x3F01 []

/-- A request of a unit of the block for bytes of memory: at the port that serves them, or on a link to another device (R386,
R394). -/
def State.request (who : Requester) (src : Source) (kind : ReqKind) (a len : Nat) (data : List Byte) (s : State) : State :=
  if s.thisDevice (a / 2 ^ 48 % 256) then
    s.memAsk { who := who, src := src, kind := kind, addr := a % 2 ^ 48, len := len, data := data, got := [], arrive := none,
               last := false, tail := false, consume := false }
  else
    match s.sendReq who src kind a len data none false with
    | some s => s
    | none => (s.logSrc src 0x6C03).complete who (decide (kind = .read)) 0x6C03 []

/-- A request for memory of this device. -/
def State.requestHere (who : Requester) (src : Source) (kind : ReqKind) (a len : Nat) (data : List Byte) (s : State) : State :=
  s.request who src kind (0xFF * 2 ^ 48 + a % 2 ^ 48) len data

/-- An error answer of a hub to a request that link n brought (R395, R397). -/
def State.refuseIn (n : Fin 16) (h : Header) (code : Code) (s : State) : State :=
  (s.logHub (linkHub n) code 0).respond n (BitVec.ofNat 16 h.tag) (BitVec.ofNat 8 h.src) (decide (h.ptype = 3)) code []

/-- A packet that no link carries any more (R394, R395): a request of this block completes with 0x6C03, one that a link brought
is answered so, a response is discarded. -/
def State.stranded (w : Waiting) (s : State) : State :=
  let s := s.unbuffer w.back
  let h := Header.ofBits w.hdr
  match w.req, w.src with
  | some (who, read, _), _ => (s.logSrc w.src 0x6C03).complete who read 0x6C03 []
  | none, .link n => if h.ptype = 4 ∨ h.ptype = 5 then s else s.refuseIn n h 0x6C03
  | none, _ => s

/-- A packet's buffer on a link that has left its session is gone. -/
def Waiting.unlinked (n : Fin 16) (w : Waiting) : Waiting :=
  { w with back := w.back.filter fun b => decide (b.1 ≠ n) }

/-- A link leaves its session: what waits for it takes the other link of its route, or ends (R394). -/
def State.endSession (n : Fin 16) (f : Link → Link) (s : State) : State :=
  let ws := s.links[n].waits.map (Waiting.unlinked n)
  let s := s.modLink n fun k => { f k with waits := [] }
  let s := { s with links := s.links.map fun (k : Link) => { k with waits := k.waits.map (Waiting.unlinked n) } }
  ws.foldl (fun s w => (s.launch w).getD (s.stranded w)) s

end Sys2Proof.Machine
end

