-- ==== Sys2Proof/Machine/Tasks.lean ====
section
/-! DEFINITION. Tasks (17_control_port.md, R188 to R191, R204, R260, R262, R268, R290, R444): the rings,
the submission checks, delivery, start, finish, abort, end records and events. -/

namespace Sys2Proof.Machine

/-- Bytes lo to lo + n − 1 lie in HBM of this device, in regions open to the host (R412, R419). -/
def State.hostOpen (s : State) (lo n : Nat) : Bool :=
  s.thisDevice (lo / 2 ^ 48) && (pieces 4096 lo n).all fun e => match place e.1 with
    | .hbm d loc => s.regions[regionNo d loc].host
    | _ => false

/-- The Zero fields of a task descriptor (R410). -/
def taskZero (n : Nat) : Bool :=
  [(120, 8), (172, 4), (177, 15), (204, 4), (217, 7), (235, 5), (251, 5), (568, 8), (576, 448)].all fun e => fieldN n e.1 e.2 == 0

/-- A task descriptor (R410). -/
def taskOf (n : Nat) (h : Fin 4) (ridx : W32) (serial : Nat) : TaskDesc :=
  { id := BitVec.ofNat 64 (fieldN n 0 64), code := BitVec.ofNat 56 (fieldN n 64 56), shape := BitVec.ofNat 32 (fieldN n 128 32),
    pmask := BitVec.ofNat 12 (fieldN n 160 12), evt := fieldN n 176 1 == 1, sbase := fieldN n 192 12, scount := fieldN n 208 9,
    gbase := fieldN n 224 11, gcount := fieldN n 240 9, ghub := hubNo (fieldN n 249 2),
    args := Vector.ofFn fun i : Fin 4 => BitVec.ofNat 64 (fieldN n (256 + 64 * i.val) 64),
    endAddr := BitVec.ofNat 56 (fieldN n 512 56), hub := h, ridx := ridx, serial := serial }

/-- The partitions a task names. -/
def TaskDesc.parts (d : TaskDesc) : List (Fin 12) := (List.finRange 12).filter fun p => d.pmask.getLsbD p.val

/-- The submission checks (R412): the code of the first that fails; 0 when all pass. -/
def State.taskChecks (s : State) (d : TaskDesc) (zero : Bool) : Code :=
  let a := d.endAddr.toNat
  if a % 64 ≠ 0 ∨ s.hostOpen a 64 = false then 0x3F03
  else if zero = false ∨ d.pmask = 0 then 0x4F01
  else if d.parts.any s.fused then 0x4F02
  else if 256 < d.scount ∨ 4096 < d.sbase + d.scount ∨ 256 < d.gcount ∨ 2048 < d.gbase + d.gcount then 0x4F03
  else
    match d.parts with
    | [] => 0x4F01
    | p :: _ =>
      let t := (s.part p).tenant
      if (d.parts.any fun q => decide ((s.part q).tenant ≠ t)) ||
         ((List.range d.gcount).any fun i => decide (s.wordOwner d.ghub false (d.gbase + i) ≠ t)) then 0x8F01
      else 0

/-- A ring write, TAIL or task has been rejected (R419). -/
def State.taskRej (h : Fin 4) (code : Option Code) (s : State) : State :=
  s.modHub h fun b => { b with taskRej := true, taskErr := code.getD b.taskErr }

/-- A task that a hub has taken, none of whose partitions has work left (R415). -/
def RunTask.new (d : TaskDesc) : RunTask :=
  { desc := d, left := 0, ran := 0, tstart := 0, status := 0, aborted := false, notrun := false, fpart := 0xFF,
    unbal := none, gsnap := [] }

/-- Address of the descriptor at HEAD (R410). -/
def Hub.headAddr (b : Hub) : Nat :=
  fld b.ringHi 0 24 * 2 ^ 32 + fld b.ringLo 7 25 * 128 + b.head.toNat % 2 ^ fld b.ringLo 0 4 * 128

/-- The descriptor that a fetch brought back (R411); what a refused read returns is free (log entry 14). -/
def State.taskBytes (st : Code) (d : List Byte) (s : State) : Nat × State :=
  if st = 0 then (ofBytes d, s) else (ofBytes (bytesOfWords ((List.range 32).map s.freeLane)), s.drawn)

/-- The descriptor at HEAD is there, and is checked (R412). -/
def State.taskCheck (h : Fin 4) (st : Code) (data : List Byte) (s : State) : State :=
  let b := s.hub h
  let r := s.taskBytes st data
  let d := Sys2Proof.Machine.taskOf r.1 h b.head b.nextTask
  let code := r.2.taskChecks d (taskZero r.1)
  let s := r.2.modHub h fun b => { b with nextTask := b.nextTask + 1, descRead := none }
  if code = 0 then s.modHub h fun b => { b with checked := some d }
  else
    let s := (s.modHub h fun b => { b with head := b.head + 1 }).taskRej h (some code)
    let s := s.logAt h code (0xF0 + h.val) 0xFF 0 d.id 0
    if code = 0x3F03 then s.sendEvent h 1 code 0xFF 0 d.id
    else s.modHub h fun b => { b with tasks := b.tasks ++ [{ RunTask.new d with status := code, notrun := true }] }

/-- R412 TASK_DESCRIPTOR_CHECK: the next descriptor of the ring is fetched, once the writes before the doorbell have landed
(R411), and is taken and checked once it is back. -/
def execTaskDescriptorCheck (h : Fin 4) (s : State) : Out :=
  let b := s.hub h
  .next (if s.phase = .ready ∧ b.checked = none ∧ b.head ≠ b.tail then
      match b.descRead with
      | none =>
        if b.bellWaits = [] then
          (s.modHub h fun b => { b with descRead := some none }).requestHere (.desc h b.nextTask) (.port h) .read b.headAddr 128 []
        else s
      | some none => s
      | some (some (st, d)) => s.taskCheck h st d
    else s)

/-- Apply a change to a task that a hub has taken. -/
def State.modTask (d : TaskDesc) (f : RunTask → RunTask) (s : State) : State :=
  s.modHub d.hub fun b => { b with tasks := b.tasks.map fun t => if t.desc.serial = d.serial then f t else t }

/-- A partition has no work left in a task. -/
def RunTask.done (p : Fin 12) (t : RunTask) : RunTask := { t with left := t.left &&& ~~~(BitVec.ofNat 12 (2 ^ p.val)) }

/-- A fault that reaches the dispatcher (R415): the first one is the task's STATUS. -/
def RunTask.fault (p : Fin 12) (code : Code) (t : RunTask) : RunTask :=
  if t.status = 0 then { t with status := code, fpart := BitVec.ofNat 8 p.val } else t

/-- A task ends at a partition without running there (R330, R412). -/
def State.unrun (p : Fin 12) (d : TaskDesc) (s : State) : State :=
  (s.logAt (homeHub p) 0x7E10 p.val 0xFF 0 d.id 0).modTask d fun t => (t.fault p 0x7E10).done p

/-- The COUNT fields of a range of semaphores (R260). -/
def State.counts (s : State) (sp : SemSpace) (base n : Nat) : List (BitVec 16) :=
  (List.range n).map fun i => BitVec.ofNat 16 (semCount (s.word sp false (base + i)))

/-- The power state of a partition to which a task is delivered (R475): a ramp-down is reversed, at once when it
has made no step. -/
def Part.back (q : Part) : Power :=
  if q.power = .rampDown then (if 16 ≤ q.rampAt then .running else .rampUp) else q.power

/-- A checked task goes to its partitions (R413): the global snapshot is taken (R260), and HEAD advances.
At an unavailable partition it ends at once; a ramp-down is reversed (R475). -/
def State.deliver (h : Fin 4) (d : TaskDesc) (s : State) : State :=
  let t := { RunTask.new d with left := d.pmask, gsnap := s.counts (.hub d.ghub) d.gbase d.gcount }
  let s := s.modHub h fun b =>
    { b with checked := none, waitQ := false, head := b.head + 1, tasks := b.tasks ++ [t] }
  d.parts.foldl (fun s p =>
    if (s.part p).unavail then s.unrun p d
    else s.modPart p fun q => { q with delivery := q.delivery ++ [d], power := q.back }) s

/-- R413 TASK_DELIVERY: the task that has passed its checks is delivered once every named partition's
delivery queue has room. -/
def execTaskDelivery (h : Fin 4) (s : State) : Out :=
  .next (match (s.hub h).checked with
    | none => s
    | some d =>
      if d.parts.all fun p => decide ((s.part p).delivery.length < 8) then s.deliver h d
      else s.modHub h fun b => { b with waitQ := true })

/-- The sequencer asks for n bytes of its task's code object (R188, R201): read i of its start. -/
def State.codeAsk (p : Fin 12) (i off n : Nat) (s : State) : State :=
  if n = 0 then s
  else
    let q := s.part p
    let base := (q.task.map fun t => t.code.toNat).getD 0
    (s.modPart p fun q => { q with codeReads := q.codeReads ++ [(i, none)] }).request (.code p q.taskNo i) (.seq p) .read (base + off) n []

/-- The header of a code object is valid (R188). -/
def headerOk (base n : Nat) : Bool :=
  let nb := fieldN n 64 8
  let nf := fieldN n 72 8
  let size := fieldN n 80 32
  decide (base % 64 = 0) && decide (fieldN n 0 32 = 0x4A5A4342) && decide (fieldN n 32 16 = 1) && decide (fieldN n 50 14 = 0)
    && decide (1 ≤ nb ∧ nb ≤ 16) && decide (nf ≤ 64) && decide (size % 4 = 0) && decide (fieldN n 112 32 % 16 = 0)
    && decide (fieldN n 112 32 + 16 * nb ≤ size) && decide (fieldN n 176 336 = 0)
    && (decide (nf = 0) || (decide (fieldN n 144 32 % 8 = 0) && decide (fieldN n 144 32 + 8 * nf ≤ size)))

/-- An ENTRY is a multiple of 4 below SIZE. -/
def entryOk (size e : Nat) : Bool := decide (e % 4 = 0) && decide (e < size)

/-- A bucket-table entry, if it is valid (R189). -/
def bucketOf (size n : Nat) : Option Bucket :=
  if (fieldN n 32 8 = 0 ∨ fieldN n 32 8 = 0x78 ∨ fieldN n 32 8 = 0x80) ∧ fieldN n 40 6 ≤ 32 ∧ fieldN n 46 18 = 0
      ∧ entryOk size (fieldN n 64 32) = true ∧ fieldN n 96 32 = 0 then
    some { maxShape := BitVec.ofNat 32 (fieldN n 0 32), width := BitVec.ofNat 8 (fieldN n 32 8), minLive := fieldN n 40 6,
           entry := BitVec.ofNat 32 (fieldN n 64 32) }
  else none

/-- A fallback-table entry, if it is valid (R190). -/
def fallbackOf (size n : Nat) : Option Fallback :=
  if fieldN n 6 2 = 0 ∧ fieldN n 16 16 = 0 ∧ entryOk size (fieldN n 32 32) = true then
    some { slot := ⟨fieldN n 0 6, Nat.mod_lt _ (by decide)⟩, bkt := BitVec.ofNat 8 (fieldN n 8 8),
           entry := BitVec.ofNat 32 (fieldN n 32 32) }
  else none

/-- Entries of `m` bytes of a table; none when one is invalid. -/
def tableOf {α : Type} (m : Nat) (f : Nat → Option α) : Nat → List Byte → Option (List α)
  | 0, _ => some []
  | k + 1, d => match f (ofBytes (d.take m)), tableOf m f k (d.drop m) with
    | some e, some t => some (e :: t)
    | _, _ => none

/-- The first bucket that matches (R189), with its index. -/
def Part.chooseBucket (q : Part) (shape : W32) (l : List Bucket) : Option (Nat × Bucket) :=
  match l.findIdx? fun b => decide (shape.toNat ≤ b.maxShape.toNat) && (decide (b.width = 0) || decide (b.width.toNat = q.width))
      && decide (b.minLive ≤ q.liveCount) with
  | some i => (l[i]?).map fun b => (i, b)
  | none => none

/-- What read i of the code object brought: its status and its bytes; none while it is on its way, nothing where none was made. -/
def Part.codeGot (q : Part) (i : Nat) : Option (Code × List Byte) :=
  match q.codeReads.find? fun e => e.1 == i with
  | some e => e.2
  | none => some (0, [])

/-- The sequencer's checks of a code object once its header and its tables are there (R188, R189): the fault, or the bucket
chosen, its index, and the fallback table. -/
def State.openCode (s : State) (p : Fin 12) (shape : W32) (n : Nat) (bt ft : Code × List Byte) : Code ⊕ (Nat × Bucket × List Fallback) :=
  if bt.1 ≠ 0 then .inl bt.1
  else if ft.1 ≠ 0 then .inl ft.1
  else
    match tableOf 16 (bucketOf (fieldN n 80 32)) (fieldN n 64 8) bt.2, tableOf 8 (fallbackOf (fieldN n 80 32)) (fieldN n 72 8) ft.2 with
    | some bs, some fs =>
      if s.full = false ∧ (fieldN n 48 1 = 1 ∨ fieldN n 49 1 = 1) then .inl 0x4905
      else
        match (s.part p).chooseBucket shape bs with
        | some (i, b) => .inr (i, b, fs)
        | none => .inl 0x4907
    | _, _ => .inl 0x4906

/-- A channel at task start (R268): one left stopped by an abort abandons the bales before TAIL. -/
def Chan.taskStart (k : Chan) : Chan := if k.stopped then { k with stopped := false, head := k.tail } else k

/-- A core at task start (R128, R191, R231). -/
def Core.taskStart (c : Core) : Core :=
  { c with eng := Vector.replicate 8 EngCtx.reset, current := Vector.replicate 4 .a, vctx := Vector.replicate 2 VCtx.reset,
           copFlush := false, chans := c.chans.map Chan.taskStart, timing := Timing.reset }

/-- The partition takes its task (R31, R191, R260, R501). -/
def State.takeTask (p : Fin 12) (d : TaskDesc) (s : State) : State :=
  let now := s.now
  let snap := s.counts (.part p) d.sbase d.scount
  let s := s.modPart p fun q =>
    { q with delivery := q.delivery.drop 1, task := some d, taskNo := q.taskNo + 1, opening := true, codeReads := [], rampIn := false, tstart := now, snap := snap, audit := 0, seqState := 1, skip := 0,
             sreg := Vector.replicate 32 0, loads := [], calls := [], rerun := 0, fbPend := 0, bcache := [], bmiss := false,
             fetchRet := none, storeBusy := false, waitDone := false, waitSince := none,
             cores := q.cores.map Core.taskStart, trunk := q.trunk.map Chan.taskStart }
  s.modTask d fun t => { t with ran := t.ran ||| BitVec.ofNat 12 (2 ^ p.val), tstart := if t.ran = 0 then now else t.tstart }

/-- The start of a task goes on as its code object comes (R188, R189): first its header, then its tables; then the first bundle is
known, or the task aborts. -/
def State.openStep (p : Fin 12) (s : State) : State :=
  let q := s.part p
  match q.task, q.codeGot 0 with
  | some d, some (st, hd) =>
    let n := ofBytes hd
    if st ≠ 0 then s.abort p st 0
    else if headerOk d.code.toNat n = false then s.abort p 0x4906 0
    else if q.codeReads.length = 1 then
      (s.codeAsk p 1 (fieldN n 112 32) (16 * fieldN n 64 8)).codeAsk p 2 (fieldN n 144 32) (8 * fieldN n 72 8)
    else
      match q.codeGot 1, q.codeGot 2 with
      | some bt, some ft =>
        match s.openCode p d.shape n bt ft with
        | .inl code => s.abort p code 0
        | .inr (i, b, fs) => s.modPart p fun q =>
            { q with opening := false, codeReads := [], next := b.entry, bucket := BitVec.ofNat 4 i,
                     codeSize := BitVec.ofNat 32 (fieldN n 80 32), fallbacks := fs }
      | _, _ => s
  | _, _ => s

/-- R31 TASK_START: a partition that is free and RUNNING takes the next task of its delivery queue and asks for its code object's
header; a start under way goes on. A parity error of the sequencer is an internal state error of the task that starts (R446). -/
def execTaskStart (p : Fin 12) (parity : Bool) (s : State) : Out :=
  let q := s.part p
  .next (if s.phase ≠ .ready then s
    else if q.opening then (if parity then s.abort p 0xF901 0 else s.openStep p)
    else
      match q.delivery with
      | [] => s
      | d :: _ =>
        if q.task = none ∧ q.unavail = false ∧ q.power = .running ∧ s.frozen p = false then
          (if parity then (s.takeTask p d).abort p 0xF901 0 else (s.takeTask p d).codeAsk p 0 0 64) else s)

/-- The engines of a core have done all their work (R204). -/
def Core.quiet (c : Core) : Bool :=
  (c.eng.all fun k => k.queue.isEmpty && k.loops.isEmpty && k.signals.isEmpty) && c.promenade.isEmpty && c.draining.isEmpty && c.takes.isEmpty

/-- The channel has reached its ring tail (R204). -/
def Chan.quiet (k : Chan) : Bool := decide (k.head = k.tail) && k.cur.isNone && k.runs.isEmpty

/-- Everything that R204 waits for has happened. -/
def Part.finished (q : Part) : Bool :=
  (q.live.all fun l => q.cores[l].quiet && q.cores[l].chans.all Chan.quiet) && q.trunk.all Chan.quiet

/-- Index of the first difference of two lists. -/
def firstDiff {α : Type} [DecidableEq α] : List α → List α → Option Nat
  | [], [] => none
  | a :: t, b :: u => if a = b then (firstDiff t u).map (· + 1) else some 0
  | _, _ => some 0

/-- The balance check of a partition range (R260). -/
def State.balance (p : Fin 12) (d : TaskDesc) (s : State) : State :=
  match firstDiff (s.part p).snap (s.counts (.part p) d.sbase d.scount) with
  | none => s
  | some i =>
    let s := (s.semFlag (.part p) 2).semErrAt (.part p) false (d.sbase + i) 0x2A10
    (s.logPart p 0x2A10 (BitVec.ofNat 64 (d.sbase + i))).modTask d fun t =>
      { t with unbal := t.unbal.orElse fun _ => some (d.sbase + i, 0, BitVec.ofNat 8 p.val) }

/-- Claims of the sequencer end with its task (R244). -/
def Claim.taskEnd (c : Claim) : Claim := if c.owner = 1 then { c with owner := 0, free := true } else c

/-- The engine registers of a live core are lost at task end (R206). -/
def Core.taskEnd (c : Core) : Core :=
  if c.fenced then c
  else { c with eng := c.eng.map fun k => { k with a := Vector.replicate 16 0, as := Vector.replicate 16 0,
                                                   ab := Vector.replicate 16 0, al := Vector.replicate 16 0, lr := Vector.replicate 4 0 } }

/-- The partition is idle again (R204, R206, R444 step 5), and its hub knows it. -/
def State.closeTask (p : Fin 12) (d : TaskDesc) (s : State) : State :=
  (s.modPart p fun q => { q with task := none, abort := none, seqState := 0, opening := false, codeReads := [], loads := [], storeBusy := false,
                                 cores := q.cores.map Core.taskEnd, claims := q.claims.map Claim.taskEnd }).modTask d (RunTask.done p)

/-- R204 TASK_FINISH: after END, once everything is done, the balance is checked and the task ends here. -/
def execTaskFinish (p : Fin 12) (s : State) : Out :=
  let q := s.part p
  .next (match q.task with
    | some d =>
      if q.abort.isNone ∧ q.seqState = 2 ∧ q.finished = true ∧ s.frozen p = false then (s.balance p d).closeTask p d else s
    | none => s)

/-- The bytes of an end record (R415). -/
def RunTask.record (t : RunTask) (now : W64) : List Byte :=
  let u := t.unbal.getD (0, 0, 0xFF)
  bytesOf 8 t.desc.id.toNat ++ bytesOf 8 t.tstart.toNat ++ bytesOf 8 now.toNat ++ bytesOf 2 t.status.toNat
    ++ bytesOf 2 (1 + (if t.unbal.isSome then 2 else 0) + (if t.aborted then 4 else 0) + (if t.notrun then 8 else 0))
    ++ bytesOf 2 t.ran.toNat ++ bytesOf 1 t.fpart.toNat ++ bytesOf 1 0 ++ bytesOf 2 u.1 ++ bytesOf 1 u.2.1.toNat
    ++ bytesOf 1 u.2.2.toNat ++ bytesOf 4 t.desc.ridx.toNat ++ bytesOf 24 0

/-- The balance check of the global range (R260), for a task that was delivered and not aborted: such a one has its snapshot. -/
def State.globalBalance (h : Fin 4) (t : RunTask) (s : State) : RunTask × State :=
  if t.aborted || decide (t.gsnap.length ≠ t.desc.gcount) then (t, s)
  else
    match firstDiff t.gsnap (s.counts (.hub t.desc.ghub) t.desc.gbase t.desc.gcount) with
    | none => (t, s)
    | some i =>
      let j := t.desc.gbase + i
      ({ t with unbal := t.unbal.orElse fun _ => some (j, 1, 0xFF) },
       (s.semErrAt (.hub t.desc.ghub) false j 0x2A10).logAt h 0x2A10 (0xF0 + h.val) 0xFF 0 t.desc.id (BitVec.ofNat 64 j))

/-- Write the end record of a task (R415): its event follows once the record has landed. -/
def State.closeRecord (h : Fin 4) (t : RunTask) (s : State) : State :=
  let (t, s) := s.globalBalance h { t with notrun := t.notrun || decide (t.ran = 0) }
  (s.modHub h fun b => { b with records := b.records ++ [t] }).requestHere (.record h t.desc.serial) (.port h) .write t.desc.endAddr.toNat
    64 (t.record s.now)

/-- The event queue has no room for the event of one more end record (R418). -/
def Hub.evFull (b : Hub) : Bool := decide (256 ≤ b.evq.length + b.evLate.length + b.records.length)

/-- R415 END_RECORD: the oldest task with no partition left gets its record; while the event queue is
full it is held (R418). -/
def execEndRecord (h : Fin 4) (s : State) : Out :=
  let b := s.hub h
  .next (match b.tasks.findIdx? fun t => decide (t.left = 0) && !b.reports.any fun r => r.2.1 == t.desc.serial with
    | none => s
    | some i => match b.tasks[i]? with
      | none => s
      | some t =>
        let s := s.modHub h fun b => { b with tasks := b.tasks.eraseIdx i }
        if b.evFull then s.modHub h fun b => { b with evHeld := b.evHeld ++ [t] } else s.closeRecord h t)

/-- An abort reaches partition p from the dispatcher (R414): a task not started is dropped from the
delivery queue, a running one stops. -/
def State.abortFan (d : TaskDesc) (code : Code) (s : State) (p : Fin 12) : State :=
  let q := s.part p
  if q.delivery.any fun e => decide (e = d) then
    (s.modPart p fun q => { q with delivery := q.delivery.filter fun e => decide (e ≠ d) }).modTask d (RunTask.done p)
  else if q.task = some d ∧ q.abort.isNone = true then
    s.stopPart p { code := code, arg := 0, time := s.now, core := 0xFF, waits := q.waiters s.now, dump := none, dumpBad := false }
  else s

/-- R444 ABORT_PROPAGATE: the dispatching hub takes the oldest abort report, and aborts the task on every
other partition it names. -/
def execAbortPropagate (h : Fin 4) (s : State) : Out :=
  .next (match (s.hub h).reports with
    | [] => s
    | (p, n, code) :: rest =>
      let s := s.modHub h fun b => { b with reports := rest }
      match (s.hub h).tasks.find? fun t => t.desc.serial == n with
      | none => s
      | some t =>
        let s := s.modTask t.desc fun t => { t.fault p code with aborted := true }
        (t.desc.parts.filter fun q => decide (q ≠ p)).foldl (State.abortFan t.desc code) s)

/-- The channel has no write outstanding. -/
def Chan.flushed (k : Chan) : Bool := k.runs.all fun r => decide (r.writes = 0)

/-- A channel after its flush (R290): stopped, with HEAD at its first uncompleted bale. -/
def Chan.stop (k : Chan) : Chan := { k with stopped := true, flush := none, runs := [], cur := none, ring := [], pushHeld := [] }

/-- Every channel of the partition has flushed (R290, R444 step 3). -/
def Part.flushed (q : Part) : Bool := (q.cores.all fun c => c.chans.all Chan.flushed) && q.trunk.all Chan.flushed

/-- The dump of a partition (R262): 32 KiB. -/
def State.dumpImage (s : State) (p : Fin 12) (d : TaskDesc) (a : AbortInfo) : List Byte :=
  let q := s.part p
  let words := fun (sp : SemSpace) (ctr : Bool) (b n : Nat) => bytesOfWords ((List.range n).map fun i => s.word sp ctr (b + i))
  let hdr := 1 + a.code.toNat * 2 ^ 16 + p.val * 2 ^ 32 + q.liveCount * 2 ^ 40 + d.id.toNat * 2 ^ 64 + a.time.toNat * 2 ^ 128
    + d.gbase * 2 ^ 192 + d.gcount * 2 ^ 203 + d.ghub.val * 2 ^ 212 + q.pc.toNat * 2 ^ 224
  let fenced := fun r : Nat =>
    if 1 ≤ r ∧ r < 257 then q.cores[coreNo ((r - 1) / 8)].fenced
    else if 257 ≤ r ∧ r < 385 then q.cores[coreNo ((r - 257) / 4)].fenced else false
  let rec' := fun r : Nat => match a.waits.find? fun e => e.1 == r with
    | some e => bytesOf 16 e.2.toNat
    | none => bytesOf 16 (if fenced r then 2 ^ 8 else 0)
  bytesOf 256 hdr ++ words (.part p) false 0 4096 ++ words (.part p) true 0 1024
    ++ words (.hub d.ghub) false d.gbase d.gcount ++ bytesOf (4 * (256 - d.gcount)) 0
    ++ (List.range 393).flatMap rec' ++ bytesOf (0x8000 - 0x6D90) 0

/-- DUMP_ERR (R262). -/
def State.dumpFailed (p : Fin 12) (s : State) : State := s.semFlag (.part p) 4

/-- Steps 4 and 5 of an abort (R444): the dump has ended, the abort is logged, the partition is idle. -/
def State.abortEnd (p : Fin 12) (d : TaskDesc) (a : AbortInfo) (s : State) : State :=
  (s.logStamp (homeHub p) a.time a.code p.val a.core.toNat 1 d.id a.arg).closeTask p d

/-- The writes of a dump (R262): 64 of 512 B. -/
def State.dumpWrites (p : Fin 12) (addr : Nat) (img : List Byte) (s : State) : State :=
  (List.range 64).foldl (fun s k => s.request (.dump p) (.seq p) .write (addr + 512 * k) 512 ((img.drop (512 * k)).take 512)) s

/-- Writes of a channel that a link has not answered. -/
def Link.chanWrites (c : ChanId) (k : Link) : List Outst :=
  k.outst.filter fun o => match o.who with
    | .chan c' _ _ => decide (c' = c) && !o.read
    | _ => false

/-- The packet is a write of a channel that waits for its link (R382). -/
def Waiting.chanWrite (c : ChanId) (w : Waiting) : Bool :=
  match w.req with
  | some (.chan c' _ _, read, _) => decide (c' = c) && !read
  | _ => false

/-- Give up a channel's writes to other devices (R290), those that wait for their link among them. -/
def State.abandonWrites (c : ChanId) (s : State) (n : Fin 16) : State :=
  let gone := (s.links[n].chanWrites c).map fun o => (o.who, some o.tag)
  let held := (s.links[n].waits.filter (Waiting.chanWrite c)).filterMap fun w => w.req.map fun r => (r.1, (none : Option (BitVec 16)))
  let s := s.modLink n fun k => { k with waits := k.waits.filter fun w => !w.chanWrite c }
  (gone ++ held).foldl (fun s o =>
    let s := match o.2 with
      | some t => s.modLink n fun k => { k with outst := k.outst.filter fun x => decide (x.tag ≠ t), late := k.late ++ [t] }
      | none => s
    (s.complete o.1 false 0 []).logAt (homeHub (chanPart c)) 0x9B01 (chanPart c).val (chanCore c) 0 (s.part (chanPart c)).taskId 0) s

/-- R290 CHANNEL_FLUSH_TIMEOUT: 50 µs after the flush of a channel began, its writes to other devices
that have not completed are abandoned. -/
def execChannelFlushTimeout (c : ChanId) (s : State) : Out :=
  .next (match (s.chan c).flush with
    | none => s
    | some t => if 50000 ≤ (s.now - t).toNat then (List.finRange 16).foldl (State.abandonWrites c) s else s)

/-- Send the merged event of a bit of EVT_PEND (R416, R418, R419): its kind; which partition of the bit's six, which fault code and
which timer it carries are free (log entry 15). -/
def State.sendPend (h : Fin 4) (s : State) (i : Nat) : State :=
  let b := s.hub h
  if b.evPend.getLsbD i = false ∨ 256 ≤ b.evq.length then s
  else
    let part : Byte := if i % 3 = 2 then 0xFF else BitVec.ofNat 8 (6 * (i % 3) + (s.freeLane 0).toNat % 6)
    let code : Code := if i / 3 = 0 then BitVec.ofNat 16 (s.freeLane 1).toNat else if i / 3 = 1 then 0xAB01 else 0
    let e : Event := { kind := BitVec.ofNat 16 (2 + i / 3), code := code, part := part, lop := 0, coal := true,
                       arg := if i / 3 = 1 then BitVec.ofNat 64 ((s.freeLane 2).toNat % 16) else 0, time := s.now, seq := b.evSeq }
    (s.modHub h fun b => { b with evq := b.evq ++ [e], evSeq := b.evSeq + 1,
                                  evPend := b.evPend &&& ~~~(BitVec.ofNat 32 (2 ^ i)) }).drawn

/-- The 32 bytes of an EVENT message (R416). -/
def Event.bytes (e : Event) : List Byte :=
  bytesOf 2 e.kind.toNat ++ bytesOf 2 e.code.toNat ++ [e.part, e.lop, if e.coal then 1 else 0, 0] ++ bytesOf 8 e.arg.toNat
    ++ bytesOf 8 e.time.toNat ++ bytesOf 8 e.seq.toNat

/-- Events that waited for room join the queue (R418). -/
def Hub.takeLate (b : Hub) : Hub :=
  let n := 256 - b.evq.length
  { b with evq := b.evq ++ b.evLate.take n, evLate := b.evLate.drop n }

/-- Held end records go ahead while the event queue has room (R418). -/
def State.freeHeld (h : Fin 4) : List RunTask → State → State
  | [], s => s.modHub h fun b => { b with evHeld := [] }
  | t :: r, s =>
    if (s.hub h).evFull then s.modHub h fun b => { b with evHeld := t :: r } else State.freeHeld h r (s.closeRecord h t)

/-- A port leaves BUSY as it sends the completion event of its long operation (R408). -/
def State.leaveBusy (h : Fin 4) (e : Event) (s : State) : State :=
  s.modHub h fun b => match b.busy with
    | some o => if e.kind = 5 ∧ e.lop.toNat = o.lop.toNat then { b with busy := none } else b
    | none => b

/-- A committed ring is acceptable (R419). -/
def State.ringOk (s : State) (h : Fin 4) (hi : W32) : Bool :=
  let b := s.hub h
  let sz := fld b.stagedLo 0 4
  decide (b.head = b.tail) && decide (4 ≤ sz ∧ sz ≤ 12)
    && s.hostOpen (fld hi 0 24 * 2 ^ 32 + fld b.stagedLo 7 25 * 128) (128 * 2 ^ sz)

/-- The fetch of a descriptor that the ring no longer holds is forgotten. -/
def Hub.unfetch (b : Hub) : Hub := { b with descRead := none, nextTask := b.nextTask + 1 }

/-- A write to TASK_RING_HI (R419): commit, or rejection; its status. -/
def State.taskCommit (h : Fin 4) (v : W32) (s : State) : Code × State :=
  if s.ringOk h v then
    (0, s.modHub h fun b =>
      { b.unfetch with ringLo := b.stagedLo, ringHi := BitVec.ofNat 24 v.toNat, head := 0, tail := 0, checked := none })
  else (0x3F04, (s.taskRej h none).logHub h 0x3F04 0)

/-- A new TAIL of a task ring (R411): its status. -/
def State.taskTail (h : Fin 4) (v : W32) (s : State) : Code × State :=
  let b := s.hub h
  if 2 ^ fld b.ringLo 0 4 < (v - b.head).toNat then (0x3F02, (s.taskRej h (some 0x3F02)).logHub h 0x3F02 0)
  else (0, s.modHub h fun b => if v = b.head then { b.unfetch with tail := v } else { b with tail := v })

end Sys2Proof.Machine
end

