-- ==== Sys2Proof/Machine/Wipe.lean ====
section
/-! DEFINITION. Life-cycle state, keys of the block, and what each event keeps (R313, R423, R432, R433,
R437). -/

namespace Sys2Proof.Machine

/-- Bits set in a number of n bits. -/
def ones {n : Nat} (x : BitVec n) : Nat := ((List.range n).filter fun i => x.getLsbD i).length

/-- A fuse reads as burned when either copy of it is burned (R421). -/
def Fuses.read (a b : Fuses) : Fuses where
  prov := a.prov || b.prov
  svc0 := a.svc0 || b.svc0
  scrap := a.scrap || b.scrap
  ret := a.ret ||| b.ret
  svc := a.svc ||| b.svc
  idSeed := a.idSeed ||| b.idSeed
  authH := a.authH ||| b.authH

/-- The fuses of LC_ADVANCE as they read (R421). -/
def State.fuseBits (s : State) : Fuses := s.fuses.read s.fuseCopy

/-- Burn fuses together with their redundant copies (R421). -/
def State.burn (f : Fuses → Fuses) (s : State) : State := { s with fuses := f s.fuses, fuseCopy := f s.fuseCopy }

/-- The life-cycle state (R433): 0 BLANK, 1 PROVISIONED, 2 IN_SERVICE, 3 RETURNED, 4 SCRAPPED. -/
def State.life (s : State) : Nat :=
  if s.fuseBits.scrap then 4
  else if ones s.fuseBits.svc < ones s.fuseBits.ret then 3
  else if s.fuseBits.svc0 then 2
  else if s.fuseBits.prov then 1 else 0

/-- A row of R437 is open in the present state. -/
def State.gate (s : State) (row : Nat) : Bool :=
  if row = 1 then true
  else if row = 5 then decide (s.life = 0 ∨ s.life = 4)
  else decide (s.life ≠ 2)

/-- The ASCII bytes of a label. -/
def ascii (l : List Nat) : List Byte := l.map (BitVec.ofNat 8)

/-- The order of the P-384 group, less one (R423). -/
def groupLess : Nat :=
  0xffffffffffffffffffffffffffffffffffffffffffffffffc7634d81f4372ddf581a0db248b0a77aecec196accc52972

/-- FAMILY in little-endian order (R423). -/
def family : List Byte := [0x12, 0x5A]

/-- Key derivation (R331): NIST SP 800-108 in counter mode over HMAC-SHA-256. Block i is the PRF of i, the label, a zero byte,
the context and L, counter and L being 32 bits, big-endian; the first L bits of the blocks are the output. -/
def kdf (bits : Nat) (key label ctx : List Byte) : List Byte :=
  let be := fun n : Nat => (bytesOf 4 n).reverse
  let block := fun i : Nat => bytesOf 32 (Config.hmac key (be (i + 1) ++ label ++ [0] ++ ctx ++ be bits)).toNat
  ((List.range ((bits + 255) / 256)).flatMap block).take (bits / 8)

/-- Encryption and decryption under AES-256-GCM (R332, R391): each byte with a byte of the key stream. -/
def gcm (key : BitVec 256) (iv text : List Byte) : List Byte := text.mapIdx fun i b => b ^^^ Config.keyStream key iv i

/-- A key of 256 bits that the key derivation gives (R331), byte 0 lowest. -/
def key256 (key label ctx : List Byte) : BitVec 256 := BitVec.ofNat 256 (ofBytes (kdf 256 key label ctx))

/-- Requests that a reset keeps: those of control ports and of the security engine (R406). -/
def keepPort (l : List MemReq) : List MemReq :=
  l.filter fun r => match r.who with
    | .port _ _ => true
    | .report _ => true
    | _ => false

/-- A private scalar derived from a seed (R423). -/
def scalarOf (seed : BitVec 256) (label : List Byte) : Nat :=
  ofBytes (kdf 448 (bytesOf 32 seed.toNat) label family).reverse % groupLess + 1

/-- The seed of the keys: IDSEED, or in BLANK the temporary one (R423). -/
def State.seed (s : State) : BitVec 256 := if s.fuseBits.prov then s.fuseBits.idSeed else s.tmpSeed

/-- The private identity key, label JZ-ID (R423). -/
def State.idKey (s : State) : Nat := scalarOf s.fuseBits.idSeed (ascii [0x4A, 0x5A, 0x2D, 0x49, 0x44])

/-- The private key-agreement key, label JZ-KA (R423). -/
def State.kaKey (s : State) : Nat := scalarOf s.seed (ascii [0x4A, 0x5A, 0x2D, 0x4B, 0x41])

/-- Derive the keys of the block (R423): in BLANK from a fresh temporary seed and without an identity
key, in SCRAPPED none. -/
def State.deriveKeys (s : State) : State :=
  if s.life = 4 then { s with tmpSeed := 0, idPub := 0, kaPub := 0 }
  else if s.life = 0 then
    let s := { s with tmpSeed := Config.draw s.drbg, drbg := s.drbg + 1, idPub := 0 }
    { s with kaPub := Config.publicKey s.kaKey }
  else
    let s := { s with tmpSeed := 0 }
    { s with idPub := Config.publicKey s.idKey, kaPub := Config.publicKey s.kaKey }

/-- The events of R432 that wipe. -/
inductive WipeKind where
  | reset
  | load
  | tenant
  | warm
deriving DecidableEq, Repr

/-- A channel after a wipe: its registers as at reset; reads on their way still come back to it. -/
def Chan.wipe (k : Chan) : Chan := { Chan.reset with serial := k.serial, ret := k.ret }

/-- GRID_ENT after a wipe (R42, R343, R432): tables 6 and 7 take the personality's values. -/
def wipedGrid (g : Vector (BitVec 16) 32) : Vector W32 128 :=
  Vector.ofFn fun i : Fin 128 =>
    if 96 ≤ i.val then BitVec.ofNat 32 (vget 0 g (i.val - 96)).toNat else BitVec.ofNat 32 (Grid.resetEnt i.val)

/-- A core after a wipe (R432), its port flushed (R149). -/
def Core.wipe (keep : Bool) (g : Vector (BitVec 16) 32) (c : Core) : Core :=
  { Core.reset with
    copFlush := true
    gridEnt := wipedGrid g
    spad := if keep then c.spad else []
    valid := if keep then c.valid else Vector.replicate 1536 0
    bad := if keep then c.bad else []
    writeBack := if keep then c.writeBack else []
    dmaRead := c.dmaRead, dmaWrite := c.dmaWrite, dmaRemote := c.dmaRemote
    chans := c.chans.map Chan.wipe, readTags := c.readTags
    fenced := c.fenced, bypass := c.bypass, repair := c.repair, wrap := c.wrap }

/-- Clear VLD in every entry of a descriptor store (R185). -/
def clearVld (m : Sparse (BitVec 512)) : Sparse (BitVec 512) :=
  m.foldl (fun t e => Sparse.put 0 e.1 (e.2 &&& ~~~(BitVec.ofNat 512 (2 ^ 293))) t) []

/-- A partition after a wipe (R432). Its delivery queue is emptied by the caller. -/
def Part.wipe (k : WipeKind) (q : Part) : Part :=
  let g := if k = .load then Vector.replicate 32 0x8000 else q.grid67
  let epoch := if k = .tenant then q.epoch + 1 else if k = .warm then 0 else q.epoch
  let keepWin := decide (k = .reset ∨ k = .load)
  { Part.reset with
    cores := q.cores.map (Core.wipe (decide (k = .reset)) g)
    store := if k = .warm then [] else if k = .tenant ∧ epoch = 0 then clearVld q.store else q.store
    epoch := epoch
    wins := if keepWin then q.wins else Part.reset.wins
    trunk := q.trunk.map Chan.wipe, trunkTags := q.trunkTags
    tollSpa := q.tollSpa, tollSpb := q.tollSpb, tollDma := q.tollDma
    depots := q.depots.map fun d => { sets := [], fills := d.fills.map fun f => { f with alloc := false } }
    claims := q.claims.map fun c => { c with owner := 0, free := true }
    tenant := if k = .warm then 0 else q.tenant
    pers := q.pers, content := q.content, akey := q.akey, copClaims := q.copClaims, featClaims := q.featClaims, grid67 := g
    power := if k = .load ∨ k = .tenant then q.power else .gated
    rampAt := if k = .load ∨ k = .tenant then q.rampAt else 0
    rampIn := decide (k = .tenant) && q.rampIn
    unavail := q.unavail, isolated := q.isolated
    wraps := q.wraps, fabric := q.fabric
    flops := initFlops 250 q.fabric }

/-- The registers of a stack port at an event that initialises them (R14, R322, R432): RATE belongs to the personality,
UP says whether the stack is in service (R307). -/
def Stack.wipe (k : Stack) : Stack :=
  { Stack.reset with rate := k.rate, up := k.up, training := k.training, badUnits := k.badUnits,
                     qRead := k.qRead, qWrite := k.qWrite, qRemote := k.qRemote, refreshes := k.refreshes, rfms := k.rfms }

/-- Wipe a partition: the tasks of its delivery queue end there without running (R330, R412, R432). -/
def State.wipePart (k : WipeKind) (p : Fin 12) (s : State) : State :=
  let l := (s.part p).delivery
  let s := if k = .warm then s else l.foldl (fun s d => s.unrun p d) s
  ((s.modPart p (Part.wipe k)).modStack ⟨2 * p.val, by omega⟩ Stack.wipe).modStack ⟨2 * p.val + 1, by omega⟩ Stack.wipe

/-- Zero the words of a global block and give it an owner (R429). -/
def State.setOwner (h : Fin 4) (b : Fin 32) (t : BitVec 4) (s : State) : State :=
  s.modHub h fun u =>
    { u with gown := u.gown.set b t, gsems := u.gsems.filter fun e => decide (e.1 / 64 ≠ b.val),
             gctrs := u.gctrs.filter fun e => decide (e.1 / 16 ≠ b.val) }

/-- A link in IDLE (R375): what its sessions held is gone; its registers stay. -/
def Link.toIdle (k : Link) : Link :=
  { Link.reset with
    phy := k.phy, fRetry := k.fRetry, fAuth := k.fAuth, fDown := k.fDown, rev := k.rev, disable := k.disable, expect := k.expect,
    bound := k.bound, tenant := k.tenant, retry := k.retry, badCnt := k.badCnt, tx := k.tx, claimed := k.claimed,
    nextTag := k.nextTag, outst := k.outst, late := k.late, txDone := k.txDone }

/-- Log entry 0x8E21, 0x8E20 or a failure at hub 0 (R440). -/
def State.logSec (code : Code) (s : State) : State := s.logBlock code 0

/-- Every port sends the completion event of a block-wide operation (R417). -/
def State.eventAll (lop : Nat) (code : Code) (s : State) : State :=
  (List.finRange 4).foldl (fun s h => s.sendEvent h 5 code 0xFF lop 0) s

/-- The four ports are BUSY with a long operation (R407). -/
def State.busyAll (lop : Nat) (s : State) : State :=
  (List.finRange 4).foldl (fun s h => s.modHub h fun b =>
    { b with busy := some (b.busy.getD { lop := BitVec.ofNat 4 lop, prog := 0 }) }) s

/-- PROG of a long operation in the ports that it made BUSY (R408): ⌊255 v / n⌋, never falling. -/
def State.progress (lop v n : Nat) (ports : List (Fin 4)) (s : State) : State :=
  ports.foldl (fun s h => s.modHub h fun b => { b with busy := b.busy.map fun o =>
    if o.lop.toNat = lop then { o with prog := BitVec.ofNat 8 (max o.prog.toNat (255 * v / n)) } else o }) s

/-- Some loader has a load under way (R326). -/
def State.anyLoad (s : State) : Bool := s.hubs.any fun b => b.loader.started

end Sys2Proof.Machine
end

