-- ==== Sys2Proof/Machine/Certs.lean ====
section
/-! DEFINITION. Link certificates (R388, R390, R402), and the start of authentication on a link (R389). -/

namespace Sys2Proof.Machine

/-- A number of bytes at an offset of a header. -/
def hfield (l : List Byte) (o n : Nat) : Nat := ofBytes ((l.drop o).take n)

/-- A number in big-endian order (R327, SEC 1). -/
def bigEndian (l : List Byte) : Nat := ofBytes l.reverse

/-- The bytes of a point, x ‖ y, as the registers hold them: byte 0 lowest. -/
def pointBytes (v : BitVec 768) : List Byte := bytesOf 96 v.toNat

/-- A hash as key-derivation context: 48 bytes. -/
def hashBytes (x : BitVec 384) : List Byte := bytesOf 48 x.toNat

/-- The form of a certificate and its signature under the authority key of a hub (R388, R390). -/
def certForm (dah : BitVec 384) (key : BitVec 768) (minEp : Nat) (c : List Byte) : Bool :=
  decide (hfield c 0 4 = 0x43585444) && decide (hfield c 4 2 = 1) && decide (hfield c 7 1 = 0) && decide (hfield c 0x18 8 = 0)
    && decide (hfield c 0x80 32 = 0) && decide (minEp ≤ hfield c 0x10 8) && decide (hfield c 6 1 ≠ 0xFF)
    && decide (Config.sha384 (pointBytes key) = dah)
    && Config.verify key (c.take 0xA0) (BitVec.ofNat 768 (hfield c 0xA0 96))

/-- LINK_DAH of a hub as a hash. -/
def Hub.dahHash (b : Hub) : BitVec 384 := BitVec.ofNat 384 (ofBytes (bytesOfWords b.dah.toList))

/-- The block's own certificate, as bytes. -/
def State.certBytes (s : State) : List Byte := bytesOfWords s.cert.toList

/-- The own certificate is valid at a hub (R390); the authority key is what log entry 5 says. -/
def State.ownCert (s : State) (b : Hub) : Bool :=
  let c := s.certBytes
  certForm b.dahHash (Config.authorityKey b.dahHash) s.minEp.toNat c && decide (hfield c 6 1 = s.devNum.toNat)
    && decide ((c.drop 0x20).take 96 = pointBytes s.idPub)

/-- A control packet of a link (R385): HELLO, FINISH, KEYUPD, HEARTBEAT. -/
def State.linkPacket (n : Fin 16) (ptype : Nat) (data : List Byte) (s : State) : State :=
  let dst := s.links[n].seen.toNat
  s.egress n { ptype := ptype, orig := 15, src := s.devNum.toNat, dst := dst, hops := 15, arr := none, lir := false, redop := 0,
               fmt := 0, len4 := data.length / 4, tag := 0, addr := dst * 2 ^ 48, status := 0 } data

/-- The transcript of an authentication (R389): the HELLO of the lower IDKEY first. -/
def transcript (own other : List Byte) : BitVec 384 :=
  if bigEndian ((own.drop 0xA0).take 96) < bigEndian ((other.drop 0xA0).take 96) then Config.sha384 (own ++ other)
  else Config.sha384 (other ++ own)

/-- Both HELLOs are there: FINISH leaves (R389). -/
def State.sendFinish (n : Fin 16) (s : State) : State :=
  let k := s.links[n]
  if k.helloTx ≠ [] ∧ k.helloRx ≠ [] then
    s.linkPacket n 7 (pointBytes (Config.sign s.idKey (hashBytes (transcript k.helloTx k.helloRx))))
  else s

/-- The private key that three draws of the generator give (R389, R422). -/
def ephemeral (d : Nat) : Nat := ((Config.draw d).toNat + (Config.draw (d + 1)).toNat * 2 ^ 256) % groupLess + 1

/-- A link in AUTH sends its HELLO when the own certificate is valid at its hub, and its timer starts (R375,
R389); FINISH follows at once where the partner's HELLO has come before. -/
def State.sendHello (n : Fin 16) (s : State) : State :=
  let k := s.links[n]
  let b := s.hub (linkHub n)
  if k.state = .auth ∧ k.helloTx = [] ∧ b.certv = true then
    let e := ephemeral s.drbg
    let hello := pointBytes (Config.publicKey e) ++ bytesOf 32 (Config.draw (s.drbg + 2)).toNat ++ s.certBytes
      ++ pointBytes (Config.authorityKey b.dahHash)
    let s := { s with drbg := s.drbg + 3 }
    ((s.modLink n fun k => { k with eph := e, helloTx := hello, since := s.now }).linkPacket n 6 hello).sendFinish n
  else s

/-- LINK_CERTV is recomputed at every hub, and links that waited for it in AUTH send their HELLO (R375, R402). -/
def State.recert (s : State) : State :=
  let s := { s with hubs := s.hubs.map fun (b : Hub) => { b with certv := s.ownCert b } }
  (List.finRange 16).foldl (fun s n => s.sendHello n) s

end Sys2Proof.Machine
end

