-- ==== Sys2Proof/Machine/Personality.lean ====
section
/-! DEFINITION. Personality streams (14_personality.md) and the frames of the margin fabric that the block
itself acts on (15_margin_fabric.md). -/

namespace Sys2Proof.Machine

/-- The prime of P-384. -/
def p384 : Nat := 2 ^ 128 * 2 ^ 128 * 2 ^ 128 - 2 ^ 128 - 2 ^ 96 + 2 ^ 32 - 1

/-- The coefficient b of P-384. -/
def p384b : Nat :=
  0xb3312fa7e23ee7e4988e056be3f82d19181d9c6efe8141120314088f5013875ac656398d8a2ed19d2a85c8edd3ec2aef

/-- A 96-byte string is a point of P-384 (R329 check 1). -/
def pointOk (l : List Byte) : Bool :=
  let x := bigEndian (l.take 48)
  let y := bigEndian (l.drop 48)
  decide (x < p384) && decide (y < p384) && decide ((y * y + 3 * x) % p384 = (x * x * x + p384b) % p384)

/-- TGT names a partition. -/
def tgtPart (hdr : List Byte) (p : Fin 12) : Bool := (hfield hdr 0x0C 2).testBit p.val
/-- TGT names the hub's fabric. -/
def tgtHub (hdr : List Byte) : Bool := (hfield hdr 0x0C 2).testBit 12
/-- The target partitions of a stream. -/
def targets (hdr : List Byte) : List (Fin 12) := (List.finRange 12).filter (tgtPart hdr)
/-- NSEG. -/
def nseg (hdr : List Byte) : Nat := hfield hdr 0x10 4
/-- LEN. -/
def slen (hdr : List Byte) : Nat := hfield hdr 0x14 4
/-- SLEN of segment i (R328). -/
def segLen (hdr : List Byte) (i : Nat) : Nat := if i + 1 = nseg hdr then slen hdr - (nseg hdr - 1) * 65536 else 65536

/-- Check 1 of R329. -/
def streamForm (hdr : List Byte) : Bool :=
  let n := nseg hdr
  let len := slen hdr
  decide (hfield hdr 0 4 = 0x44414E4F) && decide (hfield hdr 4 2 = 1) && decide (hfield hdr 0xB 1 = 0)
    && decide (hfield hdr 0xC 2 / 2 ^ 13 = 0) && decide (hfield hdr 0xC 2 ≠ 0) && decide (hfield hdr 0xE 2 = 0)
    && decide (hfield hdr 0x18 8 = 0) && decide (hfield hdr 0x140 96 = 0) && decide (1 ≤ n ∧ n ≤ 16384)
    && decide (len % 8 = 0) && decide ((n - 1) * 65536 + 8 ≤ len) && decide (len ≤ n * 65536)
    && pointOk ((hdr.drop 0x50).take 96)

/-- The checks before decryption (R329), in order: the code of the first that fails. -/
def State.streamChecks (s : State) (h : Fin 4) (hdr : List Byte) : Code :=
  let akey := (hdr.drop 0xB0).take 96
  if streamForm hdr = false then 0x7E01
  else if hfield hdr 0xA 1 ≠ h.val ∨ (targets hdr).any (fun p => decide (homeHub p ≠ h) || s.fused p) = true then 0x7E12
  else if hfield hdr 6 2 ≠ 0x5A12 then 0x7E02
  else if hfield hdr 8 2 ≠ s.build.toNat then 0x7E03
  else if (hdr.drop 0x20).take 48 ≠ bytesOf 48 (Config.sha384 (pointBytes s.kaPub)).toNat then 0x7E04
  else if s.life = 4 then 0x7E13
  else if s.life ≠ 0 ∧ Config.sha384 akey ≠ s.fuseBits.authH then 0x7E05
  else if Config.verify (BitVec.ofNat 768 (ofBytes akey)) (hdr.take 0x1A0) (BitVec.ofNat 768 (hfield hdr 0x1A0 96)) = false then 0x7E06
  else if (targets hdr).any (fun p => (s.part p).task.isSome) = true then 0x7E11
  else 0

/-- Apply a change to the loader of hub h. -/
def State.modLoader (h : Fin 4) (f : Loader → Loader) (s : State) : State :=
  s.modHub h fun b => { b with loader := f b.loader }

/-- The load has ended: the loader is idle, and the completion event is on its way (R326). -/
def State.loadEnd (h : Fin 4) (code : Code) (s : State) : State :=
  let s := s.modLoader h fun l =>
    { Loader.idle with prog := l.prog, lastErr := if code = 0 then l.lastErr else code }
  s.sendEvent h 5 code 0xFF 1 0

/-- The log entry of a rejection (R353), with the segment index reached. -/
def State.logReject (h : Fin 4) (code : Code) (s : State) : State :=
  s.logHub h code (BitVec.ofNat 64 (s.hub h).loader.done)

/-- R340, R348: the partition loses its personality: configuration, claims, measurement; no claim register is bound. -/
def Part.bare (q : Part) : Part :=
  { q with claims := Part.reset.claims, fabric := [], flops := [], content := 0, akey := 0, copClaims := 0, featClaims := [],
           grid67 := Vector.replicate 32 0x8000 }

/-- R348 step 3: the hub's four links go to electrical idle. -/
def State.idleLinks (h : Fin 4) (s : State) : State :=
  (List.finRange 16).foldl (fun s n =>
    if linkHub n = h then s.endSession n fun k => { k.toIdle with claimed := false } else s) s

/-- A hub whose fabric has no personality (R351): its configuration, claims and measurement are gone, and the LINK registers that
REGW sets have their reset values. -/
def State.bareHub (h : Fin 4) (s : State) : State :=
  let s := s.modHub h fun b =>
    { b with fabric := [], flops := [], content := 0, akey := 0, hubClaims := [], dah := Vector.replicate 12 0 }
  ((List.finRange 16).foldl (fun s n => if linkHub n = h then s.modLink n fun k => { k with phy := 0, tx := 0x1B4100 } else s) s).recert

/-- What a rejection after the commit point does to the registers that REGW sets (R351, R432): without a
personality they have their reset values. -/
def State.bareRegs (p : Fin 12) (s : State) : State :=
  let s := s.modPart p fun q => { q with tollSpa := 0x002040A0, tollSpb := 0x002040A0, tollDma := 0x002040A0 }
  [0, 1].foldl (fun s (n : Nat) => s.modStack (stackNo (2 * p.val + n)) fun k =>
    { k with rate := 0, training := k.training || decide (k.rate ≠ 0) }) s

/-- A rejection (R350, R351). Before the commit point every target is as before; after it, every target is
wiped again and held in reset. -/
def State.reject (h : Fin 4) (code : Code) (s : State) : State :=
  let l := (s.hub h).loader
  let s := s.logReject h code
  let s :=
    if l.state = .idle then s
    else if l.state = .header then
      let s := (targets l.hdr).foldl (fun s p =>
        let old := vget PersState.none l.prev p.val
        s.modPart p fun q => { q with pers := old, unavail := decide (old = .held), isolated := decide (old = .held) }) s
      if tgtHub l.hdr then s.modHub h fun b => { b with hubf := l.prevHub } else s
    else
      let s := (targets l.hdr).foldl (fun s p =>
        ((s.wipePart .load p).modPart p fun q => { q.bare with pers := .held, unavail := true, isolated := true }).bareRegs p) s
      if tgtHub l.hdr then
        ((s.idleLinks h).bareHub h).modHub h fun b => { b with hubf := .held }
      else s
  s.loadEnd h code

/-- Segment records from number i on that lie whole in r bytes (R328). -/
def wholeSegs (hdr : List Byte) (i r : Nat) : Nat :=
  let full := nseg hdr - 1 - i
  if nseg hdr ≤ i then 0
  else if r < full * 65560 then r / 65560
  else full + (if 24 + segLen hdr (nseg hdr - 1) ≤ r - full * 65560 then 1 else 0)

/-- Records of a stream, the header among them, that lie whole in the loader and are not consumed. -/
def Loader.whole (l : Loader) : Nat :=
  if l.state = .idle then (if l.buf.length < 512 then 0 else 1 + wholeSegs (l.buf.take 512) 0 (l.buf.length - 512))
  else wholeSegs l.hdr l.done l.buf.length

/-- Stream bytes reach the loader at a time (R326, R352). -/
def Loader.push (now : W64) (bytes : List Byte) (l : Loader) : Loader :=
  let m := { l with started := true, buf := l.buf ++ bytes }
  if l.whole < m.whole then { m with since := now } else m

/-- A STREAM message is valid (R404, R405). -/
def streamOk (hdr : BitVec 128) (data : List W32) : Bool :=
  decide (fld hdr 0 4 = 4) && decide (fld hdr 4 4 = 0) && decide (fld hdr 23 9 = 0) && decide (fld hdr 32 56 = 0)
    && decide (fld hdr 88 40 = 0) && decide (fld hdr 16 7 ≤ 64) && decide (data.length = fld hdr 16 7)

/-- R326 STREAM: stream bytes enter the loader in order; the first begins the load, and makes the port BUSY. A message that is
not valid, or whose tag is outstanding, is answered so (R405); a port that is BUSY with anything else answers BUSY (R408). -/
def execStream (h : Fin 4) (hdr : BitVec 128) (data : List W32) (s : State) : Out :=
  let b := s.hub h
  let tag : Byte := BitVec.ofNat 8 (fld hdr 8 8)
  .next (if b.portUp = false then s
    else if streamOk hdr data = false ∨ b.tagsOut.contains tag = true then s.portInvalid h tag
    else match b.busy with
    | some o =>
      if b.loader.started ∧ o.lop = 1 then
        (s.modLoader h (Loader.push s.now (bytesOfWords data))).say h (.completion tag 0 [])
      else s.say h (.busy tag o.lop o.prog)
    | none =>
      if data.isEmpty then s.say h (.completion tag 0 [])
      else
        (s.modHub h fun b => { b with
            busy := some { lop := 1, prog := 0 }
            loader := { Loader.idle with lastErr := b.loader.lastErr }.push s.now (bytesOfWords data) }).say h
          (.completion tag 0 []))

/-- The session seed (R331), label ONAD-SEED. -/
def State.streamSeed (s : State) (hdr : List Byte) : BitVec 256 :=
  key256 (bytesOf 48 (Config.shared s.kaKey (BitVec.ofNat 768 (hfield hdr 0x50 96))).toNat)
    (ascii [0x4F, 0x4E, 0x41, 0x44, 0x2D, 0x53, 0x45, 0x45, 0x44]) (hashBytes (Config.sha384 (hdr.take 0x1A0)))

/-- The targets become unavailable, and border isolation holds (R330). -/
def State.beginLoad (h : Fin 4) (hdr : List Byte) (s : State) : State :=
  let prev := Vector.ofFn fun p : Fin 12 => (s.part p).pers
  let seed := s.streamSeed hdr
  let s := s.modHub h fun b => { b with
    hubf := if tgtHub hdr then .loading else b.hubf
    loader := { b.loader with state := .header, hdr := hdr, seed := seed, buf := b.loader.buf.drop 512, isoAt := s.now,
                              prev := prev, prevHub := b.hubf } }
  (targets hdr).foldl (fun s p => s.modPart p fun q => { q with unavail := true, isolated := true, pers := .loading }) s

/-- The security command that runs names partition p (R409, R430). -/
def State.secTakes (s : State) (p : Fin 12) : Bool :=
  match s.secNow with
  | some r => decide (fld r.cmd.v 0 4 = 1) && (s.hub r.cmd.hub).arg1.getLsbD p.val
  | none => false

/-- R329 STREAM_HEADER: the header has arrived and is checked; a tenant change of a target that is under way ends first
(R409; log entry 111). -/
def execStreamHeader (h : Fin 4) (s : State) : Out :=
  let l := (s.hub h).loader
  .next (if l.started ∧ l.state = .idle ∧ 512 ≤ l.buf.length ∧ ((targets (l.buf.take 512)).any s.secTakes) = false then
      let hdr := l.buf.take 512
      let code := s.streamChecks h hdr
      if code = 0 then s.beginLoad h hdr else s.reject h code
    else s)

/-- A request of a unit of partition p (R354). -/
def reqOf (p : Fin 12) : Requester → Bool
  | .chan c _ _ => decide (chanPart c = p)
  | .fill d _ => decide (stackPart d = p)
  | .seqLoad q _ _ => decide (q = p)
  | .seqStore q _ => decide (q = p)
  | .seqFetch q _ => decide (q = p)
  | .dump q => decide (q = p)
  | .trace q => decide (q = p)
  | .ring c _ => decide (chanPart c = p)
  | .code q _ _ => decide (q = p)
  | .link _ _ _ => false
  | .port _ _ => false
  | .desc _ _ => false
  | .record _ _ => false
  | .report _ => false

/-- A packet that waits at its source is a request of a unit of partition p. -/
def Waiting.ofPart (p : Fin 12) (w : Waiting) : Bool :=
  match w.req with
  | some (who, _, _) => reqOf p who
  | none => false

/-- Reads that wait for a line fill of a partition's depot halves (R284). -/
def Part.fillReads (q : Part) : List Requester :=
  q.depots.toList.flatMap fun d => d.fills.flatMap fun f => f.wait.map fun w => .chan w.1 w.2.1 w.2.2.1

/-- The requests of a partition's units that have not completed, with their direction (R354). -/
def State.partReqs (s : State) (p : Fin 12) : List (Requester × Bool) :=
  let mem := fun l : List MemReq => (l.filter fun r => reqOf p r.who).map fun r => (r.who, decide (r.kind = .read))
  (s.parts.toList.flatMap fun q => q.cores.toList.flatMap fun c => mem c.dmaRead ++ mem c.dmaWrite ++ mem c.dmaRemote)
    ++ (s.stackPorts.toList.flatMap fun k => mem k.qRead ++ mem k.qWrite ++ mem k.qRemote)
    ++ (s.links.toList.flatMap fun k => (k.outst.filter fun o => reqOf p o.who).map fun o => (o.who, o.read))
    ++ (s.links.toList.flatMap fun k => (k.waits.filter (Waiting.ofPart p)).filterMap fun w => w.req.map fun r => (r.1, r.2.1))
    ++ (s.part p).fillReads.map fun who => (who, true)

/-- Take every request of a partition's units out of the queues (R354). -/
def State.dropReqs (p : Fin 12) (s : State) : State :=
  let keep := fun l : List MemReq => l.filter fun r => !reqOf p r.who
  let s := s.modPart p fun q => { q with depots := q.depots.map fun d => { d with fills := [] } }
  { s with
    parts := s.parts.map fun q => { q with cores := q.cores.map fun c =>
      { c with dmaRead := keep c.dmaRead, dmaWrite := keep c.dmaWrite, dmaRemote := keep c.dmaRemote } }
    stackPorts := s.stackPorts.map fun k => { k with qRead := keep k.qRead, qWrite := keep k.qWrite, qRemote := keep k.qRemote }
    links := s.links.map fun k =>
      { k with late := k.late ++ (k.outst.filter fun o => reqOf p o.who).map Outst.tag, outst := k.outst.filter fun o => !reqOf p o.who,
               waits := k.waits.filter fun w => !w.ofPart p } }

/-- Abandon every request of a partition's units, and log each (R354). -/
def State.abandon (p : Fin 12) (s : State) : State :=
  (s.partReqs p).foldl (fun s r => (s.complete r.1 r.2 0x7E10 []).logPart p 0x9B01 0) (s.dropReqs p)

/-- The targets have no request outstanding. -/
def State.drained (s : State) (h : Fin 4) : Bool :=
  (targets (s.hub h).loader.hdr).all fun p => (s.partReqs p).isEmpty

/-- Partitions that PMASK of set h names. -/
def State.secParts (s : State) (h : Fin 4) : List (Fin 12) := (List.finRange 12).filter fun p => (s.hub h).arg1.getLsbD p.val

/-- R354 BORDER_DRAIN_TIMEOUT: 50 µs after isolation, the requests that remain are abandoned, and each is
logged: those of the targets of a load, or of the partitions of a tenant change that port h asked for (R430). -/
def execBorderDrainTimeout (h : Fin 4) (s : State) : Out :=
  let l := (s.hub h).loader
  let s := if l.state = .header ∧ l.drained = false ∧ 50000 ≤ (s.now - l.isoAt).toNat then
      ((targets l.hdr).foldl (fun s p => s.abandon p) s).modLoader h fun l => { l with drained := true }
    else s
  .next (match s.secNow with
    | some r => if r.cmd.hub = h ∧ r.phase = .drain ∧ 50000 ≤ (s.now - r.since).toNat then (s.secParts h).foldl (fun s p => s.abandon p) s
      else s
    | none => s)

/-- What a frame address names (R336). -/
structure FrameAddr where
  die   : Nat
  col   : Nat
  frame : Nat
deriving DecidableEq, Repr

/-- Decode FADDR. -/
def frameAddr (w : Nat) : FrameAddr := { die := fieldN w 27 5, col := fieldN w 18 9, frame := fieldN w 10 8 }

/-- A frame may be written there by this stream (R338). -/
def frameOk (h : Fin 4) (hdr : List Byte) (die col : Nat) : Bool :=
  if die < 24 then decide (col < 254) && tgtPart hdr (partNo (die / 2))
  else decide (die = 24 + h.val) && decide (col < 132) && tgtHub hdr

/-- Store a frame into configuration memory (R336, R339). -/
def State.putFrame (die col frame : Nat) (d : List Byte) (s : State) : State :=
  if die < 24 then
    s.modPart (partNo (die / 2)) fun q => { q with fabric := Sparse.put zeroFrame (die % 2 * 2 ^ 17 + col * 256 + frame) d q.fabric }
  else s.modHub (hubNo die) fun b => { b with fabric := Sparse.put zeroFrame (col * 256 + frame) d b.fabric }

/-- Consecutive frames from a frame address (R336); none when one address is not valid. -/
def State.putFrames (h : Fin 4) (hdr : List Byte) (die : Nat) : Nat → Nat → List Byte → State → Option State
  | 0, _, _, s => some s
  | n + 1, at', d, s =>
    if frameOk h hdr die (at' / 256) then
      State.putFrames h hdr die n (at' + 1) (d.drop 256) (s.putFrame die (at' / 256) (at' % 256) (d.take 256))
    else none

/-- A MULTI on one die (R337). -/
def State.putColumns (h : Fin 4) (hdr : List Byte) (die count stride : Nat) (d : List Byte) : Nat → Nat → State → Option State
  | 0, _, s => some s
  | n + 1, at', s => match s.putFrames h hdr die count at' d with
    | some s => State.putColumns h hdr die count stride d n (at' + stride * 256) s
    | none => none

/-- A MULTI on each of the dies (R337). -/
def State.putDies (h : Fin 4) (hdr : List Byte) (count stride rep at' : Nat) (d : List Byte) : List Nat → State → Option State
  | [], s => some s
  | die :: t, s => match s.putColumns h hdr die count stride d rep at' with
    | some s => State.putDies h hdr count stride rep at' d t s
    | none => none

/-- CLASS of a CLAIM. -/
def clClass (w : BitVec 64) : Nat := fld w 8 8
/-- SCOPE. -/
def clScope (w : BitVec 64) : Nat := fld w 16 8
/-- INDEX. -/
def clIndex (w : BitVec 64) : Nat := fld w 24 16
/-- CLMREG. -/
def clReg (w : BitVec 64) : Nat := fld w 40 8
/-- FEATURE. -/
def clFeature (w : BitVec 64) : BitVec 16 := BitVec.ofNat 16 (fld w 48 16)

/-- The resource of a CLAIM lies in the stream's targets and in its range (R344). -/
def claimIn (h : Fin 4) (hdr : List Byte) (w : BitVec 64) : Bool :=
  let hub := decide (clScope w = 0x80 + h.val) && tgtHub hdr
  let part := decide (clScope w < 12) && tgtPart hdr (partNo (clScope w))
  let i := clIndex w
  if clClass w = 1 then hub && decide (i < 64)
  else if clClass w = 2 then hub && decide (i < 16)
  else if clClass w = 3 then hub && decide (4 * h.val ≤ i ∧ i < 4 * h.val + 4)
  else if clClass w = 4 then (hub || (decide (clScope w < 24) && tgtPart hdr (partNo (clScope w / 2)))) && decide (i < 4)
  else if clClass w = 5 then part && decide (i < 32)
  else if clClass w = 6 then part && decide (i < 16)
  else part && decide (i < 8)

/-- The checks of a CLAIM (R333, R334, R344, R346): 0, or its code. -/
def State.claimCheck (s : State) (h : Fin 4) (l : Loader) (w : BitVec 64) : Code :=
  let c := clClass w
  if l.state ≠ .header ∨ l.done ≠ 0 then 0x7E09
  else if c = 0 ∨ 8 ≤ c then 0x7E09
  else if clReg w ≠ 0xFF ∧ (c < 5 ∨ 32 ≤ clReg w) then 0x7E09
  else if s.full = false ∧ (c = 1 ∨ c = 2 ∨ c = 4 ∨ c = 5) then 0x7E0D
  else if claimIn h l.hdr w = false then 0x7E12
  else if l.claims.any (fun v => (decide (clClass v = c) && decide (clScope v = clScope w) && decide (clIndex v = clIndex w))
      || (decide (clReg w ≠ 0xFF) && decide (clReg v = clReg w) && decide (clScope v = clScope w))) = true then 0x7E0C
  else 0

/-- A toll value is valid (R282, R341). -/
def tollOk (v : W32) : Bool :=
  let x := fld v 16 8
  let w := fld v 8 8
  let r := fld v 0 8
  decide (fld v 24 8 = 0) && decide (1 ≤ x ∧ x ≤ 254) && decide (1 ≤ w ∧ w ≤ 254) && decide (1 ≤ r ∧ r ≤ 254)
    && decide (x + w + r = 256)

/-- A LINK_TX value is valid (R402). -/
def linkTxOk (v : W32) : Bool :=
  decide (fld v 24 8 = 0) && decide (32 ≤ fld v 12 6) && decide (fld v 18 6 + fld v 12 6 + fld v 6 6 + fld v 0 6 ≤ 63)

/-- A REGW is permitted (R341, R402). -/
def regwOk (h : Fin 4) (hdr : List Byte) (w : BitVec 64) (v : W32) : Bool :=
  let scope := fld w 8 8
  let blk := fld w 16 8
  let off := fld w 24 12
  let part := decide (scope < 12) && tgtPart hdr (partNo scope)
  let hub := decide (scope = 0x80 + h.val) && tgtHub hdr
  decide (off % 4 = 0) &&
    (if blk = 1 then part && (decide (off = 0x410) || decide (off = 0x414) || decide (off = 0x418)) && tollOk v
     else if blk = 2 then part && (decide (off = 0x200) || decide (off = 0x240)) && decide (v.toNat ≤ 2)
     else if blk = 0x10 then
       hub && (if off < 0x100 ∧ off % 0x40 = 0 then decide (v.toNat ≤ 1)
               else if off < 0x100 ∧ off % 0x40 = 0x1C then linkTxOk v
               else decide (0x240 ≤ off) && decide (off < 0x270))
     else false)

/-- What became of the next command of a stream. -/
inductive CmdResult where
  | wait
  | bad (code : Code)
  | ok (n : Nat) (s : State)
  | finish (s : State)
deriving DecidableEq, Repr

/-- The commit point (R348): the targets are wiped, configuration memory is cleared, the hub's links go to
electrical idle. -/
def State.commit (h : Fin 4) (s : State) : State :=
  let l := (s.hub h).loader
  if l.state = .header then
    let s := s.modLoader h fun l => { l with state := .committed }
    let s := (targets l.hdr).foldl (fun s p => (s.wipePart .load p).modPart p fun q => { q with fabric := [], flops := [] }) s
    if tgtHub l.hdr then (s.idleLinks h).modHub h fun b => { b with fabric := [], flops := [] } else s
  else s

/-- A tree is unclaimed or gated (R362, R364). -/
def State.treeOff (s : State) (l : Loader) (die t : Nat) : Bool :=
  let src := s.treeSrc die t
  !(decide (src = 1 ∨ src = 2) &&
    l.claims.any fun w => decide (clClass w = 4) && decide (clScope w = dieScope die) && decide (clIndex w = t))

/-- The cell word of a pin, and whether its claim breaks R364 and R365. -/
def State.pinBad (s : State) (l : Loader) (h : Fin 4) (col b : Nat) (probe : Bool) : Bool :=
  let die := 24 + h.val
  let w := s.fabricByte die col 0 b
  let rate := if probe ∧ (2 < padMode w ∨ padDir w = false) then 0 else padRate (padMode w)
  let div := s.fclkDiv die (s.treeSrc die (padTree w) - 1)
  s.treeOff l die (padTree w) || (decide (8 ≤ div) && decide (1600 * div < 4800 * rate))

/-- The clocking checks at END (R364). -/
def State.clockBad (s : State) (h : Fin 4) (l : Loader) : Bool :=
  l.claims.any fun w =>
    let i := clIndex w
    if clClass w = 5 then
      let die := 2 * clScope w + i / 16
      s.treeOff l die (s.pclkTree (partNo (clScope w)) (coreNo i))
    else if clClass w = 1 then s.pinBad l h (112 + i / 4) (2 * (i % 4)) false
    else if clClass w = 2 then s.pinBad l h (112 + i) 8 true
    else false

/-- Words of the plaintext. -/
def word64 (d : List Byte) (i : Nat) : BitVec 64 := BitVec.ofNat 64 (hfield d (8 * i) 8)

/-- The rest of a FRAMES or MULTI, its fields valid (R336 to R338). -/
def State.cmdFrames (h : Fin 4) (l : Loader) (multi : Bool) (s : State) : CmdResult :=
  let w0 := word64 l.plain 0
  let w1 := word64 l.plain 1
  let w2 := word64 l.plain 2
  let count := fld w0 16 16
  let head := if multi then 24 else 8
  let n := head + 256 * count
  let a := frameAddr (fld w0 32 32)
  let rep := fld w1 0 16
  let stride := fld w1 16 9
  let mask := fld w2 0 24
  if multi = true ∧ l.plain.length < 24 then .wait
  else if multi = true ∧ (fld w1 25 39 ≠ 0 ∨ fld w2 24 40 ≠ 0 ∨ rep = 0 ∨ 512 < rep ∨ stride = 0) then .bad 0x7E09
  else if s.full = false then .bad 0x7E0D
  else if slen l.hdr < l.text.length - l.plain.length + n then .bad 0x7E14
  else if multi = true ∧ ((a.die < 24 ∧ mask.testBit a.die = false) ∨ (24 ≤ a.die ∧ mask ≠ 0)) then .bad 0x7E0A
  else if 28 ≤ a.die then .bad 0x7E0A
  else if l.plain.length < n then .wait
  else
    let d := (l.plain.drop head).take (256 * count)
    let at' := a.col * 256 + a.frame
    let dies := if multi = true ∧ a.die < 24 then (List.range 24).filter fun i => mask.testBit i else [a.die]
    match s.putDies h l.hdr count (if multi then stride else 0) (if multi then rep else 1) at' d dies with
    | some s => .ok n s
    | none => .bad 0x7E0A

/-- END (R335, R364). -/
def State.cmdEnd (h : Fin 4) (l : Loader) (s : State) : CmdResult :=
  let w1 := word64 l.plain 1
  if l.text.length - l.plain.length + 16 ≠ slen l.hdr then .bad 0x7E14
  else if l.plain.length < 16 then .wait
  else if fld w1 32 32 ≠ 0 then .bad 0x7E09
  else if fld w1 0 32 ≠ nseg l.hdr then .bad 0x7E14
  else if hashBytes (Config.sha384 l.text) ≠ (l.hdr.drop 0x110).take 48 then .bad 0x7E0F
  else if s.clockBad h l then .bad 0x7E15
  else .finish (s.modLoader h fun l => { l with ended := true, state := .releasing, plain := [], pllFrom := some s.now })

/-- A GRIDI (R333, R343). -/
def State.cmdGridi (h : Fin 4) (l : Loader) (s : State) : CmdResult :=
  let w := word64 l.plain 0
  let ws := (List.range 8).map fun i => word64 l.plain (i + 1)
  if slen l.hdr < l.text.length - l.plain.length + 72 then .bad 0x7E14
  else if l.plain.length < 72 then .wait
  else if 12 ≤ fld w 8 8 ∨ tgtPart l.hdr (partNo (fld w 8 8)) = false then .bad 0x7E0B
  else if (ws.any fun v => (List.range 4).any fun j =>
      Grid.rejects (Grid.stored (BitVec.ofNat 32 (fld v (16 * j) 16)))) = true then .bad 0x7E0B
  else .ok 72 (s.modLoader h fun l => { l with gridi := l.gridi ++ [(partNo (fld w 8 8), ws)] })

/-- A REGW (R333, R341). -/
def State.cmdRegw (h : Fin 4) (l : Loader) (s : State) : CmdResult :=
  let w := word64 l.plain 0
  let v := word64 l.plain 1
  if slen l.hdr < l.text.length - l.plain.length + 16 then .bad 0x7E14
  else if l.plain.length < 16 then .wait
  else if fld v 32 32 ≠ 0 then .bad 0x7E09
  else if regwOk h l.hdr w (BitVec.ofNat 32 (fld v 0 32)) then
    .ok 16 (s.modLoader h fun l => { l with regw := l.regw ++ [(w, BitVec.ofNat 32 (fld v 0 32))] })
  else .bad 0x7E0B

/-- The Zero fields of a command's first word are 0, and its COUNT is in range (R333). -/
def cmdForm (w : BitVec 64) : Bool :=
  let op := fld w 0 8
  if op = 2 ∨ op = 3 then decide (fld w 8 8 = 0) && decide (1 ≤ fld w 16 16 ∧ fld w 16 16 ≤ 4096) && decide (fld w 32 10 = 0)
  else if op = 4 then decide (fld w 36 28 = 0)
  else if op = 5 then decide (fld w 16 48 = 0)
  else if op = 6 then decide (fld w 8 56 = 0)
  else false

/-- The next command of the plaintext (R333 to R335). -/
def State.command (h : Fin 4) (s : State) : CmdResult :=
  let l := (s.hub h).loader
  let w := word64 l.plain 0
  let op := fld w 0 8
  if l.plain.length < 8 then .wait
  else if op = 0 then (if fld w 8 56 = 0 then .ok 8 s else .bad 0x7E09)
  else if op = 1 then
    let code := s.claimCheck h l w
    if code = 0 then .ok 8 (s.modLoader h fun l => { l with claims := l.claims ++ [w] }) else .bad code
  else if cmdForm w = false then .bad 0x7E09
  else
    let s := s.commit h
    let l := (s.hub h).loader
    if op = 2 then s.cmdFrames h l false
    else if op = 3 then s.cmdFrames h l true
    else if op = 4 then s.cmdRegw h l
    else if op = 5 then s.cmdGridi h l
    else s.cmdEnd h l

/-- The command at hand passes the commit point, which has its effect even when the command is then
rejected or is not whole yet (R334, R348). -/
def State.reachCommit (h : Fin 4) (s : State) : State :=
  let l := (s.hub h).loader
  let w := word64 l.plain 0
  if 8 ≤ l.plain.length ∧ 2 ≤ fld w 0 8 ∧ cmdForm w = true then s.commit h else s

/-- Execute commands as far as the plaintext goes (R332): the code of a rejection, 0 for none. -/
def State.commands (h : Fin 4) : Nat → State → Code × State
  | 0, s => (0, s)
  | n + 1, s => match s.command h with
    | .wait => (0, s.reachCommit h)
    | .bad code => (code, s.reachCommit h)
    | .ok k s => State.commands h n (s.modLoader h fun l => { l with plain := l.plain.drop k })
    | .finish s => (0, s)

/-- The key of segment i (R331), label ONAD-SEG. -/
def segKey (seed : BitVec 256) (i : Nat) : BitVec 256 :=
  key256 (bytesOf 32 seed.toNat) (ascii [0x4F, 0x4E, 0x41, 0x44, 0x2D, 0x53, 0x45, 0x47]) (bytesOf 4 i)

/-- A whole segment record (R328, R332): the code of a rejection. -/
def State.takeSegment (h : Fin 4) (s : State) : Code × State :=
  let l := (s.hub h).loader
  let n := segLen l.hdr l.done
  let hd := l.buf.take 8
  let ct := (l.buf.drop 8).take n
  let key := segKey l.seed l.done
  if hfield hd 0 4 ≠ l.done then (0x7E08, s)
  else if Config.tag key (List.replicate 12 0) hd ct ≠ BitVec.ofNat 128 (hfield l.buf (8 + n) 16) then (0x7E07, s)
  else if hfield hd 4 4 ≠ n then (0x7E14, s)
  else
    let pt := gcm key (List.replicate 12 0) ct
    let s := s.modLoader h fun l => { l with plain := l.plain ++ pt, text := l.text ++ pt, buf := l.buf.drop (24 + n) }
    let r := State.commands h (n / 8 + 2) s
    if r.1 ≠ 0 then r
    else
      let s := r.2
      let l := (s.hub h).loader
      if l.done + 1 = nseg l.hdr ∧ l.ended = false then (0x7E14, s)
      else
        let v : Byte := BitVec.ofNat 8 (255 * (l.done + 1) / nseg l.hdr)
        (0, s.modHub h fun b =>
          { b with loader := { b.loader with done := b.loader.done + 1, prog := v },
                   busy := b.busy.map fun o => { o with prog := v } })

/-- R332 SEGMENT: the next segment record has arrived whole; its commands are executed. The loader waits for
the border drain before the segment that holds the commit point (R354). -/
def execSegment (h : Fin 4) (s : State) : Out :=
  let l := (s.hub h).loader
  .next (if (l.state = .header ∨ l.state = .committed) ∧ l.ended = false ∧ 24 + segLen l.hdr l.done ≤ l.buf.length
      ∧ (l.state = .committed ∨ l.drained = true ∨ s.drained h = true) then
      match s.takeSegment h with
      | (code, s) => if code = 0 then s else s.reject h code
    else s)

/-- R352 STREAM_TIMEOUT: 100 ms have passed since a record was there whole, and the next one is not. -/
def execStreamTimeout (h : Fin 4) (s : State) : Out :=
  let l := (s.hub h).loader
  .next (if (l.state = .header ∨ l.state = .committed) ∧ l.ended = false ∧ l.whole = 0 ∧ 100000000 ≤ (s.now - l.since).toNat then
      s.reject h 0x7E0E
    else s)

/-- Dies whose fabric this stream configures. -/
def streamDies (h : Fin 4) (hdr : List Byte) : List Nat :=
  (targets hdr).flatMap (fun p => [2 * p.val, 2 * p.val + 1]) ++ (if tgtHub hdr then [24 + h.val] else [])

/-- R364 FABRIC_PLL_LOCK_TIMEOUT: a running fabric PLL of the targets has not locked within 20 µs. -/
def execFabricPllLockTimeout (h : Fin 4) (s : State) : Out :=
  let l := (s.hub h).loader
  .next (match l.pllFrom with
    | none => s
    | some t =>
      if l.ended = true ∧ (streamDies h l.hdr).any s.pllRuns = true ∧ 20000 ≤ (s.now - t).toNat then s.reject h 0x7E15 else s)

/-- One register write of the personality (R341, R342). -/
def State.applyRegw (h : Fin 4) (s : State) (e : BitVec 64 × W32) : State :=
  let off := fld e.1 24 12
  let p := partNo (fld e.1 8 8)
  let v := e.2
  if fld e.1 16 8 = 1 then
    s.modPart p fun q =>
      if off = 0x410 then { q with tollSpa := v } else if off = 0x414 then { q with tollSpb := v } else { q with tollDma := v }
  else if fld e.1 16 8 = 2 then
    s.modStack (stackNo (2 * p.val + (off - 0x200) / 0x40)) fun k => { k with rate := BitVec.ofNat 2 v.toNat }
  else if off < 0x100 then
    let n : Fin 16 := ⟨(4 * h.val + off / 0x40) % 16, Nat.mod_lt _ (by decide)⟩
    s.modLink n fun k => if off % 0x40 = 0 then { k with phy := BitVec.ofNat 2 v.toNat } else { k with tx := BitVec.ofNat 24 v.toNat }
  else s.modHub h fun b => { b with dah := vset b.dah ((off - 0x240) / 4) v }

/-- Step 1 of a release (R342, R343, R432): the personality's registers are replaced; a stack whose RATE
changes retrains (R307), and so does one that is down. -/
def State.releaseRegs (h : Fin 4) (l : Loader) (s : State) : State :=
  let old := fun d : Fin 24 => s.stackPorts[d].rate
  let dies := (targets l.hdr).flatMap fun p => [stackNo (2 * p.val), stackNo (2 * p.val + 1)]
  let s := (targets l.hdr).foldl (fun s p =>
    let g := match (l.gridi.filter fun e => decide (e.1 = p)).getLast? with
      | some e => Vector.ofFn fun i : Fin 32 => BitVec.ofNat 16 (fld (nth 0 e.2 (i.val / 4)) (16 * (i.val % 4)) 16) &&& 0xFFC0
      | none => Vector.replicate 32 0x8000
    s.modPart p fun q =>
      { q with tollSpa := 0x002040A0, tollSpb := 0x002040A0, tollDma := 0x002040A0, grid67 := g,
               cores := q.cores.map fun c => { c with gridEnt := wipedGrid g } }) s
  let s := dies.foldl (fun s d => s.modStack d fun k => { k with rate := 0 }) s
  let s := if tgtHub l.hdr then
      (List.finRange 16).foldl (fun s n => if linkHub n = h then s.modLink n fun k => { k with phy := 0, tx := 0x1B4100 } else s)
        (s.modHub h fun b => { b with dah := Vector.replicate 12 0 })
    else s
  let s := l.regw.foldl (State.applyRegw h) s
  dies.foldl (fun s d => s.modStack d fun k =>
    { k with training := k.training || decide (k.rate ≠ old d) || !k.up }) s

/-- Step 2 of a release (R347): the claims. -/
def State.releaseClaims (h : Fin 4) (l : Loader) (s : State) : State :=
  let rec' := fun w : BitVec 64 => (BitVec.ofNat 8 (clClass w), clScope w, clIndex w, clFeature w)
  let s := (targets l.hdr).foldl (fun s p =>
    let mine := l.claims.filter fun w =>
      (decide (5 ≤ clClass w) && decide (clScope w = p.val)) || (decide (clClass w = 4) && decide (clScope w / 2 = p.val))
    s.modPart p fun q =>
      { q with
        featClaims := mine.map rec'
        copClaims := BitVec.ofNat 32 (((List.range 32).map fun i =>
          if mine.any fun w => decide (clClass w = 5) && decide (clIndex w = i) then 2 ^ i else 0).sum)
        claims := Vector.ofFn fun i : Fin 32 =>
          { bound := mine.any fun w => decide (5 ≤ clClass w) && decide (clReg w = i.val), owner := 0, free := true } }) s
  if tgtHub l.hdr then
    let mine := l.claims.filter fun w => decide (clScope w = 0x80 + h.val)
    let s := s.modHub h fun b => { b with hubClaims := mine.map rec' }
    (List.finRange 16).foldl (fun s n =>
      if linkHub n = h then
        s.modLink n fun k => { k with claimed := mine.any fun w => decide (clClass w = 3) && decide (clIndex w = n.val) }
      else s) s
  else s

/-- R349 PERSONALITY_RELEASE: the fabric PLLs have locked, and the targets are released. -/
def execPersonalityRelease (h : Fin 4) (s : State) : Out :=
  let l := (s.hub h).loader
  .next (if l.ended then
      let s := (s.releaseRegs h l).releaseClaims h l
      let content : BitVec 384 := BitVec.ofNat 384 (hfield l.hdr 0x110 48)
      let akey := Config.sha384 ((l.hdr.drop 0xB0).take 96)
      let s := (targets l.hdr).foldl (fun s p => s.modPart p fun q =>
        { q with content := content, akey := akey, flops := initFlops 250 q.fabric, isolated := false, unavail := false,
                 rampIn := true, pers := .loaded }) s
      let s := if tgtHub l.hdr then s.modHub h fun b =>
          { b with content := content, akey := akey, flops := initFlops 112 b.fabric, hubf := .loaded, lastSlot := some (s.now.toNat / 250000) }
        else s
      ((s.recert).logHub h 0x7E20 0).loadEnd h 0
    else s)

end Sys2Proof.Machine
end

