-- ==== Sys2Proof/Machine/Security.lean ====
section
/-! DEFINITION. Security commands (18_security.md): tenancy, region keys, attestation, life-cycle. -/

namespace Sys2Proof.Machine

/-- OP of SEC_CMD (R438). -/
def secOp (v : W32) : Nat := fld v 0 4
/-- TEN. -/
def secTen (v : W32) : BitVec 4 := BitVec.ofNat 4 (fld v 4 4)
/-- ZF. -/
def secZf (v : W32) : Bool := bit v 8
/-- HOST. -/
def secHost (v : W32) : Bool := bit v 9
/-- KR. -/
def secKr (v : W32) : Bool := bit v 10
/-- TGT. -/
def secTgt (v : W32) : Nat := fld v 12 3

/-- The form of a command (R427, R438): 0, or its code. -/
def State.secForm (s : State) (v : W32) : Code :=
  let op := secOp v
  if op = 0 ∨ 4 < op ∨ 12 < (secTen v).toNat ∨ (op ≠ 4 ∧ secTgt v ≠ 0) ∨ (op ≠ 2 ∧ (secKr v ∨ secHost v))
      ∨ (op = 4 ∧ (secTgt v = 0 ∨ 4 < secTgt v)) then 0x8E01
  else if secTen v ≠ 0 ∧ s.life ≠ 2 then 0x8E02
  else 0

/-- The command has ended (R438, R440): SEC_CSTAT, and a log entry at hub 0 for a failure. -/
def State.secDone (h : Fin 4) (code : Code) (s : State) : State :=
  let s := s.modHub h fun b => { b with cmdStat := if code = 0 then 2 else 3, cmdCode := code }
  if code = 0 then s else s.logSec code

/-- The LOP of a command that is a long operation (R407); 0 for ATTEST. -/
def secLop (v : W32) : Nat := if secOp v = 1 then 2 else if secOp v = 2 then 5 else if secOp v = 4 then 4 else 0

/-- The command that runs has ended (R417, R438): SEC_CSTAT, and the completion event of a long operation. -/
def State.secEnd (c : SecCmd) (code : Code) (s : State) : State :=
  let s := { s with secNow := none }.secDone c.hub code
  let lop := secLop c.v
  if lop = 0 then s
  else if lop = 4 then (s.busyAll 4).eventAll 4 code
  else s.sendEvent c.hub 5 code 0xFF lop 0

/-- The command that runs goes on to a phase. -/
def State.secPhase (c : SecCmd) (ph : SecPhase) (regs : List (Fin 1536)) (s : State) : State :=
  { s with secNow := some { cmd := c, since := s.now, phase := ph, regs := regs, ended := none } }

/-- A region whose keys are to rotate, filled after it or not: one that still awaits a fill keeps it (R315, R316). -/
def Region.rotate (zf : Bool) (e : Region) : Region := { e with swap := some (zf || e.swap == some true) }

/-- Resources of a lessee that holds no partition any more return to tenant 0 (R430 step 4). -/
def State.departed (zf : Bool) (s : State) (t : BitVec 4) : State :=
  let s := { s with regions := s.regions.map fun (r : Region) => if r.ten = t then { r.rotate zf with ten := 0, host := true } else r }
  let s := (List.finRange 4).foldl (fun s h =>
    (List.finRange 32).foldl (fun s b => if (s.hub h).gown[b] = t then s.setOwner h b 0 else s) s) s
  { s with links := s.links.map fun (k : Link) => if k.tenant = t then { k with bound := false } else k }

/-- Lessees that will hold no partition once those of PMASK have their new tenant (R430 step 4). -/
def State.leaving (s : State) (c : SecCmd) : List (BitVec 4) :=
  ((s.secParts c.hub).map fun p => (s.part p).tenant).dedup.filter fun t =>
    decide (t ≠ 0) && decide (t ≠ secTen c.v)
      && (List.finRange 12).all fun p => (s.secParts c.hub).contains p || decide ((s.part p).tenant ≠ t)

/-- R430 TENANT_SET, steps 1 and 2: the partitions are unavailable and isolated, their custom-operation ports flush. -/
def State.tenantSet (c : SecCmd) (s : State) : State :=
  let ps := s.secParts c.hub
  if ps.any fun p => (s.part p).task.isSome then s.secEnd c 0x8E03
  else
    (ps.foldl (fun s p => s.modPart p fun q =>
      { q with unavail := true, isolated := true, cores := q.cores.map fun k => { k with copFlush := true } }) s).secPhase c .drain []

/-- Steps 3 and 4: the wipe, and what a departing lessee leaves. -/
def State.tenantWipe (c : SecCmd) (s : State) : State :=
  let gone := s.leaving c
  let regs := (List.finRange 1536).filter fun r => gone.contains s.regions[r].ten
  let s := (s.secParts c.hub).foldl (fun s p => s.wipePart .tenant p) s
  (gone.foldl (State.departed (secZf c.v)) s).secPhase c .rotate regs

/-- Step 5: the partitions take their tenant and become available; one that R351 holds in reset stays so. -/
def State.tenantGive (c : SecCmd) (s : State) : State :=
  (((s.secParts c.hub).foldl (fun s p => s.modPart p fun q =>
    { q with tenant := secTen c.v, unavail := decide (q.pers = .held), isolated := decide (q.pers = .held) }) s).logSec 0x8E21).secEnd c 0

/-- REGION_SET rotates the keys of a region it names (R431). -/
def Region.turns (v : W32) (e : Region) : Bool := decide (e.ten ≠ secTen v) || secKr v

/-- A region that REGION_SET names (R431): its tenant and HOST bit; new keys when its tenant changes or KR = 1. -/
def Region.give (v : W32) (e : Region) : Region :=
  { (if e.turns v then e.rotate (secZf v) else e) with ten := secTen v, host := secHost v }

/-- R431 REGION_SET. -/
def State.regionSet (c : SecCmd) (s : State) : State :=
  let base := fld (s.hub c.hub).arg0 0 11
  let n := fld (s.hub c.hub).arg0 16 11
  if n = 0 ∨ 1536 < base + n then s.secEnd c 0x8E01
  else
    let mine := fun r : Fin 1536 => decide (base ≤ r.val) && decide (r.val < base + n)
    if (List.finRange 1536).any fun r => mine r && (s.regions[r].fill || s.regions[r].swap == some true) then s.secEnd c 0x8E03
    else
      { s with regions := Vector.ofFn fun r : Fin 1536 => if mine r then s.regions[r].give c.v else s.regions[r] }.secPhase c .rotate
        ((List.finRange 1536).filter fun r => mine r && s.regions[r].turns c.v)

/-- SEC_GOWN word w of hub h (R438). -/
def State.gownWord (s : State) (h : Fin 4) (w : Nat) : W32 :=
  BitVec.ofNat 32 (((List.range 8).map fun j => (vget 0 (s.hub h).gown (8 * w + j)).toNat * 16 ^ j).sum)

/-- SEC_REG i (R438). -/
def Region.word (r : Region) : W32 :=
  BitVec.ofNat 32 (r.ten.toNat + (if r.host then 16 else 0) + (if r.fill then 32 else 0))

/-- PERS_PART or PERS_HUBF code of a state (R356). -/
def persCode : PersState → Nat
  | .none => 0
  | .loaded => 1
  | .loading => 2
  | .held => 3

/-- A record of an attestation report (R425). -/
def attestRecord (st : PersState) (ten epoch : Nat) (content akey : BitVec 384) : List Byte :=
  bytesOf 1 (persCode st) ++ bytesOf 1 ten ++ bytesOf 2 epoch ++ bytesOf 4 0
    ++ (if st = .loaded then hashBytes content ++ hashBytes akey else bytesOf 96 0)

/-- REFURB (R433). -/
def State.refurb (s : State) : Nat := ones s.fuseBits.svc

/-- GRADE of a report (R425). -/
def gradeCode : Grade → Nat
  | .u12 => 0
  | .u12s => 1
  | .u10 => 2

/-- The signed part of an attestation report (R425). -/
def State.report (s : State) (h : Fin 4) : List Byte :=
  let b := s.hub h
  let regs := s.regions.toList.map fun r => BitVec.ofNat 8 r.word.toNat
  let owns := bytesOfWords ((List.finRange 4).flatMap fun g => (List.range 4).map fun w => s.gownWord g w)
  bytesOf 4 0x54415A4A ++ bytesOf 2 1 ++ bytesOf 2 0x5A12 ++ bytesOf 2 s.build.toNat ++ bytesOf 1 s.life ++ bytesOf 1 s.refurb
    ++ bytesOf 1 (gradeCode s.grade) ++ bytesOf 1 s.devNum.toNat ++ bytesOf 2 b.arg1.toNat ++ bytesOfWords b.nonce.toList
    ++ bytesOf 8 s.now.toNat ++ bytesOf 8 0 ++ pointBytes s.idPub
    ++ ((List.finRange 4).flatMap fun g => attestRecord (s.hub g).hubf 0 0 (s.hub g).content (s.hub g).akey)
    ++ ((List.finRange 12).flatMap fun p =>
          let q := s.part p
          if b.arg1.getLsbD p.val then attestRecord q.pers q.tenant.toNat q.epoch.toNat q.content q.akey else bytesOf 104 0)
    ++ hashBytes (Config.sha384 (regs ++ owns)) ++ bytesOf 80 0

/-- R424 ATTEST: the report is written in one pass. A report address that is not open to the host fails the command (log entry
16). -/
def State.attest (c : SecCmd) (s : State) : State :=
  let h := c.hub
  let a := (s.hub h).arg3.toNat * 2 ^ 32 + fld (s.hub h).arg2 11 21 * 2048
  if s.life = 0 ∨ s.life = 4 then s.secEnd c 0x8E07
  else if s.hostOpen a 2048 = false then s.secEnd c 0x8E01
  else
    let body := s.report h
    (s.secPhase c .report []).requestHere (.report h) (.port h) .write a 2048 (body ++ pointBytes (Config.sign s.idKey body))

/-- LIFE_FUSE1 (R439). -/
def State.fuse1 (s : State) : W32 := BitVec.ofNat 32 (s.fuseBits.ret.toNat + s.fuseBits.svc.toNat * 2 ^ 16)

/-- The author signature of R435 verifies. -/
def State.authorised (s : State) (tgt : Nat) : Bool :=
  let key := bytesOfWords (s.auth.toList.take 24)
  let msg := ascii [0x4A, 0x5A, 0x4C, 0x43] ++ pointBytes s.idPub ++ bytesOf 4 s.fuse1.toNat ++ bytesOf 1 tgt
  decide (Config.sha384 key = s.fuseBits.authH) &&
    Config.verify (BitVec.ofNat 768 (ofBytes key)) msg (BitVec.ofNat 768 (ofBytes (bytesOfWords (s.auth.toList.drop 24))))

/-- Burn the next unburned bit of a bank, from bit 0 upward (R433). -/
def burnNext (x : BitVec 16) : BitVec 16 := x ||| BitVec.ofNat 16 (2 ^ ones x)

/-- The transition (R434): its code, and the fuses burned. -/
def State.transition (tgt : Nat) (s : State) : Code × State :=
  let from' := s.life
  let f := s.fuseBits
  if tgt = 4 ∧ from' ≠ 4 then (0, s.burn fun u => { u with scrap := true, idSeed := BitVec.allOnes 256 })
  else if from' = 0 ∧ tgt = 1 then
    (0, { s with drbg := s.drbg + 1 }.burn fun u =>
      { u with prov := true, idSeed := Config.draw s.drbg, authH := BitVec.ofNat 384 (ofBytes (bytesOfWords (s.auth.toList.take 12))) })
  else if from' = 1 ∧ tgt = 2 then (if s.authorised tgt then (0, s.burn fun u => { u with svc0 := true }) else (0x8E05, s))
  else if from' = 2 ∧ tgt = 3 then
    (if f.ret = BitVec.allOnes 16 then (0x8E06, s)
     else if s.authorised tgt then (0, s.burn fun u => { u with ret := u.ret ||| burnNext f.ret }) else (0x8E05, s))
  else if from' = 3 ∧ tgt = 2 then
    (if f.svc = BitVec.allOnes 16 then (0x8E06, s)
     else if s.authorised tgt then (0, s.burn fun u => { u with svc := u.svc ||| burnNext f.svc }) else (0x8E05, s))
  else (0x8E04, s)

/-- A core as cold reset leaves it: the bypass of its repair fuse (R89, R450). -/
def Core.cold (keep : Bool) (c : Core) : Core :=
  { Core.reset with repair := c.repair, bypass := c.repair, wrap := c.wrap, dmaRemote := if keep then keepPort c.dmaRemote else [] }

/-- A hub after the wipe of cold reset (R432): its messages and events stay, and, where `keep` says so, what its control port
has asked and is not answered (R406). -/
def Hub.cold (keep : Bool) (b : Hub) : Hub :=
  { Hub.reset with
    outbox := b.outbox, portUp := b.portUp, evq := b.evq, evLate := b.evLate, evSeq := b.evSeq, alert := b.alert, busy := b.busy
    tagsOut := b.tagsOut, nextTask := b.nextTask + 1, probe := b.probe, wrap := b.wrap
    aliases := if keep then b.aliases.filter fun a => match a.src with
        | .port _ => true
        | _ => false
      else [] }

/-- The wipe of cold reset (R313, R432): everything but fuses, timebase, messages and test logic; a life-cycle transition also
keeps the long operations and the control-port requests that wait (R406, R409, R426). -/
def State.coldWipe (keep : Bool) (s : State) : State :=
  { State.reset with
    pending := s.pending
    parts := s.parts.map fun q => { Part.reset with cores := q.cores.map (Core.cold keep), wraps := q.wraps }
    hubs := s.hubs.map (Hub.cold keep)
    links := s.links.map fun k => { Link.reset with txDone := k.txDone }
    stackPorts := s.stackPorts.map fun k =>
      { Stack.reset with up := k.up, training := k.training || decide (k.rate ≠ 0#2), badUnits := k.badUnits
                         qRemote := if keep then keepPort k.qRemote else [] }
    regions := s.regions.map fun r => { Region.reset with keyGen := r.keyGen + 1 }
    dieTime := s.dieTime, half := s.half, phase := s.phase, pwrOk := s.pwrOk, rstN := s.rstN, pll := s.pll, straps := s.straps
    bridges := s.bridges, hubBridges := s.hubBridges
    grade := s.grade, plive := s.plive, build := s.build, fuses := s.fuses, fuseCopy := s.fuseCopy
    tmpSeed := s.tmpSeed, idPub := s.idPub, kaPub := s.kaPub
    secQ := if keep then s.secQ else [], capWait := if keep then s.capWait else []
    tap := s.tap, drbg := s.drbg, free := s.free, answer := s.answer }

/-- R436 LC_ADVANCE, steps 1 to 6: its code. -/
def State.lcAdvance (h : Fin 4) (v : W32) (s : State) : Code × State :=
  if h ≠ 0 then (0x8E01, s)
  else if s.parts.any fun q => q.task.isSome then (0x8E03, s)
  else
    let r := s.transition (secTgt v)
    if r.1 ≠ 0 then r
    else
      let s := ({ r.2.coldWipe true with drbg := r.2.drbg + 1, tap := Vector.replicate 28 1 }).deriveKeys
      (0, s.logSec 0x8E20)

/-- What the command at the head of the engine's queue still waits for (R330, R409): the loads of the partitions it names, a
capture, and before a life-cycle transition every load. -/
def State.secWaits (s : State) (c : SecCmd) : Bool :=
  (decide (secOp c.v ≠ 3) && decide (s.capState ≠ .idle))
    || (decide (secOp c.v = 1) && (s.secParts c.hub).any fun p => decide ((s.part p).pers = .loading))
    || (decide (secOp c.v = 4) && s.anyLoad)

/-- A command starts (R426). -/
def State.secRun (c : SecCmd) (s : State) : State :=
  let form := s.secForm c.v
  if form ≠ 0 then s.secEnd c form
  else if secOp c.v = 1 then s.tenantSet c
  else if secOp c.v = 2 then s.regionSet c
  else if secOp c.v = 3 then s.attest c
  else
    let r := s.lcAdvance c.hub c.v
    r.2.secEnd c r.1

/-- Work done by the command that runs (R430): partitions wiped and regions rotated, of all of them. -/
def State.secProgress (r : SecRun) (s : State) : State :=
  let n := if secOp r.cmd.v = 1 then (s.secParts r.cmd.hub).length else 0
  let v := (r.regs.filter fun i => s.regions[i].swap.isNone).length
  s.progress (secLop r.cmd.v) (n + v) (n + r.regs.length) [r.cmd.hub]

/-- The command that runs goes on once what it waits for has come: the border drain, the rotations, the report. -/
def State.secGo (r : SecRun) (s : State) : State :=
  match r.phase with
  | .drain => if (s.secParts r.cmd.hub).all fun p => (s.partReqs p).isEmpty then s.tenantWipe r.cmd else s
  | .rotate =>
    let s := s.secProgress r
    if r.regs.any fun i => s.regions[i].swap.isSome then s
    else if secOp r.cmd.v = 1 then s.tenantGive r.cmd
    else s.secEnd r.cmd 0
  | .report => match r.ended with
    | some st => s.secEnd r.cmd st
    | none => s

/-- The security engine: it runs one command at a time, in order of arrival (R426). -/
def State.secStep (s : State) : State :=
  match s.secNow with
  | some r => s.secGo r
  | none => match s.secQ with
    | [] => s
    | c :: t => if s.secWaits c then s else { s with secQ := t }.secRun c

/-- The engine goes on as far as nothing holds it. -/
def State.secResume (s : State) : State := s.secStep.secStep.secStep.secStep

/-- A write to SEC_CMD of set h from its port (R409, R438): the port is BUSY from the request on when the
command is a long operation. -/
def State.secWrite (h : Fin 4) (v : W32) (s : State) : State :=
  if secOp v = 0 then s
  else
    let lop := secLop v
    let s := s.modHub h fun b =>
      { b with cmdStat := 1, cmdCode := 0,
               busy := if lop = 0 then b.busy else some { lop := BitVec.ofNat 4 lop, prog := 0 } }
    State.secResume { s with secQ := s.secQ ++ [{ hub := h, v := v }] }

/-- A command of one OP from the port of hub h: not performed while the port is BUSY (R408). -/
def State.secCommand (h : Fin 4) (op : Nat) (v : W32) (s : State) : State :=
  if secOp v = op ∧ s.phase = .ready ∧ (s.hub h).busy = none then (s.secWrite h v).answered 0 0 else s

/-- R430 TENANT_SET. -/
def execTenantSet (h : Fin 4) (v : W32) (s : State) : Out := .next (s.secCommand h 1 v)
/-- R431 REGION_SET. -/
def execRegionSet (h : Fin 4) (v : W32) (s : State) : Out := .next (s.secCommand h 2 v)
/-- R424 ATTEST. -/
def execAttest (h : Fin 4) (v : W32) (s : State) : Out := .next (s.secCommand h 3 v)
/-- R436 LC_ADVANCE. -/
def execLcAdvance (h : Fin 4) (v : W32) (s : State) : Out := .next (s.secCommand h 4 v)

/-- A write to SEC_GOWN (R429, R438): blocks whose old owner runs a task keep their owner, and the write
then completes with 0x8E03; one that names a lessee outside IN_SERVICE fails with 0x8E02 (R427; log entry 112). -/
def State.gownWrite (src : Source) (h : Fin 4) (w : Fin 4) (v : W32) (s : State) : Code × State :=
  if s.life ≠ 2 ∧ ((List.range 8).any fun j => decide (1 ≤ fld v (4 * j) 4 ∧ fld v (4 * j) 4 ≤ 12)) = true then (0x8E02, s.logSrc src 0x8E02)
  else (List.finRange 8).foldl (fun r j =>
    let b : Fin 32 := ⟨8 * w.val + j.val, by omega⟩
    let t : BitVec 4 := BitVec.ofNat 4 (fld v (4 * j.val) 4)
    let old := (r.2.hub h).gown[b]
    if 13 ≤ t.toNat ∨ t = old then r
    else if (List.finRange 12).any fun p => decide ((r.2.part p).tenant = old) && (r.2.part p).task.isSome then
      (0x8E03, if r.1 = 0 then r.2.logSrc src 0x8E03 else r.2)
    else (r.1, r.2.setOwner h b t)) (0, s)

/-- R315 REGION_KEY_SWAP: a rotation that is due takes effect. -/
def execRegionKeySwap (r : Fin 1536) (s : State) : Out := .next (s.swapDue r).secResume

/-- R316 ZERO_FILL_DONE: the region reads as zeros, every unit of it having been written, and is served again. -/
def execZeroFillDone (r : Fin 1536) (s : State) : Out :=
  .next (if s.regions[r].fill then
      (s.modRegion r fun e => { e with fill := false, zero := true }).modStack (stackNo (r.val / 64)) fun k =>
        { k with badUnits := k.badUnits.filter fun u => !(decide (r.val % 64 * 2 ^ 24 ≤ u) && decide (u < (r.val % 64 + 1) * 2 ^ 24)) }
    else s)

end Sys2Proof.Machine
end

