-- ==== Sys2Proof/Machine/Blocks.lean ====
section
/-! DEFINITION. Register accesses: who may reach which register (R397, R428, R447, R448, R492, R494), what
an error status does to its sender (R201, R291, R442), and the words of the two core blocks that a capture
copies, GRID and GUARD, as a read without side effect shows them (R38, R64 to R66, R93, R99, R100, R104,
R107, R110, R122, R151, R172, R495). -/

namespace Sys2Proof.Machine

/-- A Bool as a bit of a word. -/
def flag (b : Bool) (i : Nat) : Nat := if b then 2 ^ i else 0

/-- A number as a 32-bit word. -/
def word32 (n : Nat) : W32 := BitVec.ofNat 32 n

/-- Word w of a steer slot (R99, R100). -/
def Steer.word (t : Steer) (w : Nat) : W32 :=
  if w = 0 then
    word32 (t.q.toNat + t.prof.toNat * 2 ^ 12 + flag t.watch 14 + flag t.svalid 15 + flag t.fb 16 + flag t.fbnext 17
      + t.upc.toNat * 2 ^ 18 + t.dnc.toNat * 2 ^ 20 + t.holdc.toNat * 2 ^ 24)
  else if w = 1 then word32 (t.qmin.toNat + t.qmax.toNat * 2 ^ 16)
  else if w = 2 then word32 (t.setBase.toNat + t.setCount.toNat * 2 ^ 10 + t.stripeN.toNat * 2 ^ 21)
  else if w = 3 then word32 (t.chBase.toNat + t.csrBase.toNat * 2 ^ 16)
  else if w = 4 then t.clip
  else if w = 5 then t.van
  else if w = 6 then t.nan
  else t.tot

/-- Word w of a channel-counter set (R104). -/
def CSet.word (c : CSet) (w : Nat) : W32 :=
  if w = 0 then word32 c.clip.toNat
  else if w = 1 then word32 c.van.toNat
  else if w = 2 then word32 c.nan.toNat
  else if w = 3 then c.tot
  else if w = 4 then c.max
  else if w = 5 then c.min
  else 0

/-- Word w of a steering profile (R110). -/
def Profile.word (f : Profile) (w : Nat) : W32 :=
  if w = 0 then f.band else if w = 1 then f.step else if w = 2 then f.prom else f.opt

/-- A word of the GRID block (R495), without side effect. -/
def Core.gridWord (c : Core) (off : Nat) : W32 :=
  let i := off / 4
  if off < 0x200 then vget 0 c.gridEnt i
  else if off = 0x200 then word32 (flag c.ieeeOvf 0)
  else if off = 0x204 then word32 c.gridFlags.toNat
  else if off = 0x208 then c.convCnt
  else if off = 0x400 then word32 c.qntFlags.toNat
  else if 0x420 ≤ off ∧ off < 0x460 then (vget Profile.reset c.profiles ((off - 0x420) / 16)).word (i % 4)
  else if 0x1000 ≤ off ∧ off < 0x1800 then (c.slot ((off - 0x1000) / 32)).word (i % 8)
  else if 0x2000 ≤ off ∧ off < 0x4000 then
    let l := vget (Vector.replicate 64 0) c.stripe ((off - 0x2000) / 128)
    word32 ((vget 0 l (2 * (i % 32))).toNat + (vget 0 l (2 * (i % 32) + 1)).toNat * 2 ^ 16)
  else if 0x4000 ≤ off ∧ off < 0x8000 then vget 0 c.csr ((off - 0x4000) / 4)
  else if 0x8000 ≤ off ∧ off < 0x10000 then (vget CSet.reset c.sets ((off - 0x8000) / 32)).word (i % 8)
  else if off = 0x10000 then word32 c.vecFlags.toNat
  else 0

/-- A word of the GUARD block (R172), without side effect. -/
def Core.guardWord (c : Core) (off : Nat) : W32 :=
  if off = 0 then word32 (flag c.guardEn 0)
  else if off = 4 then word32 c.guardBase.toNat
  else if off = 8 then word32 c.guardLimit.toNat
  else if off = 0xC then word32 c.guardStat.toNat
  else if off = 0x10 then c.eccCnt
  else if off = 0x14 then word32 (c.eccRow.toNat + c.eccWord.toNat * 2 ^ 16)
  else if off = 0x20 then word32 c.gmask.toNat
  else if 0x100 ≤ off ∧ off < 0x140 then vget 0 c.arr ((off - 0x100) / 4)
  else if 0x1000 ≤ off ∧ off < 0x2800 then vget 0 c.valid ((off - 0x1000) / 4)
  else 0

/-- Block-local base of a partition space (R490). -/
def partBase (p : Fin 12) : Nat := 0x021000000000 + p.val * 2 ^ 24
/-- Block-local base of a hub space. -/
def hubBase (h : Fin 4) : Nat := 0x022000000000 + h.val * 2 ^ 24
/-- Block-local base of the block registers. -/
def blkBase : Nat := 0x023000000000

/-- The core whose register block an offset of a partition space lies in (R495). -/
def partCore (off : Nat) : Option (Fin 32) :=
  if off < 0x400000 then some (coreNo (off / 0x20000))
  else if 0x480000 ≤ off ∧ off < 0x500000 then some (coreNo ((off - 0x480000) / 0x4000))
  else if 0x500000 ≤ off ∧ off < 0x520000 then some (coreNo ((off - 0x500000) / 0x1000))
  else none

/-- The offset is that of a CORE_FENCE register (R452, R495). -/
def isFenceReg (off : Nat) : Bool := decide (0x500000 ≤ off) && decide (off < 0x520000) && decide (off % 0x1000 = 0x100)

/-- The source is a control port. -/
def isPort : Source → Bool
  | .port _ => true
  | _ => false

/-- The source is the control port of hub h. -/
def isPortOf (h : Fin 4) (src : Source) : Bool := decide (src = .port h)

/-- The source can make an access now: a port that is up and not BUSY (R408), an active link, a unit of a
partition that runs a task. -/
def State.srcReady (s : State) (src : Source) : Bool :=
  decide (s.phase = .ready) && match src with
    | .port h => (s.hub h).portUp && (s.hub h).busy.isNone
    | .link n => decide (s.links[n].state = .active)
    | .seq p => s.seqRuns p
    | .chan c => s.chanRuns c

/-- May the source reach a register (R354, R397, R428, R448, R492, R494): 0, or the error status. -/
def State.regStatus (s : State) (src : Source) (a : Nat) (write : Bool) : Code :=
  match place a with
  | .part p off =>
    if s.fused p || (s.part p).isolated then 0x7E10
    else
      let who : Code := match src with
        | .port _ => 0
        | .link n =>
          if (semView (.part p) off).isSome && s.links[n].bound && decide (s.links[n].tenant = (s.part p).tenant) then 0 else 0x8C05
        | _ => if s.tenantOf src = some (s.part p).tenant then 0 else 0x8E08
      if who ≠ 0 then who
      else
        match partCore off with
        | some l =>
          if (s.core p l).fenced && !(isPort src && (!write || isFenceReg off)) then 0x3007 else 0
        | none => 0
  | .hub h off =>
    match src with
    | .port _ => 0
    | .link n =>
      match semView (.hub h) off with
      | some (o, i) => if s.links[n].bound && decide (s.wordOwner h o.ctr i = s.links[n].tenant) then 0 else 0x8C05
      | none => 0x8C05
    | _ => if (0x450000 ≤ off ∧ off < 0x451000) ∨ (0x800000 ≤ off ∧ off < 0x840000) then 0x3F01 else 0
  | .blk _ =>
    match src with
    | .port _ => 0
    | .link _ => 0x8C05
    | _ => 0x3F01
  | _ => 0x3F01

/-- Log an error status of a register access (R442). -/
def State.regLog (src : Source) (a : Nat) (code : Code) (s : State) : State :=
  match place a with
  | .part p off => s.logDest p (match partCore off with
      | some l => l.val
      | none => 0xFF) src code
  | _ => s.logSrc src code

/-- An error status reaches a unit of the block: the sequencer's task aborts with it (R201), a bale faults
(R291); a rejected entry write aborts nothing (R177). -/
def State.punish (src : Source) (st : Code) (s : State) : State :=
  if aborts st = false then s
  else
    match src with
    | .seq p => s.abort p st 0
    | .chan c => s.chanFault c 0x5B01 (BitVec.ofNat 64 st.toNat)
    | _ => s

/-- A unit of the block may name the address (R180, R201): its sequencer reaches the partition's own space
and enabled windows, its channels enabled windows. -/
def State.named (s : State) (src : Source) (a n : Nat) : Bool :=
  let full := 0xFF * 2 ^ 48 + a % 2 ^ 48
  let own := s.devNum.toNat * 2 ^ 48 + a % 2 ^ 48
  let inWin := fun p : Fin 12 => (s.part p).inWindows full (full + n - 1) || (s.part p).inWindows own (own + n - 1)
  match src with
  | .seq p => (match place a with
      | .part q _ => decide (q = p)
      | _ => false) || inWin p
  | .chan c => inWin (chanPart c)
  | _ => true

/-- A register write that a command of the table stands for: by a source that can make it, to an address it
may name; refused with an error status, or performed (R12, R494). -/
def State.regCommand (src : Source) (a : Nat) (f : State → Code × State) (s : State) : State :=
  if s.srcReady src && s.named src a 4 then
    let st := s.regStatus src a true
    if st ≠ 0 then ((s.regLog src a st).punish src st).answered st 0
    else
      match f s with
      | (st, s) => (s.punish src st).answered st 0
  else s

/-- A register read that a command stands for. -/
def State.regReadCommand (src : Source) (a : Nat) (f : State → Code × W32 × State) (s : State) : State :=
  if s.srcReady src && s.named src a 4 then
    let st := s.regStatus src a false
    if st ≠ 0 then ((s.regLog src a st).punish src st).answered st 0
    else
      match f s with
      | (st, v, s) => (s.punish src st).answered st v
  else s

end Sys2Proof.Machine
end

