-- ==== Sys2Proof/Machine/Faults.lean ====
section
/-! DEFINITION. Fencing (R447 to R450), partition reset (R451), captures (R453 to R455), the end of an abort
with its dump (R262, R444, R445), and what goes ahead when an event queue has room (R418). -/

namespace Sys2Proof.Machine

/-- REQ of a CORE_FENCE write (R452). -/
def fenceReq (v : W32) : Nat := fld v 18 2
/-- BOCT. -/
def fenceOct (v : W32) : Fin 16 := ⟨fld v 20 4, Nat.mod_lt _ (by decide)⟩

/-- A tile cleared to EMPTY (R70, R90). -/
def Core.clearTiles (c : Core) : Core :=
  { c with tiles := Vector.replicate 4 (Vector.replicate 128 Line.zero), tileTag := Vector.replicate 4 .empty,
           tileMode := Vector.replicate 4 0 }

/-- A change of the live cores or of a bypass (R90): when the array width changes, every tile is cleared. -/
def Part.reshape (f : Part → Part) (q : Part) : Part :=
  let r := f q
  if r.width = q.width then r else { r with cores := r.cores.map Core.clearTiles }

/-- A channel of a core that is fenced (R448). -/
def Chan.fence (k : Chan) : Chan := { k with head := k.tail, stopped := true, cur := none, runs := [], ring := [], pushHeld := [] }

/-- A core that is fenced (R448): its queues are empty, its custom-operation port is flushed, its channels are
stopped; the rest keeps its contents. -/
def Core.fence (c : Core) : Core := { c.discard with chans := c.chans.map Chan.fence, fenced := true, fcause := 0 }

/-- A core that is unfenced (R450): wiped as a personality load wipes it. -/
def Core.unfence (g : Vector (BitVec 16) 32) (c : Core) : Core := { c.wipe false g with fenced := false, fcause := 0 }

/-- Why a fence request is rejected (R447, R452): 0 for none. -/
def State.fenceCause (s : State) (p : Fin 12) (l : Fin 32) (v : W32) : BitVec 4 :=
  let q := s.part p
  let c := s.core p l
  if q.task.isSome || q.unavail || (s.capState != .idle && s.capMask.getLsbD p.val)
      || decide (q.pers = .held) || decide (q.pers = .loading) then 1
  else if s.fused p then 4
  else if fenceReq v = 1 ∧ c.fenced = false ∧ q.liveCount ≤ 1 then 2
  else
    match c.bypass with
    | some o => if fenceReq v = 3 ∧ o ≠ fenceOct v then 3 else 0
    | none => 0

/-- A fence, unfence or bypass request (R447 to R450): its status. -/
def State.fenceDo (p : Fin 12) (l : Fin 32) (v : W32) (s : State) : Code × State :=
  let cause := s.fenceCause p l v
  if cause ≠ 0 then (0x3F05, (s.modCore p l fun c => { c with fcause := cause }).logCore p l 0x3F05 0)
  else
    let g := (s.part p).grid67
    let f : Core → Core :=
      if fenceReq v = 1 then (fun c => if c.fenced then c else c.fence)
      else if fenceReq v = 2 then (fun c => if c.fenced then c.unfence g else c)
      else (fun c => { c with bypass := some (fenceOct v) })
    (0, s.modPart p fun q => q.reshape fun q => { q with cores := q.cores.set l (f q.cores[l]) })

/-- A write to CORE_FENCE (R447, R452): CAND is cleared by any source, a request is a control port's; one that
arrives during an abort waits for its end (R445). No status: the answer comes later. -/
def State.fenceWrite (src : Source) (p : Fin 12) (l : Fin 32) (v : W32) (who : Option (Fin 4 × Byte)) (s : State) :
    Option Code × State :=
  let clear := fun s : State => if bit v 1 then s.modCore p l fun c => { c with cand := false } else s
  if fenceReq v = 0 ∨ isPort src = false then (some 0, clear s)
  else if (s.part p).abort.isSome then
    (none, s.modPart p fun q => { q with held := q.held ++ [{ core := some l, v := v, who := who }] })
  else
    let r := s.fenceDo p l v
    (some r.1, if r.1 = 0 then clear r.2 else r.2)

/-- The reset of a partition that runs no task (R432, R451). -/
def State.partReset (p : Fin 12) (s : State) : State := s.wipePart .reset p

/-- A write of FENCE_PRST (R451): a running task is aborted first, and the write is answered when the reset
is done. -/
def State.resetWrite (src : Source) (p : Fin 12) (v : W32) (who : Option (Fin 4 × Byte)) (s : State) : Option Code × State :=
  if bit v 0 = false ∨ isPort src = false then (some 0, s)
  else
    match (s.part p).task with
    | none => (some 0, s.partReset p)
    | some _ =>
      (none, (s.abort p 0x4F05 0).modPart p fun q => { q with held := q.held ++ [{ core := none, v := v, who := who }] })

/-- A request that waited for the end of an abort is performed, and answered (R445). -/
def State.heldDo (p : Fin 12) (s : State) (r : HeldReq) : State :=
  let (st, s) := match r.core with
    | some l => s.fenceDo p l r.v
    | none => (0, s.partReset p)
  match r.who with
  | some (h, tag) => s.portAnswer h tag st []
  | none => s.answered st 0

/-- Commands of fencing by a source that reaches the register. -/
def State.fenceCommand (src : Source) (p : Fin 12) (l : Fin 32) (v : W32) (req : Nat) (s : State) : State :=
  if fenceReq v = req then
    s.regCommand src (partBase p + 0x500100 + 0x1000 * l.val) fun s =>
      match s.fenceWrite src p l v none with
      | (st, s) => (st.getD 0, s)
  else s

/-- R448 FENCE. -/
def execFence (src : Source) (p : Fin 12) (l : Fin 32) (v : W32) (s : State) : Out := .next (s.fenceCommand src p l v 1)
/-- R450 UNFENCE. -/
def execUnfence (src : Source) (p : Fin 12) (l : Fin 32) (v : W32) (s : State) : Out := .next (s.fenceCommand src p l v 2)
/-- R450 BYPASS_OCTET. -/
def execBypassOctet (src : Source) (p : Fin 12) (l : Fin 32) (v : W32) (s : State) : Out := .next (s.fenceCommand src p l v 3)

/-- R451 PARTITION_RESET. -/
def execPartitionReset (src : Source) (p : Fin 12) (v : W32) (s : State) : Out :=
  .next (s.regCommand src (partBase p + 0x454004) fun s =>
    match s.resetWrite src p v none with
    | (st, s) => (st.getD 0, s))

/-- CAPOFF (R461). -/
def State.capBase (s : State) : Nat := s.capOff.toNat * 2 ^ 20

/-- The dies that a capture of these partitions writes, with the bytes of each image (R455). -/
def capDies (mask : BitVec 12) : List (Fin 24 × Nat) :=
  ((List.finRange 12).filter fun p => mask.getLsbD p.val).flatMap fun p =>
    [(stackNo (2 * p.val), 411107328), (stackNo (2 * p.val + 1), 411041792)]

/-- The check before a capture (R453): 0, or its code. A fused partition has no stack to write (R23). -/
def State.capCheck (s : State) (mask : BitVec 12) : Code :=
  let base := s.capBase
  let mine := fun (e : Fin 24 × Nat) (r : Fin 1536) =>
    decide (r.val / 64 = e.1.val) && decide (base / 2 ^ 30 ≤ r.val % 64) && decide (r.val % 64 ≤ (base + e.2 - 1) / 2 ^ 30)
  if mask = 0 ∨ 2 ^ 36 < base + 411107328 then 0x3003
  else if (capDies mask).any fun e => (List.finRange 1536).any fun r =>
      mine e r && (s.regions[r].fill || s.regions[r].swap == some true
        || decide (s.regions[r].ten ≠ (s.part (stackPart e.1)).tenant)) then 0x3003
  else if (capDies mask).any fun e => !s.stackPorts[e.1].up then 0x5D05
  else 0

/-- A capture has ended (R442, R454, R461): its code, the completion event on all four ports. -/
def State.capEnd (code : Code) (s : State) : State :=
  let s := { s with capState := .idle, capCode := code }
  let s := if code = 0 then s else s.logBlock code 0
  s.eventAll 3 code

/-- The sequencers that a capture has stopped issue again (R454). -/
def State.capResume (s : State) : State :=
  { s with parts := s.parts.map fun q => if q.seqState = 3 then { q with seqState := 1 } else q }

/-- The oldest waiting capture begins once no port-local operation runs (R409), no capture runs and no named partition is
aborting (R445): it fails at once, or the named partitions quiesce (R453, R454). -/
def State.capTry (s : State) : State :=
  match s.capWait with
  | [] => s
  | (_, v) :: rest =>
    let mask := BitVec.ofNat 12 (fld v 0 12)
    if s.anyLoad = true ∨ (s.secNow.any fun r => decide (secLop r.cmd.v ≠ 0)) = true ∨ s.capState ≠ .idle
        ∨ ((List.finRange 12).any fun p => mask.getLsbD p.val && (s.part p).abort.isSome) = true then s
    else
      let s := State.busyAll 3 { s with capWait := rest }
      let code : Code := s.capCheck mask
      if code ≠ 0 then s.capEnd code
      else { s with capState := .quiescing, capMask := mask, capSince := s.now }

/-- A write to LOG_CAP_CTL by the port of hub h (R453): the port is BUSY from the request on. -/
def State.capWrite (h : Fin 4) (v : W32) (s : State) : State :=
  if bit v 12 then
    let s := s.modHub h fun b => { b with busy := some { lop := 3, prog := 0 } }
    State.capTry { s with capWait := s.capWait ++ [(h, v)] }
  else s

/-- What long operations waited for may have come: the security engine goes on, and a capture begins (R409, R426, R430). -/
def State.longOps (s : State) : State := s.secResume.capTry

/-- R453 CAPTURE. -/
def execCapture (h : Fin 4) (v : W32) (s : State) : Out :=
  .next (if bit v 12 then s.regCommand (.port h) (blkBase + 0x6200) fun s => (0, s.capWrite h v) else s)

/-- A partition has nothing in flight (R454): it issues no bundles, no drained line is held in the array, no WDRAIN
is part done, no signal is unreleased, no started bale, no STEER decision, no access of its units is under way. -/
def State.quiesced (s : State) (p : Fin 12) : Bool :=
  let q := s.part p
  decide (q.seqState ≠ 1) && q.abort.isNone && q.loads.isEmpty && !q.bmiss && !q.storeBusy
    && (q.live.all fun l =>
          let c := q.cores[l]
          c.promenade.isEmpty && c.draining.isEmpty && c.takes.isEmpty && !c.partDone && (c.eng.all fun k => k.signals.isEmpty)
            && c.chans.all fun k => k.runs.isEmpty)
    && (q.trunk.all fun k => k.runs.isEmpty) && (s.partReqs p).isEmpty

/-- The bytes of a list, then fillers up to n. -/
def padTo (n : Nat) (fill : Nat → Byte) (l : List Byte) : List Byte :=
  l ++ (List.range (n - l.length)).map fun i => fill (l.length + i)

/-- The image of a live core (R455); `open'` gives the bytes whose place in the image the manual leaves
open. -/
def Core.image (c : Core) (open' : Nat → Byte) : List Byte :=
  let at' := fun (o n : Nat) (l : List Byte) => padTo n (fun i => open' (o + i)) l
  let regs := c.eng.toList.flatMap fun k =>
    bytesOfWords k.a.toList ++ bytesOfWords k.as.toList ++ bytesOfWords k.ab.toList ++ bytesOfWords k.al.toList
      ++ bytesOfWords (k.lr.toList.map fun w => w.setWidth 32)
  let tag := fun t : TileTag => match t with
    | .empty => (0 : Byte)
    | .int32 => 1
    | .fp32 => 2
  let line := fun l : Line => bytesOfWords l.toList
  c.bytes 0 spadSize
    ++ (c.tiles.toList.flatMap fun t => t.toList.flatMap line)
    ++ (c.stages.toList.flatMap fun t => t.toList.flatMap fun r => r.toList.flatMap fun x => bytesOf 2 x.toNat)
    ++ (c.ocache.toList.flatMap line)
    ++ bytesOfWords ((List.range 0x8000).map fun i => c.gridWord (4 * i))
    ++ bytesOfWords ((List.range 0xA00).map fun i => c.guardWord (4 * i))
    ++ at' 0x187A800 0x100 (c.tileTag.toList.map tag)
    ++ at' 0x187A900 0xB00 regs
    ++ at' 0x187B400 0x400 []
    ++ at' 0x187B800 0x2000 []
    ++ at' 0x187D800 0x1000 (c.drainQ.flatMap line)
    ++ at' 0x187E800 0x1000 (c.storeQ.flatMap fun e => line e.line)
    ++ bytesOf 0x800 0

/-- SEQ_STAT (R221). -/
def Part.seqStat (q : Part) : W32 :=
  word32 (q.seqState.toNat + flag (decide (q.rerun ≠ 0)) 2 + flag (decide (q.fbPend ≠ 0)) 3)

/-- The image of a partition (R455). -/
def Part.image (q : Part) (open' : Nat → Byte) : List Byte :=
  let at' := fun (o n : Nat) (l : List Byte) => padTo n (fun i => open' (o + i)) l
  let queue := fun l : List (BitVec 17) => l.flatMap fun h => bytesOf 4 h.toNat
  bytesOfWords ((List.range 4096).map fun i => Sparse.get 0 q.sems i)
    ++ bytesOfWords ((List.range 1024).map fun i => Sparse.get 0 q.ctrs i)
    ++ ((List.range 32).flatMap fun i => bytesOf 8 (q.s i).toNat)
    ++ bytesOfWords [q.pc, q.seqStat, word32 q.bucket.toNat, q.liveMask]
    ++ at' 0x5110 0xEF0 []
    ++ ((List.finRange 64).flatMap fun i => at' (0x6000 + 64 * i.val) 64 (queue q.relay[i]))
    ++ (q.relay.toList.map fun l => BitVec.ofNat 8 l.length)
    ++ at' 0x7040 0x8FC0 []

/-- The image that a die writes (R455). -/
def State.dieImage (s : State) (d : Fin 24) : List Byte :=
  let q := s.part (stackPart d)
  let open' := fun i : Nat => BitVec.ofNat 8 (s.freeLane (d.val * 2 ^ 29 + i)).toNat
  ((List.finRange 16).flatMap fun i =>
      let l := coreNo (16 * (d.val % 2) + i.val)
      if q.cores[l].fenced then bytesOf 0x1880000 0 else q.cores[l].image fun o => open' (0x1880000 * i.val + o))
    ++ (if d.val % 2 = 0 then q.image fun o => open' (0x18800000 + o) else [])

/-- Write an image into a stack (R454): whole units, region by region. -/
def State.putImage (d : Fin 24) (base : Nat) (data : List Byte) (s : State) : State :=
  (pieces (2 ^ 30) base data.length).foldl (fun s e =>
    let s := s.swapDue (regionNo d e.1)
    let s := s.modStack d fun k =>
      { k with badUnits := k.badUnits.filter fun u => !(decide (e.1 / 64 ≤ u) && decide (u < (e.1 + e.2) / 64)) }
    s.hbmStore d e.1 ((data.drop (e.1 - base)).take e.2)) s

/-- R454 CAPTURE_QUIESCED: every named partition has nothing in flight; they are isolated, and their images are
written. -/
def execCaptureQuiesced (s : State) : Out :=
  let named := (List.finRange 12).filter fun p => s.capMask.getLsbD p.val
  .next (if s.capState = .quiescing ∧ named.all s.quiesced = true then
      let s' := (capDies s.capMask).foldl (fun t e => t.putImage e.1 s.capBase (s.dieImage e.1)) s.drawn
      let s' := named.foldl (fun t p => t.modPart p fun q => { q with isolated := true }) s'
      { s' with capState := .writing, capHeld := s.now }.progress 3 1 1 (List.finRange 4)
    else s)

/-- R454 CAPTURE_QUIESCE_TIMEOUT: the quiesce has lasted 12 µs, and the capture fails with nothing written. -/
def execCaptureQuiesceTimeout (s : State) : Out :=
  .next (if s.capState = .quiescing ∧ 12000 ≤ (s.now - s.capSince).toNat then s.capResume.capEnd 0x9002 else s)

/-- The images of a capture that met a stack error: indeterminate, so free (log entry 6). -/
def State.capSpoil (s : State) : State :=
  (capDies s.capMask).foldl (fun t e =>
    t.putImage e.1 s.capBase ((List.range e.2).map fun i => BitVec.ofNat 8 (s.freeLane (e.1.val * 2 ^ 29 + i)).toNat)) s.drawn

/-- The custom-operation port of a core when border isolation of a capture ends (R370): requests not begun are presented
anew, and the next beat that the fabric presents is a header. -/
def Core.copResume (now : W64) (c : Core) : Core :=
  { c with copIn := none, copOut := c.copOut.map fun r => { r with since := now } }

/-- R454 CAPTURE_WRITE_DONE: isolation ends, issue resumes, and the completion event is sent. -/
def execCaptureWriteDone (status : Code) (s : State) : Out :=
  .next (if s.capState = .writing then
      let named := (List.finRange 12).filter fun p => s.capMask.getLsbD p.val
      let s := if status = 0 then s else s.capSpoil
      (named.foldl (fun t p => t.modPart p fun q =>
        { q with isolated := decide (q.pers = .held), holds := q.holds ++ [(s.capHeld, s.now)]
                 cores := q.cores.map (Core.copResume s.now) }) s).capResume.capEnd status
    else s)

/-- Step 5 of an abort, after which what waited for it goes ahead: fence requests and a partition reset, and a
capture (R445). -/
def State.abortDone (p : Fin 12) (d : TaskDesc) (a : AbortInfo) (s : State) : State :=
  let s := s.abortEnd p d a
  let l := (s.part p).held
  (l.foldl (State.heldDo p) (s.modPart p fun q => { q with held := [] })).longOps

/-- R262 ABORT_DUMP: once its channels have flushed, an aborted partition writes its dump, logs the abort
and becomes idle. -/
def execAbortDump (p : Fin 12) (s : State) : Out :=
  let q := s.part p
  .next (match q.task, q.abort with
    | some d, some a =>
      match a.dump with
      | some (_ + 1) => s
      | some 0 => (if a.dumpBad then s.dumpFailed p else s).abortDone p d a
      | none =>
        if q.flushed = false then s
        else
          let s := s.modPart p fun q =>
            { q with cores := q.cores.map fun c => { c with chans := c.chans.map Chan.stop }, trunk := q.trunk.map Chan.stop }
          let addr := q.dumpHi.toNat * 2 ^ 32 + fld q.dumpLo 15 17 * 2 ^ 15
          if bit q.dumpLo 0 = false then s.abortDone p d a
          else if q.inWindows addr (addr + 0x7FFF) = false then (s.dumpFailed p).abortDone p d a
          else (s.modPart p fun q => { q with abort := some { a with dump := some 64 } }).dumpWrites p addr (s.dumpImage p d a)
    | _, _ => s)

/-- R418 EVENT_QUEUE_ROOM: the port takes the events there is room for, and what the full queue held
goes ahead. -/
def execEventQueueRoom (h : Fin 4) (room : Nat) (s : State) : Out :=
  .next (if (s.hub h).portUp then
      let out := (s.hub h).evq.take room
      let s := out.foldl (fun s e => (s.say h (.event e)).leaveBusy h e) s
      let s := s.modHub h fun b => { b with evq := b.evq.drop room }.takeLate
      let s := (List.range 9).foldl (State.sendPend h) s
      let s := State.freeHeld h (s.hub h).evHeld s
      (s.modHub h fun b => { b with alert := if b.evq.isEmpty then false else b.alert }).longOps
    else s)

end Sys2Proof.Machine
end

