-- ==== Sys2Proof/Machine/Clock.lean ====
section
/-! DEFINITION. The clock: what an MCLK cycle does (R192, R466, R488), and the timing message. -/

namespace Sys2Proof.Machine

/-- The four ACLK cycles of one MCLK cycle in a partition: SKIP counts (R192, R194), and counter 0 counts
cycles, summed over the live cores (R488). Freezes, spins and stalls (counters 2, 3 and 5) are cycles of engines
that the model does not follow: they advance by free amounts (log entry 68). -/
def Part.cycle (free : Nat → W32) (q : Part) : Part :=
  let q := { q with skip := BitVec.ofNat 17 (q.skip.toNat - 4) }
  let add := fun (k n : Nat) (v : Vector W64 8) => vset v k (vget 0 v k + BitVec.ofNat 64 n)
  if q.pctlRun then
    { q with pcnt := add 5 (free 2).toNat (add 3 (free 1).toNat (add 2 (free 0).toNat (add 0 (4 * q.liveCount) q.pcnt))) }
  else q

/-- One MCLK cycle of every die (R466): the timebase advances alternately by 2 and by 3, by 2 first. -/
def State.mclk (s : State) : State :=
  { s with
    dieTime := s.dieTime.map fun t => t + (if s.half then 3 else 2), half := !s.half, free := s.free + 1
    parts := Vector.ofFn fun p : Fin 12 => (s.part p).cycle fun k => s.freeLane (3 * p.val + k) }

/-- One MCLK cycle, with the edges of the fabric clocks in it (R362); long operations that wait go on (R409, R430). An unpowered
block, or one in cold reset, has no clock. -/
def State.tick (s : State) : State := if s.phase = .off then s else s.mclk.fabricEdges.longOps

/-- R466 TIMING_MESSAGE: each die corrects its timebase to hub 0's; the timebase only rises. -/
def execTimingMessage (s : State) : Out :=
  .next { s with dieTime := s.dieTime.map fun t => if t.toNat < s.now.toNat then s.now else t }

end Sys2Proof.Machine
end

