-- ==== Sys2Proof/Machine/Power.lean ====
section
/-! DEFINITION. Resets and power (R23, R25, R307, R466, R469 to R476): cold and warm reset, the fall of
pwr_ok, and the ramps of the partitions. -/

namespace Sys2Proof.Machine

/-- The stacks that are not fused off (R23). -/
def State.liveStacks (s : State) : List (Fin 24) := (List.finRange 24).filter fun d => !s.fused (stackPart d)

/-- Every hub asserts blk_alert_n (R471). -/
def State.alertAll (s : State) : State := { s with hubs := s.hubs.map fun (b : Hub) => { b with alert := true } }

/-- Cold reset holds the block (R470, R477): control ports and mesh bridges are down, alerts released. -/
def State.holdReset (s : State) : State :=
  { s with phase := .off, warm := false
           bridges := Vector.replicate 24 (Vector.replicate 4 false), hubBridges := Vector.replicate 4 (Vector.replicate 2 false)
           hubs := s.hubs.map fun (b : Hub) => { b with portUp := false, alert := false } }

/-- A hub as cold reset leaves it before the completion event: nothing sent, no message outstanding. -/
def Hub.boot (b : Hub) : Hub := { b with evq := [], evLate := [], evSeq := 0, evPend := 0, busy := none, tagsOut := [], bellWaits := [], alert := false }

/-- A stack after the training of a power-up (R307): one that fails is marked down. -/
def State.bootStack (ok : BitVec 24) (s : State) (d : Fin 24) : State :=
  let s := s.modStack d fun k => { k with up := ok.getLsbD d.val && !s.fused (stackPart d), training := false }
  if s.fused (stackPart d) || ok.getLsbD d.val then s else s.logPart (stackPart d) 0x5D05 0

/-- The last steps of a power-up (R471): keys, stacks, the wipe, READY and the completion event. -/
def State.bootEnd (env : BootEnv) (s : State) : State :=
  let s := ({ s with drbg := s.drbg + 1 }).deriveKeys
  let s := (List.finRange 24).foldl (State.bootStack env.stack) s
  (State.busyAll 4 { s with phase := .ready }).eventAll 4 0

/-- The mesh bridges train with the neighbour check (R25). -/
def State.trainMesh (t : Straps) (s : State) : State := { s with bridges := bridgesUp t, hubBridges := hubBridgesUp t }

/-- R471 COLD_RESET: the rising edge of blk_rst_n that ends cold reset: the straps are sampled (R24). A die whose
PLL fails, a control port that does not train and a bridge that finds a mismatch (R25) each stop the sequence. -/
def execColdReset (env : BootEnv) (s : State) : Out :=
  .next (if s.phase = .off then
      let s : State := { s.coldWipe false with
        hubs := (s.coldWipe false).hubs.map Hub.boot, half := false, pwrOk := true, rstN := true, phase := .stuck, pll := env.pll,
        straps := env.straps, bridges := Vector.replicate 24 (Vector.replicate 4 false)
        hubBridges := Vector.replicate 4 (Vector.replicate 2 false), dieTime := Vector.replicate 28 0 }
      if env.pll ≠ BitVec.allOnes 28 then s.alertAll
      else
        let s := (List.finRange 4).foldl (fun (s : State) h => s.modHub h fun b => { b with portUp := env.ports.getLsbD h.val })
          (s.trainMesh env.straps)
        if meshAgrees env.straps = false then (s.logHub 0 0xF001 0).alertAll
        else if env.ports ≠ BitVec.allOnes 4 then s.alertAll
        else s.bootEnd env
    else s)

/-- R470 PWR_OK_FALL: the block stops at once; the region keys are lost with their rail. -/
def execPwrOkFall (s : State) : Out :=
  .next { s.holdReset with
    pwrOk := false, hbm := [],
    regions := s.regions.map fun (r : Region) => { r with keyGen := r.keyGen + 1, zero := false, fill := false, swap := none } }

/-- R470 BLK_RST_N_LOW: blk_rst_n has been low for 1 µs. -/
def execBlkRstNLow (s : State) : Out := .next { s.holdReset with rstN := false }

/-- A partition is stopped for a warm reset (R473 steps 1 and 3): its state changes as R432 says; it stays
unavailable and isolated until the warm reset ends. -/
def State.warmPart (s : State) (p : Fin 12) : State :=
  (s.wipePart .warm p).modPart p fun q =>
    { q with isolated := true, unavail := true, trunkTags := 0,
             trunk := Vector.replicate 8 Chan.reset, depots := Vector.replicate 2 Depot.empty
             cores := q.cores.map fun c =>
               { c with dmaRead := [], dmaWrite := [], dmaRemote := [], readTags := 0, chans := Vector.replicate 4 Chan.reset } }

/-- What control ports had asked of the scratchpads when they were isolated is answered so (R354). -/
def State.portDma (s : State) : List (Requester × Bool) :=
  s.parts.toList.flatMap fun q => q.cores.toList.flatMap fun c =>
    (c.dmaRemote.filter fun r => match r.who with
      | .port _ _ => true
      | _ => false).map fun r => (r.who, decide (r.kind = .read))

/-- A link at a warm reset (R432, R473): IDLE and unbound. -/
def Link.warm (k : Link) : Link := { k.toIdle with bound := false, outst := [], waits := [] }

/-- A hub at a warm reset (R432): TASK and EVT registers initialised, tasks lost, global blocks zero and of
tenant 0; what links had brought is dropped; claimed links train in the slots that follow. -/
def Hub.warm (now : W64) (b : Hub) : Hub :=
  { b with flops := initFlops 112 b.fabric, gsems := [], gctrs := [], gown := Vector.replicate 32 0, subQ := []
           evMask := 0, evPend := 0, evHeld := [], ringLo := 4, stagedLo := 4, ringHi := 0, head := 0, tail := 0, taskErr := 0
           waitQ := false, taskRej := false, checked := none, tasks := [], reports := [], records := []
           descRead := none, nextTask := b.nextTask + 1
           aliases := b.aliases.filter fun a => isPort a.src
           lastSlot := some (now.toNat / 250000) }

/-- The end of a warm reset (R473 step 5). -/
def State.warmEnd (s : State) : State :=
  let s : State := { s with warm := false,
                            parts := s.parts.map fun (q : Part) => { q with isolated := decide (q.pers = .held), unavail := decide (q.pers = .held) } }
  s.eventAll 2 0

/-- A warm reset (R473): it ends at once unless a stack that was down retrains. Fence and reset writes that waited for the end of an
abort are answered (R406, R447). -/
def State.warmReset (s : State) : State :=
  let dma := s.portDma
  let held := (List.finRange 12).flatMap fun p => (s.part p).held.map fun r => (p, r)
  let down := s.liveStacks.filter fun d => !s.stackPorts[d].up
  let s := State.busyAll 2 s
  let s := (List.finRange 12).foldl State.warmPart s
  let s := dma.foldl (fun s e => s.complete e.1 e.2 0x7E10 []) s
  let s := held.foldl (fun s e => s.heldDo e.1 e.2) s
  let s : State := { s with
    warm := true
    hubs := s.hubs.map (Hub.warm s.now), links := s.links.map Link.warm, hbm := []
    regions := s.regions.map fun (r : Region) => { Region.reset with keyGen := r.keyGen + 1 }
    stackPorts := s.stackPorts.map fun (k : Stack) =>
      { Stack.reset with rate := k.rate, up := k.up, training := k.training, badUnits := k.badUnits, qRemote := keepPort k.qRemote } }
  let s := down.foldl (fun s d => s.modStack d fun k => { k with training := true }) s
  if down = [] then s.warmEnd else s

/-- A write to TIME_RST by a source (R472): a control port's with the key starts a warm reset; while another
port is BUSY it is not performed, and the answer is that port's. -/
def State.warmWrite (src : Source) (v : W32) (s : State) : Option Busy × State :=
  if isPort src && decide (fld v 16 16 = 0x5752) && bit v 0 then
    match s.hubs.toList.filterMap fun b => b.busy with
    | [] => (none, s.warmReset)
    | o :: _ => (some o, s)
  else (none, s)

/-- R473 WARM_RESET. -/
def execWarmReset (h : Fin 4) (v : W32) (s : State) : Out :=
  .next (s.regCommand (.port h) (blkBase + 0x7010) fun s => (0, (s.warmWrite (.port h) v).2))

/-- R307 STACK_TRAINING_DONE: the port has trained, or the stack is marked down. A warm reset that waited for
it goes on (R473). -/
def execStackTrainingDone (d : Fin 24) (ok : Bool) (s : State) : Out :=
  .next (if s.stackPorts[d].training ∧ s.phase = .ready then
      let s := s.modStack d fun k => { k with training := false, up := ok }
      let s := if ok then s else s.logPart (stackPart d) 0x5D05 0
      if s.warm && (List.finRange 24).all fun e => !s.stackPorts[e].training then s.warmEnd else s
    else s)

/-- A ramp of the partition is running (R474). -/
def Part.ramping (q : Part) : Bool := decide (q.power = .rampUp ∨ q.power = .rampDown)

/-- A partition whose ramp is due (R349, R475): gated with a task delivered or a personality just released, or running with
nothing to run (log entry 109). -/
def State.rampDue (s : State) (p : Fin 12) : Bool :=
  let q := s.part p
  !s.fused p && !q.unavail && q.task.isNone
    && ((decide (q.power = .gated) && (q.rampIn || !q.delivery.isEmpty))
      || (decide (q.power = .running) && !q.rampIn && q.delivery.isEmpty))

/-- R476 RAMP_START: fewer than TIME_RAMP.MAX + 1 ramps run, and no lower partition waits. -/
def execRampStart (p : Fin 12) (s : State) : Out :=
  let running := (s.parts.toList.filter Part.ramping).length
  .next (if s.phase = .ready ∧ s.rampDue p = true ∧ running < s.rampMax.toNat + 1
      ∧ ((List.finRange 12).all fun q => decide (p ≤ q) || !s.rampDue q) = true then
      s.modPart p fun q =>
        if q.power = .gated then { q with power := .rampUp, rampAt := 0 } else { q with power := .rampDown, rampAt := 16 }
    else s)

/-- R475 RAMP_STEP: one more core of each die is enabled or disabled; the sixteenth step ends the ramp. -/
def execRampStep (p : Fin 12) (s : State) : Out :=
  let q := s.part p
  .next (if s.phase ≠ .ready then s
    else if q.power = .rampUp then
      s.modPart p fun q => if 15 ≤ q.rampAt then { q with power := .running, rampAt := 16 } else { q with rampAt := q.rampAt + 1 }
    else if q.power = .rampDown then
      s.modPart p fun q => if q.rampAt ≤ 1 then { q with power := .gated, rampAt := 0 } else { q with rampAt := q.rampAt - 1 }
    else s)

/-- R321 TEMPERATURE_READ: the highest sensor value throttles or holds the port. -/
def execTemperatureRead (d : Fin 24) (t : Byte) (s : State) : Out :=
  let k := s.stackPorts[d]
  let throt := if 95 ≤ t.toNat then true else if t.toNat < 90 then false else k.throt
  let hold := if 105 ≤ t.toNat then true else if t.toNat < 100 then false else k.hold
  let p := stackPart d
  .next (if s.phase = .ready ∧ s.fused p = false then
      let s := s.modStack d fun k => { k with temp := t, throt := throt, hold := hold }
      let s := if throt && !k.throt then s.logPart p 0x5D10 0 else s
      if hold && !k.hold then (s.logPart p 0x5D11 0).sendEvent (homeHub p) 2 0x5D11 p.val 0 0 else s
    else s)

/-- R321 REFRESH: a per-bank refresh, never postponed, or a refresh-management command that the stack has asked for (R306). -/
def execRefresh (d : Fin 24) (s : State) (rfm : Bool := false) : Out :=
  .next (if s.phase = .ready ∧ s.fused (stackPart d) = false then
      s.modStack d fun k => if rfm then { k with rfms := k.rfms + 1 } else { k with refreshes := k.refreshes + 1 }
    else s)

end Sys2Proof.Machine
end

