-- ==== Sys2Proof/Machine/Test.lean ====
section
/-! DEFINITION. The test access port, the IEEE 1500 wrappers and the probe selection (R479 to R486). -/

namespace Sys2Proof.Machine

/-- Select an instruction in the TAP controller of die d (R481): where the die does not hold it, or its gate is
closed, BYPASS. -/
def State.tapSelect (d : Fin 28) (code : Byte) (row : Nat) (here : Bool) (s : State) : State :=
  if s.pwrOk then { s with tap := s.tap.set d (if here && s.gate row then code else 0xFF) } else s

/-- The instruction as it acts (R482): EXTEST, CLAMP and HIGHZ only while blk_rst_n is low. -/
def State.tapActs (s : State) (d : Fin 28) : Byte :=
  let c := s.tap[d]
  if (c = 3 ∨ c = 4 ∨ c = 5) ∧ s.rstN = true then 0xFF else c

/-- The IDCODE register of a die (R480). -/
def idcodeOf (d : Fin 28) : W32 :=
  BitVec.ofNat 32 (1 + 0x5E7 * 2 + (if d.val < 24 then 0xC012 else 0xC112) * 2 ^ 12 + 2 ^ 28)

/-- The order of the TAP controllers from tdi to tdo (R479): dies 0 to 23 are the compute dies, 24 + h is hub h. -/
def tapChain : List (Fin 28) := 24 :: ((List.finRange 28).filter fun d => decide (d.val < 24)) ++ [25, 26, 27]

/-- What a Capture-IR loads into each instruction register (R479). -/
def irCapture : Byte := 1

/-- Bits of the instruction chain (R479). -/
def irChainBits : Nat := 8 * tapChain.length

/-- Bits of the data register that an instruction selects on a die (R481); none where the spec gives no length: the boundary
register, and what lies behind a stack's port and the internal scan. -/
def drBits (code : Byte) : Option Nat :=
  match code.toNat with
  | 0x01 => some 32
  | 0x02 | 0x03 | 0x20 | 0x40 => none
  | 0x10 => some 40
  | 0x30 => some 256
  | _ => some 1

/-- R479 TAP_RESET. -/
def execTapReset (s : State) : Out := .next (if s.pwrOk then { s with tap := Vector.replicate 28 1 } else s)
/-- R481 BYPASS. -/
def execBypass (d : Fin 28) (s : State) : Out := .next (s.tapSelect d 0xFF 1 true)
/-- R480 IDCODE. -/
def execIdcode (d : Fin 28) (s : State) : Out := .next (s.tapSelect d 0x01 1 true)
/-- R481 SAMPLE/PRELOAD. -/
def execSamplePreload (d : Fin 28) (s : State) : Out := .next (s.tapSelect d 0x02 1 true)
/-- R482 EXTEST. -/
def execExtest (d : Fin 28) (s : State) : Out := .next (s.tapSelect d 0x03 1 true)
/-- R482 CLAMP. -/
def execClamp (d : Fin 28) (s : State) : Out := .next (s.tapSelect d 0x04 1 true)
/-- R482 HIGHZ. -/
def execHighz (d : Fin 28) (s : State) : Out := .next (s.tapSelect d 0x05 1 true)
/-- R483 WSP_SELECT. -/
def execWspSelect (d : Fin 28) (s : State) : Out := .next (s.tapSelect d 0x10 2 true)
/-- R481 STACK1500: on compute dies only. -/
def execStack1500 (d : Fin 28) (s : State) : Out := .next (s.tapSelect d 0x20 3 (decide (d.val < 24)))
/-- R481 SECSCAN: on hub 0 only. -/
def execSecscan (d : Fin 28) (s : State) : Out := .next (s.tapSelect d 0x40 5 (decide (d.val = 24)))

/-- R485 PROBESEL: on hubs only; the hub's probe selection is loaded. -/
def execProbesel (d : Fin 28) (sel : BitVec 256) (s : State) : Out :=
  .next (let t := s.tapSelect d 0x30 4 (decide (24 ≤ d.val))
    if s.pwrOk && decide (24 ≤ d.val) && s.gate 4 then t.modHub (hubNo d.val) fun b => { b with probe := sel } else t)

/-- A wrapper of the block (R483). -/
inductive WrapId where
  | core (p : Fin 12) (l : Fin 32)
  | die (p : Fin 12) (b : Fin 2)
  | hub (h : Fin 4)
deriving DecidableEq, Repr

/-- What Capture-DR of WSP_SELECT loads (R483): STATUS, five zeros and the wrapper's serial data. -/
def Wrapper.capture (w : Wrapper) : BitVec 40 := w.data ++ (0 : BitVec 5) ++ w.status

/-- The wrapper that TARGET selects on a die (R483): none is WBY. A hub die holds no core. -/
def wrapAt (d : Fin 28) (t : BitVec 5) : Option WrapId :=
  if d.val < 24 then
    (if t.toNat < 16 then some (.core (partNo (d.val / 2)) (coreNo (16 * (d.val % 2) + t.toNat)))
     else if t.toNat = 16 then some (.die (partNo (d.val / 2)) ⟨d.val % 2, Nat.mod_lt _ (by decide)⟩) else none)
  else if t.toNat = 16 then some (.hub (hubNo d.val)) else none

/-- A wrapper's state. -/
def State.wrapper (s : State) : WrapId → Wrapper
  | .core p l => (s.core p l).wrap
  | .die p b => (s.part p).wraps[b]
  | .hub h => (s.hub h).wrap

/-- Replace a wrapper's state. -/
def State.setWrapper (i : WrapId) (w : Wrapper) (s : State) : State :=
  match i with
  | .core p l => s.modCore p l fun c => { c with wrap := w }
  | .die p b => s.modPart p fun q => { q with wraps := q.wraps.set b w }
  | .hub h => s.modHub h fun k => { k with wrap := w }

/-- A wrapper instruction other than WS_BYPASS is accepted (R484). -/
def State.wrapOpen (s : State) : WrapId → Bool
  | .core p l => (s.core p l).fenced
  | .die p _ => decide ((s.part p).power = .gated) && decide ((s.part p).pers ≠ .loading)
  | .hub _ => true

/-- A test instruction, after which a core is wiped (R484). -/
def isTest (wir : BitVec 3) : Bool := decide (wir = 1 ∨ wir = 2 ∨ wir = 3)

/-- A core that leaves a test instruction is wiped as an unfence wipes it (R484). -/
def State.leaveTest (i : WrapId) (wir : BitVec 3) (s : State) : State :=
  match i with
  | .core p l =>
    if isTest (s.core p l).wrap.wir && decide ((s.core p l).wrap.wir ≠ wir) then
      s.modCore p l fun c => c.wipe false (s.part p).grid67
    else s
  | _ => s

/-- Update-DR of WSP_SELECT (R483, R484): a refused instruction leaves the wrapper in WS_BYPASS. A self-test's
status stands until another instruction is accepted. -/
def State.wrapInstr (d : Fin 28) (t : BitVec 5) (wir : BitVec 3) (data : W32) (s : State) : State :=
  if s.pwrOk && decide (s.tap[d] = 0x10) then
    match wrapAt d t with
    | none => s
    | some i =>
      let ok := decide (wir = 0) || s.wrapOpen i
      let new := if ok then wir else 0
      let s := s.leaveTest i new
      let w := s.wrapper i
      let st : BitVec 3 := if ok = false then 1 else if wir = 3 then 2 else if wir = 4 ∧ 2 ≤ w.status.toNat then w.status else 0
      s.setWrapper i { wir := new, status := st, data := data, tested := w.tested || isTest new }
  else s

/-- R483 WS_BYPASS. -/
def execWsBypass (d : Fin 28) (t : BitVec 5) (data : W32) (s : State) : Out := .next (s.wrapInstr d t 0 data)
/-- R484 WS_EXTEST. -/
def execWsExtest (d : Fin 28) (t : BitVec 5) (data : W32) (s : State) : Out := .next (s.wrapInstr d t 1 data)
/-- R484 WS_INTEST. -/
def execWsIntest (d : Fin 28) (t : BitVec 5) (data : W32) (s : State) : Out := .next (s.wrapInstr d t 2 data)
/-- R484 MBIST. -/
def execMbist (d : Fin 28) (t : BitVec 5) (data : W32) (s : State) : Out := .next (s.wrapInstr d t 3 data)
/-- R483 MBIST_STATUS. -/
def execMbistStatus (d : Fin 28) (t : BitVec 5) (data : W32) (s : State) : Out := .next (s.wrapInstr d t 4 data)

/-- R483 MBIST_COMPLETE: a running self-test ends. -/
def execMbistComplete (d : Fin 28) (t : BitVec 5) (pass : Bool) (s : State) : Out :=
  .next (match wrapAt d t with
    | none => s
    | some i =>
      let w := s.wrapper i
      if s.pwrOk = true ∧ w.status = 2 then s.setWrapper i { w with status := if pass then 3 else 4 } else s)

end Sys2Proof.Machine
end

