-- ==== Sys2Proof/Machine/Links.lean ====
section
/-! DEFINITION. Dutraix links (16_dutraix_links.md): states, flits, retry, packets, key agreement, and what
links ask of the block. -/

namespace Sys2Proof.Machine

/-- Entry to DOWN (R399): the fourth within 60 s disables the link. The cause is the argument of the entry; its number is free
(log entry 6). -/
def State.linkDown (n : Fin 16) (cause : DownCause) (s : State) : State :=
  let k := s.links[n]
  let downs := s.now :: k.downs.filter fun t => decide ((s.now - t).toNat < 60000000000)
  let four := decide (4 ≤ downs.length)
  let now := s.now
  let s := s.endSession n fun k =>
    { k.toIdle with state := if four then .disabled else .down, fDown := true, downs := downs, since := now, groups := k.groups }
  s.logHub (linkHub n) (if four then 0x6C06 else 0x6C01) (Config.downCause cause)

/-- Entry to QUAR (R400). -/
def State.linkQuar (n : Fin 16) (code : Code) (s : State) : State :=
  let s := s.endSession n fun k => { k.toIdle with state := .quar, fAuth := true, downs := k.downs, groups := k.groups }
  (s.logHub (linkHub n) code 0).sendEvent (linkHub n) 2 code 0xFF 0 0

/-- A link begins training with nothing of an earlier session (R375). -/
def Link.train (now : W64) (groups : Nat) (k : Link) : Link :=
  { k.toIdle with state := .train, since := now, downs := k.downs, groups := groups }

/-- A lane group of the link may be enabled (R376): the first of a claimed link in IDLE, or the second. -/
def Link.wantsGroup (k : Link) : Bool :=
  k.claimed && !k.disable && (decide (k.state = .idle) || (decide (k.state = .train) && decide (k.groups = 1)))

/-- R376 LINK_TRAIN_START: in a stagger slot of its own, a hub enables the next lane group. -/
def execLinkTrainStart (h : Fin 4) (s : State) : Out :=
  let slot := s.now.toNat / 250000
  .next (if s.phase = .ready ∧ slot % 4 = h.val ∧ (s.hub h).lastSlot ≠ some slot then
      match (List.finRange 16).find? fun n => decide (linkHub n = h) && s.links[n].wantsGroup with
      | none => s
      | some n =>
        (s.modLink n fun k => if k.state = .idle then k.train s.now 1 else { k with groups := 2 }).modHub h fun b =>
          { b with lastSlot := some slot }
    else s)

/-- R375 LINK_TRAIN_DONE: the FEC locks and flits align on all lanes. -/
def execLinkTrainDone (n : Fin 16) (rev : Bool) (s : State) : Out :=
  let k := s.links[n]
  .next (if k.state = .train ∧ k.groups = 2 then
      (s.modLink n fun k => { k with state := .auth, rev := rev }).sendHello n
    else s)

/-- The time since a link entered its state, in ns. -/
def State.linkAge (s : State) (n : Fin 16) : Nat := (s.now - s.links[n].since).toNat

/-- R375 LINK_TRAIN_TIMEOUT. -/
def execLinkTrainTimeout (n : Fin 16) (s : State) : Out :=
  .next (if s.links[n].state = .train ∧ 100000000 ≤ s.linkAge n then s.linkDown n .training else s)

/-- R375 LINK_AUTH_TIMEOUT: 100 ms after this device's HELLO. -/
def execLinkAuthTimeout (n : Fin 16) (s : State) : Out :=
  .next (if s.links[n].state = .auth ∧ s.links[n].helloTx ≠ [] ∧ 100000000 ≤ s.linkAge n then s.linkDown n .auth else s)

/-- R375 LINK_RETRAIN: 1 s after its entry to DOWN. -/
def execLinkRetrain (n : Fin 16) (s : State) : Out :=
  .next (if s.links[n].state = .down ∧ 1000000000 ≤ s.linkAge n then s.modLink n (Link.train s.now 2) else s)

/-- A write to LINK_CTL (R375, R392, R402). -/
def State.linkCtl (n : Fin 16) (v : W32) (s : State) : State :=
  let s := s.modLink n fun k => { k with disable := bit v 0 }
  let st := s.links[n].state
  let stopped := decide (st = .quar ∨ st = .disabled)
  let s := if (if stopped then bit v 1 else bit v 0) then s.endSession n Link.toIdle else s
  if bit v 2 && decide (s.links[n].state = .active) then s.linkPacket n 8 [] else s

/-- Block-local address of a link's LINK_CTL. -/
def linkCtlAddr (n : Fin 16) : Nat := hubBase (linkHub n) + 0x450008 + 0x40 * (n.val % 4)

/-- A write to LINK_CTL by a source: one that is no control port gets an error status (R494). -/
def State.linkCtlCommand (src : Source) (n : Fin 16) (v : W32) (s : State) : State :=
  s.regCommand src (linkCtlAddr n) fun s => (0, s.linkCtl n v)

/-- R375 LINK_DISABLE. -/
def execLinkDisable (src : Source) (n : Fin 16) (v : W32) (s : State) : Out := .next (s.linkCtlCommand src n v)
/-- R375 REARM. -/
def execRearm (src : Source) (n : Fin 16) (v : W32) (s : State) : Out :=
  .next (if bit v 1 then s.linkCtlCommand src n v else s)
/-- R392 REKEY. -/
def execRekey (src : Source) (n : Fin 16) (v : W32) (s : State) : Out :=
  .next (if bit v 2 then s.linkCtlCommand src n v else s)

/-- A write to LINK_CERT (R402). -/
def State.certWrite (w : Nat) (v : W32) (s : State) : State := ({ s with cert := vset s.cert w v }).recert

/-- R402 LINK_CERT_WRITE. -/
def execLinkCertWrite (src : Source) (w : Fin 64) (v : W32) (s : State) : Out :=
  .next (s.regCommand src (hubBase (match src with
    | .port h => h
    | _ => 0) + 0x450300 + 4 * w.val) fun s => (0, s.certWrite w.val v))

/-- The packets of a list that stand first in their class (R380: a response never waits behind a request). -/
def firstOfClass : List Nat → List OutPacket → List OutPacket
  | _, [] => []
  | seen, o :: t => if seen.contains o.cls then firstOfClass seen t else o :: firstOfClass (o.cls :: seen) t

/-- A key has served all the packets it may but one, which KEYUPD takes (R392). -/
def Link.keySpent (k : Link) : Bool := decide (2 ^ 32 - 1 ≤ k.txCtr.toNat)

/-- The next packet of a VC that may start (R380, R382). -/
def Link.startable (k : Link) (vc : Nat) : Option OutPacket :=
  (firstOfClass [] k.egress).find? fun o =>
    decide (o.vc.toNat = vc) && decide (o.cost ≤ vget 0 k.cred o.cls)
      && (!k.keySpent || decide ((Header.ofBits o.hdr).ptype ∈ [6, 7, 8]))

/-- What is left of a packet that continues in the next flit of its VC (R378). -/
def Link.rest (k : Link) (vc : Nat) : List Byte :=
  match k.txBody.find? fun e => e.1.toNat == vc with
  | some e => e.2
  | none => []

/-- The VC has something to send. -/
def Link.hasData (k : Link) (vc : Nat) : Bool := !(k.rest vc).isEmpty || (k.startable vc).isSome

/-- The VC of the next flit (R381): sync, then control, then ordered and unordered in turn. -/
def Link.pickVc (k : Link) : Option Nat :=
  if k.hasData 3 then some 3
  else if k.hasData 2 then some 2
  else if !(k.rest 0).isEmpty then some 0
  else if !(k.rest 1).isEmpty then some 1
  else
    let a := if k.altVc then 1 else 0
    if k.hasData a then some a else if k.hasData (1 - a) then some (1 - a) else none

/-- The IV of a packet (R391): 4 zero bytes and the counter, big-endian. -/
def packIv (ctr : W64) : List Byte := bytesOf 4 0 ++ (bytesOf 8 ctr.toNat).reverse

/-- The label of a key update, DTX-UPD (R392). -/
def updLabel : List Byte := ascii [0x44, 0x54, 0x58, 0x2D, 0x55, 0x50, 0x44]

/-- The next key of a direction (R392). -/
def nextKey (key : BitVec 256) (ctr : W64) : BitVec 256 :=
  key256 (bytesOf 32 key.toNat) updLabel (bytesOf 8 ctr.toNat)

/-- A packet begins in the flit stream (R391): its bytes on the link, and the link after it. -/
def Link.begin (o : OutPacket) (k : Link) : List Byte × Link :=
  let pt := (Header.ofBits o.hdr).ptype
  let hdr := bytesOf 24 o.hdr.toNat
  let k := { k with egress := k.egress.erase o, cred := vset k.cred o.cls (vget 0 k.cred o.cls - o.cost),
                    altVc := if o.vc = 0 then true else if o.vc = 1 then false else k.altVc }
  if pt = 6 ∨ pt = 7 then (hdr ++ o.data, k)
  else
    let iv := packIv k.txCtr
    let ct := gcm k.txKey iv o.data
    (hdr ++ ct ++ bytesOf 16 (Config.tag k.txKey iv hdr ct).toNat,
     if pt = 8 then { k with txKey := nextKey k.txKey k.txCtr, txCtr := 0 } else { k with txCtr := k.txCtr + 1 })

/-- Replace what is left of a packet in a VC. -/
def Link.setRest (k : Link) (vc : Nat) (l : List Byte) : Link :=
  let t := k.txBody.filter fun e => decide (e.1.toNat ≠ vc)
  { k with txBody := if l.isEmpty then t else t ++ [(BitVec.ofNat 2 vc, l)] }

/-- Fill a body with packets of one VC, back to back (R378, R381): the body so far, the offset of the first
packet that begins in it. -/
def fillBody (vc : Nat) : Nat → List Byte → Option Nat → Link → List Byte × Option Nat × Link
  | 0, b, st, k => (b, st, k)
  | n + 1, b, st, k =>
    let r := k.rest vc
    if 244 ≤ b.length then (b, st, k)
    else if r ≠ [] then
      let m := 244 - b.length
      fillBody vc n (b ++ r.take m) st (k.setRest vc (r.drop m))
    else if b ≠ [] ∧ vc < 2 ∧ k.hasData (1 - vc) = true then (b, st, k)
    else
      match k.startable vc with
      | none => (b, st, k)
      | some o =>
        let (bytes, k) := k.begin o
        fillBody vc n b (st.orElse fun _ => some (b.length / 4)) (k.setRest vc bytes)

/-- CRC-32 of a flit (R378). -/
def flitCrc (l : List Byte) : Nat := Nat.xor (crcRef 32 0xEDB88320 0xFFFFFFFF l) 0xFFFFFFFF

/-- A flit from its header and body (R378): a body is filled up with zeros. -/
def flitOf (hdr : Nat) (body : List Byte) : List Byte :=
  let l := bytesOf 8 hdr ++ body ++ bytesOf (244 - body.length) 0
  l ++ bytesOf 4 (flitCrc l)

/-- Credits of a VC to return (R380): those of both halves of the unordered one. -/
def Link.owing (k : Link) (v : Nat) : Nat := vget 0 k.owed v + if v = 1 then vget 0 k.owed 4 else 0

/-- The VC whose credits the next flit returns (R380), and how many. -/
def Link.returns (k : Link) : Nat × Nat :=
  match (List.range 4).find? fun v => decide (k.owing v ≠ 0) with
  | some v => (v, min (k.owing v) 4095)
  | none => (0, 0)

/-- Credits that a flit has returned are owed no more: of the unordered VC those of READs first (log entry 19). -/
def Link.repaid (v n : Nat) (k : Link) : Link :=
  let m := min n (vget 0 k.owed v)
  let k := { k with owed := vset k.owed v (vget 0 k.owed v - m) }
  if v = 1 then { k with owed := vset k.owed 4 (vget 0 k.owed 4 - (n - m)) } else k

/-- The fields every flit carries (R378, R381): acknowledgement, NAK, and credits unless the link is in QUAR. -/
def Link.commonHdr (k : Link) : Nat :=
  let r := if k.state = .quar then (0, 0) else k.returns
  (k.rxSeq - 1).toNat * 2 ^ 14 + flag k.nakOwed 26 + r.1 * 2 ^ 27 + r.2 * 2 ^ 29

/-- The link after a new flit has left. -/
def Link.sent (k : Link) (flit : List Byte) : Link :=
  let r := if k.state = .quar then (0, 0) else k.returns
  { k with txDone := k.txDone ++ [flit], nakOwed := false, ackOwed := 0 }.repaid r.1 r.2

/-- An idle flit (R381). -/
def Link.idleFlit (k : Link) : Link := k.sent (flitOf k.commonHdr [])

/-- Traffic waits for credits (R398). -/
def Link.starved (k : Link) : Bool :=
  (firstOfClass [] k.egress).any fun o => decide (vget 0 k.cred o.cls < o.cost)

/-- One flit slot of a link in AUTH, ACTIVE or QUAR (R381, R383). -/
def Link.slot (now : W64) (k : Link) : Link :=
  let k :=
    if k.state = .quar then k.idleFlit
    else
      match k.resend with
      | f :: t => { k with resend := t, txDone := k.txDone ++ [f.2] }
      | [] =>
        if 512 ≤ k.replay.length then k.idleFlit
        else
          match k.pickVc with
          | none => k.idleFlit
          | some vc =>
            let hdr := k.commonHdr
            let seq := k.txSeq
            let (body, st, k') := fillBody vc 130 [] none k
            let flit := flitOf (1 + seq.toNat * 4 + hdr + vc * 2 ^ 41 + st.getD 63 * 2 ^ 43) body
            { k'.sent flit with txSeq := seq + 1, replay := k'.replay ++ [(seq, flit)] }
  { k with credWait := if k.starved then (match k.credWait with
                                          | some t => some t
                                          | none => some now) else none }

/-- A key that has served all packets but one is renewed (R392). -/
def State.autoRekey (n : Fin 16) (s : State) : State :=
  let k := s.links[n]
  if k.keySpent && !k.egress.any fun o => decide ((Header.ofBits o.hdr).ptype = 8) then s.linkPacket n 8 [] else s

/-- The link sends one flit, and what waits for it enters its egress queue (R381, R382). -/
def State.transmit (n : Fin 16) (s : State) : State :=
  let s := (s.modLink n (Link.slot s.now)).autoRekey n
  s.enterLink n s.links[n].waits.length

/-- R381 FLIT_TRANSMIT. -/
def execFlitTransmit (n : Fin 16) (s : State) : Out :=
  let st := s.links[n].state
  .next (if st = .auth ∨ st = .active ∨ st = .quar then s.transmit n else s)

/-- R383 ACK_INTERVAL: the first data flit not acknowledged is 100 ns old; a flit that carries the acknowledgement leaves. -/
def execAckInterval (n : Fin 16) (s : State) : Out :=
  let k := s.links[n]
  .next (if (k.state = .auth ∨ k.state = .active) ∧ 0 < k.ackOwed ∧ 100 ≤ (s.now - k.ackSince).toNat then s.transmit n else s)

/-- R399 HEARTBEAT_SEND: every 10 µs. -/
def execHeartbeatSend (n : Fin 16) (s : State) : Out :=
  let k := s.links[n]
  .next (if k.state = .active ∧ 10000 ≤ (s.now - k.lastBeat).toNat then
      (s.modLink n fun k => { k with lastBeat := s.now }).linkPacket n 9 []
    else s)

/-- R399 FLIT_SILENCE: no flit for 1 ms. -/
def execFlitSilence (n : Fin 16) (s : State) : Out :=
  .next (if s.links[n].state = .active ∧ 1000000 ≤ (s.now - s.links[n].lastRx).toNat then s.linkDown n .silence else s)

/-- R398 CREDIT_STARVATION: no credit for 10 ms while traffic waits. -/
def execCreditStarvation (n : Fin 16) (s : State) : Out :=
  .next (match s.links[n].state, s.links[n].credWait with
    | .active, some t =>
      if 10000000 ≤ (s.now - t).toNat then (s.logHub (linkHub n) 0x6C07 0).linkDown n .credits else s
    | _, _ => s)

/-- LINK_TMO has passed since a request of this block was made (R386, R402). -/
def State.overdue (s : State) (n : Fin 16) (since : W64) : Bool :=
  decide (max (s.hub (linkHub n)).tmo.toNat 1 * 1000 ≤ (s.now - since).toNat)

/-- R386 REMOTE_REQUEST_TIMEOUT: LINK_TMO has passed without the response to a request, or the oldest of those that still wait
at their source for the link (R398). -/
def execRemoteRequestTimeout (n : Fin 16) (tag : Option (BitVec 16)) (s : State) : Out :=
  let log := fun s : State => s.logHub (linkHub n) 0x9C01 0
  .next (match tag with
    | some tag => match s.links[n].outst.find? fun o => decide (o.tag = tag) with
      | none => s
      | some o =>
        if s.overdue n o.since then
          (log (s.modLink n fun k => { k with outst := k.outst.filter fun x => decide (x.tag ≠ tag), late := k.late ++ [tag] })).complete
            o.who o.read 0x9C01 []
        else s
    | none => match s.links[n].waits.find? fun w => w.req.isSome with
      | none => s
      | some w => match w.req with
        | none => s
        | some (who, read, _) =>
          if s.overdue n w.since then (log (s.modLink n fun k => { k with waits := k.waits.erase w })).complete who read 0x9C01 [] else s)

/-- The keys of the two directions (R389, R391). -/
def Link.keys (k : Link) : BitVec 256 × BitVec 256 :=
  let z := bytesOf 48 (Config.shared k.eph (BitVec.ofNat 768 (hfield k.helloRx 0 96))).toNat
  let ctx := hashBytes (transcript k.helloTx k.helloRx)
  let l2h := key256 z (ascii [0x44, 0x54, 0x58, 0x2D, 0x4C, 0x32, 0x48]) ctx
  let h2l := key256 z (ascii [0x44, 0x54, 0x58, 0x2D, 0x48, 0x32, 0x4C]) ctx
  if bigEndian ((k.helloTx.drop 0xA0).take 96) < bigEndian ((k.helloRx.drop 0xA0).take 96) then (l2h, h2l) else (h2l, l2h)

/-- Authentication has succeeded (R375, R403). -/
def State.linkActive (n : Fin 16) (s : State) : State :=
  let s := s.modLink n fun k =>
    let r := k.keys
    { k with state := .active, txKey := r.1, rxKey := r.2, txCtr := 0, rxCtr := 0, lastRx := s.now, lastBeat := s.now }
  s.logHub (linkHub n) 0x6C10 0

/-- The partner's HELLO (R389, R390). -/
def State.helloIn (n : Fin 16) (d : List Byte) (s : State) : State :=
  let k := s.links[n]
  let b := s.hub (linkHub n)
  let c := (d.drop 128).take 256
  let key : BitVec 768 := BitVec.ofNat 768 (hfield d 384 96)
  if k.state ≠ .auth ∨ k.helloRx ≠ [] then s
  else if d.length = 480 ∧ certForm b.dahHash key s.minEp.toNat c = true ∧ (k.expect = 0xFF ∨ hfield c 6 1 = k.expect.toNat) then
    (s.modLink n fun k => { k with helloRx := d, seen := BitVec.ofNat 8 (hfield c 6 1) }).sendFinish n
  else s.linkQuar n 0x8C01

/-- The partner's FINISH (R389, R390). -/
def State.finishIn (n : Fin 16) (d : List Byte) (s : State) : State :=
  let k := s.links[n]
  if k.state ≠ .auth then s
  else if d.length = 96 ∧ k.helloTx ≠ [] ∧ k.helloRx ≠ [] ∧
      Config.verify (BitVec.ofNat 768 (hfield k.helloRx 0xA0 96)) (hashBytes (transcript k.helloTx k.helloRx))
        (BitVec.ofNat 768 (ofBytes d)) = true then
    (s.modLink n fun k => { k with finOk := true }).linkActive n
  else s.linkQuar n 0x8C01

/-- A response reaches whoever waits for it, with the bytes asked for (R386, R400). -/
def State.responseIn (n : Fin 16) (h : Header) (data : List Byte) (s : State) : State :=
  let tag := BitVec.ofNat 16 h.tag
  let read := decide (h.ptype = 4)
  match (List.finRange 16).find? fun m => s.links[m].outst.any fun o => decide (o.tag = tag) && o.read == read with
  | some m =>
    match s.links[m].outst.find? fun o => decide (o.tag = tag) with
    | some o =>
      (s.modLink m fun k => { k with outst := k.outst.filter fun x => decide (x.tag ≠ tag) }).complete o.who read
        (BitVec.ofNat 16 h.status) (data.take o.len)
    | none => s
  | none =>
    if s.links.any fun k => k.late.contains tag then
      { s with links := s.links.map fun (k : Link) => { k with late := k.late.erase tag } }
    else s.linkQuar n 0x6C05

/-- A packet for another device is forwarded (R394, R395): it fills its buffer until it enters the next link's queue (R380). -/
def State.forward (n : Fin 16) (h : Header) (data : List Byte) (s : State) : State :=
  if h.hops = 0 then (if h.ptype = 4 ∨ h.ptype = 5 then s else s.refuseIn n h 0x6C04)
  else
    let c := creditClass h.ptype
    let cost := packCost h.ptype h.len4
    let w : Waiting := { hdr := { h with hops := h.hops - 1 }.bits, data := data, src := .link n, req := none, back := some (n, c, cost),
                         since := s.now }
    let s := s.modLink n fun k => { k with owed := vset k.owed c (vget 0 k.owed c - cost), held := vset k.held c (vget 0 k.held c + cost) }
    (s.launch w).getD (s.stranded w)

/-- What a REDCOPY packet asks for (R385; REDOP 0b11 stands for XORACC, log entry 17). -/
def packKind (h : Header) : ReqKind :=
  if h.ptype = 3 then .read
  else if h.ptype = 1 then .write
  else if h.redop = 3 then .xoracc
  else .redcopy (BitVec.ofNat 2 h.redop) (BitVec.ofNat 4 h.fmt)

/-- A write that a link brings to the descriptor store of a partition is rejected there (R177, cause 0x3, behind 0x1 and 0x2). -/
def State.linkEntry (h : Header) (s : State) : State :=
  match place (h.addr % 2 ^ 48) with
  | .part p off =>
    if 0x800000 ≤ off ∧ h.ptype ≠ 3 ∧ s.fused p = false ∧ (s.part p).isolated = false then
      let hd : BitVec 17 := BitVec.ofNat 17 ((off - 0x800000) / 64)
      s.descReject p hd (if hd = 0 then 1 else if off % 64 ≠ 0 ∨ h.len4 ≠ 16 ∨ h.ptype ≠ 1 then 2 else 3)
    else s
  | _ => s

/-- A request for this device (R387, R397): to memory it joins the remote class of the port that serves it; a
read of a semaphore word is answered at once, a write of one is held at the hub behind the earlier ordered
writes of the link (R258); every other address is refused. -/
def State.requestIn (n : Fin 16) (h : Header) (data : List Byte) (s : State) : State :=
  let tag := BitVec.ofNat 16 h.tag
  let src := BitVec.ofNat 8 h.src
  let who : Requester := .link n tag src
  let a := h.addr % 2 ^ 48
  let k := s.links[n]
  let ask : MemReq :=
    { who := who, src := .link n, kind := packKind h, addr := a, len := 4 * h.len4, data := if h.ptype = 3 then [] else data, got := [],
      arrive := if h.ptype = 3 then none else h.arr, last := h.lir, tail := h.lir, consume := false }
  let s := if h.ptype = 3 then s else s.modLink n fun k => { k with inReqs := k.inReqs ++ [(tag, src)] }
  let refuse := fun s : State => ((if h.ptype = 3 then s else s.ordered n tag src).linkEntry h).refuseIn n h 0x8C05
  if k.bound = false then refuse s
  else
    match place a with
    | .hbm _ _ => s.memAsk ask
    | .spad _ _ _ => s.memAsk ask
    | _ =>
      if (h.ptype = 1 ∨ h.ptype = 3) ∧ s.regStatus (.link n) a (decide (h.ptype = 1)) = 0 then
        s.modHub (linkHub n) fun b =>
          { b with aliases := b.aliases ++ [{ src := .link n, addr := a, len := if h.ptype = 3 then 4 * h.len4 else 0, data := wordsOf data,
                                              who := who, waits := if h.ptype = 3 then [] else k.inReqs }] }
      else refuse s

/-- A packet has arrived whole (R385, R391, R392, R400), with the key and the counter of its beginning. -/
def State.packetIn (n : Fin 16) (bytes : List Byte) (key : BitVec 256) (ctr : W64) (s : State) : State :=
  let hb : BitVec 192 := BitVec.ofNat 192 (hfield bytes 0 24)
  let h := Header.ofBits hb
  let cost := packCost h.ptype h.len4
  let c := creditClass h.ptype
  let k := s.links[n]
  if nth 0 [4096, 1024, 256, 256, 1024] c < vget 0 k.owed c + vget 0 k.held c + cost then s.linkQuar n 0x6C05
  else
    let s := s.modLink n fun k => { k with owed := vset k.owed c (vget 0 k.owed c + cost) }
    let n4 := if h.ptype = 3 then 0 else 4 * h.len4
    let ct := (bytes.drop 24).take n4
    if h.ptype = 6 then s.helloIn n ct
    else if h.ptype = 7 then s.finishIn n ct
    else
      let hdr := bytes.take 24
      let iv := packIv ctr
      if k.state ≠ .active ∨ (Config.tag key iv hdr ct).toNat ≠ hfield bytes (24 + n4) 16 then s.linkQuar n 0x8C02
      else if h.ptype = 8 then (if h.len4 = 0 then s else s.linkQuar n 0x6C05)
      else if 2 ^ 32 ≤ ctr.toNat then s.linkQuar n 0x6C05
      else if h.ptype = 9 then s
      else
        let data := gcm key iv ct
        if h.dst ≠ s.devNum.toNat then s.forward n h data
        else if h.ptype = 4 ∨ h.ptype = 5 then s.responseIn n h data
        else s.requestIn n h data

/-- The words of a body (R378), those of one VC: packets are taken from them as they come whole. After the
last packet of a flit its body holds zeros (log entry 18). -/
def State.bodyIn (n : Fin 16) (vc : Nat) : List (List Byte) → State → State
  | [], s => s
  | w :: t, s =>
    let k := s.links[n]
    let cur := vget [] k.rxBody vc
    let pt := (hfield w 0 1) % 16
    if k.state ≠ .auth ∧ k.state ≠ .active then s
    else if cur = [] ∧ (w :: t).all (fun x => ofBytes x == 0) then s
    else if cur = [] ∧ (pt = 0 ∨ 9 < pt ∨ packVc pt ≠ vc) then s.linkQuar n 0x6C05
    else
      let s := if cur = [] then
          s.modLink n fun k =>
            let k := { k with rxAt := vset k.rxAt vc (k.rxKey, k.rxCtr) }
            if pt = 6 ∨ pt = 7 then k
            else if pt = 8 then { k with rxKey := nextKey k.rxKey k.rxCtr, rxCtr := 0 }
            else { k with rxCtr := k.rxCtr + 1 }
        else s
      let cur := cur ++ w
      let whole := decide (8 ≤ cur.length) && decide (cur.length = packBytes (hfield cur 0 1 % 16) (hfield cur 5 1))
      let s := s.modLink n fun k => { k with rxBody := vset k.rxBody vc (if whole then [] else cur) }
      let at' := vget (0, 0) s.links[n].rxAt vc
      State.bodyIn n vc t (if whole then s.packetIn n cur at'.1 at'.2 else s)

/-- Cut a byte string into words. -/
def words4 (l : List Byte) : List (List Byte) := (List.range (l.length / 4)).map fun i => (l.drop (4 * i)).take 4

/-- A flit is discarded (R383): one NAK for each episode. -/
def Link.badFlit (k : Link) : Link :=
  { k with badCnt := satAdd k.badCnt 1, nakOwed := k.nakOwed || !k.nakOpen, nakOpen := true }

/-- Acknowledgement: what the partner has received in order leaves the replay buffer (R383). -/
def Link.acked (ack : BitVec 12) (k : Link) : Link :=
  match k.replay.findIdx? fun e => decide (e.1 = ack) with
  | some i =>
    let gone := (k.replay.take (i + 1)).map Prod.fst
    { k with replay := k.replay.drop (i + 1), resend := k.resend.filter fun e => !gone.contains e.1 }
  | none => k

/-- A NAK (R383, R384): everything not acknowledged is sent again. -/
def Link.naked (ack : BitVec 12) (k : Link) : Link :=
  { k with fRetry := true, retry := satAdd k.retry 1, resend := k.replay,
           nakRun := if k.nakRun ≠ 0 ∧ k.nakSeq = ack then k.nakRun + 1 else 1, nakSeq := ack }

/-- Returned credits (R380); of the unordered VC they fill the READ half first (log entry 19). -/
def Link.credited (vc cnt : Nat) (k : Link) : Link :=
  if cnt = 0 then k
  else
    let k := { k with credWait := none }
    if vc = 1 then
      let room := min cnt (1024 - vget 0 k.cred 1)
      { k with cred := vset (vset k.cred 1 (vget 0 k.cred 1 + room)) 4 (vget 0 k.cred 4 + (cnt - room)) }
    else { k with cred := vset k.cred vc (vget 0 k.cred vc + cnt) }

/-- The acknowledgement, NAK and credits that a flit brings (R378, R380, R383). -/
def Link.heard (h : Nat) (k : Link) : Link :=
  let ack := BitVec.ofNat 12 (fieldN h 14 12)
  let k := (k.acked ack).credited (fieldN h 27 2) (fieldN h 29 12)
  if fieldN h 26 1 = 1 then k.naked ack else k

/-- A data flit of the expected SEQ joins those to acknowledge (R383). -/
def Link.inOrder (now : W64) (k : Link) : Link :=
  { k with rxSeq := k.rxSeq + 1, nakOpen := false, ackOwed := k.ackOwed + 1, ackSince := if k.ackOwed = 0 then now else k.ackSince }

/-- A flit with a good CRC (R378, R383, R400): a data flit whose SEQ is not the next expected is discarded with all it carries.
The 64th data flit since the last acknowledgement has one sent. -/
def State.flitIn (n : Fin 16) (flit : List Byte) (s : State) : State :=
  let h := hfield flit 0 8
  let ft := fieldN h 0 2
  let start := fieldN h 43 6
  if 2 ≤ ft ∨ start = 61 ∨ start = 62 ∨ fieldN h 49 15 ≠ 0 then s.linkQuar n 0x6C05
  else if ft = 1 ∧ fieldN h 2 12 ≠ s.links[n].rxSeq.toNat then s.modLink n Link.badFlit
  else
    let s := s.modLink n (Link.heard h)
    if fieldN h 26 1 = 1 ∧ 8 ≤ s.links[n].nakRun then (s.logHub (linkHub n) 0x6C02 0).linkDown n .retry
    else if ft = 0 then s
    else
      let s := (s.modLink n (Link.inOrder s.now)).bodyIn n (fieldN h 41 2) (words4 ((flit.drop 8).take 244))
      if 64 ≤ s.links[n].ackOwed then s.transmit n else s

/-- R383 FLIT_RECEIVE: a flit arrives at a link in AUTH or ACTIVE. -/
def execFlitReceive (n : Fin 16) (fecOk : Bool) (flit : List Byte) (s : State) : Out :=
  let st := s.links[n].state
  .next (if (st = .auth ∨ st = .active) ∧ flit.length = 256 then
      let s := s.modLink n fun k => { k with lastRx := s.now }
      if fecOk && decide (flitCrc (flit.take 252) = hfield flit 252 4) then s.flitIn n flit else s.modLink n Link.badFlit
    else s)

end Sys2Proof.Machine
end

