-- ==== Sys2Proof/Machine/LoadStore.lean ====
section
/-! DEFINITION. The load and store engines (R40, R76, R95, R104, R212 to R214, R502): STAGE, SLOT, CSR,
GRID, WSLOT, WDRAIN, WSETS. -/

namespace Sys2Proof.Machine

/-- Set a stage row of a core. -/
def Core.setStageRow (c : Core) (st row : Nat) (v : Vector (BitVec 16) 128) : Core :=
  let old := vget (Vector.replicate 128 (Vector.replicate 128 0)) c.stages st
  { c with stages := vset c.stages st (vset old (row % 128) v) }

/-- Stage row u of the f that a half-row of stored codes spreads into (R76). -/
def spreadRow (f sw u : Nat) (half : List Byte) : Vector (BitVec 16) 128 :=
  Vector.ofFn fun q : Fin 128 =>
    let pk := ofBytes ((half.drop (2 * q.val)).take 2)
    let k := 16 / (f * sw)
    BitVec.ofNat 16 (((List.range k).map fun t => fieldN pk (sw * (k * u + t)) sw * 2 ^ (f * sw * t)).sum)

/-- What an instruction that a fault ends leaves in its destinations: they are indeterminate (R444 step 1). -/
def State.lostIf (p : Fin 12) (l : Fin 32) (lose : (Nat → W32) → Core → Core) (s s' : State) : State :=
  if (s.part p).abort.isNone && (s'.part p).abort.isSome then (s'.modCore p l (lose s'.freeLane)).drawn else s'

/-- The stage rows of a STAGE, indeterminate. -/
def loseStage (w : Slot) (k : EngCtx) (f : Nat → W32) (c : Core) : Core :=
  (List.range (k.rl (fld w 16 2))).foldl (fun c i =>
    c.setStageRow (fld w 7 1) (fld (k.ra (fld w 12 4)) 0 7 + i) (Vector.ofFn fun j => (f (128 * i + j.val)).setWidth 16)) c

/-- The slots of a SLOT, indeterminate. -/
def loseSlots (w : Slot) (k : EngCtx) (f : Nat → W32) (c : Core) : Core :=
  (List.range (k.rl (fld w 17 2))).foldl (fun c i =>
    { c with ocache := vset c.ocache ((fld w 7 6 + i) % 64) (Vector.ofFn fun j => f (128 * i + j.val)) }) c

/-- The bytes that stores were to write and the valid bits of their rows, indeterminate. -/
def loseRows (ws : List (Nat × Nat)) (f : Nat → W32) (c : Core) : Core :=
  ws.zipIdx.foldl (fun c e =>
    if spadSize ≤ e.1.1 then c
    else ({ c with spad := memWrite c.spad e.1.1 ((List.range e.1.2).map fun j => (f (1024 * e.2 + j)).setWidth 8) } : Core).setRow
      (e.1.1 / 512) ((f (1024 * e.2 + 512)).getLsbD 0)) c

/-- The reads of a STAGE, left to right (R76, R213): `left` stage rows from row `row`, the source at `a`. -/
def State.stageRows (p : Fin 12) (l : Fin 32) (st f sw : Nat) (consume : Bool) : Nat → Nat → Nat → W32 → State → State
  | 0, _, _, _, s => s
  | fuel + 1, left, row, a, s =>
    if left = 0 then s
    else
      let u := if f = 1 then 512 else 256
      let n := if f = 1 then 2 else f
      match (if spadSize ≤ a.toNat then s.engRead p l a.toNat 0 false
             else s.engRead p l (a.toNat / u * u) u consume) with
      | (none, s) => s
      | (some d, s) =>
        let s := s.modCore p l fun c =>
          (List.range (min n left)).foldl (fun c i => c.setStageRow st (row + i)
            (if f = 1 then spreadRow 1 16 0 (d.drop (256 * i)) else spreadRow f sw i d)) c
        State.stageRows p l st f sw consume fuel (left - min n left) (row + n) (a + BitVec.ofNat 32 u) s

/-- STAGE at issue: a count that is odd or above 128 faults (R213). -/
def State.stageRun (p : Fin 12) (l : Fin 32) (x : Duet) (w : Slot) (s : State) : State :=
  let k := (s.core p l).ctx .load x
  let count := k.rl (fld w 16 2)
  if count % 2 = 1 ∨ 128 < count then s.abortCore p l 0x4502 0
  else s.stageRows p l (fld w 7 1) (2 ^ fld w 18 2) (fmtBits (BitVec.ofNat 4 (fld w 20 4))) (bit w 24) 128 count
      (fld (k.ra (fld w 12 4)) 0 7) (k.ra (fld w 8 4))

/-- A line from a row's bytes. -/
def lineOf (d : List Byte) : Line := Vector.ofFn fun q : Fin 128 => BitVec.ofNat 32 (ofBytes ((d.drop (4 * q.val)).take 4))

/-- The bytes of a line. -/
def lineBytes (v : Line) : List Byte := bytesOfWords v.toList

/-- The rows of a SLOT in order (R212): the working address advances by the step stride (R207). -/
def State.slotRows (p : Fin 12) (l : Fin 32) (consume : Bool) (stride : W32) : Nat → Nat → W32 → State → State
  | 0, _, _, s => s
  | left + 1, v, a, s =>
    match (if spadSize ≤ a.toNat then s.engRead p l a.toNat 0 false
           else s.engRead p l (a.toNat / 512 * 512) 512 consume) with
    | (none, s) => s
    | (some d, s) =>
      State.slotRows p l consume stride left (v + 1) (a + stride)
        (s.modCore p l fun c => { c with ocache := vset c.ocache (v % 64) (lineOf d) })

/-- Write a channel-scale register, validated (R94). -/
def State.csrPut (p : Fin 12) (l : Fin 32) (n : Nat) (v : W32) (s : State) : State :=
  if csrRejects v then s.wrRej p l else s.modCore p l fun c => { c with csr := vset c.csr n v }

/-- Write a grid-table entry, validated (R39). -/
def State.entPut (p : Fin 12) (l : Fin 32) (n : Nat) (v : W32) (s : State) : State :=
  if Grid.rejects (Grid.stored v) then s.entRej p l
  else s.modCore p l fun c => { c with gridEnt := vset c.gridEnt n (Grid.stored v) }

/-- The row that holds an address, for the loads of one row. -/
def State.rowAt (p : Fin 12) (l : Fin 32) (a : Nat) (n : Nat) (consume : Bool) (s : State) : Option (List Byte) × State :=
  if spadSize ≤ a then s.engRead p l a 0 false else s.engRead p l (a / 512 * 512) n consume

/-- A channel-counter set as its 32 bytes (R104). -/
def setBytes (e : CSet) : List Byte :=
  bytesOf 4 e.clip.toNat ++ bytesOf 4 e.van.toNat ++ bytesOf 4 e.nan.toNat ++ bytesOf 4 e.tot.toNat
    ++ bytesOf 4 e.max.toNat ++ bytesOf 4 e.min.toNat ++ bytesOf 8 0

/-- The writes of a WSLOT (R214). -/
def wslotWrites (c : Core) (k : EngCtx) (w : Slot) : List (Nat × List Byte) :=
  let an := fld w 13 4
  let part := fld w 19 2
  (List.range (k.rl (fld w 17 2))).map fun i =>
    let a := (k.ra an + BitVec.ofNat 32 i * k.rs an).toNat
    let d := lineBytes (vget Line.zero c.ocache ((fld w 7 6 + i) % 64))
    if spadSize ≤ a then (a, [])
    else if part = 0 then (a / 512 * 512, d)
    else (a / 256 * 256, (d.drop (if part = 1 then 0 else 256)).take 256)

/-- The writes of a WSETS (R214): rows of 16 sets. -/
def wsetsWrites (c : Core) (k : EngCtx) (w : Slot) : List (Nat × List Byte) :=
  let an := fld w 17 4
  (List.range (k.rl (fld w 21 2))).map fun i =>
    let a := (k.ra an + BitVec.ofNat 32 i * k.rs an).toNat
    (if spadSize ≤ a then a else a / 512 * 512,
     (List.range 16).flatMap fun j => setBytes (vget CSet.reset c.sets ((fld w 7 10 + 16 * i + j) % 1024)))

/-- Record size of a WDRAIN format (R214). -/
def recordSize (f : BitVec 4) : Nat := 16 * fmtBits f

/-- Values a drained line gives to a record (R214): 15/16 of a row line at width 120. -/
def recordValues (width : Nat) (sl : StoreLine) : List W32 :=
  if sl.row && decide (width = 120) then sl.line.toList.take 120 else sl.line.toList

/-- Convert a drained line (R52 to R55): the record's bytes, and what the conversions did. -/
def recordBytes (ieee : Bool) (f : BitVec 4) (vs : List W32) : List Byte × ConvFx :=
  let r := vs.map fun v => convert ieee 8 f v.toNat
  (packElems (fmtBits f) (r.map Prod.fst), r.foldl (fun a x => a.and x.2) .none)

/-- Where record i of a WDRAIN goes: the address as computed. -/
def wdrainAddr (k : EngCtx) (w : Slot) (i : Nat) : Nat :=
  (k.ra (fld w 13 4) + BitVec.ofNat 32 i * k.rs (fld w 13 4)).toNat

/-- The lines of a WDRAIN in order (R214, R237): `i` written already; it ends when a line is absent,
and the answer says whether all `count` lines have been written. -/
def State.wdrainLines (p : Fin 12) (l : Fin 32) (x : Duet) (w : Slot) (count : Nat) : Nat → Nat → State → Bool × State
  | 0, _, s => (true, s)
  | fuel + 1, i, s =>
    if count ≤ i then (true, s)
    else
      let c := s.core p l
      match c.storeQ with
      | [] => (false, s.modCore p l fun c => c.modCtx .store x fun k => { k with prog := i })
      | sl :: t =>
        let f := BitVec.ofNat 4 (fld w 19 4)
        let rs := recordSize f
        let k := c.ctx .store x
        let a := wdrainAddr k w i
        let a' := if spadSize ≤ a then a else a / rs * rs
        let r := recordBytes k.ieee f (recordValues (s.part p).width sl)
        let s := (s.modCore p l fun c => Core.refill 16 { c with storeQ := t }).convLs p l r.2
        let later := (List.range (count - i - 1)).any fun j => wdrainAddr k w (i + 1 + j) / 512 == a / 512
        match s.engWrite p l a' r.1 (!later) with
        | (false, s) => (true, s)
        | (true, s) => State.wdrainLines p l x w count fuel (i + 1) s

/-- The writes of a WSLOT or a WSETS; a fault leaves what they were to write indeterminate. -/
def State.storeLines (p : Fin 12) (l : Fin 32) (ws : List (Nat × List Byte)) (s : State) : State :=
  s.lostIf p l (loseRows (ws.map fun e => (e.1, e.2.length))) (s.engWrites p l ws)

/-- R76 STAGE. -/
def execStage (p : Fin 12) (l : Fin 32) (x : Duet) (found : Found) (s : State) : Out :=
  .next (s.issue p l .load x found 0xF501 (fun w => slotOp w == 0x00) fun en s =>
    .done (s.lostIf p l (loseStage en.word ((s.core p l).ctx .load x)) (s.stageRun p l x en.word)))

/-- R212 SLOT. -/
def execSlot (p : Fin 12) (l : Fin 32) (x : Duet) (found : Found) (s : State) : Out :=
  .next (s.issue p l .load x found 0xF501 (fun w => slotOp w == 0x01) fun en s =>
    let k := (s.core p l).ctx .load x
    let w := en.word
    .done (s.lostIf p l (loseSlots w k)
      (s.slotRows p l (bit w 19) (k.rs (fld w 13 4)) (k.rl (fld w 17 2)) (fld w 7 6) (k.ra (fld w 13 4)))))

/-- R95 CSR: 128 channel-scale registers from one row, each validated. -/
def execCsr (p : Fin 12) (l : Fin 32) (x : Duet) (found : Found) (s : State) : Out :=
  .next (s.issue p l .load x found 0xF501 (fun w => slotOp w == 0x02) fun en s =>
    let a := (((s.core p l).ctx .load x).ra (fld en.word 12 4)).toNat
    .done (match s.rowAt p l a 512 (bit en.word 16) with
      | (none, s) => s
      | (some d, s) => (List.range 128).foldl (fun s j =>
          s.csrPut p l (128 * fld en.word 7 5 + j) (BitVec.ofNat 32 (ofBytes ((d.drop (4 * j)).take 4)))) s))

/-- R40 GRID: all 128 grid-table entries from the low 256 B of one row, each validated. -/
def execGrid (p : Fin 12) (l : Fin 32) (x : Duet) (found : Found) (s : State) : Out :=
  .next (s.issue p l .load x found 0xF501 (fun w => slotOp w == 0x03) fun en s =>
    let a := (((s.core p l).ctx .load x).ra (fld en.word 8 4)).toNat
    .done (match s.rowAt p l a 512 (bit en.word 12) with
      | (none, s) => s
      | (some d, s) => (List.range 128).foldl (fun s j =>
          s.entPut p l j (BitVec.ofNat 32 (ofBytes ((d.drop (2 * j)).take 2)))) s))

/-- R214 WSLOT. -/
def execWslot (p : Fin 12) (l : Fin 32) (x : Duet) (found : Found) (s : State) : Out :=
  .next (s.issue p l .store x found 0xF501 (fun w => slotOp w == 0x00) fun en s =>
    let c := s.core p l
    .done (s.storeLines p l (wslotWrites c (c.ctx .store x) en.word)))

/-- R214 WDRAIN: its conversions take IEEE_OVF as it stands at its issue (R64); when a later line is absent, the store engine freezes until it comes (R237). -/
def execWdrain (p : Fin 12) (l : Fin 32) (x : Duet) (found : Found) (s : State) : Out :=
  .next (s.issue p l .store x found 0xF501 (fun w => slotOp w == 0x01) fun en s =>
    let k := (s.core p l).ctx .store x
    let count := k.rl (fld en.word 17 2)
    let s := if k.prog = 0 then s.modCore p l fun c => c.modCtx .store x fun k => { k with ieee := c.ieeeOvf } else s
    let rs := recordSize (BitVec.ofNat 4 (fld en.word 19 4))
    let lost := s.lostIf p l (loseRows ((List.range count).map fun i =>
      let a := wdrainAddr k en.word i
      (if spadSize ≤ a then a else a / rs * rs, rs)))
    match s.wdrainLines p l x en.word count count k.prog with
    | (true, s) => .done (lost (s.modCore p l fun c => c.modCtx .store x fun k => { k with prog := 0 }))
    | (false, s) => .stay (s.modCore p l fun c => { c with current := vset c.current (engNo .store) x }))

/-- R214 WSETS. -/
def execWsets (p : Fin 12) (l : Fin 32) (x : Duet) (found : Found) (s : State) : Out :=
  .next (s.issue p l .store x found 0xF501 (fun w => slotOp w == 0x02) fun en s =>
    let c := s.core p l
    .done (s.storeLines p l (wsetsWrites c (c.ctx .store x) en.word)))

end Sys2Proof.Machine
end

