-- ==== Sys2Proof/Machine/Approx.lean ====
section
/-! DEFINITION. The bounds of R142 and R48. A result is a free value (log entries 6, 9) as long as it lies
within its bound of the exact result. Quotients and roots carry a sticky bit, so that a comparison with a bound is
exact; the exact result of a transcendental function is computed in fixed point with 256 fraction bits. -/

namespace Sys2Proof.Machine

/-- Fraction bits of the fixed-point numbers. -/
def fxBits : Nat := 256

/-- One, in fixed point. -/
def fxOne : Int := 2 ^ fxBits

/-- Product in fixed point. -/
def fxMul (a b : Int) : Int := a * b / fxOne

/-- A number in fixed point, toward minus infinity. -/
def fxOf : Num → Int
  | .fin neg m e =>
    let k := e + (fxBits : Int)
    let g : Int := if 0 ≤ k then ((m * 2 ^ k.toNat : Nat) : Int) else ((m / 2 ^ (-k).toNat : Nat) : Int)
    if neg then -g else g
  | _ => 0

/-- A fixed-point number as a number, scaled by 2^e. -/
def fxNum (x : Int) (e : Int) : Num := .fin (decide (x < 0)) x.natAbs (e - (fxBits : Int))

/-- A Taylor sum: the next term from the last, `n` terms. -/
def fxSeries (next : Nat → Int → Int) : Nat → Nat → Int → Int → Int
  | 0, _, _, acc => acc
  | n + 1, i, t, acc => fxSeries next n (i + 1) (next i t) (acc + t)

/-- e^r for 0 ≤ r < 1. -/
def fxExp (r : Int) : Int := fxSeries (fun i t => fxMul t r / ((i : Int) + 1)) 64 0 fxOne 0

/-- ln m for 1 ≤ m < 2, as 2·atanh((m − 1)/(m + 1)). -/
def fxLn (m : Int) : Int :=
  let t := (m - fxOne) * fxOne / (m + fxOne)
  let t2 := fxMul t t
  2 * (List.range 84).foldr (fun i acc => fxMul acc t2 + t / (2 * (i : Int) + 1)) 0

/-- ln 2. -/
def fxLn2 : Int := fxLn (2 * fxOne - 1)

/-- 2^a as m·2^k with 1 ≤ m < 2, for a in fixed point. -/
def fxExp2 (a : Int) : Int × Int := (fxExp (fxMul (a % fxOne) fxLn2), a / fxOne)

/-- e^a, likewise. -/
def fxExpE (a : Int) : Int × Int := fxExp2 (a * fxOne / fxLn2)

/-- ln of a positive number. -/
def fxLnOf (m : Nat) (e : Int) : Int :=
  let k : Int := (Nat.log2 m : Int)
  fxLn ((m : Int) * fxOne / 2 ^ k.toNat) + (k + e) * fxLn2

/-- The number m·2^k of an exponential. -/
def expNum (r : Int × Int) : Num := fxNum r.1 r.2

/-- 1/√π, from the value of π to 256 bits. -/
def fxRsqrtPi : Int := 65328690604926057193764014675007098287082143062425007121036959538132401135792

/-- erf of a fixed-point number below 8 in magnitude: (2/√π) e^(−x²) Σ (2x²)^n x/(2n + 1)!!. -/
def fxErf (x : Int) : Int :=
  let x2 := fxMul x x
  let sum := fxSeries (fun i t => fxMul t (2 * x2) / (2 * (i : Int) + 3)) 300 0 x 0
  let ex := fxExpE (-x2)
  let e := if 0 ≤ ex.2 then ex.1 * 2 ^ ex.2.toNat else ex.1 / 2 ^ (-ex.2).toNat
  fxMul (2 * fxRsqrtPi) (fxMul e sum)

/-- The transcendental functions (R142). -/
inductive Tran where
  | exp2
  | exp
  | log2
  | ln
  | rcp
  | rsqrt
  | tanh
  | sigm
  | erf
deriving DecidableEq, Repr

/-- The exact result of a function on a finite operand that is no special case, to a fraction of the bound. -/
def Tran.exact (f : Tran) (v : Num) : Num :=
  match v with
  | .fin neg m e =>
    let x := fxOf v
    let big := decide (200 * fxOne < x.natAbs)
    match f with
    | .exp2 => if big then (if neg then .fin false 1 (-400) else .fin false 1 400) else expNum (fxExp2 x)
    | .exp => if big then (if neg then .fin false 1 (-400) else .fin false 1 400) else expNum (fxExpE x)
    | .log2 => fxNum (fxLnOf m e * fxOne / fxLn2) 0
    | .ln => fxNum (fxLnOf m e) 0
    | .rcp => Num.div (.fin false 1 0) v
    | .rsqrt => Num.sqrt (Num.div (.fin false 1 0) v)
    | .tanh =>
      if decide (40 * fxOne < x.natAbs) then .fin neg 1 0
      else
        let r := fxExpE (2 * x)
        let y := expNum r
        Num.div (Num.add y (.fin true 1 0)) (Num.add y (.fin false 1 0))
    | .sigm =>
      let y := if big then (if neg then .fin false 1 (-400) else .fin false 1 400) else expNum (fxExpE x)
      Num.div y (Num.add y (.fin false 1 0))
    | .erf => if decide (7 * fxOne < x.natAbs) then .fin neg 1 0 else fxNum (fxErf x) 0
  | w => w

/-- Special values of R142, of an FP32 operand. -/
def Tran.special (f : Tran) (v : Num) : Option Num :=
  match f, v with
  | _, .nan => some .nan
  | .exp2, .inf n => some (if n then .fin false 0 0 else .inf false)
  | .exp, .inf n => some (if n then .fin false 0 0 else .inf false)
  | .exp2, .fin n m e => if Num.lt (.fin n m e) (.fin false 128 0) then none else some (.inf false)
  | .exp, .fin n m e => if Num.lt (.fin n m e) (Num.div (.fin false 8873 0) (.fin false 100 0)) then none else some (.inf false)
  | .log2, .inf n => some (if n then .nan else .inf false)
  | .ln, .inf n => some (if n then .nan else .inf false)
  | .log2, .fin n m e =>
    if m = 0 then some (.inf true) else if n then some .nan
    else if Num.eq (.fin n m e) (.fin false 1 0) then some (.fin false 0 0) else none
  | .ln, .fin n m e =>
    if m = 0 then some (.inf true) else if n then some .nan
    else if Num.eq (.fin n m e) (.fin false 1 0) then some (.fin false 0 0) else none
  | .rcp, .inf n => some (.fin n 0 0)
  | .rcp, .fin n m _ => if m = 0 then some (.inf n) else none
  | .rsqrt, .inf n => some (if n then .nan else .fin false 0 0)
  | .rsqrt, .fin n m _ => if m = 0 then some (.inf n) else if n then some .nan else none
  | .tanh, .inf n => some (.fin n 1 0)
  | .erf, .inf n => some (.fin n 1 0)
  | .sigm, .inf n => some (if n then .fin false 0 0 else .fin false 1 0)
  | _, _ => none

/-- Ulps of the bound (R142). -/
def Tran.ulps : Tran → Nat
  | .exp2 => 2
  | .exp => 3
  | .log2 => 2
  | .ln => 2
  | .rcp => 1
  | .rsqrt => 2
  | .tanh => 4
  | .sigm => 4
  | .erf => 4

/-- The absolute bound that R142 allows in its place, as a power of two, where the operand has one. -/
def Tran.absBound (f : Tran) (v : Num) : Option Int :=
  match f with
  | .log2 | .ln =>
    if !Num.lt v (.fin false 1 (-1)) && !Num.lt (.fin false 2 0) v then some (-22) else none
  | .tanh | .erf => if Num.lt v.abs (.fin false 1 (-4)) then some (-24) else none
  | _ => none

/-- One ulp of FP32 at a number (R142). -/
def ulp32 (v : Num) : Num :=
  match v with
  | .fin _ m e => if m = 0 then .fin false 1 (-149) else .fin false 1 (max (-149) ((Nat.log2 m : Int) + e - 23))
  | w => w

/-- The number an FP32 image stands for, infinity counting as the next value after the largest. -/
def num32Wide (x : W32) : Num :=
  match num32 x with
  | .inf n => .fin n 1 128
  | v => v

/-- A free FP32 value within `n` ulps of the exact result (R142), or within 2^abs of it; a draw outside
the bound gives the rounded exact result. -/
def within (n : Nat) (abs : Option Int) (exact : Num) (free : W32) : W32 :=
  let d := (Num.add (num32Wide free) exact.neg).abs
  let lim := Num.mul (ulp32 exact) (.fin false n 0)
  let ok := !(num32 free).isNan && (!Num.lt lim d || (match abs with
    | some k => !Num.lt (.fin false 1 k) d
    | none => false))
  if ok then free else f32 exact

/-- A transcendental result (R142): the special value, or a free value within the bound. -/
def Tran.result (f : Tran) (v : Num) (free : W32) : W32 :=
  match f.special v with
  | some r => f32 r
  | none => within f.ulps (f.absBound v) (f.exact v) free

/-- VDIV of two FP32 values (R142): NaN, infinite and zero quotients are exact. -/
def divResult (a b : Num) (free : W32) : W32 :=
  match Num.div a b with
  | .fin n m e => if m = 0 then f32 (.fin n m e) else within 1 none (.fin n m e) free
  | r => f32 r

/-- A float sum of K values (R48): a free value within γ_K·S + K·η of the exact sum; a sum that meets NaN
or an infinity is the exact one; where an intermediate sum may overflow no bound holds. -/
def sumResult (vs : List Num) (free : W32) : W32 :=
  let x := vs.foldl Num.add (.fin false 0 0)
  let sAbs := (vs.map Num.abs).foldl Num.add (.fin false 0 0)
  let k := vs.length
  if !(vs.all Num.isFin) then f32 x
  else if (num32 (f32 sAbs)).isInf then free
  else
    let d := (Num.add (num32Wide free) x.neg).abs
    let lhs := Num.mul d (.fin false (2 ^ 24 - k) 0)
    let rhs := Num.add (Num.mul sAbs (.fin false k 0)) (.fin false (k * (2 ^ 24 - k)) (-126))
    if (num32 free).isFin && !Num.lt rhs lhs then free else f32 x

end Sys2Proof.Machine
end

