-- ==== Sys2Proof/Machine/Vector.lean ====
section
/-! DEFINITION. What the vector instructions share (05_vector.md, R215): sources, active lanes and the
policy of inactive ones, line and mask destinations, and the lane operations. -/

namespace Sys2Proof.Machine

/-- FMT of a vector slot. -/
def vFmt (w : Slot) : BitVec 4 := BitVec.ofNat 4 (fld w 7 4)
/-- The immediate form: KB = 0b11. -/
def vImm (w : Slot) : Bool := decide (fld w 24 2 = 3)
/-- IMM32. -/
def vImm32 (w : Slot) : W32 := BitVec.ofNat 32 (fld w 32 32)
/-- AUX, which is 0 in the immediate form. -/
def vAux (w : Slot) : Nat := if vImm w then 0 else fld w 52 12
/-- VD. -/
def vDst (w : Slot) : Nat := fld w 11 6
/-- The mask named by VD. -/
def vMaskD (w : Slot) : Nat := fld w 11 3
/-- The mask named by VA. -/
def vMaskA (w : Slot) : Nat := fld w 17 3
/-- The mask named by VB, which is 0 in the immediate form. -/
def vMaskB (w : Slot) : Nat := if vImm w then 0 else fld w 32 3

/-- Lane i of a line. -/
def lane (v : Line) (i : Nat) : W32 := vget 0 v i

/-- The head of the drain queue. -/
def Core.dHead (c : Core) : Line := c.drainQ.head?.getD Line.zero

/-- A slot of the operand cache. -/
def Core.v (c : Core) (n : Nat) : Line := vget Line.zero c.ocache (n % 64)

/-- Source a. -/
def srcA (c : Core) (w : Slot) : Line := if bit w 23 then c.dHead else c.v (fld w 17 6)

/-- Source b: a slot, D, a broadcast lane or the immediate. -/
def srcB (c : Core) (w : Slot) : Line :=
  let kb := fld w 24 2
  if kb = 0 then c.v (fld w 32 6)
  else if kb = 1 then c.dHead
  else if kb = 2 then Vector.replicate 128 (lane (c.v (fld w 32 6)) (fld w 45 7))
  else Vector.replicate 128 (vImm32 w)

/-- Source c. -/
def srcC (c : Core) (w : Slot) : Line :=
  if vImm w then c.v 0 else if bit w 44 then c.dHead else c.v (fld w 38 6)

/-- A mask register. -/
def maskOf (k : VCtx) (n : Nat) : BitVec 128 := vget 0 k.masks n

/-- Lane i is active (R129). -/
def activeAt (k : VCtx) (men : Bool) (m : Nat) (i : Nat) : Bool :=
  decide (i < k.vl.toNat) && (!men || (maskOf k m).getLsbD i)

/-- Lane i is active for an instruction of the layout of R215. -/
def active (k : VCtx) (w : Slot) (i : Nat) : Bool := activeAt k (bit w 29) (fld w 26 3) i

/-- Inactive lanes are written with zero (R129): the named mask has POL = 1. -/
def zeroes (k : VCtx) (w : Slot) : Bool := bit w 29 && k.pol.getLsbD (fld w 26 3)

/-- A lane's result: its bits, its conversions, and whether it raises FINF (R151). -/
structure LaneOut where
  bits : W32
  fx   : ConvFx
  finf : Bool
deriving DecidableEq, Repr

/-- A result that raises nothing. -/
def plain (v : W32) : LaneOut := { bits := v, fx := .none, finf := false }

/-- What a lane operation may read: the core, its vector state, its slot, a, b and c, and the draw. -/
structure VIn where
  core : Core
  k    : VCtx
  w    : Slot
  a    : Line
  b    : Line
  c    : Line
  free : Nat → W32

/-- The inputs of an instruction at issue. -/
def State.vIn (p : Fin 12) (l : Fin 32) (x : Duet) (w : Slot) (s : State) : VIn :=
  let c := s.core p l
  let n := s.free
  { core := c, k := c.vec x, w := w, a := srcA c w, b := srcB c w, c := srcC c w, free := fun i => Config.freeBits n i }

/-- An instruction that names D pops the head line at issue (R133). -/
def State.popD (p : Fin 12) (l : Fin 32) (w : Slot) (s : State) : State :=
  if namesD w = 0 then s
  else s.modCore p l fun c => Core.refill 16 { c with drainQ := c.drainQ.drop 1 }

/-- Account for what the active lanes of an instruction did: conversions (R53), then FINF (R151). -/
def State.laneEffects (p : Fin 12) (l : Fin 32) (outs : List LaneOut) (s : State) : State :=
  let s := s.convVec p l (outs.foldl (fun a o => a.and o.fx) .none)
  if outs.any fun o => o.finf then s.setFinf p l else s

/-- Write a line destination (R129): active lanes take their results, the others follow policy. -/
def State.writeLine (p : Fin 12) (l : Fin 32) (n : Nat) (v : Line) (s : State) : State :=
  s.modCore p l fun c => { c with ocache := vset c.ocache (n % 64) v }

/-- Lanes by results, activity and policy. -/
def mergeLanes (i : VIn) (f : VIn → Nat → LaneOut) (old : Line) : Line :=
  Vector.ofFn fun q : Fin 128 =>
    if active i.k i.w q.val then (f i q.val).bits else if zeroes i.k i.w then 0 else vget 0 old q.val

/-- The results of the active lanes. -/
def activeOuts (i : VIn) (f : VIn → Nat → LaneOut) : List LaneOut :=
  ((List.range 128).filter fun q => active i.k i.w q).map fun q => f i q

/-- An instruction that writes a line, lane by lane; its sources are those of src. -/
def State.vecLine (p : Fin 12) (l : Fin 32) (x : Duet) (f : VIn → Nat → LaneOut) (en : Entry) (s src : State) : Issued :=
  let i := src.vIn p l x en.word
  .done ((((s.writeLine p l (vDst en.word) (mergeLanes i f ((s.core p l).v (vDst en.word)))).laneEffects p l
    (activeOuts i f)).popD p l en.word).drawn)

/-- Bits of a mask destination by activity and policy (R129, R131). -/
def mergeMask (i : VIn) (f : VIn → Nat → Bool) (old : BitVec 128) : BitVec 128 :=
  BitVec.ofNat 128 (((List.range 128).map fun q =>
    if (if active i.k i.w q then f i q else if zeroes i.k i.w then false else old.getLsbD q) then 2 ^ q else 0).sum)

/-- An instruction that writes a mask. -/
def State.vecMask (p : Fin 12) (l : Fin 32) (x : Duet) (f : VIn → Nat → Bool) (en : Entry) (s src : State) : Issued :=
  let i := src.vIn p l x en.word
  let m := vMaskD en.word
  .done (((s.modCore p l fun c => c.modVec x fun k =>
    { k with masks := vset k.masks m (mergeMask i f (maskOf k m)) }).popD p l en.word).drawn)

/-- Issue a vector instruction by its opcode. -/
def State.vecIssue (p : Fin 12) (l : Fin 32) (x : Duet) (found : Found) (op : Nat)
    (f : Entry → State → State → Issued) (s : State) : State :=
  s.issueBy p l .vector x found 0xF301 (fun w => slotOp w == op) f

/-- The result of float arithmetic in FP32 (R136): FINF when finite inputs gave NaN or infinity. -/
def floatOut32 (ins : List Num) (r : Num) : LaneOut :=
  let v := f32 r
  { bits := v, fx := .none, finf := ins.all Num.isFin && !(num32 v).isFin }

/-- The result in a packed 16-bit format (R136): overflow is a conversion (R53). -/
def floatOut16 (ieee : Bool) (f : BitVec 4) (ins : List Num) (r : Num) : Nat × ConvFx × Bool :=
  let o := convNum ieee f r
  (o.1, o.2, ins.all Num.isFin && !r.isFin)

/-- Both halves of a packed lane. -/
def pack2 (lo hi : Nat × ConvFx × Bool) : LaneOut :=
  { bits := BitVec.ofNat 32 (lo.1 + 65536 * hi.1), fx := lo.2.1.and hi.2.1, finf := lo.2.2 || hi.2.2 }

/-- Half h of a packed lane, as a number. -/
def half (f : BitVec 4) (v : W32) (h : Nat) : Num := fmtNum f (fld v (16 * h) 16)

/-- Float arithmetic on one, two or three operands (R135, R136). -/
def floatLane (arity : Nat) (g : Num → Num → Num → Num) (i : VIn) (q : Nat) : LaneOut :=
  let f := vFmt i.w
  let a := lane i.a q
  let b := lane i.b q
  let c := lane i.c q
  if f = 8 then
    floatOut32 ([num32 a, num32 b, num32 c].take arity) (g (num32 a) (num32 b) (num32 c))
  else
    let e := fun h => floatOut16 i.core.ieeeOvf f ([half f a h, half f b h, half f c h].take arity)
      (g (half f a h) (half f b h) (half f c h))
    pack2 (e 0) (e 1)

/-- A function whose FP32 result is free within a bound (R142); packed forms round it once. -/
def boundLane (arity : Nat) (g : Num → Num → W32 → W32) (i : VIn) (q : Nat) : LaneOut :=
  let f := vFmt i.w
  let a := lane i.a q
  let b := lane i.b q
  if f = 8 then
    let r := g (num32 a) (num32 b) (i.free q)
    { bits := r, fx := .none, finf := ([num32 a, num32 b].take arity).all Num.isFin && !(num32 r).isFin }
  else
    let e := fun h =>
      let r := num32 (g (half f a h) (half f b h) (i.free (128 * (h + 1) + q)))
      floatOut16 i.core.ieeeOvf f ([half f a h, half f b h].take arity) r
    pack2 (e 0) (e 1)

/-- An operation on the 32 bits of a lane. -/
def wordLane (g : W32 → W32 → W32) (i : VIn) (q : Nat) : LaneOut := plain (g (lane i.a q) (lane i.b q))

/-- A comparison (R137): relation on floats, relation on integers. In a packed format the two elements
of a lane share one mask bit, and where their relations differ its value is free (log entry 10). -/
def compareLane (rel : Num → Num → Bool) (irel : Int → Int → Bool) (i : VIn) (q : Nat) : Bool :=
  let f := vFmt i.w
  let a := lane i.a q
  let b := lane i.b q
  if f = 9 then irel a.toInt b.toInt
  else if f = 8 then rel (num32 a) (num32 b)
  else
    let r := fun h => rel (half f a h) (half f b h)
    if r 0 = r 1 then r 0 else (i.free q).getLsbD 0

/-- Not a NaN among two, and a relation. -/
def ordered (r : Num → Num → Bool) (a b : Num) : Bool := !a.isNan && !b.isNan && r a b

/-- The active lanes in order. -/
def activeList (k : VCtx) (w : Slot) : List Nat := (List.range 128).filter fun q => active k w q

/-- The combining operations of VSCAN and VRED (R62, R140, R141). -/
inductive Comb where
  | sum
  | max
  | min
  | and
  | or
  | xor
deriving DecidableEq, Repr

/-- The identity (R62), as an image of the element format. -/
def Comb.ident (o : Comb) (f : BitVec 4) : W32 :=
  match o with
  | .sum => 0
  | .max => if f = 8 then 0xFF800000 else 0x80000000
  | .min => if f = 8 then 0x7F800000 else 0x7FFFFFFF
  | .and => 0xFFFFFFFF
  | .or => 0
  | .xor => 0

/-- The greater of two images (R63). -/
def maxWord (f : BitVec 4) (a b : W32) : W32 :=
  if f = 8 then f32 (Num.max (num32 a) (num32 b)) else if a.toInt < b.toInt then b else a

/-- The lesser of two images. -/
def minWord (f : BitVec 4) (a b : W32) : W32 :=
  if f = 8 then f32 (Num.min (num32 a) (num32 b)) else if b.toInt < a.toInt then b else a

/-- Combine the values of active lanes: an integer or bitwise fold, a float sum within R48. -/
def Comb.fold (o : Comb) (f : BitVec 4) (vs : List W32) (free : W32) : W32 :=
  match o with
  | .sum => if f = 8 then (if vs.isEmpty then 0 else sumResult (vs.map num32) free) else vs.foldl (· + ·) 0
  | .max => vs.foldl (maxWord f) (o.ident f)
  | .min => vs.foldl (minWord f) (o.ident f)
  | .and => vs.foldl (· &&& ·) (o.ident f)
  | .or => vs.foldl (· ||| ·) 0
  | .xor => vs.foldl (· ^^^ ·) 0

/-- The first lane of lane q's segment (R140). -/
def segStart (k : VCtx) (w : Slot) (q : Nat) : Nat :=
  if vAux w % 2 = 1 then
    (((List.range (q + 1)).filter fun j => j == 0 || (maskOf k (vAux w / 2 % 8)).getLsbD j).getLast?).getD 0
  else 0

/-- A scan's result at an active lane (R140). -/
def scanLane (o : Comb) (i : VIn) (q : Nat) : LaneOut :=
  let lo := segStart i.k i.w q
  let qs := (activeList i.k i.w).filter fun j => decide (lo ≤ j) && (if bit i.w 30 then decide (j < q) else decide (j ≤ q))
  plain (o.fold (vFmt i.w) (qs.map fun j => lane i.a j) (i.free q))

/-- A reduction's lanes (R141): the result, the active count and, for the index forms, the value. -/
def State.vecReduce (p : Fin 12) (l : Fin 32) (x : Duet) (res : VIn → List Nat → W32 × Option W32) (en : Entry)
    (s src : State) : Issued :=
  let i := src.vIn p l x en.word
  let qs := activeList i.k i.w
  let r := res i qs
  let old := (s.core p l).v (vDst en.word)
  let v := vset (vset old 0 r.1) 1 (BitVec.ofNat 32 qs.length)
  let v := match r.2 with
    | some t => vset v 2 t
    | none => v
  let s := s.writeLine p l (vDst en.word) v
  let s := if qs.isEmpty then s.setEmpty p l else s
  .done ((s.popD p l en.word).drawn)

/-- The result of a combining reduction. -/
def reduceComb (o : Comb) (i : VIn) (qs : List Nat) : W32 × Option W32 :=
  (if qs.isEmpty then o.ident (vFmt i.w) else o.fold (vFmt i.w) (qs.map fun j => lane i.a j) (i.free 0), none)

/-- Lane j is better than the best so far, of the images of a format (R63). -/
def argBetter (max : Bool) (f : BitVec 4) (best v : W32) : Bool :=
  if f = 8 then
    if (num32 best).isNan then false
    else if (num32 v).isNan then true
    else if max then Num.lt (num32 best) (num32 v) else Num.lt (num32 v) (num32 best)
  else if max then decide (best.toInt < v.toInt) else decide (v.toInt < best.toInt)

/-- The lowest index of the extreme value, or of a NaN (R63). -/
def argIndex (max : Bool) (f : BitVec 4) (a : Line) : List Nat → Option Nat → Option Nat
  | [], best => best
  | j :: t, none => argIndex max f a t (some j)
  | j :: t, some k => argIndex max f a t (some (if argBetter max f (lane a k) (lane a j) then j else k))

/-- The result of ARGMAX and ARGMIN. -/
def reduceArg (max : Bool) (i : VIn) (qs : List Nat) : W32 × Option W32 :=
  match argIndex max (vFmt i.w) i.a qs none with
  | some j => (BitVec.ofNat 32 j, some (lane i.a j))
  | none => (0xFFFF, some ((if max then Comb.max else Comb.min).ident (vFmt i.w)))

end Sys2Proof.Machine
end

