-- ==== Sys2Proof/Machine/Quant.lean ====
section
/-! DEFINITION. The quantiser and scale steering (R56 to R61, R99 to R124): QUANT, STEER, STEER in CAL
form and the sequencer's decision. -/

namespace Sys2Proof.Machine

/-- Codes of a target (R34, R103): 16, 8 or 4 of a grid table, 256 of INT8. -/
def targetCodes (tf : BitVec 4) : Nat := if tf = 5 then 16 else if tf = 6 then 8 else if tf = 7 then 4 else 256

/-- The level of a code of a target. -/
def targetLevel (c : Core) (tf : BitVec 4) (gt code : Nat) : Int :=
  if tf = 4 then (BitVec.ofNat 8 code).toInt else c.level gt code

/-- The lowest code of the codes of a target whose level is v. -/
def codeOfLevel (c : Core) (tf : BitVec 4) (gt : Nat) (v : Int) : Nat :=
  ((List.range (targetCodes tf)).find? fun k => targetLevel c tf gt k == v).getD 0

/-- The largest level of a target. -/
def maxLevel (c : Core) (tf : BitVec 4) (gt : Nat) : Int :=
  ((List.range (targetCodes tf)).map (targetLevel c tf gt)).foldl max (targetLevel c tf gt 0)

/-- The smallest level of a target. -/
def minLevel (c : Core) (tf : BitVec 4) (gt : Nat) : Int :=
  ((List.range (targetCodes tf)).map (targetLevel c tf gt)).foldl min (targetLevel c tf gt 0)

/-- The distance of a number from a level. -/
def levelDist (v : Num) (k : Int) : Num := (Num.add v (Num.ofInt (-k))).abs

/-- The levels nearest to v, each once. -/
def nearestLevels (c : Core) (tf : BitVec 4) (gt : Nat) (v : Num) : List Int :=
  let ls := ((List.range (targetCodes tf)).map (targetLevel c tf gt)).eraseDups
  ls.filter fun a => ls.all fun b => !Num.lt (levelDist v b) (levelDist v a)

/-- The code that R56 chooses for a finite v: of two levels equally near, the one whose code has least
significant bit 0; else the lowest code. -/
def nearestCode (c : Core) (tf : BitVec 4) (gt : Nat) (v : Num) : Nat :=
  let ks := (nearestLevels c tf gt v).map (codeOfLevel c tf gt)
  let pick := fun l : List Nat => l.foldl min (l.headD 0)
  let even := ks.filter fun k => k % 2 == 0
  if ks.length = 2 ∧ even.length = 1 then even.headD 0 else pick ks

/-- The null code (R58). -/
def nullCode (c : Core) (tf : BitVec 4) (gt : Nat) : Nat :=
  if tf = 4 then 0
  else match (List.range (targetCodes tf)).find? fun k => targetLevel c tf gt k == 0 with
    | some k => k
    | none => nearestCode c tf gt (.fin false 0 0)

/-- What the quantiser counts (R57). -/
inductive Kind where
  | none
  | clip
  | van
  | nan
deriving DecidableEq, Repr

/-- A product of scales, clamped as R103 says for the BOTH mode. -/
def bothScale (a b : W32) : W32 :=
  let r := f32 (Num.mul (num32 a) (num32 b))
  if Num.lt (num32 r) (.fin false 1 (-126)) then 0x00800000
  else if (num32 r).isInf then 0x7F7FFFFF else r

/-- The scale image of a lane (R103), in the form of a channel-scale register. -/
def scaleImage (c : Core) (mode : Nat) (sl : Steer) (ch : Nat) : W32 :=
  let csr := vget 0 c.csr ((sl.csrBase.toNat + ch) % 4096)
  if mode = 0 then scaleQ sl.q
  else if mode = 1 then csr
  else if csr.getLsbD 31 then csr else bothScale (scaleQ sl.q) csr

/-- The code and the kind of one input (R56 to R59, R103): past an end of the table, the code of the level at that end. -/
def quantOne (c : Core) (tf : BitVec 4) (gt : Nat) (x img : W32) : Nat × Kind :=
  let v := num32 x
  if v.isNan then (nullCode c tf gt, .nan)
  else if img.getLsbD 31 then
    (nullCode c tf gt, if v.isInf then .clip else if v.isZero then .none else .van)
  else
    let q := num32 (f32 (Num.div v (num32 img)))
    let hi := maxLevel c tf gt
    let lo := minLevel c tf gt
    if Num.lt (Num.ofInt hi) q then (codeOfLevel c tf gt hi, .clip)
    else if Num.lt q (Num.ofInt lo) then (codeOfLevel c tf gt lo, .clip)
    else
      let k := nearestCode c tf gt q
      (k, if !v.isZero && decide (targetLevel c tf gt k = 0) then .van else .none)

/-- BF16 of an FP32 value (R52). -/
def toBf16 (ieee : Bool) (x : W32) : Nat × ConvFx := convert ieee 8 0 x.toNat

/-- The BF16 stripe value of an input (R103, R107). -/
def stripeValue (c : Core) (tf : BitVec 4) (gt : Nat) (x img : W32) : Nat × ConvFx :=
  let r : Num := if img.getLsbD 31 then .fin false 0 0
    else num32 (f32 (Num.mul (Num.ofInt (targetLevel c tf gt (nullCode c tf gt))) (num32 img)))
  toBf16 c.ieeeOvf (f32 (Num.add (num32 x) r.neg))

/-- Live entries of a slot's stripe list (R107, R108): the positions that hold a channel. -/
def stripePositions (c : Core) (k : Nat) (ch : Nat) : List Nat :=
  let l := vget (Vector.replicate 64 0) c.stripe (k % 64)
  (List.range (c.slot k).stripeN.toNat).filter fun e => (vget 0 l e).toNat == ch

/-- A counter that holds at its maximum: the new value, and whether it held (R105). -/
def countUp {n : Nat} (x : BitVec n) : BitVec n × Bool := (satAdd x 1, decide (x.toNat = 2 ^ n - 1))

/-- Count an input in a channel-counter set (R104, R105). -/
def CSet.count (e : CSet) (k : Kind) : CSet × Bool :=
  let t := countUp e.tot
  match k with
  | .none => ({ e with tot := t.1 }, t.2)
  | .clip => let r := countUp e.clip; ({ e with tot := t.1, clip := r.1 }, t.2 || r.2)
  | .van => let r := countUp e.van; ({ e with tot := t.1, van := r.1 }, t.2 || r.2)
  | .nan => let r := countUp e.nan; ({ e with tot := t.1, nan := r.1 }, t.2 || r.2)

/-- Count an input in the slot's tensor counters. -/
def Steer.count (e : Steer) (k : Kind) : Steer × Bool :=
  let t := countUp e.tot
  match k with
  | .none => ({ e with tot := t.1 }, t.2)
  | .clip => let r := countUp e.clip; ({ e with tot := t.1, clip := r.1 }, t.2 || r.2)
  | .van => let r := countUp e.van; ({ e with tot := t.1, van := r.1 }, t.2 || r.2)
  | .nan => let r := countUp e.nan; ({ e with tot := t.1, nan := r.1 }, t.2 || r.2)

/-- The range trackers of a set (R103, R104). The model's choice (log entry 107): between +0 and -0 the value held stays. -/
def CSet.track (e : CSet) (x : W32) : CSet :=
  { e with max := if Num.lt (num32 e.max) (num32 x) then x else e.max,
           min := if Num.lt (num32 x) (num32 e.min) then x else e.min }

/-- Set an entry of the channel-counter sets. -/
def Core.setSet (c : Core) (n : Nat) (e : CSet) : Core := { c with sets := vset c.sets n e }
/-- Set a steer slot. -/
def Core.setSlot (c : Core) (k : Nat) (e : Steer) : Core := { c with steer := vset c.steer (k % 64) e }

/-- Steer slot of a lane (R103). -/
def quantSlot (w : Slot) (q : Nat) : Nat := if bit w 44 then (fld w 35 6 + q / 64) % 64 else fld w 35 6

/-- Channel of a lane (R103). -/
def quantChannel (w : Slot) (a0 : W32) (q : Nat) : Nat :=
  if bit w 43 then fld a0 0 16 else if bit w 44 then q % 64 else q

/-- Put bits into the bytes of a slot: element e of n bits. -/
def Core.putElem (c : Core) (slot n e x : Nat) : Core :=
  let v := c.v slot
  let word := n * e / 32
  let sh := n * e % 32
  let old := (lane v word).toNat
  let new := old - fieldN old sh n * 2 ^ sh + x % 2 ^ n * 2 ^ sh
  { c with ocache := vset c.ocache (slot % 64) (vset v word (BitVec.ofNat 32 new)) }

/-- Bits of a code in its record (R134). -/
def codeBits (tf : BitVec 4) : Nat := if tf = 7 then 2 else if tf = 4 then 8 else 4

/-- The code of a lane into the code destination (R134). -/
def Core.putCode (c : Core) (w : Slot) (q code : Nat) : Core :=
  let tf := BitVec.ofNat 4 (fld w 7 4)
  let n := codeBits tf
  c.putElem (fld w 14 6) n (128 * fld w 20 4 + q) (if tf = 6 then code % 8 else code)

/-- What a lane of a QUANT is (R103): its slot, its channel, its input and its scale. -/
structure QLane where
  q    : Nat
  k    : Nat
  chan : Nat
  x    : W32
  img  : W32
deriving DecidableEq, Repr

/-- One lane of a QUANT on the core (R103): trackers, codes, shadow, and the counts outside re-run
state; the flag says that a counter held. -/
def Core.quantLane (c : Core) (w : Slot) (reRun : Bool) (z : QLane) : Core × Bool × ConvFx :=
  let tf := BitVec.ofNat 4 (fld w 7 4)
  let gt := fld w 11 3
  let sl := c.slot z.k
  let st := (sl.setBase.toNat + z.chan) % 1024
  let ch := (sl.chBase.toNat + z.chan) % 65536
  let shadow := sl.watch && bit w 46 && !reRun
  let sh := toBf16 c.ieeeOvf z.x
  let c := if bit w 45 && (num32 z.x).isFin then c.setSet st ((vget CSet.reset c.sets st).track z.x) else c
  let striped := !(stripePositions c z.k ch).isEmpty
  let r := quantOne c tf gt z.x z.img
  let code := if striped then nullCode c tf gt else r.1
  let c := c.putCode w z.q code
  let c := if shadow then c.putElem (fld w 47 6) 16 (128 * fld w 53 1 + z.q) sh.1 else c
  let fx := if shadow then sh.2 else .none
  if reRun then (c, false, fx)
  else
    let e := (vget CSet.reset c.sets st).count r.2
    let c := c.setSet st e.1
    if striped then (c, e.2, fx)
    else
      let t := (c.slot z.k).count r.2
      (c.setSlot z.k t.1, e.2 || t.2, fx)

/-- The lanes of a QUANT, in order. -/
def Core.quantLanes (w : Slot) (reRun : Bool) : List QLane → Core → Core × Bool × ConvFx
  | [], c => (c, false, .none)
  | z :: t, c =>
    let r := c.quantLane w reRun z
    let r' := Core.quantLanes w reRun t r.1
    (r'.1, r.2.1 || r'.2.1, r.2.2.and r'.2.2)

/-- The channel number of a lane, as the stripe list names it. -/
def laneChannel (c : Core) (z : QLane) : Nat := ((c.slot z.k).chBase.toNat + z.chan) % 65536

/-- Position e of the stripe record of a group under LANE axis (R108): the stripe value of the lane of
that group whose channel the entry holds, or +0. -/
def stripeAt (c : Core) (w : Slot) (zs : List QLane) (k e : Nat) : Nat × ConvFx :=
  match zs.find? fun z => z.k == k && (stripePositions c k (laneChannel c z)).contains e with
  | some z => stripeValue c (BitVec.ofNat 4 (fld w 7 4)) (fld w 11 3) z.x z.img
  | none => (0, .none)

/-- The stripe destination of a QUANT (R108). -/
def Core.quantStripe (c : Core) (w : Slot) (zs : List QLane) : Core × ConvFx :=
  if bit w 43 then
    zs.foldl (fun (a : Core × ConvFx) z =>
      let v := stripeValue c (BitVec.ofNat 4 (fld w 7 4)) (fld w 11 3) z.x z.img
      (stripePositions c z.k (laneChannel c z)).foldl (fun (a : Core × ConvFx) e =>
        (a.1.putElem ((fld w 55 6 + e / 2) % 64) 16 (128 * (e % 2) + z.q) v.1, a.2.and v.2)) a) (c, .none)
  else
    (List.range (if bit w 44 then 2 else 1)).foldl (fun (a : Core × ConvFx) g =>
      (List.range 64).foldl (fun (a : Core × ConvFx) e =>
        let v := stripeAt c w zs ((fld w 35 6 + g) % 64) e
        (a.1.putElem (fld w 55 6) 16 (64 * ((fld w 61 2 + g) % 4) + e) v.1, a.2.and v.2)) a) (c, .none)

/-- A QUANT that keeps no shadow clears SVALID of the slots it names (R117). -/
def Core.quantValid (c : Core) (w : Slot) : Core :=
  (quantSlots w).foldl (fun c k =>
    let sl := c.slot k
    if !sl.watch || !bit w 46 then c.setSlot k { sl with svalid := false } else c) c

/-- The source line of a QUANT (R217). -/
def quantSource (c : Core) (w : Slot) : Line := if bit w 30 then c.dHead else c.v (fld w 24 6)

/-- The active lanes of a QUANT (R103). -/
def quantZs (c : Core) (x : Duet) (w : Slot) : List QLane :=
  let k := c.vec x
  let a0 := (c.ctx .vector x).ra 0
  let src := quantSource c w
  ((List.range 128).filter fun q => activeAt k (bit w 34) (fld w 31 3) q).map fun q =>
    let ks := quantSlot w q
    let ch := quantChannel w a0 q
    { q := q, k := ks, chan := ch, x := lane src q, img := scaleImage c (fld w 41 2) (c.slot ks) ch }

/-- A QUANT that has issued (R103): every active lane's channel is checked first. Its lanes are those of src. -/
def State.quantRun (p : Fin 12) (l : Fin 32) (x : Duet) (w : Slot) (s src : State) : State :=
  let c := s.core p l
  let zs := quantZs (src.core p l) x w
  if zs.any fun z => decide ((c.slot z.k).setCount.toNat ≤ z.chan) then s.abortCore p l 0x3601 0
  else
    let reRun := decide ((s.part p).rerun ≠ 0)
    let r := Core.quantLanes w reRun zs c
    let r2 := if bit w 54 then
        let t := c.quantStripe w zs
        (t.1, t.2)
      else (c, .none)
    let slots := if bit w 54 then (Core.quantStripe r.1 w zs).1 else r.1
    let c' := if reRun then slots else slots.quantValid w
    let s := s.modCore p l fun _ => c'
    let s := s.convVec p l (r.2.2.and r2.2)
    let s := if r.2.1 then s.cntSat p l else s
    s.popD p l w

/-- R103 QUANT. -/
def execQuant (p : Fin 12) (l : Fin 32) (x : Duet) (found : Found) (s : State) : Out :=
  .next (s.vecIssue p l x found 0x60 fun en src s => .done (s.quantRun p l x en.word src))

/-- A profile is valid (R111). -/
def Profile.valid (f : Profile) : Bool :=
  decide (fld f.band 0 16 < fld f.band 16 16) && decide (fld f.band 16 16 < fld f.step 0 16)
    && decide (2 ≤ fld f.step 24 8)

/-- The profile of a steer slot. -/
def Core.profile (c : Core) (k : Nat) : Profile := vget Profile.reset c.profiles (c.slot k).prof.toNat

/-- The sets of a slot (R103): set numbers with their channels. -/
def slotSets (sl : Steer) : List Nat := List.range sl.setCount.toNat

/-- Reset the counters of a slot and of its sets (R106, R114). -/
def Core.resetCounts (c : Core) (k : Nat) : Core :=
  let sl := c.slot k
  (slotSets sl).foldl (fun c i => c.setSet ((sl.setBase.toNat + i) % 1024) CSet.reset)
    (c.setSlot k { sl with clip := 0, van := 0, nan := 0, tot := 0 })

/-- The candidate channels of a slot (R109). -/
def Core.candidates (c : Core) (k : Nat) : List Nat :=
  let sl := c.slot k
  let f := c.profile k
  ((slotSets sl).filter fun i =>
    let e := vget CSet.reset c.sets ((sl.setBase.toNat + i) % 1024)
    (stripePositions c k ((sl.chBase.toNat + i) % 65536)).isEmpty && decide (e.tot ≠ 0)
      && (decide (fld f.prom 0 16 * e.tot.toNat < e.clip.toNat * 65536)
        || decide (fld f.prom 16 16 * e.tot.toNat < e.van.toNat * 65536))).map
    fun i => (sl.chBase.toNat + i) % 65536

/-- STEERs of a slot that every live core has issued and no decision has answered (R114). -/
def Part.steersDone (q : Part) (k : Fin 64) : Nat :=
  match q.live.map fun l => (q.cores[l].takes.filter fun t => decide (t.1 = k)).length with
  | [] => 0
  | n :: t => t.foldl Nat.min n

/-- Every live core's SVALID of a slot is 1 (R117). -/
def Part.shadowValid (q : Part) (k : Fin 64) : Bool := q.live.all fun l => (q.cores[l].slot k.val).svalid

/-- STEER in its normal form at issue (R111, R114, R121). The last live core's issue fixes the SVALID that the
sequencer reads (R117). The model's choice (log entry 107): a second STEER of a slot whose decision is outstanding does not wait;
the takes of a core form a queue, and each decision pairs the oldest. -/
def State.steerRun (p : Fin 12) (l : Fin 32) (w : Slot) (s : State) : State :=
  let k : Fin 64 := ⟨fld w 7 6, Nat.mod_lt _ (by decide)⟩
  let c := s.core p l
  if !(c.profile k).valid then s.abortCore p l 0x4601 0
  else if (s.part p).rerun ≠ 0 then s
  else
    let sl := c.slot k
    let t : SteerTake := { clip := sl.clip.toNat, van := sl.van.toNat, nan := sl.nan.toNat, tot := sl.tot.toNat,
                           cands := c.candidates k }
    let s' := s.modCore p l fun c => { c.resetCounts k with takes := c.takes ++ [(k, t)] }
    if (s.part p).steersDone k < (s'.part p).steersDone k then
      s'.modPart p fun q => { q with shadows := q.shadows ++ [(k, q.shadowValid k)] }
    else s'

/-- The scale that CAL gives a channel (R106). The model's choice (log entry 107): a MAX or MIN that software has made a NaN counts
as 0. -/
def calScale (c : Core) (tf : BitVec 4) (gt : Nat) (e : CSet) : W32 :=
  let pos := fun v : Num => if Num.lt (.fin false 0 0) v then v else .fin false 0 0
  let pv := pos (num32 e.max)
  let nv := pos (num32 e.min).neg
  if pv.isZero && nv.isZero then 0x80000000
  else
    let a := ceilDiv32 pv (maxLevel c tf gt).toNat
    let b := ceilDiv32 nv (-(minLevel c tf gt)).toNat
    let m := if Num.lt a b then b else a
    if Num.lt m (.fin false 1 (-126)) then 0x00800000
    else if (num32 (f32 m)).isInf then 0x7F7FFFFF else f32 m

/-- STEER in CAL form at issue (R106, R111, R121). -/
def State.calRun (p : Fin 12) (l : Fin 32) (w : Slot) (s : State) : State :=
  let k := fld w 7 6
  let c := s.core p l
  if !(c.profile k).valid then s.abortCore p l 0x4601 0
  else if (s.part p).rerun ≠ 0 then s
  else
    let sl := c.slot k
    s.modCore p l fun c =>
      ((slotSets sl).foldl (fun c' i =>
        let v := calScale c (BitVec.ofNat 4 (fld w 14 4)) (fld w 18 3)
          (vget CSet.reset c.sets ((sl.setBase.toNat + i) % 1024))
        { c' with csr := vset c'.csr ((sl.csrBase.toNat + i) % 4096) v }) c).resetCounts k

/-- R114 STEER, normal form. -/
def execSteer (p : Fin 12) (l : Fin 32) (x : Duet) (found : Found) (s : State) : Out :=
  .next (s.issue p l .vector x found 0xF301 (fun w => slotOp w == 0x61 && !bit w 13) fun en s =>
    .done (s.steerRun p l en.word))

/-- R106 STEER in CAL form. -/
def execSteerCal (p : Fin 12) (l : Fin 32) (x : Duet) (found : Found) (s : State) : Out :=
  .next (s.issue p l .vector x found 0xF301 (fun w => slotOp w == 0x61 && bit w 13) fun en s =>
    .done (s.calRun p l en.word))

/-- What a decision does beside the slot (R112): a move was blocked, the step panics. -/
structure Decision where
  slot  : Steer
  limit : Bool
  panic : Bool
deriving DecidableEq, Repr

/-- The steering rule (R112) on partition-wide sums: clipped, NaN and all inputs. -/
def steerRule (sl : Steer) (f : Profile) (c n t : Nat) : Decision :=
  if t = 0 then { slot := sl, limit := false, panic := false }
  else
    let sl := { sl with holdc := if sl.holdc = 0 then 0 else sl.holdc - 1 }
    let c16 := c * 65536
    let panic := decide (fld f.step 0 16 * t < c16) || (bit f.opt 0 && decide (0 < n))
    if fld f.band 16 16 * t < c16 then
      let sl := { sl with dnc := 0 }
      if sl.upc.toNat + 1 = fld f.step 16 2 + 1 then
        let sl := { sl with upc := 0 }
        if sl.q.toInt < sl.qmax.toInt then
          { slot := { sl with q := sl.q + 1, holdc := BitVec.ofNat 8 (fld f.step 24 8) }, limit := false, panic := panic }
        else { slot := sl, limit := true, panic := panic }
      else { slot := { sl with upc := sl.upc + 1 }, limit := false, panic := panic }
    else if c16 < fld f.band 0 16 * t then
      let sl := { sl with upc := 0 }
      if sl.holdc = 0 then
        if sl.dnc.toNat + 1 = fld f.step 20 4 + 1 then
          let sl := { sl with dnc := 0 }
          if sl.qmin.toInt < sl.q.toInt then { slot := { sl with q := sl.q - 1 }, limit := false, panic := panic }
          else { slot := sl, limit := true, panic := panic }
        else { slot := { sl with dnc := sl.dnc + 1 }, limit := false, panic := panic }
      else { slot := sl, limit := false, panic := panic }
    else { slot := { sl with upc := 0, dnc := 0 }, limit := false, panic := panic }

/-- The stripe list after promotion (R109): candidates in ascending order, each once, until 64. -/
def promoteList (l : Vector (BitVec 16) 64) (n : Nat) (cands : List Nat) : Vector (BitVec 16) 64 × Nat × Bool :=
  cands.foldl (fun (a : Vector (BitVec 16) 64 × Nat × Bool) ch =>
    if a.2.1 < 64 then (vset a.1 a.2.1 (BitVec.ofNat 16 ch), a.2.1 + 1, a.2.2) else (a.1, a.2.1, true)) (l, n, false)

/-- Merged candidates of the live cores, ascending, each once (R109). -/
def mergeCands (ls : List (List Nat)) : List Nat := (ls.flatten.eraseDups).mergeSort (· ≤ ·)

/-- Set a QNT_FLAGS bit in every live core; the core of rank 0 writes the log entry (R122, R123). The model's choice (log entry 107):
it writes none where its own bit stands already. -/
def State.setQntAll (p : Fin 12) (i : Nat) (code : Code) (s : State) : State :=
  match (s.part p).live with
  | [] => s
  | l0 :: t => t.foldl (fun s l => s.modCore p l fun c => { c with qntFlags := c.qntFlags ||| BitVec.ofNat 5 (2 ^ i) })
      (s.setQnt p l0 i code)

/-- The fallback entry of a slot (R190). -/
def Part.fallbackOf (q : Part) (k : Nat) : Option Fallback :=
  q.fallbacks.find? fun f => f.slot.val == k && (f.bkt == 0xFF || f.bkt.toNat == q.bucket.toNat)

/-- What a panic does in the sequencer (R119, R120, R205), and to FBNEXT: a pending branch while the shadow is
valid and the task has not issued END, or no re-run, with FBNEXT cleared, where the table has no entry for the
slot; else FBNEXT sets. -/
def State.panic (p : Fin 12) (k : Fin 64) (valid : Bool) (s : State) : State × Option Bool :=
  let q := s.part p
  if valid && decide (q.seqState ≠ 2) then
    let s := s.modPart p fun q => { q with fbCnt := satAdd q.fbCnt 1 }
    match q.fallbackOf k with
    | some _ => (s.modPart p fun q => { q with fbPend := q.fbPend ||| BitVec.ofNat 64 (2 ^ k.val) }, none)
    | none => (match q.live with
        | [] => s
        | l0 :: _ => s.logCore p l0 0x1606 0, some false)
  else (s, some true)

/-- The takes of the live cores for a slot, when every live core has issued the STEER (R114). -/
def Part.steerTakes (q : Part) (k : Fin 64) : Option (List SteerTake) :=
  q.live.mapM fun l => (q.cores[l].takes.find? fun t => decide (t.1 = k)).map Prod.snd

/-- Drop the oldest entry of a slot. -/
def dropTake {α : Type} (k : Fin 64) : List (Fin 64 × α) → List (Fin 64 × α)
  | [] => []
  | t :: ts => if t.1 = k then ts else t :: dropTake k ts

/-- The decision lands in a live core (R114, R117). -/
def Core.landDecision (k : Fin 64) (d : Steer) (list : Vector (BitVec 16) 64) (n : Nat) (fb fbnext : Bool) (c : Core) : Core :=
  let sl := c.slot k
  { c.setSlot k { sl with q := d.q, holdc := d.holdc, dnc := d.dnc, upc := d.upc, stripeN := BitVec.ofNat 7 n,
                          fb := sl.fb || fb, fbnext := fbnext, svalid := sl.watch }
    with stripe := vset c.stripe k.val list, takes := dropTake k c.takes }

/-- R112 STEER_DECISION: once every live core has issued the STEER, the sequencer computes the decision
and it lands in every live core. The model's choice (log entry 107): where the live cores hold different copies of what it starts
from, those of the core of rank 0 count. -/
def execSteerDecision (p : Fin 12) (k : Fin 64) (s : State) : Out :=
  .next (
    let q := s.part p
    match q.steerTakes k, q.live, q.task, q.abort with
    | some ts, l0 :: _, some _, none =>
      let c0 := q.cores[l0]
      let sum := fun g : SteerTake → Nat => (ts.map g).sum
      let t := sum fun t => t.tot
      let d := steerRule (c0.slot k) (c0.profile k) (sum fun t => t.clip) (sum fun t => t.nan) t
      let pr := if t = 0 then (vget (Vector.replicate 64 0) c0.stripe k.val, (c0.slot k).stripeN.toNat, false)
        else promoteList (vget (Vector.replicate 64 0) c0.stripe k.val) (c0.slot k).stripeN.toNat
          (mergeCands (ts.map fun t => t.cands))
      let valid := ((q.shadows.find? fun t => decide (t.1 = k)).map Prod.snd).getD (q.shadowValid k)
      let s := s.modPart p fun q => { q with shadows := dropTake k q.shadows }
      let r := if d.panic then s.panic p k valid else (s, none)
      let s := q.live.foldl (fun s l =>
        s.modCore p l (Core.landDecision k d.slot pr.1 pr.2.1 d.panic (r.2.getD (c0.slot k).fbnext))) r.1
      let s := if d.limit then s.setQntAll p 4 0x1604 else s
      let s := if pr.2.2 then s.setQntAll p 2 0x1603 else s
      if d.panic then s.setQntAll p 3 0x1605 else s
    | _, _, _, _ => s)

end Sys2Proof.Machine
end

