-- ==== Sys2Proof/Machine/Regs.lean ====
section
/-! DEFINITION. Registers: what a read of each returns and does, what a write of each does (R12, R495 to
R499 and the register tables of the chapters), and the commands that stand for a register access. -/

namespace Sys2Proof.Machine

/-- What a register write gives: its status now, an answer later (R445, R451), or BUSY (R472). -/
inductive RegAns where
  | now (st : Code) (s : State)
  | later (s : State)
  | busy (o : Busy) (s : State)
deriving DecidableEq, Repr

/-- The state after a write, whatever its answer. -/
def RegAns.state : RegAns → State
  | .now _ s => s
  | .later s => s
  | .busy _ s => s

/-- The status of a write that is answered; 0 otherwise. -/
def RegAns.status : RegAns → Code
  | .now st _ => st
  | _ => 0

/-- A write of ones clears (R12 W1C): what is left, of a field that stands at bit `lo` of the word. -/
def w1c {n : Nat} (lo : Nat) (old : BitVec n) (v : W32) : BitVec n := old &&& ~~~(BitVec.ofNat n (fld v lo n))

/-- Field of a written word as a bit string. -/
def fieldBv (n : Nat) (v : W32) (lo : Nat) : BitVec n := BitVec.ofNat n (fld v lo n)

/-- A signed 12-bit scale index is valid (R99, R100). -/
def qOk (q : BitVec 12) : Bool := decide (-496 ≤ q.toInt) && decide (q.toInt ≤ 496)

/-- A write to a word of a steer slot (R99 to R101): none when it is rejected. -/
def Steer.put (t : Steer) (w : Nat) (v : W32) : Option Steer :=
  if w = 0 then
    let q : BitVec 12 := fieldBv 12 v 0
    if qOk q then some { t with q := q, prof := fieldBv 2 v 12, watch := bit v 14, fb := t.fb && !bit v 16 } else none
  else if w = 1 then
    let lo : BitVec 12 := fieldBv 12 v 0
    let hi : BitVec 12 := fieldBv 12 v 16
    if qOk lo && qOk hi && decide (lo.toInt ≤ hi.toInt) then some { t with qmin := lo, qmax := hi } else none
  else if w = 2 then
    if 1024 < fld v 0 10 + fld v 10 11 ∨ 64 < fld v 21 7 then none
    else some { t with setBase := fieldBv 10 v 0, setCount := fieldBv 11 v 10, stripeN := fieldBv 7 v 21 }
  else if w = 3 then some { t with chBase := fieldBv 16 v 0, csrBase := fieldBv 12 v 16 }
  else if w = 4 then some { t with clip := v }
  else if w = 5 then some { t with van := v }
  else if w = 6 then some { t with nan := v }
  else some { t with tot := v }

/-- A write to a steer slot of a core (R101). -/
def State.slotWrite (p : Fin 12) (l : Fin 32) (k w : Nat) (v : W32) (s : State) : State :=
  match ((s.core p l).slot k).put w v with
  | some t => s.modCore p l fun c => c.setSlot k t
  | none => s.wrRej p l

/-- A write to a word of a channel-counter set (R104). -/
def CSet.put (c : CSet) (w : Nat) (v : W32) : CSet :=
  if w = 0 then { c with clip := fieldBv 24 v 0 }
  else if w = 1 then { c with van := fieldBv 24 v 0 }
  else if w = 2 then { c with nan := fieldBv 16 v 0 }
  else if w = 3 then { c with tot := v }
  else if w = 4 then { c with max := v }
  else if w = 5 then { c with min := v }
  else c

/-- A write to a word of a steering profile (R110). -/
def Profile.put (f : Profile) (w : Nat) (v : W32) : Profile :=
  if w = 0 then { f with band := v }
  else if w = 1 then { f with step := v &&& 0xFFF3FFFF }
  else if w = 2 then { f with prom := v }
  else { f with opt := v &&& 1 }

/-- A write to a stripe list (R107): two entries a word. -/
def stripePut (l : Vector (BitVec 16) 64) (w : Nat) (v : W32) : Vector (BitVec 16) 64 :=
  vset (vset l (2 * w) (fieldBv 16 v 0)) (2 * w + 1) (fieldBv 16 v 16)

/-- A read of the GRID block (R495). -/
def State.gridRead (p : Fin 12) (l : Fin 32) (off : Nat) (s : State) : W32 × State :=
  ((s.core p l).gridWord off, if off = 0x208 then s.modCore p l fun c => { c with convCnt := 0 } else s)

/-- A write to the GRID block (R38, R39, R64, R65, R94, R101, R104, R107, R110, R122, R151). -/
def State.gridWrite (p : Fin 12) (l : Fin 32) (off : Nat) (v : W32) (s : State) : State :=
  let m := fun f : Core → Core => s.modCore p l f
  if off < 0x200 then s.entPut p l (off / 4) v
  else if off = 0x200 then m fun c => { c with ieeeOvf := bit v 0 }
  else if off = 0x204 then m fun c => { c with gridFlags := w1c 0 c.gridFlags v }
  else if off = 0x400 then m fun c => { c with qntFlags := w1c 0 c.qntFlags v }
  else if 0x420 ≤ off ∧ off < 0x460 then
    let i := (off - 0x420) / 16
    m fun c => { c with profiles := vset c.profiles i ((vget Profile.reset c.profiles i).put (off / 4 % 4) v) }
  else if 0x1000 ≤ off ∧ off < 0x1800 then s.slotWrite p l ((off - 0x1000) / 32) (off / 4 % 8) v
  else if 0x2000 ≤ off ∧ off < 0x4000 then
    let i := (off - 0x2000) / 128
    m fun c => { c with stripe := vset c.stripe i (stripePut (vget (Vector.replicate 64 0) c.stripe i) (off / 4 % 32) v) }
  else if 0x4000 ≤ off ∧ off < 0x8000 then s.csrPut p l ((off - 0x4000) / 4) v
  else if 0x8000 ≤ off ∧ off < 0x10000 then
    let i := (off - 0x8000) / 32
    m fun c => { c with sets := vset c.sets i ((vget CSet.reset c.sets i).put (off / 4 % 8) v) }
  else if off = 0x10000 then m fun c => { c with vecFlags := w1c 0 c.vecFlags v }
  else s

/-- A read of the GUARD block (R172). -/
def State.guardRead (p : Fin 12) (l : Fin 32) (off : Nat) (s : State) : W32 × State :=
  ((s.core p l).guardWord off, if off = 0x10 then s.modCore p l fun c => { c with eccCnt := 0 } else s)

/-- A write to the GUARD block (R172). A new GMASK takes effect with GMASK_UPDATE. -/
def State.guardWrite (p : Fin 12) (l : Fin 32) (off : Nat) (v : W32) (s : State) : State :=
  s.modCore p l fun c =>
    if off = 0 then { c with guardEn := bit v 0 }
    else if off = 4 then { c with guardBase := fieldBv 16 v 0 }
    else if off = 8 then { c with guardLimit := fieldBv 16 v 0 }
    else if off = 0xC then { c with guardStat := w1c 0 c.guardStat v }
    else if off = 0x20 then { c with gmask := fieldBv 16 v 0 }
    else if 0x100 ≤ off ∧ off < 0x140 then { c with arr := vset c.arr ((off - 0x100) / 4) v }
    else if 0x1000 ≤ off ∧ off < 0x2800 then { c with valid := vset c.valid ((off - 0x1000) / 4) v }
    else c

/-- R172 GMASK_UPDATE: at wheel position 0 the GMASK written last takes effect. -/
def execGmaskUpdate (p : Fin 12) (l : Fin 32) (s : State) : Out :=
  .next (s.modCore p l fun c => { c with gmaskEff := if c.gmask = 0 then 1 else c.gmask })

/-- A read of the SEM block of a partition or a hub (R263). -/
def State.semRegRead (s : State) (sp : SemSpace) (off : Nat) : W32 :=
  match sp with
  | .part p =>
    let q := s.part p
    if off = 0 then word32 q.semStat.toNat
    else if off = 4 then word32 q.semErr.toNat
    else if off = 8 then word32 q.wdog.toNat
    else if off = 0x10 then q.dumpLo
    else if off = 0x14 then word32 q.dumpHi.toNat
    else 0
  | .hub h => if off = 0 then word32 (s.hub h).semStat.toNat else if off = 4 then word32 (s.hub h).semErr.toNat else 0

/-- A write to the SEM block (R263): SEM_WDOG and SEM_DUMP take writes from control ports only. -/
def State.semRegWrite (src : Source) (sp : SemSpace) (off : Nat) (v : W32) (s : State) : State :=
  match sp with
  | .part p => s.modPart p fun q =>
    if off = 0 then { q with semStat := w1c 0 q.semStat v }
    else if isPort src = false then q
    else if off = 8 then { q with wdog := fieldBv 20 v 0 }
    else if off = 0x10 then { q with dumpLo := v &&& 0xFFFF8001 }
    else if off = 0x14 then { q with dumpHi := fieldBv 24 v 0 }
    else q
  | .hub h => if off = 0 then s.modHub h fun b => { b with semStat := w1c 0 b.semStat v } else s

/-- SEQ_SHAPE (R221). -/
def Part.seqShape (q : Part) : W32 := word32 (q.liveCount + q.width * 2 ^ 8)

/-- A read of the SEQ block (R221). -/
def State.seqRegRead (p : Fin 12) (off : Nat) (s : State) : W32 × State :=
  let q := s.part p
  if off = 0 then (q.seqStat, s)
  else if off = 4 then (q.pc, s)
  else if off = 8 then (q.fbCnt, s.modPart p fun q => { q with fbCnt := 0 })
  else if off = 0xC then (q.seqShape, s)
  else if off = 0x10 then (word32 q.bucket.toNat, s)
  else (0, s)

/-- Word w of an address window (R180). -/
def Window.word (x : Window) (w : Nat) : W32 := if w = 0 then x.bl else if w = 1 then x.bh else if w = 2 then x.ll else x.lh

/-- A write to a word of an address window. -/
def Window.put (x : Window) (w : Nat) (v : W32) : Window :=
  if w = 0 then { x with bl := v }
  else if w = 1 then { x with bh := v &&& 0x80000FFF }
  else if w = 2 then { x with ll := v }
  else { x with lh := v &&& 0xFFF }

/-- A window at reset. -/
def Window.zero : Window := { bl := 0, bh := 0, ll := 0, lh := 0 }

/-- A read of the DESC block (R180, R186). -/
def Part.descRegRead (q : Part) (off : Nat) : W32 :=
  if off = 0 then word32 (q.descHandle.toNat + q.descCause.toNat * 2 ^ 17 + flag q.descRej 21)
  else if off = 4 then word32 q.epoch.toNat
  else if 0x100 ≤ off ∧ off < 0x180 then (vget Window.zero q.wins ((off - 0x100) / 16)).word (off / 4 % 4)
  else 0

/-- A write to the DESC block: windows take writes from control ports only (R180). -/
def Part.descRegWrite (src : Source) (off : Nat) (v : W32) (q : Part) : Part :=
  if off = 0 then { q with descRej := q.descRej && !bit v 21 }
  else if 0x100 ≤ off ∧ off < 0x180 ∧ isPort src = true then
    let i := (off - 0x100) / 16
    { q with wins := vset q.wins i ((vget Window.zero q.wins i).put (off / 4 % 4) v) }
  else q

/-- A register pop of a relay queue (R286, R294): the word that the read returns. -/
def State.relayTake (p : Fin 12) (q : Nat) (s : State) : W32 × State :=
  match vget [] (s.part p).relay q with
  | [] => (0x80000000, s)
  | h :: t => (word32 (h.toNat + (t.length + 1) * 2 ^ 17), s.modPart p fun k => { k with relay := vset k.relay q t })

/-- A register push (R286): onto a full queue it pushes nothing, and the status is an error that the manual
does not number: a free one that is not 0 (log entry 20). -/
def State.relayPut (src : Source) (p : Fin 12) (q : Nat) (v : W32) (s : State) : Code × State :=
  let l := vget [] (s.part p).relay q
  if 16 ≤ l.length then
    let code : Code := BitVec.ofNat 16 (1 + (s.freeLane 0).toNat % 65535)
    (code, ((s.modPart p fun k => { k with fullRej := true }).logDest p 0xFF src code).drawn)
  else (0, s.modPart p fun k => { k with relay := vset k.relay q (l ++ [fieldBv 17 v 0]) })

/-- A read of the RELAY block (R294). -/
def State.relayRead (p : Fin 12) (off : Nat) (s : State) : W32 × State :=
  if off < 0x200 then (if off % 8 = 4 then s.relayTake p (off / 8) else (0, s))
  else if off = 0x400 then (word32 (flag (s.part p).fullRej 0), s)
  else (0, s)

/-- A write to the RELAY block. -/
def State.relayWrite (src : Source) (p : Fin 12) (off : Nat) (v : W32) (s : State) : Code × State :=
  if off < 0x200 then (if off % 8 = 0 then s.relayPut src p (off / 8) v else (0, s))
  else if off = 0x400 then (0, s.modPart p fun q => { q with fullRej := q.fullRej && !bit v 0 })
  else (0, s)

/-- STAT.STATE of a channel (R292). -/
def Chan.stateCode (k : Chan) : Nat :=
  if k.stopped then 3
  else if k.waitInfo.isSome ∨ k.popWait.isSome then 2
  else if k.head = k.tail then 0
  else 1

/-- A read of a channel's register set (R292). -/
def Chan.regRead (k : Chan) (off : Nat) : W32 :=
  if off = 0 then k.stagedLo
  else if off = 4 then k.ringHi
  else if off = 8 then k.head
  else if off = 0xC then k.tail
  else if off = 0x10 then
    word32 (k.lastErr.toNat * 2 ^ 16 + flag k.ringRej 3 + flag k.tailRej 2 + k.stateCode)
  else 0

/-- A log entry about a channel. -/
def State.logChan (c : ChanId) (code : Code) (s : State) : State :=
  s.logAt (homeHub (chanPart c)) code (chanPart c).val (chanCore c) 0 (s.part (chanPart c)).taskId 0

/-- The ring that RING_HI would commit may be committed (R266). -/
def State.ringFits (s : State) (c : ChanId) (hi : W32) : Bool :=
  let k := s.chan c
  let sz := fld k.stagedLo 0 5
  let base := fld hi 0 24 * 2 ^ 32 + fld k.stagedLo 6 26 * 64
  decide (k.stateCode = 0 ∨ k.stateCode = 3) && decide (4 ≤ sz ∧ sz ≤ 16)
    && (s.part (chanPart c)).inWindows base (base + 64 * 2 ^ sz - 1)

/-- A write to RING_HI (R266). -/
def State.ringCommit (c : ChanId) (v : W32) (s : State) : State :=
  if s.ringFits c v then
    s.modChan c fun k => { k with ringLo := k.stagedLo, ringHi := v &&& 0xFFFFFF, head := 0, tail := 0, ring := [] }
  else (s.modChan c fun k => { k with ringRej := true }).logChan c 0x3B05

/-- A write to TAIL (R266). -/
def State.tailWrite (c : ChanId) (v : W32) (s : State) : State :=
  let k := s.chan c
  if 2 ^ fld k.ringLo 0 5 < (v - k.head).toNat then (s.modChan c fun k => { k with tailRej := true }).logChan c 0x3B02
  else s.modChan c fun k => { k with tail := v }

/-- A write to a channel's register set (R292). -/
def State.chanWrite (c : ChanId) (off : Nat) (v : W32) (s : State) : State :=
  if off = 0 then s.modChan c fun k => { k with stagedLo := v &&& 0xFFFFFFDF }
  else if off = 4 then s.ringCommit c v
  else if off = 0xC then s.tailWrite c v
  else if off = 0x10 then s.modChan c fun k => { k with ringRej := k.ringRej && !bit v 3, tailRej := k.tailRej && !bit v 2 }
  else s

/-- A write to TRUNK_CTAIL_BC (R268, R293): TAIL of one channel moves in every live core, each checked. -/
def State.tailBroadcast (p : Fin 12) (v : W32) (s : State) : State :=
  let n : Fin 4 := ⟨fld v 0 2, Nat.mod_lt _ (by decide)⟩
  (s.part p).live.foldl (fun s l =>
    let c : ChanId := .core p l n
    s.tailWrite c ((s.chan c).tail + word32 (fld v 16 16))) s

/-- Both depot halves of a partition are emptied (R285): a fill on its way serves its reads and is not kept. -/
def State.depotEmpty (p : Fin 12) (s : State) : State :=
  s.modPart p fun q => { q with depots := q.depots.map fun (d : Depot) =>
    { sets := [], fills := d.fills.map fun f => { f with alloc := false } } }

/-- A read of the TRUNK block (R293). -/
def Part.trunkRead (q : Part) (off : Nat) : W32 :=
  if off < 0x200 then (vget Chan.reset q.trunk (off / 0x40)).regRead (off % 0x40)
  else if off = 0x410 then q.tollSpa
  else if off = 0x414 then q.tollSpb
  else if off = 0x418 then q.tollDma
  else 0

/-- A write to the TRUNK block. -/
def State.trunkWrite (p : Fin 12) (off : Nat) (v : W32) (s : State) : State :=
  if h : off < 0x200 then s.chanWrite (.trunk p ⟨off / 0x40, by omega⟩) (off % 0x40) v
  else if off = 0x400 then s.tailBroadcast p v
  else if off = 0x420 then (if bit v 0 then s.depotEmpty p else s)
  else s

/-- The stack port that a STAT offset of partition p names (R322). -/
def statStack (p : Fin 12) (off : Nat) : Fin 24 := stackNo (2 * p.val + (off - 0x200) / 0x40)

/-- A read of a stack port's registers (R322). -/
def State.spRead (d : Fin 24) (off : Nat) (s : State) : W32 × State :=
  let k := s.stackPorts[d]
  if off = 0 then (word32 k.rate.toNat, s)
  else if off = 4 then (word32 (flag k.up 0 + flag k.throt 1 + flag k.hold 2 + flag k.ce 3 + flag k.ue 4), s)
  else if off = 8 then (k.ceCnt, s.modStack d fun k => { k with ceCnt := 0 })
  else if off = 0xC then (word32 (k.ueAddr.toNat / 64 * 64 % 2 ^ 32), s)
  else if off = 0x10 then (word32 (k.ueAddr.toNat / 2 ^ 32), s)
  else if off = 0x14 then (word32 k.hours.toNat, s)
  else if off = 0x18 then (word32 k.temp.toNat, s)
  else (0, s)

/-- A write to a stack port's registers: STAT_SP_SCRUB from a control port only. -/
def State.spWrite (src : Source) (d : Fin 24) (off : Nat) (v : W32) (s : State) : State :=
  s.modStack d fun k =>
    if off = 4 then { k with ce := k.ce && !bit v 3, ue := k.ue && !bit v 4 }
    else if off = 0x14 ∧ isPort src = true then { k with hours := fieldBv 16 v 0 }
    else k

/-- A read of the STAT block (R296, R322, R488, R489). -/
def State.statRead (p : Fin 12) (off : Nat) (s : State) : W32 × State :=
  let q := s.part p
  if off = 0x100 then (word32 (q.tconvFlags.toNat * 16), s)
  else if off = 0x104 then (q.tconvCnt, s.modPart p fun q => { q with tconvCnt := 0 })
  else if 0x200 ≤ off ∧ off < 0x280 then s.spRead (statStack p off) (off % 0x40)
  else if off = 0x300 then
    (word32 (flag q.auditEn 0 + q.auditLimit.toNat * 2 + q.auditCount.toNat * 2 ^ 16), s.modPart p fun q => { q with auditCount := 0 })
  else if off = 0x304 then (word32 (flag q.pctlRun 0), s)
  else if 0x310 ≤ off ∧ off < 0x350 then
    let k := (off - 0x310) / 8
    if off % 8 = 0 then
      (word32 (vget 0 q.pcnt k).toNat,
       s.modPart p fun q => { q with pcntHi := vset q.pcntHi k (word32 ((vget 0 q.pcnt k).toNat / 2 ^ 32)) })
    else (vget 0 q.pcntHi k, s)
  else if off = 0x380 then (q.trcLo, s)
  else if off = 0x384 then (word32 q.trcHi.toNat, s)
  else if off = 0x388 then (word32 (flag q.trcEn 0 + flag q.trcBale 1 + flag q.trcWrap 2), s)
  else if off = 0x38C then (q.trcWr, s)
  else if off = 0x390 then (q.trcDrop, s.modPart p fun q => { q with trcDrop := 0 })
  else (0, s)

/-- First address of the trace ring, and its size (R489). -/
def Part.traceRing (q : Part) : Nat × Nat := (q.trcHi.toNat * 2 ^ 32 + fld q.trcLo 12 20 * 4096, 2 ^ (fld q.trcLo 0 4 + 12))

/-- A write to STAT_TRC_CTL (R489): EN does not set while the ring lies outside an enabled window. -/
def Part.traceCtl (v : W32) (q : Part) : Part :=
  let r := q.traceRing
  { q with trcEn := bit v 0 && (q.trcEn || q.inWindows r.1 (r.1 + r.2 - 1)), trcBale := bit v 1, trcWrap := bit v 2 }

/-- A write to STAT_PCTL (R489). -/
def Part.pctl (v : W32) (q : Part) : Part :=
  { q with pctlRun := bit v 0, pcnt := if bit v 1 then Vector.replicate 8 0 else q.pcnt }

/-- A write to the STAT block: the registers from 0x300 on take writes from control ports only (R487 to R489). -/
def State.statWrite (src : Source) (p : Fin 12) (off : Nat) (v : W32) (s : State) : State :=
  let m := fun f : Part → Part => s.modPart p f
  if off = 0x100 then m fun q => { q with tconvFlags := w1c 4 q.tconvFlags v }
  else if 0x200 ≤ off ∧ off < 0x280 then s.spWrite src (statStack p off) (off % 0x40) v
  else if isPort src = false then s
  else if off = 0x300 then m fun q => { q with auditEn := bit v 0, auditLimit := fieldBv 15 v 1 }
  else if off = 0x304 then m (Part.pctl v)
  else if off = 0x380 then m fun q => { q with trcLo := v &&& 0xFFFFF00F }
  else if off = 0x384 then m fun q => { q with trcHi := fieldBv 24 v 0 }
  else if off = 0x388 then m (Part.traceCtl v)
  else s

/-- Who may claim (R242, R243): the OWNER value of a source. -/
def claimant : Source → Option (BitVec 4)
  | .seq _ => some 1
  | .port h => some (BitVec.ofNat 4 (2 + h.val))
  | _ => none

/-- A read of RT_CLM (R242, R243): of the partition's own sequencer or a control port it claims. -/
def State.claim (src : Source) (p : Fin 12) (n : Nat) (s : State) : W32 × State :=
  let c := vget { bound := false, owner := 0, free := true } (s.part p).claims n
  let who : Option (BitVec 4) := if src = .seq p ∨ isPort src = true then claimant src else none
  let word := fun f : Bool => word32 (flag c.bound 8 + c.owner.toNat * 16 + flag f 0)
  match who with
  | some o =>
    if c.bound && c.free then
      (word true, s.modPart p fun q => { q with claims := vset q.claims n { c with owner := o, free := false } })
    else (word false, s)
  | none => (word false, s)

/-- A write to RT_REL (R242, R243). -/
def State.release (src : Source) (p : Fin 12) (n : Nat) (v : W32) (s : State) : State :=
  let c := vget { bound := false, owner := 0, free := true } (s.part p).claims n
  if bit v 0 && c.bound && (decide (src = .seq p) || isPort src) then
    s.modPart p fun q => { q with claims := vset q.claims n { c with owner := 0, free := true } }
  else s

/-- A read of the RT block (R242, R295). -/
def State.rtRead (src : Source) (p : Fin 12) (off : Nat) (s : State) : W32 × State :=
  let q := s.part p
  if off = 0 then (word32 (flag q.rtEn 0), s)
  else if off = 4 then (q.rtMiss, s.modPart p fun q => { q with rtMiss := 0 })
  else if 0x100 ≤ off ∧ off < 0x180 then
    let n := (off - 0x100) / 8
    (if off % 8 = 0 then word32 (vget 0 q.tmrLim n).toNat else word32 (flag (vget none q.tmrArm n).isSome 0), s)
  else if 0x800 ≤ off ∧ off < 0x900 ∧ off % 8 = 0 then s.claim src p ((off - 0x800) / 8)
  else (0, s)

/-- A write to the RT block: with EN = 0 the timers are disarmed (R295). -/
def State.rtWrite (src : Source) (p : Fin 12) (off : Nat) (v : W32) (s : State) : State :=
  if off = 0 then
    s.modPart p fun q => { q with rtEn := bit v 0, tmrArm := if bit v 0 then q.tmrArm else Vector.replicate 16 none }
  else if 0x100 ≤ off ∧ off < 0x180 ∧ off % 8 = 0 then
    s.modPart p fun q => { q with tmrLim := vset q.tmrLim ((off - 0x100) / 8) (fieldBv 20 v 0) }
  else if 0x800 ≤ off ∧ off < 0x900 ∧ off % 8 = 4 then s.release src p ((off - 0x800) / 8) v
  else s

/-- CORE_CAPS (R91). -/
def State.coreCaps (s : State) (p : Fin 12) (l : Fin 32) : W32 :=
  word32 ((s.part p).width * 2 ^ 8 + flag s.full 7 + match (s.core p l).bypass with
    | some o => 16 + o.val
    | none => 0)

/-- CORE_FENCE (R452). -/
def Part.coreFence (q : Part) (l : Fin 32) : W32 :=
  let c := q.cores[l]
  word32 (flag c.fenced 0 + flag c.cand 1 + c.fcause.toNat * 16 + (if c.fenced then 0 else q.rank l) * 2 ^ 8)

/-- A read of a core page (R495). -/
def State.pageRead (s : State) (p : Fin 12) (l : Fin 32) (off : Nat) : W32 :=
  if off = 0 then s.coreCaps p l
  else if off = 0x100 then (s.part p).coreFence l
  else if 0x200 ≤ off ∧ off < 0x300 then (vget Chan.reset (s.core p l).chans ((off - 0x200) / 0x40)).regRead (off % 0x40)
  else 0

/-- A word of the descriptor store as a read returns it (R174). -/
def Part.storeWord (q : Part) (off : Nat) : W32 := word32 (fld (q.descRead (off / 64)) (off % 64 * 8) 32)

/-- A read that no region of the space serves (R492). -/
def State.noReg (src : Source) (a : Nat) (s : State) : Code × W32 × State := (0x3F01, 0, s.regLog src a 0x3F01)

/-- A read of one word of partition space (R495). -/
def State.partRead (src : Source) (p : Fin 12) (off a : Nat) (s : State) : Code × W32 × State :=
  let ok := fun r : W32 × State => ((0 : Code), r.1, r.2)
  if off < 0x400000 then ok (s.gridRead p (coreNo (off / 0x20000)) (off % 0x20000))
  else if isSemArea off then
    match semView (.part p) off with
    | some (o, i) => s.semRead src (.part p) o.ctr i
    | none => (0x2A05, 0, s.semInvalid src (.part p) off)
  else if 0x440000 ≤ off ∧ off < 0x441000 then ok (s.semRegRead (.part p) (off % 0x1000), s)
  else if 0x450000 ≤ off ∧ off < 0x451000 then ok (s.seqRegRead p (off % 0x1000))
  else if 0x451000 ≤ off ∧ off < 0x452000 then ok ((s.part p).descRegRead (off % 0x1000), s)
  else if 0x452000 ≤ off ∧ off < 0x453000 then ok (s.relayRead p (off % 0x1000))
  else if 0x453000 ≤ off ∧ off < 0x454000 then ok ((s.part p).trunkRead (off % 0x1000), s)
  else if 0x454000 ≤ off ∧ off < 0x455000 then ok (if off = 0x454000 then (s.part p).liveMask else 0, s)
  else if 0x455000 ≤ off ∧ off < 0x456000 then ok (s.statRead p (off % 0x1000))
  else if 0x456000 ≤ off ∧ off < 0x457000 then ok (s.rtRead src p (off % 0x1000))
  else if 0x480000 ≤ off ∧ off < 0x500000 then ok (s.guardRead p (coreNo ((off - 0x480000) / 0x4000)) (off % 0x4000))
  else if 0x500000 ≤ off ∧ off < 0x520000 then ok (s.pageRead p (coreNo ((off - 0x500000) / 0x1000)) (off % 0x1000), s)
  else if 0x800000 ≤ off then ok ((s.part p).storeWord (off - 0x800000), s)
  else s.noReg src a

/-- A source may write descriptor entries of partition p (R174). -/
def entrySource (p : Fin 12) : Source → Bool
  | .port _ => true
  | .seq q => decide (q = p)
  | .chan c => decide (chanPart c = p)
  | .link _ => false

/-- A write to the descriptor store that is not an entry write (R174, R177 cause 0x2; handle 0 is cause 0x1). -/
def State.storePartial (src : Source) (p : Fin 12) (off : Nat) (s : State) : Code × State :=
  let hd : BitVec 17 := BitVec.ofNat 17 ((off - 0x800000) / 64)
  if entrySource p src then (0x3801, s.descReject p hd (if hd = 0 then 1 else 2)) else (0x3F01, s.logDest p 0xFF src 0x3F01)

/-- A write of whole words to the descriptor store (R174, R177): one of a whole, aligned entry, or none at all. -/
def State.storeWrite (src : Source) (p : Fin 12) (off : Nat) (data : List W32) (s : State) : Code × State :=
  if off % 64 ≠ 0 ∨ data.length ≠ 16 ∨ entrySource p src = false then s.storePartial src p off
  else
    let r := s.descWrite p (BitVec.ofNat 17 ((off - 0x800000) / 64)) (BitVec.ofNat 512 (ofBytes (bytesOfWords data)))
    (if r.1 = 0 then 0 else 0x3801, r.2)

/-- A write to a core page (R91, R292, R452). -/
def State.pageWrite (src : Source) (p : Fin 12) (l : Fin 32) (off : Nat) (v : W32) (who : Option (Fin 4 × Byte)) (s : State) : RegAns :=
  if off = 0x100 then
    match s.fenceWrite src p l v who with
    | (some st, s) => .now st s
    | (none, s) => .later s
  else if h : 0x200 ≤ off ∧ off < 0x300 then .now 0 (s.chanWrite (.core p l ⟨(off - 0x200) / 0x40, by omega⟩) (off % 0x40) v)
  else .now 0 s

/-- A write of one word of partition space (R495). -/
def State.partWrite (src : Source) (p : Fin 12) (off a : Nat) (v : W32) (who : Option (Fin 4 × Byte)) (s : State) : RegAns :=
  let of := fun r : Code × State => RegAns.now r.1 r.2
  if off < 0x400000 then .now 0 (s.gridWrite p (coreNo (off / 0x20000)) (off % 0x20000) v)
  else if isSemArea off then
    match semView (.part p) off with
    | some (o, i) => of (s.semWrite src (.part p) o i v)
    | none => .now 0x2A05 (s.semInvalid src (.part p) off)
  else if 0x440000 ≤ off ∧ off < 0x441000 then .now 0 (s.semRegWrite src (.part p) (off % 0x1000) v)
  else if 0x450000 ≤ off ∧ off < 0x451000 then .now 0 s
  else if 0x451000 ≤ off ∧ off < 0x452000 then .now 0 (s.modPart p (Part.descRegWrite src (off % 0x1000) v))
  else if 0x452000 ≤ off ∧ off < 0x453000 then of (s.relayWrite src p (off % 0x1000) v)
  else if 0x453000 ≤ off ∧ off < 0x454000 then .now 0 (s.trunkWrite p (off % 0x1000) v)
  else if 0x454000 ≤ off ∧ off < 0x455000 then
    if off = 0x454004 then
      match s.resetWrite src p v who with
      | (some st, s) => .now st s
      | (none, s) => .later s
    else .now 0 s
  else if 0x455000 ≤ off ∧ off < 0x456000 then .now 0 (s.statWrite src p (off % 0x1000) v)
  else if 0x456000 ≤ off ∧ off < 0x457000 then .now 0 (s.rtWrite src p (off % 0x1000) v)
  else if 0x480000 ≤ off ∧ off < 0x500000 then .now 0 (s.guardWrite p (coreNo ((off - 0x480000) / 0x4000)) (off % 0x4000) v)
  else if 0x500000 ≤ off ∧ off < 0x520000 then s.pageWrite src p (coreNo ((off - 0x500000) / 0x1000)) (off % 0x1000) v who
  else if 0x800000 ≤ off then of (s.storePartial src p off)
  else of ((s.noReg src a).1, (s.noReg src a).2.2)

/-- Number of a link's state (R375). -/
def linkCode : LinkState → Nat
  | .idle => 0
  | .train => 1
  | .auth => 2
  | .active => 3
  | .down => 4
  | .quar => 5
  | .disabled => 6

/-- The registers of one link (R402). -/
def Link.regRead (k : Link) (off : Nat) : W32 :=
  if off = 0 then word32 k.phy.toNat
  else if off = 4 then word32 (linkCode k.state + flag k.rev 3 + flag k.fDown 16 + flag k.fAuth 17 + flag k.fRetry 18)
  else if off = 8 then word32 (flag k.disable 0)
  else if off = 0xC then word32 (k.expect.toNat + k.seen.toNat * 2 ^ 8)
  else if off = 0x10 then word32 (k.tenant.toNat + flag k.bound 4)
  else if off = 0x14 then k.retry
  else if off = 0x18 then k.badCnt
  else if off = 0x1C then word32 k.tx.toNat
  else 0

/-- Link k of hub h. -/
def hubLink (h : Fin 4) (off : Nat) : Fin 16 := ⟨4 * h.val + off / 0x40 % 4, by omega⟩

/-- A read of the LINK block of hub h (R402). -/
def State.linkRead (h : Fin 4) (off : Nat) (s : State) : W32 × State :=
  let b := s.hub h
  if off < 0x100 then
    let n := hubLink h off
    (s.links[n].regRead (off % 0x40),
     if off % 0x40 = 0x14 then s.modLink n fun k => { k with retry := 0 }
     else if off % 0x40 = 0x18 then s.modLink n fun k => { k with badCnt := 0 }
     else s)
  else if off = 0x200 then (word32 s.devNum.toNat, s)
  else if off = 0x204 then (word32 b.tmo.toNat, s)
  else if off = 0x208 then (word32 (flag b.certv 0), s)
  else if off = 0x210 then (word32 s.minEp.toNat, s)
  else if off = 0x214 then (word32 (s.minEp.toNat / 2 ^ 32), s)
  else if 0x240 ≤ off ∧ off < 0x270 then (vget 0 b.dah ((off - 0x240) / 4), s)
  else if 0x300 ≤ off ∧ off < 0x400 then (vget 0 s.cert ((off - 0x300) / 4), s)
  else if 0x800 ≤ off ∧ off < 0xC00 then (word32 (vget 0 s.routes ((off - 0x800) / 4)).toNat, s)
  else (0, s)

/-- A write to the registers of one link (R402). -/
def State.linkRegWrite (n : Fin 16) (off : Nat) (v : W32) (s : State) : State :=
  if off = 4 then
    s.modLink n fun k => { k with fDown := k.fDown && !bit v 16, fAuth := k.fAuth && !bit v 17, fRetry := k.fRetry && !bit v 18 }
  else if off = 8 then s.linkCtl n v
  else if off = 0xC then s.modLink n fun k => { k with expect := fieldBv 8 v 0 }
  else if off = 0x10 then s.modLink n fun k => { k with tenant := fieldBv 4 v 0, bound := bit v 4 }
  else s

/-- A write to LINK_TEN names a lessee outside IN_SERVICE (R427; log entry 112). -/
def State.linkTenBad (s : State) (off : Nat) (v : W32) : Bool :=
  decide (off < 0x100) && decide (off % 0x40 = 0x10) && decide (s.life ≠ 2) && decide (1 ≤ fld v 0 4 ∧ fld v 0 4 ≤ 12)

/-- A control port's write to the LINK block of hub h (R402). -/
def State.linkWrite (h : Fin 4) (off : Nat) (v : W32) (s : State) : State :=
  if off < 0x100 then s.linkRegWrite (hubLink h off) (off % 0x40) v
  else if off = 0x200 then State.recert { s with devNum := fieldBv 8 v 0 }
  else if off = 0x204 then s.modHub h fun b => { b with tmo := fieldBv 16 v 0 }
  else if off = 0x210 then State.recert { s with minEp := BitVec.ofNat 64 (s.minEp.toNat / 2 ^ 32 * 2 ^ 32 + v.toNat) }
  else if off = 0x214 then State.recert { s with minEp := BitVec.ofNat 64 (v.toNat * 2 ^ 32 + s.minEp.toNat % 2 ^ 32) }
  else if 0x300 ≤ off ∧ off < 0x400 then s.certWrite ((off - 0x300) / 4) v
  else if 0x800 ≤ off ∧ off < 0xC00 then { s with routes := vset s.routes ((off - 0x800) / 4) (fieldBv 10 v 0) }
  else s

/-- A log entry as its 32 bytes (R458), as a number. -/
def LogEntry.image (e : LogEntry) : BitVec 256 :=
  BitVec.ofNat 256 (e.time.toNat + e.code.toNat * 2 ^ 64 + e.part.toNat * 2 ^ 80 + e.core.toNat * 2 ^ 88 + e.flags.toNat * 2 ^ 96
    + e.arg0.toNat * 2 ^ 128 + e.arg1.toNat * 2 ^ 192)

/-- A word of the log ring (R460); of an entry that has not been written it is free (log entry 21). -/
def State.logRingRead (h : Fin 4) (off : Nat) (s : State) : W32 × State :=
  match Sparse.get none (s.hub h).log (off / 32) with
  | some e => (word32 (fld e.image (off % 32 * 8) 32), s)
  | none => (s.freeLane 0, s.drawn)

/-- A read of one word of hub space (R496). -/
def State.hubRead (src : Source) (h : Fin 4) (off a : Nat) (s : State) : Code × W32 × State :=
  let ok := fun r : W32 × State => ((0 : Code), r.1, r.2)
  if isSemArea off then
    match semView (.hub h) off with
    | some (o, i) => s.semRead src (.hub h) o.ctr i
    | none => (0x2A05, 0, s.semInvalid src (.hub h) off)
  else if 0x440000 ≤ off ∧ off < 0x441000 then ok (s.semRegRead (.hub h) (off % 0x1000), s)
  else if 0x450000 ≤ off ∧ off < 0x451000 then ok (s.linkRead h (off % 0x1000))
  else if 0x800000 ≤ off ∧ off < 0x840000 then ok (s.logRingRead h (off - 0x800000))
  else s.noReg src a

/-- A write of one word of hub space. -/
def State.hubWrite (src : Source) (h : Fin 4) (off a : Nat) (v : W32) (s : State) : RegAns :=
  if isSemArea off then
    match semView (.hub h) off with
    | some (o, i) => .now (s.semWrite src (.hub h) o i v).1 (s.semWrite src (.hub h) o i v).2
    | none => .now 0x2A05 (s.semInvalid src (.hub h) off)
  else if 0x440000 ≤ off ∧ off < 0x441000 then .now 0 (s.semRegWrite src (.hub h) (off % 0x1000) v)
  else if 0x450000 ≤ off ∧ off < 0x451000 then
    if s.linkTenBad (off % 0x1000) v then .now 0x8E02 (s.logSrc src 0x8E02) else .now 0 (s.linkWrite h (off % 0x1000) v)
  else .now 0x3F01 (s.noReg src a).2.2

/-- Bits 2i + 1 and 2i of a status word hold the state of unit i. -/
def pairs (l : List Nat) : Nat := ofBytes ((List.range ((l.length + 3) / 4)).map fun i =>
  BitVec.ofNat 8 (nth 0 l (4 * i) + nth 0 l (4 * i + 1) * 4 + nth 0 l (4 * i + 2) * 16 + nth 0 l (4 * i + 3) * 64))

/-- Number of a loader's state (R356). -/
def loadCode : LoadState → Nat
  | .idle => 0
  | .header => 1
  | .committed => 2
  | .releasing => 3

/-- Number of a power state (R474). -/
def powerCode : Power → Nat
  | .gated => 0
  | .rampUp => 1
  | .running => 2
  | .rampDown => 3

/-- Number of the capture engine's state (R461). -/
def capCode' : CapState → Nat
  | .idle => 0
  | .quiescing => 1
  | .writing => 2
  | .resuming => 3

/-- A read of TASK (R419). -/
def Hub.taskRead (b : Hub) (off : Nat) : W32 :=
  if off = 0 then b.stagedLo
  else if off = 4 then word32 b.ringHi.toNat
  else if off = 8 then b.head
  else if off = 0xC then b.tail
  else if off = 0x10 then word32 (b.taskErr.toNat * 2 ^ 16 + flag b.waitQ 1 + flag b.taskRej 0)
  else 0

/-- A write to TASK by the ring's own port (R411, R419). -/
def State.taskWrite (h : Fin 4) (off : Nat) (v : W32) (s : State) : Code × State :=
  if off = 0 then (0, s.modHub h fun b => { b with stagedLo := v &&& 0xFFFFFF8F })
  else if off = 4 then s.taskCommit h v
  else if off = 0xC then s.taskTail h v
  else if off = 0x10 then (0, s.modHub h fun b => { b with taskRej := b.taskRej && !bit v 0 })
  else (0, s)

/-- A read of set h of LOG (R461). -/
def State.logRead (h : Fin 4) (off : Nat) (s : State) : W32 × State :=
  let b := s.hub h
  if off = 0 then (b.logWr, s)
  else if off = 4 then (b.logRd, s)
  else if off = 8 then (word32 b.logThr.toNat, s)
  else if off = 0xC then (b.logLost, s.modHub h fun b => { b with logLost := 0 })
  else (0, s)

/-- A log-threshold event may be sent again once the unread entries have fallen below LOG_THR (R460). -/
def Hub.rearmThr (b : Hub) : Hub := { b with thrSent := b.thrSent && decide (b.threshold ≤ b.unread) }

/-- A write to set h of LOG (R461). -/
def Hub.logWrite (off : Nat) (v : W32) (b : Hub) : Hub :=
  if off = 4 then (if 8192 < (b.logWr - v).toNat then b else Hub.rearmThr { b with logRd := v })
  else if off = 8 then Hub.rearmThr { b with logThr := fieldBv 14 v 0 }
  else b

/-- A read of set h of SEC (R438). -/
def Hub.secRead (b : Hub) (off : Nat) : W32 :=
  if off = 4 then b.arg0
  else if off = 8 then word32 b.arg1.toNat
  else if off = 0xC then b.arg2
  else if off = 0x10 then word32 b.arg3.toNat
  else if off = 0x14 then word32 (b.cmdCode.toNat * 2 ^ 16 + b.cmdStat.toNat)
  else if 0x20 ≤ off ∧ off < 0x40 then vget 0 b.nonce ((off - 0x20) / 4)
  else 0

/-- A write to set h of SEC by its own port, but for SEC_CMD. -/
def Hub.secArg (off : Nat) (v : W32) (b : Hub) : Hub :=
  if off = 4 then { b with arg0 := v &&& 0x07FF07FF }
  else if off = 8 then { b with arg1 := fieldBv 12 v 0 }
  else if off = 0xC then { b with arg2 := v &&& 0xFFFFF800 }
  else if off = 0x10 then { b with arg3 := fieldBv 24 v 0 }
  else if 0x20 ≤ off ∧ off < 0x40 then { b with nonce := vset b.nonce ((off - 0x20) / 4) v }
  else b

/-- A word of a 96 B public key. -/
def keyWord (k : BitVec 768) (w : Nat) : W32 := word32 (fld k (32 * w) 32)

/-- A read of the SEC block (R438). -/
def State.secBlockRead (s : State) (off : Nat) : W32 :=
  if off < 0x100 then (s.hub (hubNo (off / 0x40))).secRead (off % 0x40)
  else if off = 0x100 then word32 (((List.finRange 8).map fun i => (s.part (partNo i.val)).tenant.toNat * 2 ^ (4 * i.val)).sum)
  else if off = 0x104 then word32 (((List.finRange 4).map fun i => (s.part (partNo (8 + i.val))).tenant.toNat * 2 ^ (4 * i.val)).sum)
  else if 0x200 ≤ off ∧ off < 0x260 then keyWord s.idPub ((off - 0x200) / 4)
  else if 0x280 ≤ off ∧ off < 0x2E0 then keyWord s.kaPub ((off - 0x280) / 4)
  else if 0x300 ≤ off ∧ off < 0x3C0 then vget 0 s.auth ((off - 0x300) / 4)
  else if 0x400 ≤ off ∧ off < 0x440 then s.gownWord (hubNo ((off - 0x400) / 16)) (off / 4 % 4)
  else if 0x1000 ≤ off ∧ off < 0x2800 then (vget Region.reset s.regions ((off - 0x1000) / 4)).word
  else 0

/-- A write to the SEC block by the port of hub h. -/
def State.secBlockWrite (h : Fin 4) (off : Nat) (v : W32) (s : State) : Code × State :=
  if off < 0x100 then
    if off / 0x40 ≠ h.val then (0, s)
    else if off % 0x40 = 0 then (0, s.secWrite h v)
    else (0, s.modHub h (Hub.secArg (off % 0x40) v))
  else if 0x300 ≤ off ∧ off < 0x3C0 then (0, if h = 0 then { s with auth := vset s.auth ((off - 0x300) / 4) v } else s)
  else if 0x400 ≤ off ∧ off < 0x440 then
    s.gownWrite (.port h) (hubNo ((off - 0x400) / 16)) ⟨off / 4 % 4, Nat.mod_lt _ (by decide)⟩ v
  else (0, s)

/-- A read of the TIME block by the port of hub h (R478). -/
def State.timeRead (h : Fin 4) (off : Nat) (s : State) : W32 × State :=
  if off = 0 then
    let t := vget 0 s.dieTime (24 + h.val)
    (word32 t.toNat, s.modHub h fun b => { b with nowHi := word32 (t.toNat / 2 ^ 32) })
  else if off = 4 then ((s.hub h).nowHi, s)
  else if off = 0x20 then (word32 (pairs (s.parts.toList.map fun q => powerCode q.power)), s)
  else if off = 0x24 then (word32 (flag (decide (s.phase = .ready)) 0 + flag s.warm 1), s)
  else if off = 0x28 then (word32 s.rampMax.toNat, s)
  else if off = 0x2C then (word32 s.pll.toNat, s)
  else (0, s)

/-- A read of the PERS block (R356). -/
def State.persRead (s : State) (off : Nat) : W32 :=
  if off < 0x40 ∧ off % 16 = 0 then
    let l := (s.hub (hubNo (off / 16))).loader
    word32 (loadCode l.state + l.prog.toNat * 2 ^ 8 + l.lastErr.toNat * 2 ^ 16)
  else if off = 0x40 then word32 (pairs (s.parts.toList.map fun q => persCode q.pers))
  else if off = 0x44 then word32 (pairs (s.hubs.toList.map fun b => persCode b.hubf))
  else 0

/-- A read of the LIFE block (R439). -/
def State.lifeRead (s : State) (off : Nat) : W32 :=
  if off = 0 then word32 (s.life + s.refurb * 2 ^ 8)
  else if off = 4 then word32 (flag s.fuseBits.prov 0 + flag s.fuseBits.svc0 1 + flag s.fuseBits.scrap 2)
  else if off = 8 then s.fuse1
  else if off = 0xC then word32 (((List.range 5).map fun j => flag (s.gate (j + 1)) j).sum)
  else 0

/-- A control port's read of a word of the block registers (R497 to R499). -/
def State.blkRead (h : Fin 4) (off : Nat) (s : State) : W32 × State :=
  if off = 0 then (word32 (0x5A12 + s.build.toNat * 2 ^ 16), s)
  else if off = 0x1000 then
    (word32 (s.plive.toNat + gradeCode s.grade * 2 ^ 12 + flag s.full 14 + flag s.full 15), s)
  else if 0x2000 ≤ off ∧ off < 0x2100 then ((s.hub (hubNo ((off - 0x2000) / 0x40))).taskRead (off % 0x40), s)
  else if 0x3000 ≤ off ∧ off < 0x3040 then
    let b := s.hub (hubNo ((off - 0x3000) / 16))
    (if off % 16 = 0 then word32 b.evMask.toNat else if off % 16 = 4 then word32 (fld b.evPend 0 9) else 0, s)
  else if 0x4000 ≤ off ∧ off < 0x5000 then (s.persRead (off - 0x4000), s)
  else if 0x5000 ≤ off ∧ off < 0x6000 then (s.lifeRead (off - 0x5000), s)
  else if 0x6000 ≤ off ∧ off < 0x6100 then s.logRead (hubNo ((off - 0x6000) / 0x40)) (off % 0x40)
  else if off = 0x6204 then (word32 s.capOff.toNat, s)
  else if off = 0x6208 then (word32 (s.capCode.toNat * 2 ^ 16 + capCode' s.capState), s)
  else if 0x7000 ≤ off ∧ off < 0x8000 then s.timeRead h (off - 0x7000)
  else if 0x8000 ≤ off ∧ off < 0xC000 then (s.secBlockRead (off - 0x8000), s)
  else (0, s)

/-- A control port's write to a word of the block registers. -/
def State.blkWrite (h : Fin 4) (off : Nat) (v : W32) (s : State) : RegAns :=
  let of := fun r : Code × State => RegAns.now r.1 r.2
  if 0x2000 ≤ off ∧ off < 0x2100 then
    if (off - 0x2000) / 0x40 = h.val then of (s.taskWrite h (off % 0x40) v) else .now 0 s
  else if off = 0x3000 + 16 * h.val then .now 0 (s.modHub h fun b => { b with evMask := fieldBv 4 v 0 })
  else if 0x6000 ≤ off ∧ off < 0x6100 then .now 0 (s.modHub (hubNo ((off - 0x6000) / 0x40)) (Hub.logWrite (off % 0x40) v))
  else if off = 0x6200 then .now 0 (s.capWrite h v)
  else if off = 0x6204 then .now 0 { s with capOff := fieldBv 16 v 0 }
  else if off = 0x7010 then
    match s.warmWrite (.port h) v with
    | (some o, s) => .busy o s
    | (none, s) => .now 0 s
  else if off = 0x7028 then .now 0 { s with rampMax := fieldBv 2 v 0 }
  else if 0x8000 ≤ off ∧ off < 0xC000 then of (s.secBlockWrite h (off - 0x8000) v)
  else .now 0 s

/-- Read one aligned word that the source may reach. -/
def State.regRead (src : Source) (a : Nat) (s : State) : Code × W32 × State :=
  match place a with
  | .part p off => s.partRead src p off a
  | .hub h off => s.hubRead src h off a
  | .blk off => match src with
    | .port h => (0, s.blkRead h off)
    | _ => s.noReg src a
  | _ => s.noReg src a

/-- Write one aligned word that the source may reach. -/
def State.regWrite (src : Source) (a : Nat) (v : W32) (who : Option (Fin 4 × Byte)) (s : State) : RegAns :=
  match place a with
  | .part p off => s.partWrite src p off a v who
  | .hub h off => s.hubWrite src h off a v
  | .blk off => match src with
    | .port h => s.blkWrite h off v
    | _ => .now 0x3F01 (s.noReg src a).2.2
  | _ => .now 0x3F01 (s.noReg src a).2.2

/-- A partial or misaligned access to a register (R245, R493): nothing is done. -/
def State.regBad (src : Source) (a : Nat) (s : State) : Code × State :=
  match place a with
  | .part p off => if isSemArea off then (0x2A05, s.semInvalid src (.part p) off) else (0x3F01, s.regLog src a 0x3F01)
  | .hub h off => if isSemArea off then (0x2A05, s.semInvalid src (.hub h) off) else (0x3F01, s.regLog src a 0x3F01)
  | _ => (0x3F01, s.regLog src a 0x3F01)

/-- Read words in order, the low one first (R493); the first error status ends them. -/
def State.readWords (src : Source) : Nat → Nat → State → Code × List W32 × State
  | 0, _, s => (0, [], s)
  | n + 1, a, s =>
    let st := s.regStatus src a false
    if st ≠ 0 then (st, [], s.regLog src a st)
    else
      let r := s.regRead src a
      if r.1 = 0 then
        let r' := State.readWords src n (a + 4) r.2.2
        (r'.1, r.2.1 :: r'.2.1, r'.2.2)
      else (r.1, [], r.2.2)

/-- Write words in order. -/
def State.writeWords (src : Source) (who : Option (Fin 4 × Byte)) : List W32 → Nat → State → RegAns
  | [], _, s => .now 0 s
  | v :: t, a, s =>
    let st := s.regStatus src a true
    if st ≠ 0 then .now st (s.regLog src a st)
    else
      match s.regWrite src a v who with
      | .now 0 s => State.writeWords src who t (a + 4) s
      | .later s => .later (State.writeWords src none t (a + 4) s).state
      | r => r

/-- A read of n bytes of register space. -/
def State.regReadN (src : Source) (a n : Nat) (s : State) : Code × List W32 × State :=
  if a % 4 ≠ 0 ∨ n % 4 ≠ 0 then
    let st := s.regStatus src a false
    if st ≠ 0 then (st, [], s.regLog src a st) else ((s.regBad src a).1, [], (s.regBad src a).2)
  else s.readWords src (n / 4) a

/-- A write of n bytes of register space, n being 4 times the words given unless the access is partial. -/
def State.regWriteN (src : Source) (a n : Nat) (data : List W32) (who : Option (Fin 4 × Byte)) (s : State) : RegAns :=
  let st := s.regStatus src a true
  if st ≠ 0 then .now st (s.regLog src a st)
  else
    match place a with
    | .part p off =>
      if 0x800000 ≤ off then
        let r := if n % 4 = 0 then s.storeWrite src p off data else s.storePartial src p off
        .now r.1 r.2
      else if a % 4 ≠ 0 ∨ n % 4 ≠ 0 then .now (s.regBad src a).1 (s.regBad src a).2
      else s.writeWords src who data a
    | _ => if a % 4 ≠ 0 ∨ n % 4 ≠ 0 then .now (s.regBad src a).1 (s.regBad src a).2 else s.writeWords src who data a

/-- A command that writes one word at a block-local address. -/
def State.writeCommand (src : Source) (a : Nat) (v : W32) (s : State) : State :=
  s.regCommand src a fun s =>
    let r := s.regWriteN src a 4 [v] none
    (r.status, r.state)

/-- A command that reads one word at a block-local address. -/
def State.readCommand (src : Source) (a : Nat) (s : State) : State :=
  s.regReadCommand src a fun s =>
    match s.regReadN src a 4 with
    | (st, d, s) => (st, nth 0 d 0, s)

/-- A full address names this device (R491). -/
def State.local (s : State) (a : BitVec 56) : Bool := s.thisDevice (fld a 48 8)

/-- Bits of the RW fields that hardware updates too (R15): CSR, steer-slot, stripe-list, counter-set and grid-entry words
of a core (R40, R95, R104, R107, R112), arrival counters and valid bits (R164, R166), and LOG_RD (R459). -/
def hardwareBits (a : Nat) : W32 :=
  match place a with
  | .part _ off =>
    let g := off % 0x20000
    let u := (off - 0x480000) % 0x4000
    if off < 0x400000 then
      (if g < 0x200 ∨ 0x2000 ≤ g ∧ g < 0x10000 then 0xFFFFFFFF
       else if 0x1000 ≤ g ∧ g < 0x1800 then
         (if g / 4 % 8 = 0 then 0xFFF else if g / 4 % 8 = 2 then 0xFE00000 else if 4 ≤ g / 4 % 8 then 0xFFFFFFFF else 0)
       else 0)
    else if 0x480000 ≤ off ∧ off < 0x500000 ∧ (0x100 ≤ u ∧ u < 0x140 ∨ 0x1000 ≤ u ∧ u < 0x2800) then 0xFFFFFFFF
    else 0
  | .blk off => if 0x6000 ≤ off ∧ off < 0x6100 ∧ off % 0x40 = 4 then 0xFFFFFFFF else 0
  | _ => 0

/-- What is left of a register write when hardware updates some of its fields in the same cycle (R15): the write to those
fields is lost. `clash` has a one at each bit of such a field; bits that only software writes, and W1C bits, are written
all the same. -/
def State.survives (s : State) (src : Source) (a : Nat) (v clash : W32) : W32 :=
  let m := clash &&& hardwareBits a
  (v &&& ~~~m) ||| ((s.regRead src a).2.1 &&& m)

/-- R12 REGISTER_WRITE. -/
def execRegisterWrite (src : Source) (a : BitVec 56) (v : W32) (s : State) (clash : W32 := 0) : Out :=
  .next (if s.local a then s.writeCommand src (fld a 0 48) (s.survives src (fld a 0 48) v clash) else s)
/-- R12 READ_CLEAR. -/
def execReadClear (src : Source) (a : BitVec 56) (s : State) : Out :=
  .next (if s.local a then s.readCommand src (fld a 0 48) else s)
/-- R478 LATCHING_READ. -/
def execLatchingRead (src : Source) (a : BitVec 56) (s : State) : Out :=
  .next (if s.local a then s.readCommand src (fld a 0 48) else s)

/-- R39 GRID_ENT_WRITE. -/
def execGridEntWrite (src : Source) (p : Fin 12) (l : Fin 32) (e : Fin 128) (v : W32) (s : State) : Out :=
  .next (s.regCommand src (partBase p + 0x20000 * l.val + 4 * e.val) fun s => (0, s.entPut p l e.val v))
/-- R94 GRID_CSR_WRITE. -/
def execGridCsrWrite (src : Source) (p : Fin 12) (l : Fin 32) (n : Fin 4096) (v : W32) (s : State) : Out :=
  .next (s.regCommand src (partBase p + 0x20000 * l.val + 0x4000 + 4 * n.val) fun s => (0, s.csrPut p l n.val v))
/-- R101 STEER_SLOT_WRITE. -/
def execSteerSlotWrite (src : Source) (p : Fin 12) (l : Fin 32) (k : Fin 64) (w : Fin 8) (v : W32) (s : State) : Out :=
  .next (s.regCommand src (partBase p + 0x20000 * l.val + 0x1000 + 32 * k.val + 4 * w.val) fun s => (0, s.slotWrite p l k.val w.val v))

/-- R177 DESCRIPTOR_ENTRY_WRITE. -/
def execDescriptorEntryWrite (src : Source) (p : Fin 12) (hd : BitVec 17) (ent : BitVec 512) (s : State) : Out :=
  let a := partBase p + 0x800000 + 64 * hd.toNat
  .next (s.regCommand src a fun s => s.storeWrite src p (0x800000 + 64 * hd.toNat) (wordsOf (bytesOf 64 ent.toNat)))

/-- Block-local base of a channel's register set (R292). -/
def chanBase : ChanId → Nat
  | .core p l n => partBase p + 0x500200 + 0x1000 * l.val + 0x40 * n.val
  | .trunk p t => partBase p + 0x453000 + 0x40 * t.val

/-- R266 RING_COMMIT. -/
def execRingCommit (src : Source) (c : ChanId) (v : W32) (s : State) : Out :=
  .next (s.regCommand src (chanBase c + 4) fun s => (0, s.ringCommit c v))
/-- R266 TAIL_WRITE. -/
def execTailWrite (src : Source) (c : ChanId) (v : W32) (s : State) : Out :=
  .next (s.regCommand src (chanBase c + 0xC) fun s => (0, s.tailWrite c v))
/-- R268 TRUNK_CTAIL_BC. -/
def execTrunkCtailBc (src : Source) (p : Fin 12) (v : W32) (s : State) : Out :=
  .next (s.regCommand src (partBase p + 0x453400) fun s => (0, s.tailBroadcast p v))
/-- R285 TRUNK_DEPOT_INV. -/
def execTrunkDepotInv (src : Source) (p : Fin 12) (v : W32) (s : State) : Out :=
  .next (s.regCommand src (partBase p + 0x453420) fun s => (0, if bit v 0 then s.depotEmpty p else s))
/-- R286 RELAY_PUSH. -/
def execRelayPush (src : Source) (p : Fin 12) (q : Fin 64) (v : W32) (s : State) : Out :=
  .next (s.regCommand src (partBase p + 0x452000 + 8 * q.val) fun s => s.relayPut src p q.val v)
/-- R286 RELAY_POP. -/
def execRelayPop (src : Source) (p : Fin 12) (q : Fin 64) (s : State) : Out :=
  .next (s.regReadCommand src (partBase p + 0x452004 + 8 * q.val) fun s => (0, s.relayTake p q.val))
/-- R243 CLAIM_READ. -/
def execClaimRead (src : Source) (p : Fin 12) (n : Fin 32) (s : State) : Out :=
  .next (s.regReadCommand src (partBase p + 0x456800 + 8 * n.val) fun s => (0, s.claim src p n.val))
/-- R243 CLAIM_RELEASE. -/
def execClaimRelease (src : Source) (p : Fin 12) (n : Fin 32) (v : W32) (s : State) : Out :=
  .next (s.regCommand src (partBase p + 0x456804 + 8 * n.val) fun s => (0, s.release src p n.val v))

/-- Block-local base of the views of a space (R245). -/
def spaceBase : SemSpace → Nat
  | .part p => partBase p + 0x400000
  | .hub h => hubBase h + 0x400000

/-- A write through a view to a word that the space holds (R245). -/
def State.viewCommand (src : Source) (sp : SemSpace) (ctr : Bool) (view : Nat) (i : BitVec 12) (v : W32) (s : State) : State :=
  if i.toNat < semLimit sp ctr then s.writeCommand src (spaceBase sp + view + 4 * i.toNat) v else s

/-- R248 SEMAPHORE_SET. -/
def execSemaphoreSet (src : Source) (sp : SemSpace) (i : BitVec 12) (v : W32) (s : State) : Out := .next (s.viewCommand src sp false 0 i v)
/-- R245 ADD_ALIAS. -/
def execAddAlias (src : Source) (sp : SemSpace) (i : BitVec 12) (v : W32) (s : State) : Out := .next (s.viewCommand src sp false 0x10000 i v)
/-- R245 SUB_ALIAS. -/
def execSubAlias (src : Source) (sp : SemSpace) (i : BitVec 12) (v : W32) (s : State) : Out := .next (s.viewCommand src sp false 0x20000 i v)
/-- R245 COUNTER_SET. -/
def execCounterSet (src : Source) (sp : SemSpace) (i : BitVec 12) (v : W32) (s : State) : Out := .next (s.viewCommand src sp true 0x30000 i v)
/-- R245 INC_ALIAS. -/
def execIncAlias (src : Source) (sp : SemSpace) (i : BitVec 12) (v : W32) (s : State) : Out := .next (s.viewCommand src sp true 0x31000 i v)

/-- R429 GLOBAL_OWNER_WRITE. -/
def execGlobalOwnerWrite (src : Source) (hub : Fin 4) (w : Fin 4) (v : W32) (s : State) : Out :=
  .next (s.regCommand src (blkBase + 0x8400 + 16 * hub.val + 4 * w.val) fun s => s.gownWrite src hub w v)
/-- R419 TASK_RING_COMMIT: of another source than the ring's own port it is ignored. -/
def execTaskRingCommit (src : Source) (h : Fin 4) (v : W32) (s : State) : Out :=
  .next (s.regCommand src (blkBase + 0x2004 + 0x40 * h.val) fun s => if isPortOf h src then s.taskCommit h v else (0, s))
/-- R411 TASK_TAIL_WRITE. -/
def execTaskTailWrite (src : Source) (h : Fin 4) (v : W32) (s : State) : Out :=
  .next (s.regCommand src (blkBase + 0x200C + 0x40 * h.val) fun s => if isPortOf h src then s.taskTail h v else (0, s))
/-- R488 PCTL_CLR: of another source than a control port it is ignored. -/
def execPctlClr (src : Source) (p : Fin 12) (v : W32) (s : State) : Out :=
  .next (s.regCommand src (partBase p + 0x455304) fun s =>
    (0, if isPort src then s.modPart p (Part.pctl v) else s))
/-- R489 TRACE_ENABLE: of another source than a control port it is ignored. -/
def execTraceEnable (src : Source) (p : Fin 12) (v : W32) (s : State) : Out :=
  .next (s.regCommand src (partBase p + 0x455388) fun s =>
    (0, if isPort src then s.modPart p (Part.traceCtl v) else s))

end Sys2Proof.Machine
end

