-- ==== Sys2Proof/Machine/Trace.lean ====
section
/-! DEFINITION. Trace records (R489): 16 B each, in the ring that STAT_TRC_LO and STAT_TRC_HI name. -/

namespace Sys2Proof.Machine

/-- A requester is the trace unit of partition p. -/
def isTrace (p : Fin 12) : Requester → Bool
  | .trace q => decide (q = p)
  | _ => false

/-- Trace records of a partition on their way to the ring. -/
def State.traceQueue (s : State) (p : Fin 12) : Nat :=
  (s.stackPorts.toList.map fun k => (k.qWrite.filter fun m => isTrace p m.who).length).sum
    + (s.parts.toList.map fun q => (q.cores.toList.map fun c => (c.dmaWrite.filter fun m => isTrace p m.who).length).sum).sum
    + (s.links.toList.map fun k => (k.outst.filter fun o => isTrace p o.who).length + (k.waits.filter fun w => w.req.any fun r => isTrace p r.1).length).sum

/-- A record that cannot enter the queue (R489). -/
def State.traceDrop (p : Fin 12) (s : State) : State := s.modPart p fun q => { q with trcDrop := satAdd q.trcDrop 1 }

/-- Write a trace record (R489): nothing once a ring without WRAP is full, and it is dropped when 64 wait. -/
def State.traceRecord (p : Fin 12) (rec : BitVec 128) (s : State) : State :=
  let q := s.part p
  let ring := q.traceRing
  let n := ring.2 / 16
  if q.trcWrap = false ∧ n ≤ q.trcWr.toNat then s
  else if 64 ≤ s.traceQueue p then s.traceDrop p
  else
    let a := (ring.1 + q.trcWr.toNat % n * 16) % 2 ^ 56
    let data := bytesOf 16 rec.toNat
    let s' := s.modPart p fun q => { q with trcWr := q.trcWr + 1 }
    if s.thisDevice (a / 2 ^ 48) then
      s'.memAsk { who := .trace p, src := .seq p, kind := .write, addr := a % 2 ^ 48, len := 16, data := data, got := [],
                  arrive := none, last := false, tail := false, consume := false }
    else
      match s'.sendReq (.trace p) (.seq p) .write a 16 data none false with
      | some s => s
      | none => s.traceDrop p

end Sys2Proof.Machine
end

