-- ==== Sys2Proof/Machine/Bales.lean ====
section
/-! DEFINITION. Bales and what they name (11_caravans.md): fields and checks (R269 to R273), tensors in walk
order (R176, R271), the depot (R283 to R285), and the arithmetic of REDCOPY and XORACC (R274, R457). -/

namespace Sys2Proof.Machine

/-- A bale as its bits stand in the ring (R269). -/
abbrev Bale := BitVec 512

/-- OP. -/
def baleOp (b : Bale) : Nat := fld b 0 8
/-- DPOL. -/
def baleDpol (b : Bale) : BitVec 2 := BitVec.ofNat 2 (fld b 8 2)
/-- MRG. -/
def baleMrg (b : Bale) : Bool := bit b 10
/-- TMR. -/
def baleTmr (b : Bale) : Fin 16 := ⟨fld b 12 4, Nat.mod_lt _ (by decide)⟩
/-- REDOP. -/
def baleRedop (b : Bale) : BitVec 2 := BitVec.ofNat 2 (fld b 27 2)
/-- RWS. -/
def baleRws (b : Bale) : Bool := bit b 29
/-- SHND, DHND and XHND. -/
def baleHandle (b : Bale) (i : Nat) : BitVec 17 := BitVec.ofNat 17 (fld b (64 + 64 * i) 17)
/-- SOFF, DOFF and XOFF. -/
def baleOffset (b : Bale) (i : Nat) : Int := sext 47 (fld b (81 + 64 * i) 47)
/-- Signal word j. -/
def baleSignal (b : Bale) (j : Nat) : BitVec 64 := BitVec.ofNat 64 (fld b (384 + 64 * j) 64)

/-- Field of a wait or signal word: OP, SPACE, HUB, IDX (R270). -/
def wordOp (w : BitVec 64) : Nat := fld w 1 3
/-- SPACE. -/
def wordSpace (w : BitVec 64) : Nat := fld w 4 2
/-- HUB. -/
def wordHub (w : BitVec 64) : Nat := fld w 6 2
/-- IDX. -/
def wordIdx (w : BitVec 64) : Nat := fld w 8 12
/-- VALUE. -/
def wordValue (w : BitVec 64) : Nat := fld w 32 32

/-- A wait word (`sig` false) or a signal word is invalid (R270), for a channel of a core or of the trunk. -/
def wordBad (core sig : Bool) (w : BitVec 64) : Bool :=
  if bit w 0 then
    let op := wordOp w
    decide (5 < op) || (sig != decide (op = 1 ∨ op = 2 ∨ op = 4)) || decide (wordSpace w = 3) || decide (fld w 20 12 ≠ 0)
      || decide (wordSpace w ≠ 1 ∧ wordHub w ≠ 0) || (decide (wordSpace w = 2) && (decide (op ≠ 5) || !core))
  else decide (w ≠ 0)

/-- The index of an enabled word lies beyond its space (R219, R270). -/
def wordRange' (w : BitVec 64) : Bool :=
  let ctr := decide (wordOp w = 4 ∨ wordOp w = 5)
  let lim := if wordSpace w = 0 then (if ctr then 1024 else 4096) else if wordSpace w = 1 then (if ctr then 512 else 2048) else 16
  bit w 0 && decide (lim ≤ wordIdx w)

/-- The channel belongs to a core. -/
def chanIsCore : ChanId → Bool
  | .core _ _ _ => true
  | .trunk _ _ => false

/-- Step 1 of R276: OP, the Zero fields, and the wait and signal words; 0 when all pass. -/
def baleCheck (core : Bool) (b : Bale) : Code :=
  let op := baleOp b
  if 8 < op then 0x4B01
  else if bit b 11 = true ∨ fld b 30 34 ≠ 0 ∨ baleDpol b = 3 ∨ 4 < baleRqop b ∨ (op = 4 ∧ baleRedop b = 3) ∨ (op ≠ 4 ∧ baleRedop b ≠ 0)
      ∨ (op ≠ 7 ∧ baleRws b = true) ∨ (op ≠ 2 ∧ op ≠ 3 ∧ fld b 192 64 ≠ 0) ∨ (op = 7 ∧ fld b 184 8 ≠ 0) then 0x4B02
  else if (wordBad core false (baleWait b 0) || wordBad core false (baleWait b 1) || wordBad core true (baleSignal b 0)
      || wordBad core true (baleSignal b 1)) = true then 0x4B02
  else if ([baleWait b 0, baleWait b 1, baleSignal b 0, baleSignal b 1].any wordRange') = true then 0x3902
  else 0

/-- The references an operation uses (R271): 0 source, 1 destination, 2 index. -/
def baleNeeds (b : Bale) : List Nat :=
  let op := baleOp b
  if op = 1 ∨ op = 4 ∨ op = 5 ∨ op = 6 then [0, 1]
  else if op = 2 ∨ op = 3 then [0, 1, 2]
  else if op = 8 then [0]
  else []

/-- A bale after a relay pop (R276 step 2): the handle popped replaces SHND or DHND. -/
def Cur.resolved (u : Cur) : Bale :=
  match u.popped with
  | none => u.bale
  | some h =>
    let lo := if baleRqop u.bale = 1 then 64 else 128
    (u.bale &&& ~~~(BitVec.ofNat 512 (0x1FFFF * 2 ^ lo))) ||| BitVec.ofNat 512 (h.toNat * 2 ^ lo)

/-- A descriptor with its base moved by an offset (R182). -/
def descMove (d : DescRec) (off : Int) : DescRec :=
  (d &&& ~~~(BitVec.ofNat 512 (2 ^ 56 - 1))) ||| BitVec.ofNat 512 (((descBase d : Int) + off) % (2 ^ 56 : Int)).toNat

/-- Bytes of dimension 0. -/
def descRow (d : DescRec) : Nat := descExt d 0 * fmtBits (descFmt d) / 8

/-- Lines of a tensor of one or two dimensions (R272). -/
def descLines (d : DescRec) : Nat := if descDims d = 0 then 1 else descExt d 1

/-- Line j (R272): its first byte and its length. -/
def descLine (d : DescRec) (j : Nat) : Nat × Nat := (descBase d + j * descStr d 1, descRow d)

/-- The lines of a tensor in walk order (R176, R271); an empty tensor has none (R178). -/
def descWalk (d : DescRec) : List (Nat × Nat) :=
  if descEmpty d then []
  else
    let ext := fun n => if n ≤ descDims d then descExt d n else 1
    (List.range (ext 3)).flatMap fun i3 => (List.range (ext 2)).flatMap fun i2 => (List.range (ext 1)).map fun i1 =>
      (descBase d + i1 * descStr d 1 + i2 * descStr d 2 + i3 * descStr d 3, descRow d)

/-- The operands of a bale agree (R272, R280), its references being not null where `nul` says so: a check that
names a null reference passes. -/
def operandsOk (core : Bool) (b : Bale) (s d x : DescRec) (ns nd nx : Bool) : Bool :=
  let op := baleOp b
  let both := fun c : Bool => ns || nd || c
  let g := fun (t : DescRec) => fmtGrid (descFmt t)
  let loc := core || ((ns || !descLoc s) && (!decide (op = 2 ∨ op = 3) || nx || !descLoc x))
  if op = 1 then
    loc && both (decide (descCount s = descCount d) && (!(g s || g d) || decide (descFmt s = descFmt d)))
  else if op = 4 then
    loc && both (decide (descCount s = descCount d))
      && (nd || decide (descFmt d = 8 ∨ descFmt d = 0 ∨ descFmt d = 1 ∨ descFmt d = 9)) && (ns || !g s)
  else if op = 5 then
    loc && both (decide (descCount s * fmtBits (descFmt s) = descCount d * fmtBits (descFmt d)))
  else if op = 2 ∨ op = 3 then
    let none := nx || descEmpty x
    let side := if op = 2 then d else s
    let nside := if op = 2 then nd else ns
    loc && (none || decide (descFmt x = 9 ∧ descDims x = 0))
      && both (decide (descFmt s = descFmt d ∧ descExt s 0 = descExt d 0))
      && (ns || decide (descDims s ≤ 1)) && (nd || decide (descDims d ≤ 1))
      && (none || nside || decide (descExt x 0 ≤ descLines side))
  else if op = 6 then loc && (nd || (!descEmpty d && decide (7 ≤ descSpan d)))
  else if op = 8 then loc
  else true

/-- RWRITE: its address (R271). -/
def rwAddr (b : Bale) : Nat := fld b 128 56
/-- RWRITE: the bytes written. -/
def rwSize (b : Bale) : Nat := if baleRws b then 8 else 4

/-- An RWRITE may write there (R272). -/
def rwriteOk (q : Part) (b : Bale) : Bool :=
  decide (rwAddr b % rwSize b = 0) && q.inWindows (rwAddr b) (rwAddr b + rwSize b - 1)

/-- The bale moves nothing (R178, R271, R272): NOP, INVAL, or a null reference. -/
def baleIdle (b : Bale) : Bool :=
  decide (baleOp b = 0 ∨ baleOp b = 8) || (baleNeeds b).any fun i => decide (baleHandle b i = 0)

/-- Elements of a byte string converted to another format in walk order (R271, R274). -/
def convertBytes (ieee : Bool) (sf df : BitVec 4) (l : List Byte) : List Byte × ConvFx :=
  if sf = df then (l, .none)
  else
    let n := fmtBits sf
    let r := (List.range (l.length * 8 / max 1 n)).map fun e => convert ieee sf df (elemAt l n e)
    (packElems (fmtBits df) (r.map Prod.fst), r.foldl (fun a e => a.and e.2) .none)

/-- One element update of a REDCOPY (R274): the new element from the old one and the one that arrives. -/
def redElem (op : BitVec 2) (f : BitVec 4) (old new : Nat) : Nat × ConvFx :=
  if f = 9 then
    let a := (BitVec.ofNat 32 old).toInt
    let b := (BitVec.ofNat 32 new).toInt
    if op = 0 then clampInt 32 (a + b)
    else if op = 1 then clampInt 32 (max a b)
    else clampInt 32 (min a b)
  else
    let a := fmtNum f old
    let b := fmtNum f new
    convNum false f (if op = 0 then a.add b else if op = 1 then a.max b else a.min b)

/-- The bytes that an update leaves (R274, R457), and what it counts. -/
def updateBytes (k : ReqKind) (old new : List Byte) : List Byte × ConvFx :=
  match k with
  | .redcopy op f =>
    let n := fmtBits f
    let m := new.length * 8 / max 1 n
    let r := (List.range m).map fun e => redElem op f (elemAt old n e) (elemAt new n e)
    let d := packElems n (r.map Prod.fst)
    (d ++ (old.drop d.length).take (new.length - d.length), r.foldl (fun a e => a.and e.2) .none)
  | .xoracc => (List.zipWith (fun a b => a ^^^ b) old new, .none)
  | _ => (new, .none)

/-- Conversions of a trunk channel, or of a link's REDCOPY at a port of the partition (R274, R296). -/
def State.convTrunk (p : Fin 12) (fx : ConvFx) (s : State) : State :=
  if fx.cnt = 0 then s
  else
    let old := (s.part p).tconvFlags
    let m : BitVec 2 := BitVec.ofNat 2 ((if fx.sat then 1 else 0) + if fx.nan then 2 else 0)
    let s := s.modPart p fun q => { q with tconvCnt := satAdd q.tconvCnt fx.cnt, tconvFlags := q.tconvFlags ||| m }
    let s := if fx.sat && !old.getLsbD 0 then s.logPart p 0x1B02 0 else s
    if fx.nan && !old.getLsbD 1 then s.logPart p 0x1B03 0 else s

/-- Conversions of a channel (R274, R296). -/
def State.convChan (c : ChanId) (fx : ConvFx) (s : State) : State :=
  match c with
  | .core p l _ => s.convCount p l 0x1B02 0x1B03 fx
  | .trunk p _ => s.convTrunk p fx

/-- Conversions at a destination port of partition p (R274): those of a channel's update are the channel's. -/
def State.convAt (p : Fin 12) (who : Requester) (fx : ConvFx) (s : State) : State :=
  match who with
  | .chan c _ _ => s.convChan c fx
  | _ => s.convTrunk p fx

/-- The depot half that serves a channel (R283), as its die. -/
def chanDie : ChanId → Fin 24
  | .core p l _ => coreDie p l
  | .trunk p _ => coreDie p 0

/-- A depot half, by its die. -/
def State.depot (s : State) (d : Fin 24) : Depot := vget Depot.empty (s.part (stackPart d)).depots (d.val % 2)

/-- Apply a change to a depot half. -/
def State.modDepot (d : Fin 24) (f : Depot → Depot) (s : State) : State :=
  s.modPart (stackPart d) fun q => { q with depots := vset q.depots (d.val % 2) (f (vget Depot.empty q.depots (d.val % 2))) }

/-- The line of an address, and its set (R283). -/
def depotBase (a : Nat) : Nat := a / 512 * 512
/-- The set of a line. -/
def depotSet (a : Nat) : Nat := a / 512 % 4096

/-- A line of a depot half. -/
def Depot.line (d : Depot) (base : Nat) : Option DepotLine :=
  (Sparse.get DepotSet.empty d.sets (depotSet base)).ways.findSome? fun w => match w with
    | some l => if l.base = base then some l else none
    | none => none

/-- Point the pseudo-LRU tree away from a way (R284): `n` levels from node `i`, the way's bits from the top. -/
def plruTouch (t : BitVec 15) (way : Nat) : Nat → Nat → BitVec 15
  | 0, _ => t
  | n + 1, i =>
    let right := decide (way / 2 ^ n % 2 = 1)
    let m := BitVec.ofNat 15 (2 ^ i)
    plruTouch (if right then t &&& ~~~m else t ||| m) way n (2 * i + if right then 2 else 1)

/-- The way that the pseudo-LRU tree gives up. -/
def plruVictim (t : BitVec 15) : Nat → Nat → Nat
  | 0, _ => 0
  | n + 1, i => if t.getLsbD i then 2 ^ n + plruVictim t n (2 * i + 2) else plruVictim t n (2 * i + 1)

/-- Change the set of a line. -/
def Depot.modSet (d : Depot) (base : Nat) (f : DepotSet → DepotSet) : Depot :=
  { d with sets := Sparse.put DepotSet.empty (depotSet base) (f (Sparse.get DepotSet.empty d.sets (depotSet base))) d.sets }

/-- A hit (R284). -/
def Depot.touch (d : Depot) (base : Nat) : Depot :=
  d.modSet base fun s => match s.ways.findIdx? fun w => match w with
      | some l => decide (l.base = base)
      | none => false with
    | some i => { s with plru := plruTouch s.plru i 4 0 }
    | none => s

/-- Allocate a line (R283, R284): an empty way, else the victim. -/
def Depot.alloc (d : Depot) (l : DepotLine) : Depot :=
  d.modSet l.base fun s =>
    let i := (s.ways.findIdx? Option.isNone).getD (plruVictim s.plru 4 0)
    { ways := s.ways.set i (some l), plru := plruTouch s.plru i 4 0 }

/-- Replace bytes of a string from an offset. -/
def overlay (l : List Byte) (off : Nat) (d : List Byte) : List Byte := l.take off ++ d ++ l.drop (off + d.length)

/-- A channel of the die writes bytes inside one line (R285): a matching line, or one whose fill is on its way,
takes them. -/
def Depot.update (d : Depot) (a : Nat) (data : List Byte) : Depot :=
  let base := depotBase a
  let d := if (d.line base).isSome then d.modSet base fun s =>
      { s with ways := s.ways.map fun w => w.map fun l => if l.base = base then { l with data := overlay l.data (a - base) data } else l }
    else d
  { d with fills := d.fills.map fun f => if f.base = base then { f with upd := f.upd ++ [(a - base, data)] } else f }

/-- Remove the lines of bytes lo to hi (R285). -/
def Depot.drop (d : Depot) (lo hi : Nat) : Depot :=
  let inside := fun base : Nat => decide (depotBase lo ≤ base) && decide (base ≤ hi)
  { sets := (d.sets.map fun e => (e.1, { e.2 with ways := e.2.ways.map fun w => w.filter fun l => !inside l.base })).filter
      fun e => decide (e.2 ≠ DepotSet.empty)
    fills := d.fills.map fun f => if inside f.base then { f with alloc := false } else f }

/-- Remove the lines of a tensor's footprint from a depot half (R283, R285): block-local HBM only. -/
def State.depotDrop (die : Fin 24) (d : DescRec) (s : State) : State :=
  let a := descBase d
  if descEmpty d || descLoc d || !s.thisDevice (a / 2 ^ 48) || !isHbm a then s
  else s.modDepot die fun t => t.drop (a % 2 ^ 48) (a % 2 ^ 48 + descSpan d)

end Sys2Proof.Machine
end

