-- ==== Sys2Proof/Machine/Caravan.lean ====
section
/-! DEFINITION. Caravan channels (R265 to R291): the life of a bale (R276), merging (R278), reads and writes
(R277, R279, R280), relay queues (R286) and deadline timers (R288). -/

namespace Sys2Proof.Machine

/-- A channel completes what it has started (R290, R448): its partition runs a task that is not aborting, and it
is neither stopped nor that of a fenced core. While a capture quiesces it starts no further bale (R454). -/
def State.chanOpen (s : State) (c : ChanId) : Bool :=
  let q := s.part (chanPart c)
  let k := s.chan c
  q.task.isSome && q.abort.isNone && !k.stopped && k.flush.isNone && decide (s.phase = .ready)
    && (match c with
        | .core _ l _ => !q.cores[l].fenced
        | .trunk _ _ => true)

/-- Number of the next bale that the channel starts (R276). -/
def Chan.nextBale (k : Chan) : W32 := k.head + BitVec.ofNat 32 ((k.runs.map fun r => r.bales.length).sum)

/-- Full address of bale i (R265). -/
def Chan.baleAddr (k : Chan) (i : W32) : Nat :=
  (k.ringHi.toNat * 2 ^ 32 + fld k.ringLo 6 26 * 64 + i.toNat % 2 ^ fld k.ringLo 0 5 * 64) % 2 ^ 56

/-- Ask for a bale of the ring (R265, R267): the fetch bypasses the depot. -/
def State.ringAsk (c : ChanId) (i : W32) (s : State) : State :=
  let k := s.chan c
  (s.modChan c fun k => { k with ring := k.ring ++ [(k.serial, i, none)], serial := k.serial + 1 }).request (.ring c k.serial) (.chan c) .read
    (k.baleAddr i) 64 []

/-- What is known of bale i of the ring: nothing asked for, a fetch on its way, or what it brought. -/
def Chan.ringGot (k : Chan) (i : W32) : Option (Option (Code × List Byte)) :=
  (k.ring.find? fun e => decide (e.2.1 = i)).map fun e => e.2.2

/-- The bale fetched has come back (R276 step 1): its fields are checked. -/
def State.baleCome (c : ChanId) (st : Code) (d : List Byte) (s : State) : State :=
  let s := s.modChan c fun k => { k with ring := k.ring.filter fun e => decide (e.2.1 ≠ k.nextBale) }
  let b : Bale := BitVec.ofNat 512 (ofBytes d)
  let code := baleCheck (chanIsCore c) b
  if st ≠ 0 then s.chanFault c 0x5B01 (BitVec.ofNat 64 st.toNat)
  else if code ≠ 0 then s.chanFault c code 0
  else s.modChan c fun k => { k with cur := some { bale := b, popped := none, popOk := false, w0 := false, w1 := false, since := s.now } }

/-- A parity error of a channel is an internal state error; it names the channel's core, if it has one (R446). -/
def State.chanParity (c : ChanId) (s : State) : State :=
  (match c with
   | .core p l _ => s.modCore p l fun e => { e with cand := true }
   | .trunk _ _ => s).chanFault c 0xFB01 0

/-- R276 BALE_FETCH: step 1; the bale is asked for, and taken once it is back, unless the channel meets a parity error (R446). -/
def execBaleFetch (c : ChanId) (parity : Bool) (s : State) : Out :=
  let k := s.chan c
  .next (if s.chanRuns c && k.cur.isNone && decide (k.nextBale ≠ k.tail) then
      if parity then s.chanParity c else
      match k.ringGot k.nextBale with
      | none => s.ringAsk c k.nextBale
      | some none => s
      | some (some (st, d)) => s.baleCome c st d
    else s)

/-- R286 BALE_RELAY_POP: step 2, once the queue holds a handle. -/
def execBaleRelayPop (c : ChanId) (s : State) : Out :=
  .next (if s.chanRuns c then
      match (s.chan c).popWait with
      | none => s
      | some (n, _) =>
        match vget [] (s.part (chanPart c)).relay n with
        | [] => s
        | h :: t =>
          (s.modPart (chanPart c) fun q => { q with relay := vset q.relay n t }).modChan c fun k =>
            { k with cur := k.cur.map fun u => { u with popped := some h, popOk := true, since := s.now } }
    else s)

/-- The descriptor cache of a channel (R183). -/
def State.chanCache (s : State) (c : ChanId) : List (BitVec 17 × DescRec) :=
  match c with
  | .core p l _ => (s.core p l).dcache
  | .trunk p _ => (s.part p).tcache

/-- Handles that the channel's cache lacks ask the store (R183). -/
def State.askDescs (c : ChanId) (hs : List (BitVec 17)) (s : State) : State :=
  hs.foldl (fun s h => match c with
    | .core p l _ => s.modPart p (Part.miss (some l) h)
    | .trunk p _ => s.modPart p (Part.miss none h)) s

/-- A use of a handle makes its entry the most recently used (R183). -/
def State.touchDesc (c : ChanId) (h : BitVec 17) (s : State) : State :=
  match c with
  | .core p l _ => s.modCore p l fun k => { k with dcache := lruTouch h k.dcache }
  | .trunk p _ => s.modPart p fun q => { q with tcache := lruTouch h q.tcache }

/-- The handles of a bale that the channel's cache lacks. -/
def State.missingDescs (s : State) (c : ChanId) (b : Bale) : List (BitVec 17) :=
  ((baleNeeds b).map (baleHandle b)).filter fun h => decide (h ≠ 0) && (lruFind h (s.chanCache c)).isNone

/-- Reference i of a bale, its descriptor at hand (R181, R186): the fault, or the descriptor with its base
moved; an unused or null reference is empty. -/
def State.baleRef (s : State) (c : ChanId) (b : Bale) (i : Nat) : Code ⊕ DescRec :=
  let h := baleHandle b i
  if (baleNeeds b).contains i && decide (h ≠ 0) then
    let d := (lruFind h (s.chanCache c)).getD 0
    let off := baleOffset b i
    match descUse (s.part (chanPart c)) h d off with
    | some code => .inl code
    | none => if i = 1 ∧ descRo d = true then .inl 0x3806 else .inr (descMove d off)
  else .inr 0

/-- Step 4 of R276: every reference, then the agreement of the operands. -/
def State.baleRefs (s : State) (c : ChanId) (b : Bale) : Code ⊕ (DescRec × DescRec × DescRec) :=
  match s.baleRef c b 0 with
  | .inl e => .inl e
  | .inr sd =>
    match s.baleRef c b 1 with
    | .inl e => .inl e
    | .inr dd =>
      match s.baleRef c b 2 with
      | .inl e => .inl e
      | .inr xd =>
        if operandsOk (chanIsCore c) b sd dd xd (decide (baleHandle b 0 = 0)) (decide (baleHandle b 1 = 0)) (decide (baleHandle b 2 = 0))
            && (decide (baleOp b ≠ 7) || rwriteOk (s.part (chanPart c)) b)
        then .inr (sd, dd, xd) else .inl 0x3B04

/-- Bytes of a tensor of one dimension. -/
def flatBytes (d : DescRec) : Nat := descRow d

/-- The next bale may join a merged transfer whose last bale has source s1 and destination d1 (R278). -/
def mergeable (s1 d1 s2 d2 : DescRec) : Bool :=
  decide (descDims s2 = 0 ∧ descDims d2 = 0) && !descEmpty s2 && !descEmpty d2
    && decide (descFmt s1 = descFmt s2 ∧ descFmt d1 = descFmt d2) && (descLoc s1 == descLoc s2) && (descLoc d1 == descLoc d2)
    && decide (descBase s2 = descBase s1 + flatBytes s1) && decide (descBase d2 = descBase d1 + flatBytes d1)

/-- A bale as R278 asks the second one to be: a COPY without an enabled wait, a relay pop or TARM. -/
def mergeBale (b : Bale) : Bool :=
  decide (baleOp b = 1) && !bit (baleWait b 0) 0 && !bit (baleWait b 1) 0 && decide (baleRqop b ≠ 1 ∧ baleRqop b ≠ 2) && !bit b 16

/-- The bale at ring index i, if it merges with one of these descriptors that moves `total` bytes so far (R278):
none while the bale or a descriptor that decides it is on its way, else the bale, if it merges. -/
def State.mergeOne (c : ChanId) (i : W32) (sd dd : DescRec) (total : Nat) (s : State) :
    Option (Option (Bale × DescRec × DescRec)) × State :=
  match (s.chan c).ringGot i with
  | none => (none, s.ringAsk c i)
  | some none => (none, s)
  | some (some (st, d)) =>
    let b2 : Bale := BitVec.ofNat 512 (ofBytes d)
    if decide (st = 0) && mergeBale b2 && decide (baleCheck (chanIsCore c) b2 = 0) && !baleIdle b2 then
      let miss := s.missingDescs c b2
      if miss ≠ [] then (none, s.askDescs c miss)
      else
        match s.baleRefs c b2 with
        | .inl _ => (some none, s)
        | .inr (s2, d2, _) =>
          (some (if mergeable sd dd s2 d2 && decide (total + flatBytes s2 ≤ 4096) then some (b2, s2, d2) else none), s)
    else (some none, s)

/-- A merge under way (R278): the bales found so far, newest first, the last one being `last`, `total` source
bytes long; `ended` once no further bale joins, `wait` while what decides it is on its way. -/
structure Merge where
  next   : W32
  last   : Bale × DescRec × DescRec
  total  : Nat
  found  : List (Bale × DescRec × DescRec)
  ended   : Bool
  wait   : Bool
  state  : State
deriving DecidableEq, Repr

/-- Look at the next bale. -/
def mergeStep (c : ChanId) (m : Merge) : Merge :=
  if m.ended then m
  else if baleMrg m.last.1 = false ∨ m.next = (m.state.chan c).tail then { m with ended := true }
  else
    let one := m.state.mergeOne c m.next m.last.2.1 m.last.2.2 m.total
    match one.1 with
    | none => { m with ended := true, wait := true, state := one.2 }
    | some none => { m with ended := true, state := one.2 }
    | some (some e) => { m with next := m.next + 1, last := e, total := m.total + flatBytes e.2.1, found := e :: m.found, state := one.2 }

/-- Look at the next n bales, until no further one joins. -/
def mergeRun (c : ChanId) : Nat → Merge → Merge
  | 0, m => m
  | n + 1, m => if m.ended then m else mergeRun c n (mergeStep c m)

/-- The bales up to the ring tail that merge with bale b (R278): none while what decides it is on its way. The next bale joins when
R278's test holds, and up to `more` further ones, which R278 lets the transfer take in (log entry 46). No more than 4,096
do, each moving a byte or more. -/
def State.mergeNext (c : ChanId) (more : Nat) (b : Bale) (sd dd : DescRec) (s : State) : Option (List (Bale × DescRec × DescRec)) × State :=
  let i := (s.chan c).nextBale + 1
  let m := mergeRun c (min (min 4095 more + 1) ((s.chan c).tail - i).toNat)
    { next := i, last := (b, sd, dd), total := flatBytes sd, found := [], ended := false, wait := false, state := s }
  (if m.wait then none else some m.found.reverse, m.state)

/-- Full address of a byte of a tensor as the channel reads it (R176, R280). -/
def chanAddr (c : ChanId) (d : DescRec) (a : Nat) : Nat :=
  if descLoc d then
    match c with
    | .core p l _ => 0xFF * 2 ^ 48 + spadBase p l + a
    | .trunk _ _ => a
  else a

/-- Full addresses that a write to a byte of a destination reaches (R280). -/
def State.destAddrs (s : State) (c : ChanId) (d : DescRec) (a : Nat) : List Nat :=
  if descLoc d then
    match c with
    | .core p l _ => [0xFF * 2 ^ 48 + spadBase p l + a]
    | .trunk p _ => (s.part p).live.map fun l => 0xFF * 2 ^ 48 + spadBase p l + a
  else [a]

/-- The reads of lines of a source (R277, R279): runs of at most 512 B, none across a row or a depot line. -/
def balePieces (c : ChanId) (b : Bale) (d : DescRec) (lines : List (Nat × Nat)) : List Piece :=
  lines.flatMap fun e => (pieces 512 (chanAddr c d e.1) e.2).map fun x =>
    { no := 0, addr := x.1, len := x.2, consume := descCons d, dpol := baleDpol b }

/-- Number the pieces of a bale. -/
def numberPieces (l : List Piece) : List Piece := l.zipIdx.map fun e => { e.1 with no := e.2 }

/-- The lines a source is read by, the index values being known (R271). -/
def sourceLines (b : Bale) (s : DescRec) (idx : List Int) : List (Nat × Nat) :=
  if baleOp b = 2 then idx.map fun j => descLine s j.toNat
  else if baleOp b = 3 then (List.range idx.length).map (descLine s)
  else descWalk s

/-- The lines a destination is written by. -/
def destLines (b : Bale) (d : DescRec) (idx : List Int) : List (Nat × Nat) :=
  if baleOp b = 2 then (List.range idx.length).map (descLine d)
  else if baleOp b = 3 then idx.map fun j => descLine d j.toNat
  else if baleOp b = 6 then [(descBase d, 8)]
  else descWalk d

/-- A write that a channel is about to issue: its address, bytes, arrival field, last-in-row bit, and that bit for a second row
in which its last element ends. -/
structure Chunk where
  addr   : Nat
  data   : List Byte
  arrive : Option (Fin 16)
  last   : Bool
  tail   : Bool
deriving DecidableEq, Repr

/-- Cut n bytes at a into runs of the elements of eb bytes that begin in one row (R274, R277): one byte each, but for updates. -/
def elemRuns (eb : Nat) : Nat → Nat → Nat → List (Nat × Nat)
  | 0, _, _ => []
  | f + 1, a, n =>
    if n = 0 then []
    else
      let m := min n ((512 - a % 512 + eb - 1) / eb * eb)
      (a, m) :: elemRuns eb f (a + m) (n - m)

/-- The writes of lines of a destination, line by line, split at rows, the data being laid along the lines (R277, R280). -/
def State.chunks (s : State) (c : ChanId) (d : DescRec) (eb : Nat) : List (Nat × Nat) → List Byte → List (List Chunk)
  | [], _ => []
  | (a, n) :: t, data =>
    ((elemRuns eb (n / 512 + 2) a n).flatMap fun x => (s.destAddrs c d x.1).map fun y =>
      { addr := y, data := (data.drop (x.1 - a)).take x.2, arrive := descArr d, last := false, tail := false })
    :: State.chunks s c d eb t (data.drop n)

/-- Rows that a write touches: its first and its last. -/
def Chunk.rows (x : Chunk) : Nat × Nat := (x.addr / 512, (x.addr + x.data.length - 1) / 512)

/-- Set the last-in-row bits on the last write to each row (R166, R277). -/
def markLast : List Chunk → List Chunk
  | [] => []
  | x :: t =>
    let ends := fun r : Nat => !t.any fun y => y.rows.1 == r || y.rows.2 == r
    { x with last := ends x.rows.1, tail := ends x.rows.2 } :: markLast t

/-- Two writes share a byte. -/
def chunksOverlap : List Chunk → Bool
  | [] => false
  | x :: t => (t.any fun y => decide (x.addr < y.addr + y.data.length) && decide (y.addr < x.addr + x.data.length)) || chunksOverlap t

/-- Lines in the order in which their writes go out: where some share bytes, which of them stands is open (R179, R273),
and the order begins at a free one of them (log entry 6). -/
def State.writeOrder (s : State) (l : List (List Chunk)) : List Chunk :=
  (if chunksOverlap l.flatten then l.rotateLeft ((s.freeLane 0).toNat % l.length) else l).flatten

/-- Bytes of the elements that a bale may not cut (R274): those of a REDCOPY. -/
def baleElem (b : Bale) (d : DescRec) : Nat := if baleOp b = 4 then max 1 (fmtBits (descFmt d) / 8) else 1

/-- What a write of a bale does at its destination (R271, R274, R457). -/
def baleKind (b : Bale) (d : DescRec) : ReqKind :=
  if baleOp b = 4 then .redcopy (baleRedop b) (descFmt d) else if baleOp b = 5 then .xoracc else .write

/-- Count an outstanding write of a run. -/
def State.countWrite (c : ChanId) (no : W32) (s : State) : State :=
  s.modChan c fun k => { k with runs := k.runs.map fun r => if r.no = no then { r with writes := r.writes + 1 } else r }

/-- A write to register space waits for the writes of earlier bales (R258). -/
def State.holdWrite (c : ChanId) (no : W32) (a : Nat) (d : List Byte) (s : State) : State :=
  s.modChan c fun k => { k with runs := k.runs.map fun r => if r.no = no then { r with regs := r.regs ++ [(a, d)] } else r }

/-- Bytes for a packet, whose length counts 4 B units (R385): what fills the last unit is free (log entry 6). -/
def State.padWord (s : State) (d : List Byte) : List Byte :=
  d ++ (bytesOfWords [s.freeLane 0]).take ((4 - d.length % 4) % 4)

/-- The address is one of registers, not of memory (R490). -/
def isRegSpace (a : Nat) : Bool :=
  match place (a % 2 ^ 48) with
  | .hbm _ _ => false
  | .spad _ _ _ => false
  | _ => true

/-- A write leaves for another device (R386). LIR speaks of every row that a packet touches (R166; log entry 113). -/
def State.sendWrite (c : ChanId) (no : W32) (k : ReqKind) (x : Chunk) (s : State) : State :=
  let s := s.countWrite c no
  match s.sendReq (.chan c no 0) (.chan c) k x.addr x.data.length (s.padWord x.data) x.arrive (x.last && x.tail) with
  | some s => s
  | none => (s.logSrc (.chan c) 0x6C03).complete (.chan c no 0) false 0x6C03 []

/-- Issue one write of a bale (R277, R285, R289): none once the task is aborting (R290). One to registers, here or on another
device, waits for the completion of the bale (R258). -/
def State.issueWrite (c : ChanId) (no : W32) (k : ReqKind) (x : Chunk) (s : State) : State :=
  if s.chanOpen c = false ∨ x.data = [] then s
  else if s.thisDevice (x.addr / 2 ^ 48) then
    let a := x.addr % 2 ^ 48
    let ask : MemReq := { who := .chan c no 0, src := .chan c, kind := k, addr := a, len := x.data.length, data := x.data, got := [],
                          arrive := x.arrive, last := x.last, tail := x.tail, consume := false }
    match place a with
    | .hbm _ _ =>
      ((if k = .write then s.modDepot (chanDie c) fun t => t.update a x.data else s).countWrite c no).memAsk ask
    | .spad _ _ _ => (s.countWrite c no).memAsk ask
    | _ => if k = .write then s.holdWrite c no x.addr x.data else (s.countWrite c no).memAsk ask
  else if k = .write ∧ isRegSpace x.addr = true then s.holdWrite c no x.addr x.data
  else s.sendWrite c no k x

/-- Read tags of the channel's group in use, and how many it has (R279). -/
def State.tags (s : State) : ChanId → Nat × Nat
  | .core p l _ => ((s.core p l).readTags, 192)
  | .trunk p _ => ((s.part p).trunkTags, 384)

/-- Take or free a read tag. -/
def State.modTags (c : ChanId) (f : Nat → Nat) (s : State) : State :=
  match c with
  | .core p l _ => s.modCore p l fun k => { k with readTags := f k.readTags }
  | .trunk p _ => s.modPart p fun q => { q with trunkTags := f q.trunkTags }

/-- A read that the channel's own side answers: its data go to the channel (R279). -/
def State.returnRead (c : ChanId) (no : W32) (piece : Nat) (st : Code) (d : List Byte) (s : State) : State :=
  s.complete (.chan c no piece) true st d

/-- A read of a channel sets out (R277, R279, R283, R284). -/
def State.sendRead (c : ChanId) (no : W32) (x : Piece) (s : State) : State :=
  if s.thisDevice (x.addr / 2 ^ 48) then
    let a := x.addr % 2 ^ 48
    let ask : MemReq := { who := .chan c no x.no, src := .chan c, kind := .read, addr := a, len := x.len, data := [], got := [],
                          arrive := none, last := false, tail := false, consume := x.consume }
    match place a with
    | .hbm _ _ =>
      if x.dpol = 2 then s.memAsk ask
      else
        let die := chanDie c
        let base := depotBase a
        match (s.depot die).line base with
        | some l =>
          (s.modDepot die fun t => t.touch base).returnRead c no x.no 0 ((l.data.drop (a - base)).take x.len)
        | none =>
          let s := s.perf (chanPart c) 7 1
          if (s.depot die).fills.any fun f => f.base == base then
            s.modDepot die fun t => { t with fills := t.fills.map fun f =>
              if f.base = base then { f with wait := f.wait ++ [(c, no, x.no, a - base, x.len)] } else f }
          else if x.dpol = 0 then
            (s.modDepot die fun t => { t with fills := t.fills ++
              [{ base := base, alloc := true, done := none, upd := [], wait := [(c, no, x.no, a - base, x.len)] }] }).memAsk
              { ask with who := .fill die base, addr := base, len := 512, consume := false }
          else s.memAsk ask
    | .spad _ _ _ => s.memAsk ask
    | _ => match s.regReadN (.chan c) a x.len with
      | (st, d, s) => s.returnRead c no x.no st (bytesOfWords d)
  else
    match s.sendReq (.chan c no x.no) (.chan c) .read x.addr x.len [] none false with
    | some s => s
    | none => (s.logSrc (.chan c) 0x6C03).returnRead c no x.no 0x6C03 []

/-- Issue the next read of a channel, if a tag is free and it has one (R279): whether it did. -/
def State.issueRead (c : ChanId) (s : State) : Bool × State :=
  let t := s.tags c
  if s.chanOpen c = false ∨ t.2 ≤ t.1 then (false, s)
  else
    match (s.chan c).runs.find? fun r => !r.todo.isEmpty with
    | none => (false, s)
    | some r =>
      match r.todo with
      | [] => (false, s)
      | x :: rest =>
        let s := (s.modChan c fun k => { k with runs := k.runs.map fun z =>
          if z.no = r.no then { z with todo := rest, reads := z.reads + 1 } else z }).modTags c (· + 1)
        (true, s.sendRead c r.no x)

/-- The channels of a group (R279). -/
def chanGroup : ChanId → List ChanId
  | .core p l n => [ChanId.core p l (n + 1), .core p l (n + 2), .core p l (n + 3), .core p l n]
  | .trunk p t => (List.range 8).map fun i => .trunk p (t + ⟨(i + 1) % 8, Nat.mod_lt _ (by decide)⟩)

/-- Issue reads of a group in turn while tags are free (R279). -/
def State.pumpReads (l : List ChanId) : Nat → State → State
  | 0, s => s
  | n + 1, s =>
    let r := l.foldl (fun (a : Bool × State) c => let z := a.2.issueRead c; (a.1 || z.1, z.2)) (false, s)
    if r.1 then State.pumpReads l n r.2 else r.2

/-- Give the reads of a channel's group the tags that are free. -/
def State.pump (c : ChanId) (s : State) : State := s.pumpReads (chanGroup c) 384

/-- Apply a change to a started bale. -/
def State.modRun (c : ChanId) (no : W32) (f : BaleRun → BaleRun) (s : State) : State :=
  s.modChan c fun k => { k with runs := k.runs.map fun r => if r.no = no then f r else r }

/-- The bytes that a run's reads have returned, in order. -/
def BaleRun.data (r : BaleRun) : List Byte :=
  ((List.range r.got.length).map fun i => match r.got.find? fun e => e.1 == i with
    | some e => e.2
    | none => []).flatten

/-- Lengths of the sources of the bales of a run, with what each writes (R278): its lines and its data; `ieee` is IEEE_OVF as the
bale started (R64). -/
def State.runWrites (c : ChanId) (ieee : Bool) (idx : List Int) :
    List (Bale × DescRec × DescRec) → List Byte → State → List (List Chunk) × State
  | [], _, s => ([], s)
  | (b, sd, dd) :: t, data, s =>
    let n := ((sourceLines b sd idx).map Prod.snd).sum
    let mine := data.take n
    let out : List Byte × ConvFx :=
      if baleOp b = 1 then convertBytes ieee (descFmt sd) (descFmt dd) mine
      else if baleOp b = 4 then convertBytes false (descFmt sd) (descFmt dd) mine
      else if baleOp b = 6 then (bytesOf 8 (crcMsb 64 0x42F0E1EBA9EA3693 0 mine), .none)
      else (mine, .none)
    let s := s.convChan c out.2
    let l := s.chunks c dd (baleElem b dd) (destLines b dd idx) out.1
    match State.runWrites c ieee idx t (data.drop n) s with
    | (l', s) => (l ++ l', s)

/-- The source data of a run are back: its writes go out (R276 step 6). -/
def State.startWrites (c : ChanId) (r : BaleRun) (s : State) : State :=
  let trip := List.zipWith (fun b d => (b, d.1, d.2.1)) r.bales r.descs
  match s.runWrites c r.ieee r.lines trip r.data with
  | (l, s) =>
    let out := markLast (s.writeOrder l)
    let s := if chunksOverlap l.flatten then s.drawn else s
    let s := s.modRun c r.no fun r => { r with phase := .write, got := [] }
    match trip with
    | [] => s
    | (b, _, dd) :: _ => out.foldl (fun s x => s.issueWrite c r.no (baleKind b dd) x) s

/-- The index tensor of a GATHER or SCATTER is back (R273): an index out of range faults, before a line moves. -/
def State.startLines (c : ChanId) (r : BaleRun) (s : State) : State :=
  match r.bales, r.descs with
  | b :: _, (sd, dd, _) :: _ =>
    let idx := (wordsOf r.data).map BitVec.toInt
    let lim := descLines (if baleOp b = 2 then sd else dd)
    if idx.any fun j => decide (j < 0) || decide ((lim : Int) ≤ j) then s.chanFault c 0x3B03 0
    else s.modRun c r.no fun r =>
      { r with phase := .source, lines := idx, got := [], todo := numberPieces (balePieces c b sd (sourceLines b sd idx)) }
  | _, _ => s

/-- A run whose reads are all back goes on (R276 step 6). -/
def State.advanceRun (c : ChanId) (no : W32) : Nat → State → State
  | 0, s => s
  | n + 1, s =>
    match (s.chan c).runs.find? fun r => decide (r.no = no) with
    | none => s
    | some r =>
      if r.todo.isEmpty && decide (r.reads = 0) && s.chanOpen c then
        match r.phase with
        | .index => State.advanceRun c no n (s.startLines c r)
        | .source => s.startWrites c r
        | .write => s
      else s

/-- R279 READ_DATA_RETURN: the oldest data on their way reach the channel, and free their tag. Data of a bale that
is no longer there are discarded (R290); an error status faults (R291). -/
def execReadDataReturn (c : ChanId) (s : State) : Out :=
  .next (match (s.chan c).ret with
    | [] => s
    | x :: t =>
      let s := (s.modChan c fun k => { k with ret := t }).modTags c (· - 1)
      if s.chanOpen c && (s.chan c).runs.any fun r => decide (r.no = x.bale) then
        if x.status ≠ 0 then
          (s.modRun c x.bale fun r => { r with reads := r.reads - 1 }).chanFault c 0x5B01 (BitVec.ofNat 64 x.status.toNat)
        else
          ((s.modRun c x.bale fun r => { r with reads := r.reads - 1, got := r.got ++ [(x.piece, x.data)] }).advanceRun c x.bale 2).pump c
      else s.pump c)

/-- The reads that a bale begins with (R276 step 6), and its phase. -/
def baleReads (c : ChanId) (b : Bale) (sd xd : DescRec) : RunPhase × List Piece :=
  if baleIdle b || decide (baleOp b = 7) then (.write, [])
  else if baleOp b = 2 ∨ baleOp b = 3 then (.index, balePieces c b xd (descWalk xd))
  else (.source, balePieces c b sd (descWalk sd))

/-- IEEE_OVF as a channel's conversions take it (R64): a core's; no GRID_MODE governs a trunk channel. -/
def State.chanIeee (s : State) : ChanId → Bool
  | .core p l _ => (s.core p l).ieeeOvf
  | .trunk _ _ => false

/-- A bale, with those merged into it, starts (R276 steps 5 and 6): its timer is armed (R288), lines of an INVAL go
(R285), an RWRITE writes, and its reads begin. -/
def State.startRun (c : ChanId) (l : List (Bale × DescRec × DescRec × DescRec)) (s : State) : State :=
  match l with
  | [] => s
  | (b, sd, _, xd) :: _ =>
    let k := s.chan c
    let no := k.serial
    let first := baleReads c b sd xd
    let todo := if first.1 = .source then l.flatMap fun e => (baleReads c e.1 e.2.1 e.2.2.2).2 else first.2
    let r : BaleRun :=
      { no := no, idx := k.nextBale, bales := l.map fun e => e.1, descs := l.map fun e => e.2, phase := first.1,
        todo := numberPieces todo, reads := 0, got := [], lines := [], writes := 0, regs := [], ieee := s.chanIeee c }
    let s := s.modChan c fun k =>
      { k with cur := none, runs := k.runs ++ [r], serial := k.serial + 1,
               ring := k.ring.filter fun e => decide (l.length ≤ (e.2.1 - r.idx).toNat) }
    let s := if bit b 16 then s.modPart (chanPart c) fun q =>
        if q.rtEn then { q with tmrArm := q.tmrArm.set (baleTmr b) (some s.now) } else q else s
    let s := if baleOp b = 8 then s.depotDrop (chanDie c) sd else s
    let s := if baleOp b = 7 then
        s.issueWrite c no .write { addr := rwAddr b, data := bytesOf (rwSize b) (fld b 64 64), arrive := none, last := true, tail := true } else s
    (s.advanceRun c no 2).pump c

/-- Step 4 and the start of the bale fetched (R276), and of those that merge with it (R278). -/
def State.tryStart (c : ChanId) (more : Nat) (u : Cur) (s : State) : State :=
  let b := u.resolved
  let miss := s.missingDescs c b
  if miss ≠ [] then s.askDescs c miss
  else
    match s.baleRefs c b with
    | .inl code => (s.modChan c fun k => { k with cur := none }).chanFault c code 0
    | .inr (sd, dd, xd) =>
      let first := decide (baleOp b = 1) && !baleIdle b && decide (descDims sd = 0 ∧ descDims dd = 0) && !descEmpty sd && !descEmpty dd
      let m := if first then s.mergeNext c more b sd dd else (some [], s)
      match m with
      | (none, s) => s
      | (some l, s) =>
        let all := (b, sd, dd, xd) :: l.map fun e => (e.1, e.2.1, e.2.2, (0 : DescRec))
        let s := all.foldl (fun s e => ((baleNeeds e.1).map (baleHandle e.1)).foldl (fun s h => s.touchDesc c h) s) s
        s.startRun c all

/-- R276 BALE_START: once the pop and the waits are done and fewer than 4 transfers are under way; a parity error of
the channel is an internal state error (R446). A merged transfer takes in at most `more` bales beyond the second (R278). -/
def execBaleStart (c : ChanId) (parity : Bool) (more : Nat) (s : State) : Out :=
  let k := s.chan c
  .next (match k.cur with
    | none => s
    | some u =>
      if s.chanRuns c && k.popWait.isNone && k.waitWord.isNone && decide (k.runs.length < 4) then
        if parity then s.chanParity c else s.tryStart c more u
      else s)

/-- A signal word of a bale leaves (R249, R251, R255, R270); an error faults. -/
def State.baleSignal (c : ChanId) (w : BitVec 64) (s : State) : State :=
  if bit w 0 && (s.part (chanPart c)).abort.isNone then
    let sp : SemSpace := if wordSpace w = 0 then .part (chanPart c) else .hub (hubNo (wordHub w))
    let o : SemOp := if wordOp w = 1 then .add else if wordOp w = 2 then .sub else .inc
    let r := s.signal (chanPart c) sp o (wordIdx w) (wordValue w)
    if r.1 = 0 then r.2 else r.2.chanFault c r.1 0
  else s

/-- A bale record (R489): what its upper half holds beside CHANNEL, HEAD and OP is not laid out (log entry 22). -/
def State.traceBale (c : ChanId) (s : State) : State :=
  let q := s.part (chanPart c)
  if q.trcEn && q.trcBale then
    (s.traceRecord (chanPart c) (BitVec.ofNat 128 (s.now.toNat % 2 ^ 63 + 2 ^ 63 + (s.freeLane 0).toNat * 2 ^ 64 + (s.freeLane 1).toNat * 2 ^ 96))).drawn
  else s

/-- The oldest bale of a channel completes (R276 step 7, R288): its signals leave, its timer is disarmed, HEAD
advances. -/
def State.finishBale (c : ChanId) (b : Bale) (s : State) : State :=
  let p := chanPart c
  let s := (s.baleSignal c (Sys2Proof.Machine.baleSignal b 0)).baleSignal c (Sys2Proof.Machine.baleSignal b 1)
  if (s.part p).abort.isSome then s
  else
    let s := if bit b 17 then s.modPart p fun q =>
        if q.rtEn then { q with tmrArm := q.tmrArm.set (baleTmr b) none } else q else s
    let s := s.modChan c fun k =>
      { k with head := k.head + 1, runs := match k.runs with
          | [] => []
          | r :: t => if r.bales.length ≤ 1 then t else { r with bales := r.bales.drop 1, descs := r.descs.drop 1, idx := r.idx + 1 } :: t }
    (s.traceBale c).perf p 6 1

/-- The relay push of a bale (R269): its queue and handle. -/
def balePush (b : Bale) : Option (BitVec 6 × BitVec 17) :=
  if baleRqop b = 3 then some (BitVec.ofNat 6 (baleRq b), baleHandle b 1)
  else if baleRqop b = 4 then some (BitVec.ofNat 6 (baleRq b), baleHandle b 0)
  else none

/-- Push a handle onto a relay queue that has room (R286). -/
def State.relayAdd (p : Fin 12) (n : BitVec 6) (h : BitVec 17) (s : State) : State :=
  s.modPart p fun q => { q with relay := vset q.relay n.toNat (vget [] q.relay n.toNat ++ [h]) }

/-- The relay queue is full. -/
def Part.relayFull (q : Part) (n : BitVec 6) : Bool := decide (16 ≤ (vget [] q.relay n.toNat).length)

/-- Release the bales of a completed transfer in ring order; a push onto a full queue holds it and those after it
(R276, R286). -/
def State.releaseBales (c : ChanId) : List Bale → State → State
  | [], s => s
  | b :: t, s =>
    if s.chanOpen c = false then s
    else
      match balePush b with
      | none => State.releaseBales c t (s.finishBale c b)
      | some (n, h) =>
        if (s.part (chanPart c)).relayFull n then s.modChan c fun k => { k with pushHeld := [(n, h)] }
        else State.releaseBales c t ((s.relayAdd (chanPart c) n h).finishBale c b)

/-- The writes of a bale to registers, in order (R258); an error faults (R291), but for a rejected entry write (R177). One to another
device leaves on its link now, and the bale waits for it. -/
def State.regWrites (c : ChanId) (no : W32) : List (Nat × List Byte) → State → State
  | [], s => s
  | (a, d) :: t, s =>
    if s.thisDevice (a / 2 ^ 48) then
      let r := s.regWriteN (.chan c) (a % 2 ^ 48) d.length (wordsOf d) none
      if aborts r.status then r.state.chanFault c 0x5B01 (BitVec.ofNat 64 r.status.toNat) else State.regWrites c no t r.state
    else
      State.regWrites c no t (s.sendWrite c no .write { addr := a, data := d, arrive := none, last := true, tail := true })

/-- The destination lines of a REDCOPY or XORACC leave the depot (R285). -/
def State.dropDest (c : ChanId) (r : BaleRun) (s : State) : State :=
  (List.zip r.bales r.descs).foldl (fun s e =>
    if baleOp e.1 = 4 ∨ baleOp e.1 = 5 then s.depotDrop (chanDie c) e.2.2.1 else s) s

/-- R276 BALE_COMPLETE: the oldest transfer of the channel, every read and write of it done; its writes to registers come first. -/
def execBaleComplete (c : ChanId) (s : State) : Out :=
  let k := s.chan c
  .next (match k.runs with
    | [] => s
    | r :: _ =>
      if s.chanOpen c && k.pushHeld.isEmpty && decide (r.phase = .write) && r.todo.isEmpty && decide (r.reads = 0) && decide (r.writes = 0) then
        let s := (s.modRun c r.no fun r => { r with regs := [] }).regWrites c r.no r.regs
        if s.chanOpen c && (s.chan c).runs.head?.any fun r => decide (r.writes = 0) then (s.dropDest c r).releaseBales c r.bales else s
      else s)

/-- R286 BALE_RELAY_PUSH: a held push finds an entry free, and the held bales are released. -/
def execBaleRelayPush (c : ChanId) (s : State) : Out :=
  let k := s.chan c
  .next (match k.pushHeld, k.runs with
    | (n, h) :: _, r :: _ =>
      if s.chanOpen c && !(s.part (chanPart c)).relayFull n then
        match r.bales with
        | [] => s
        | b :: t => (((s.modChan c fun k => { k with pushHeld := [] }).relayAdd (chanPart c) n h).finishBale c b).releaseBales c t
      else s
    | _, _ => s)

/-- R288 DEADLINE_MISS: an armed timer has reached its limit. -/
def execDeadlineMiss (p : Fin 12) (n : Fin 16) (s : State) : Out :=
  let q := s.part p
  .next (match q.tmrArm[n] with
    | none => s
    | some t =>
      let lim := q.tmrLim[n].toNat
      if q.rtEn && decide (lim ≠ 0) && decide (s.phase = .ready) && s.timersRun p
          && decide (lim * 1000 + q.heldSince t ≤ (s.now - t).toNat) then
        ((s.modPart p fun q => { q with tmrArm := q.tmrArm.set n none, rtMiss := satAdd q.rtMiss 1 }).logPart p 0xAB01
          (BitVec.ofNat 64 n.val)).sendEvent (homeHub p) 3 0xAB01 p.val 0 (BitVec.ofNat 64 n.val)
      else s)

/-- R284 DEPOT_LINE_FILL: the oldest line fill of a depot half whose data are back is allocated and serves the
reads that waited for it. -/
def execDepotLineFill (d : Fin 24) (s : State) : Out :=
  .next (match (s.depot d).fills.find? fun f => f.done.isSome with
    | none => s
    | some f =>
      match f.done with
      | none => s
      | some (st, data) =>
        let s := s.modDepot d fun t => { t with fills := t.fills.erase f }
        let s := if st = 0 ∧ f.alloc = true then
            s.modDepot d fun t => t.alloc { base := f.base, data := f.upd.foldl (fun l e => overlay l e.1 e.2) data }
          else s
        f.wait.foldl (fun s w =>
          s.returnRead w.1 w.2.1 w.2.2.1 st (if st = 0 then (data.drop w.2.2.2.1).take w.2.2.2.2 else [])) s)

end Sys2Proof.Machine
end

