-- ==== Sys2Proof/Machine/Control.lean ====
section
/-! DEFINITION. The control forms of the engine slots (R208, R209, R182): SETR, ADDR, RANKADD, LOOP
and BIND. -/

namespace Sys2Proof.Machine

/-- The internal fault of an engine's source nibble (R446). -/
def engFault : Engine → Code
  | .load => 0xF501
  | .matrix => 0xF101
  | .vector => 0xF301
  | .store => 0xF501

/-- Change a register of a context by class and index; L registers are 24 bits (R206, R208). -/
def EngCtx.setReg (c : EngCtx) (cls idx : Nat) (v : W32) : EngCtx :=
  if cls = 0 then { c with a := vset c.a idx v }
  else if cls = 1 then { c with as := vset c.as idx v }
  else if cls = 2 then { c with ab := vset c.ab idx v }
  else if cls = 3 then { c with al := vset c.al idx v }
  else { c with lr := vset c.lr idx (v.setWidth 24) }

/-- A register of a context by class and index. -/
def EngCtx.reg (c : EngCtx) (cls idx : Nat) : W32 :=
  if cls = 0 then c.ra idx else if cls = 1 then c.rs idx else if cls = 2 then c.rb idx
  else if cls = 3 then vget 0 c.al idx else BitVec.ofNat 32 (c.rl idx)

/-- The value of a SETR or ADDR (R208): IMM32, or the scalar register read when the bundle issued. -/
def ctlValue (en : Entry) : W32 := if bit en.word 14 then en.sval else BitVec.ofNat 32 (fld en.word 32 32)

/-- Write the result of SETR or ADDR: an L result outside 0 to 0xFF_FFFF faults and keeps the register. -/
def State.ctlWrite (p : Fin 12) (l : Fin 32) (e : Engine) (x : Duet) (w : Slot) (v : Int) (s : State) : State :=
  let cls := fld w 7 3
  if cls = 4 ∧ (v < 0 ∨ 0xFFFFFF < v) then s.abortCore p l 0x4904 0
  else s.modCore p l fun c => c.modCtx e x fun k => k.setReg cls (fld w 10 4) (BitVec.ofInt 32 v)

/-- R208 SETR. -/
def execSetr (p : Fin 12) (l : Fin 32) (e : Engine) (x : Duet) (s : State) : Out :=
  .next (s.issue p l e x .clean 0 (fun w => slotOp w == 0x70) fun en s =>
    .done (s.ctlWrite p l e x en.word ((ctlValue en).toNat : Int)))

/-- R208 ADDR: the value is signed. -/
def execAddr (p : Fin 12) (l : Fin 32) (e : Engine) (x : Duet) (s : State) : Out :=
  .next (s.issue p l e x .clean 0 (fun w => slotOp w == 0x71) fun en s =>
    let old := ((s.core p l).ctx e x).reg (fld en.word 7 3) (fld en.word 10 4)
    .done (s.ctlWrite p l e x en.word ((old.toNat : Int) + (ctlValue en).toInt)))

/-- R208 RANKADD: an A register moves by the core's rank times the signed immediate. -/
def execRankadd (p : Fin 12) (l : Fin 32) (e : Engine) (x : Duet) (s : State) : Out :=
  .next (s.issue p l e x .clean 0 (fun w => slotOp w == 0x72) fun en s =>
    let old := ((s.core p l).ctx e x).ra (fld en.word 10 4)
    .done (s.ctlWrite p l e x en.word
      ((old.toNat : Int) + ((s.part p).rank l : Int) * (ctlValue en).toInt)))

/-- LOOP at issue (R209): the loop structure is checked, the count is read, and the body begins, or is
discarded when the count is 0. -/
def State.loopRun (p : Fin 12) (l : Fin 32) (e : Engine) (x : Duet) (en : Entry) (s : State) : State :=
  let c := (s.core p l).ctx e x
  let nb := fld en.word 9 7
  let c' := c.take en
  let inside := match c'.loops with
    | [] => true
    | f :: _ => decide (f.pos + nb ≤ f.nb)
  if nb = 0 ∨ 64 < nb ∨ 3 ≤ c.loops.length ∨ inside = false then s.abortCore p l 0x4908 0
  else
    let count := c.rl (fld en.word 7 2)
    let c'' :=
      EngCtx.pass 64 <| if count = 0 then ({ c' with skip := nb } : EngCtx).settle 65
      else { c' with loops := { body := [], nb := nb, pos := 0, left := count,
                                amask := BitVec.ofNat 16 (fld en.word 32 16) } :: c'.loops }
    s.modCore p l fun k =>
      { k.modCtx e x (fun _ => c''.mark s.now) with current := vset k.current (engNo e) x }

/-- R209 LOOP. -/
def execLoop (p : Fin 12) (l : Fin 32) (e : Engine) (x : Duet) (s : State) : Out :=
  .next (s.issue p l e x .clean 0 (fun w => slotOp w == 0x73) fun en s => .stay (s.loopRun p l e x en))

/-- BIND with its descriptor at hand (R181, R182). -/
def State.bindRun (p : Fin 12) (l : Fin 32) (e : Engine) (x : Duet) (w : Slot) (s : State) : State :=
  let hd := BitVec.ofNat 17 (fld w 11 17)
  let an := fld w 7 4
  let put := fun (a st sb : W32) (s : State) => s.modCore p l fun c =>
    { c.modCtx e x (fun k => { k with a := vset k.a an a, as := vset k.as an st, ab := vset k.ab an sb })
      with dcache := lruTouch hd c.dcache }
  if hd = 0 then put 0 0 0 s
  else
    let d := (lruFind hd (s.core p l).dcache).getD 0
    let off := sext 32 (fld w 32 32)
    match descUse (s.part p) hd d off with
    | some code => s.abortCore p l code 0
    | none => match s.bindAddr p l d off with
      | none => s.abortCore p l 0x3807 0
      | some a => put (BitVec.ofInt 32 a) (BitVec.ofNat 32 (descStr d 1)) (BitVec.ofNat 32 (descStr d 2)) s

/-- A BIND at the head of a context whose handle the core's cache misses asks the store (R183). -/
def State.bindMiss (p : Fin 12) (l : Fin 32) (e : Engine) (x : Duet) (s : State) : State :=
  let c := s.core p l
  match (c.ctx e x).head with
  | none => s
  | some en =>
    let hd := BitVec.ofNat 17 (fld en.word 11 17)
    if s.runs p l && !en.sync && decide (slotOp en.word = 0x74) && decide (hd ≠ 0)
        && (lruFind hd c.dcache).isNone then
      s.modPart p (Part.miss (some l) hd)
    else s

/-- R182 BIND. -/
def execBind (p : Fin 12) (l : Fin 32) (e : Engine) (x : Duet) (s : State) : Out :=
  .next ((s.bindMiss p l e x).issue p l e x .clean 0 (fun w => slotOp w == 0x74) fun en s =>
    .done (s.bindRun p l e x en.word))

end Sys2Proof.Machine
end

