-- ==== Sys2Proof/Machine/Cop.lean ====
section
/-! DEFINITION. The custom-operation port of a core (R144 to R150, R368 to R370): VCUST.S, VCUST.R, the
fabric's acceptance of a request, its response, and the two timeouts. -/

namespace Sys2Proof.Machine

/-- 65,536 ACLK cycles of 1.6 GHz, in ns of the timebase (R148, R370, R464). -/
def copLimit : Nat := 40960

/-- The request that a VCUST.S sends (R145, R146). -/
def copRequest (now : W64) (i : VIn) : CopReq where
  func := BitVec.ofNat 8 (vAux i.w % 256)
  tag := BitVec.ofNat 4 (vAux i.w / 256)
  fmt := vFmt i.w
  vl := i.k.vl
  mask := BitVec.ofNat 128 (((List.range 128).map fun q => if active i.k i.w q then 2 ^ q else 0).sum)
  lines := if bit i.w 30 then [i.a, i.b] else [i.a]
  sent := 0
  since := now

/-- R145 VCUST.S: an unclaimed port faults (R150); while the outbound queue is full the engine is frozen (R144). -/
def execVcustS (p : Fin 12) (l : Fin 32) (x : Duet) (found : Found) (s : State) : Out :=
  .next (s.vecIssue p l x found 0x68 fun en src s =>
    if (s.part p).copClaimed l = false then .done (s.abortCore p l 0x4303 0)
    else
      let r := copRequest s.now (src.vIn p l x en.word)
      .done ((s.modCore p l fun c => { c with copOut := c.copOut ++ [r] }).popD p l en.word))

/-- R145 VCUST.R: the oldest response is popped, and its line written to d under R129. -/
def execVcustR (p : Fin 12) (l : Fin 32) (x : Duet) (found : Found) (s : State) : Out :=
  .next (s.vecIssue p l x found 0x69 fun en src s =>
    if (s.part p).copClaimed l = false then .done (s.abortCore p l 0x4303 0)
    else
      let line := (s.core p l).copRsp.head?.getD Line.zero
      let i := src.vIn p l x en.word
      let v := mergeLanes i (fun _ q => plain (lane line q)) ((s.core p l).v (vDst en.word))
      .done (((s.writeLine p l (vDst en.word) v).modCore p l fun c => { c with copRsp := c.copRsp.drop 1 }).popD p l en.word))

/-- R146, R148, R368: n beats of the oldest request transfer, on edges of a PCLK that runs (R362), the last of them with
the fabric's acceptance of the request. The next request's header is presented from then on. Under cop_flush no beat is
presented (R370). -/
def execCopRequestAccepted (p : Fin 12) (l : Fin 32) (s : State) (n : Nat := 9) : Out :=
  .next (if (s.part p).copReqVld l && s.pclkRuns p l then
      match (s.core p l).copOut with
      | [] => s
      | r :: t =>
        if r.sent + n < (r.beats l.val).length then
          s.modCore p l fun c => { c with copOut := { r with sent := r.sent + n } :: t }
        else s.modCore p l fun c =>
          { c with copWait := c.copWait ++ [(r.tag, s.now)],
                   copOut := match t with
                     | [] => []
                     | r' :: t' => { r' with since := s.now } :: t' }
    else s)

/-- The header beat of a response (R146, R147): with no request outstanding the response is dropped and logged; a STATUS
that is not 0 is logged as the argument of its fault, and a wrong TAG is a fault, found in the same beat (R445). -/
def State.copHeader (p : Fin 12) (l : Fin 32) (b : BitVec 1024) (s : State) : State :=
  match (s.core p l).copWait with
  | [] => (s.modCore p l fun c => { c with copIn := some (true, []) }).logCore p l 0x7303 0
  | (tag, _) :: t =>
    let s := s.modCore p l fun c => { c with copWait := t, copIn := some (false, []) }
    let s := if fld b 0 8 ≠ 0 then s.abortCore p l 0x7301 (BitVec.ofNat 64 (fld b 0 8)) else s
    if fld b 8 4 ≠ tag.toNat then s.abortCore p l 0x7302 0 else s

/-- A beat that the fabric presents to a core (R146, R368, R370): under cop_flush it is discarded; while ready is low it
does not transfer; else it is the header of a response, or one of its four data beats, with the last of which the line
joins the response queue. -/
def State.copBeat (p : Fin 12) (l : Fin 32) (b : BitVec 1024) (s : State) : State :=
  if (s.part p).copHeld l then s.modCore p l fun c => { c with copIn := none }
  else if (s.part p).copRspRdy l = false then s
  else match (s.core p l).copIn with
    | none => s.copHeader p l b
    | some (drop, d) =>
      if d.length < 3 then s.modCore p l fun c => { c with copIn := some (drop, d ++ [b]) }
      else s.modCore p l fun c =>
        { c with copIn := none, copRsp := if drop then c.copRsp else c.copRsp ++ [beatLine (d ++ [b])] }

/-- R147: beats of a response of the fabric, one or more in order, on edges of a PCLK that runs (R362, R368). -/
def execCopResponse (p : Fin 12) (l : Fin 32) (beat : BitVec 1024) (more : List (BitVec 1024)) (s : State) : Out :=
  .next (if s.pclkRuns p l then (beat :: more).foldl (fun s b => s.copBeat p l b) s else s)

/-- R148: no response header within 65,536 ACLK cycles of the acceptance of the oldest request. -/
def execCustomOpTimeout (p : Fin 12) (l : Fin 32) (s : State) : Out :=
  .next (match (s.core p l).copWait with
    | [] => s
    | (_, t) :: _ => if copLimit ≤ (s.now - t).toNat then s.abortCore p l 0x9301 0 else s)

/-- R370: a request header has been presented for 65,536 ACLK cycles without transferring. -/
def execCopRequestStall (p : Fin 12) (l : Fin 32) (s : State) : Out :=
  .next (match (s.core p l).copOut with
    | [] => s
    | r :: _ =>
      if (s.part p).copReqVld l = true ∧ r.sent = 0 ∧ copLimit ≤ (s.now - r.since).toNat then s.abortCore p l 0x9301 0 else s)

end Sys2Proof.Machine
end

