-- ==== Sys2Proof/Machine/Matrix.lean ====
section
/-! DEFINITION. The outer-product array and the rescaler (03_array.md, R96 to R98): OPA, STRIPE, DRAIN
and CLEAR. -/

namespace Sys2Proof.Machine

/-- A side of an OPA (R210): its format, whether it reads a stage and which, its address register,
whether it reads on the COLUMN axis, whether its scratchpad reads carry CONSUME. -/
structure OpaSide where
  fmt     : BitVec 4
  isStage : Bool
  stage   : Nat
  addr    : W32
  step    : W32
  batch   : W32
  column  : Bool
  consume : Bool
deriving DecidableEq, Repr

/-- Side a or side b of an OPA slot, with the registers as they stand at issue (R207). -/
def opaSide (w : Slot) (c : EngCtx) (sideB : Bool) : OpaSide :=
  let o := if sideB then 32 else 25
  let r := fld w (o + 1) 4
  { fmt := BitVec.ofNat 4 (fld w (if sideB then 11 else 7) 4), isStage := bit w o, stage := fld w (o + 5) 1,
    addr := c.ra r, step := c.rs r, batch := c.rb r, column := bit w (o + 6) && bit w o,
    consume := bit w (if sideB then 40 else 39) }

/-- Elements per packet of a pair (R43): 16 bits over the wider width, GRID3 counting as 4. -/
def pairK (fa fb : BitVec 4) : Nat := 16 / max 1 (max (fmtBits fa) (fmtBits fb))

/-- The integer path: both operands INT8 or grid codes (R45). -/
def intPath (fa fb : BitVec 4) : Bool :=
  decide (fa = 4 ∨ fmtGrid fa = true) && decide (fb = 4 ∨ fmtGrid fb = true)

/-- Bits of an element inside its field (R34, R36): a GRID3 code is 3 bits. -/
def elemWidth (f : BitVec 4) : Nat := if f = 6 then 3 else fmtBits f

/-- The integer an integer-path element stands for. -/
def elemInt (c : Core) (table : Nat) (f : BitVec 4) (x : Nat) : Int :=
  if f = 4 then (BitVec.ofNat 8 x).toInt else c.level table x

/-- The exact value of an element (R45). -/
def elemNum (c : Core) (table : Nat) (f : BitVec 4) (x : Nat) : Num :=
  match floatFmt f with
  | some ff => ff.decode x
  | none => Num.ofInt (elemInt c table f x)

/-- Element t of a packet of k fields. -/
def packetElem (f : BitVec 4) (k : Nat) (pk : BitVec 16) (t : Nat) : Nat := fld pk (16 / k * t) (elemWidth f)

/-- Packet q that a stage delivers to a line in a step (R74, R75). -/
def stagePacket (st : Stage) (k : Nat) (column : Bool) (cursor : W32) (m q : Nat) : BitVec 16 :=
  let first := fld cursor 0 7
  if column then
    let s := (first + m) % (128 / k)
    let pos := 128 * (fld cursor 7 3 % k) + q
    let w := 16 / k
    BitVec.ofNat 16 (((List.range k).map fun t =>
      fld (vget 0 (vget (Vector.replicate 128 0) st (pos / k)) (k * s + t)) (w * (pos % k)) w * 2 ^ (w * t)).sum)
  else vget 0 (vget (Vector.replicate 128 0) st ((first + m) % 128)) q

/-- The packets of a byte string (R71). -/
def packetsOf (d : List Byte) : Nat → BitVec 16 := fun q => BitVec.ofNat 16 (ofBytes ((d.drop (2 * q)).take 2))

/-- Where a side reads the scratchpad in step m of item n (R72, R88). -/
def OpaSide.place (sd : OpaSide) (n m : Nat) : Nat :=
  (sd.addr + BitVec.ofNat 32 n * sd.batch + BitVec.ofNat 32 m * sd.step).toNat

/-- The fault of a side's read in step m of item n (R72, R167, R170); 0 for none. -/
def Core.feedFault (c : Core) (u : Nat) (sd : OpaSide) (n m : Nat) : Code :=
  let a := sd.place n m
  if sd.isStage then 0
  else if spadSize ≤ a then 0x3101
  else if c.checked (a / 512) && !c.rowValid (a / 512) then 0x2701
  else if (c.checkWords (wordRange (a / u * u) u)).1.isSome then 0x5702
  else 0

/-- The packets that a side reads in step m of item n (R71 to R76, R88). -/
def Core.feed (c : Core) (k u : Nat) (sd : OpaSide) (n m : Nat) : Nat → BitVec 16 :=
  if sd.isStage then
    stagePacket (vget (Vector.replicate 128 (Vector.replicate 128 0)) c.stages sd.stage) k sd.column
      (sd.addr + BitVec.ofNat 32 n * sd.batch) m
  else packetsOf (c.bytes (sd.place n m / u * u) u)

/-- What a side's reads leave in the scratchpad (R156, R166, R168, R170): corrected words, an uncorrectable one, the valid
bit of a row that is consumed. A read that guard mode refuses, or that is out of range, leaves nothing. -/
def State.feedDone (p : Fin 12) (l : Fin 32) (u : Nat) (sd : OpaSide) (n m : Nat) (shared : Bool) (s : State) : State :=
  let c := s.core p l
  let a := sd.place n m
  let f := c.feedFault u sd n m
  if sd.isStage ∨ f = 0x3101 ∨ f = 0x2701 then s
  else
    let r := c.checkWords (wordRange (a / u * u) u)
    let s := if shared then s else match r.1 with
      | some w => s.eccBad p l w
      | none => s.correct p l r.2
    if sd.consume then s.modCore p l fun c => c.setRow (a / 512) false else s

/-- Raise the faults of one cycle, 0 for none: the lower code aborts, the other is logged with DURING (R445). -/
def State.abortBoth (p : Fin 12) (l : Fin 32) (f g : Code) (s : State) : State :=
  if f = 0 then s.abortCore p l g 0
  else if g = 0 then s.abortCore p l f 0
  else (s.abortCore p l (if g < f then g else f) 0).abortCore p l (if g < f then f else g) 0

/-- Which packet of a feed reaches the line of a cell (R79): in pack mode 2 the group's own part. -/
def routed (mode : Nat) (i j : Nat) (sideB : Bool) : Nat :=
  if mode = 2 then 64 * (2 * (i / 64) + j / 64) + (if sideB then j else i) % 64
  else if sideB then j else i

/-- The exact integer that one step adds to a cell (R47). -/
def stepInt (c : Core) (table k : Nat) (fa fb : BitVec 4) (a b : BitVec 16) : Int :=
  ((List.range k).map fun t =>
    elemInt c table fa (packetElem fa k a t) * elemInt c table fb (packetElem fb k b t)).sum

/-- The exact number that one step adds to a cell (R48, R69). -/
def stepNum (c : Core) (table k : Nat) (fa fb : BitVec 4) (a b : BitVec 16) : Num :=
  (List.range k).foldl (fun acc t =>
    Num.add acc (Num.mul (elemNum c table fa (packetElem fa k a t)) (elemNum c table fb (packetElem fb k b t))))
    (.fin false 0 0)

/-- FP32 after one rounding, where a subnormal result may be flushed to zero of its sign (R48, R50). -/
def roundFlush (flush : Bool) (v : Num) : W32 :=
  let x := f32 v
  if flush && decide (fld x 23 8 = 0) then x &&& 0x80000000 else x

/-- A cell's sum on the integer path, clamped to INT32 (R47). -/
def satSum (x : W32) (d : Int) : Int := x.toInt + d

/-- One step of an OPA into a tile (R69): the new tile, and whether a sum was clamped. -/
def opaStep (c : Core) (fa fb : BitVec 4) (table mode width : Nat) (a b : Nat → BitVec 16) (flush : Nat → Bool)
    (tile : Tile) : Tile × Bool :=
  let k := pairK fa fb
  if intPath fa fb then
    let d := fun i j => stepInt c table k fa fb (a (routed mode i j false)) (b (routed mode i j true))
    (Vector.ofFn fun i => Vector.ofFn fun j =>
        if j.val < width then BitVec.ofNat 32 (clampInt 32 (satSum tile[i][j] (d i.val j.val))).1 else tile[i][j],
     (List.finRange 128).any fun i => (List.finRange 128).any fun j =>
        decide (j.val < width) && (clampInt 32 (satSum tile[i][j] (d i.val j.val))).2.sat)
  else
    (Vector.ofFn fun i => Vector.ofFn fun j =>
        if j.val < width then
          roundFlush (flush (128 * i.val + j.val)) (Num.add (num32 tile[i][j])
            (stepNum c table k fa fb (a (routed mode i.val j.val false)) (b (routed mode i.val j.val true))))
        else tile[i][j],
     false)

/-- A tile of zeros. -/
def zeroTile : Tile := Vector.replicate 128 Line.zero

/-- A tile of a core. -/
def Core.tile (c : Core) (t : Nat) : Tile := vget zeroTile c.tiles t

/-- A tile whose contents are indeterminate (R444 step 1): free values. -/
def State.freeTile (s : State) : Tile :=
  Vector.ofFn fun i => Vector.ofFn fun j => s.freeLane (128 * i.val + j.val)

/-- The remaining steps of an OPA, in order (R88): `left` of them, the next being `idx` of N per item.
A fault in a read ends the instruction, and what its tile holds is indeterminate. -/
def State.opaSteps (p : Fin 12) (l : Fin 32) (w : Slot) (sa sb : OpaSide) (count : Nat) : Nat → Nat → State → State
  | 0, _, s => s
  | left + 1, idx, s =>
    let n := idx / count
    let m := idx % count
    let mode := fld w 18 2
    let t := fld w 20 3
    let k := pairK sa.fmt sb.fmt
    let lost := fun s : State =>
      (s.modCore p l fun c => { c with tiles := vset c.tiles t s.freeTile }).drawn
    let c := s.core p l
    let u := if mode = 2 then 512 else 256
    let fa := c.feedFault u sa n m
    let fb := c.feedFault u sb n m
    let same := !sa.isStage && !sb.isStage && decide (sa.place n m / u = sb.place n m / u)
    let s := (s.feedDone p l u sa n m false).feedDone p l u sb n m same
    if fa ≠ 0 ∨ fb ≠ 0 then
      lost (s.abortBoth p l fa (if fa = fb ∧ sa.place n m / 512 = sb.place n m / 512 then 0 else fb))
    else
      let free := s.free
      let r := opaStep c sa.fmt sb.fmt (fld w 15 3) mode (s.part p).width (c.feed k u sa n m) (c.feed k u sb n m)
        (fun i => (Config.freeBits free i).getLsbD 0) (c.tile t)
      let s := (s.modCore p l fun c => { c with tiles := vset c.tiles t r.1 }).drawn
      State.opaSteps p l w sa sb count left (idx + 1) ((if r.2 then s.accSat p l t else s).perf p 1 1)

/-- An OPA or a STRIPE that has issued (R70, R85, R88): the tag check, the tag and the recorded pack
mode, then its N·B steps. The model's choice (log entry 107): with N·B = 0 the recorded pack mode stays, with the tile and its tag. -/
def State.opaRun (p : Fin 12) (l : Fin 32) (x : Duet) (w : Slot) (s : State) : State :=
  let c := s.core p l
  let ctx := c.ctx .matrix x
  let sa := opaSide w ctx false
  let sb := opaSide w ctx true
  let t := fld w 20 3
  let tag := if intPath sa.fmt sb.fmt then TileTag.int32 else TileTag.fp32
  let old := vget TileTag.empty c.tileTag t
  if old ≠ .empty ∧ old ≠ tag then s.abortCore p l 0x4102 0
  else
    let count := ctx.rl (fld w 23 2)
    let total := count * fld w 41 16
    if total = 0 then s
    else
      State.opaSteps p l w sa sb count total 0 (s.modCore p l fun c =>
        { c with tileTag := vset c.tileTag t tag, tileMode := vset c.tileMode t (BitVec.ofNat 2 (fld w 18 2)) })

/-- The factor of a channel-scale register: none under the zero-scale flag (R93, R96). -/
def csrScale (img : W32) : Option Num := if img.getLsbD 31 then none else some (num32 img)

/-- Row factor of a tile element (R96). -/
def rowFactor (c : Core) (w : Slot) (mode i j : Nat) : Option Num :=
  if bit w 37 then
    let rb := fld w 38 12
    let n := if mode = 2 then rb + 64 * (2 * (i / 64) + j / 64) + i % 64 else rb + i
    csrScale (vget 0 c.csr (n % 4096))
  else some (.fin false 1 0)

/-- Column factor of a tile element (R96). -/
def colFactor (c : Core) (w : Slot) (mode i j : Nat) : Option Num :=
  let cb := fld w 52 12
  let g := if mode = 2 then 2 * (i / 64) + j / 64 else j / 64
  if fld w 50 2 = 1 then
    csrScale (vget 0 c.csr ((if mode = 2 then cb + 64 * g + j % 64 else cb + j) % 4096))
  else if fld w 50 2 = 2 then
    some (num32 (scaleQ (c.slot (if mode = 0 then cb else cb + g)).q))
  else some (.fin false 1 0)

/-- The value of a tile element as it drains (R83, R97): an EMPTY tile drains as +0. -/
def tileNum (c : Core) (t i j : Nat) : Num :=
  match vget TileTag.empty c.tileTag t with
  | .empty => .fin false 0 0
  | .int32 => Num.ofInt (vget 0 (vget Line.zero (c.tile t) i) j).toInt
  | .fp32 => num32 (vget 0 (vget Line.zero (c.tile t) i) j)

/-- The rescaled element of a drained line (R97); each of its two roundings may flush a subnormal result (R50). -/
def rescale (c : Core) (w : Slot) (flush flush' : Bool) (i j : Nat) : W32 :=
  let t := fld w 20 3
  let mode := (vget 0 c.tileMode t).toNat
  let stripe : Num := if bit w 33 then tileNum c (fld w 34 3) i j else .fin false 0 0
  let y : W32 := match rowFactor c w mode i j, colFactor c w mode i j with
    | some rf, some cf => roundFlush flush (Num.mul (Num.mul (tileNum c t i j) rf) cf)
    | _, _ => 0
  roundFlush flush' (Num.add (num32 y) stripe)

/-- Line n of a DRAIN (R83, R132): a row holds +0 beyond the array width. -/
def drainLine (c : Core) (w : Slot) (width : Nat) (flush : Nat → Bool) (n : Nat) : Line :=
  Vector.ofFn fun q : Fin 128 =>
    let f := flush (128 * n + q.val)
    let f' := flush (16384 + 128 * n + q.val)
    if bit w 31 then rescale c w f f' q.val n
    else if q.val < width then rescale c w f f' n q.val else 0

/-- A DRAIN that has issued (R83, R96, R97, R445): the checks at issue, then its lines, in order, toward the
store engine or the vector engine. -/
def State.drainRun (p : Fin 12) (l : Fin 32) (x : Duet) (w : Slot) (s : State) : State :=
  let c := s.core p l
  let width := (s.part p).width
  let k := c.ctx .matrix x
  let count := k.rl (fld w 23 2)
  let f : Code := if (if bit w 31 then width else 128) < count then 0x4105 else 0
  let g : Code := if bit w 33 ∧ vget TileTag.empty c.tileTag (fld w 34 3) = .int32 then 0x4102 else 0
  if f ≠ 0 ∨ g ≠ 0 then s.abortBoth p l f g
  else
    let free := s.free
    let lines := (List.range count).map fun n =>
      ({ ctx := x, no := k.drains + 1, toVec := bit w 32,
         line := { line := drainLine c w width (fun i => (Config.freeBits free i).getLsbD 0) n, row := !bit w 31 } } : HeldLine)
    (s.modCore p l fun c => Core.refill 16 { c.modCtx .matrix x (fun k => { k with drains := k.drains + 1 }) with
      draining := c.draining ++ lines,
      timing := { c.timing with slack := if c.draining.isEmpty then 7 else c.timing.slack, holdTile := fld w 20 3, hold := count } }).drawn

/-- R69 OPA. -/
def execOpa (p : Fin 12) (l : Fin 32) (x : Duet) (found : Found) (s : State) : Out :=
  .next (s.issue p l .matrix x found 0xF101 (fun w => slotOp w == 0x00) fun en s => .done (s.opaRun p l x en.word))

/-- R82 STRIPE: an OPA on the float path. -/
def execStripe (p : Fin 12) (l : Fin 32) (x : Duet) (found : Found) (s : State) : Out :=
  .next (s.issue p l .matrix x found 0xF101 (fun w => slotOp w == 0x03) fun en s => .done (s.opaRun p l x en.word))

/-- R83 DRAIN. -/
def execDrain (p : Fin 12) (l : Fin 32) (x : Duet) (found : Found) (s : State) : Out :=
  .next (s.issue p l .matrix x found 0xF101 (fun w => slotOp w == 0x01) fun en s => .done (s.drainRun p l x en.word))

/-- R81 CLEAR: every element zero, tag EMPTY, recorded mode 0 (R70). -/
def execClear (p : Fin 12) (l : Fin 32) (x : Duet) (found : Found) (s : State) : Out :=
  .next (s.issue p l .matrix x found 0xF101 (fun w => slotOp w == 0x02) fun en s =>
    .done (s.modCore p l fun c =>
      let t := fld en.word 20 3
      { c with tiles := vset c.tiles t zeroTile, tileTag := vset c.tileTag t .empty, tileMode := vset c.tileMode t 0 }))

end Sys2Proof.Machine
end

