-- ==== Sys2Proof/Machine/Port.lean ====
section
/-! DEFINITION. The control port (17_control_port.md): READ, WRITE and DOORBELL messages, the order of R406,
and what a hub holds and forwards (R258). -/

namespace Sys2Proof.Machine

/-- TYPE of a message header (R404). -/
def msgType (hdr : BitVec 128) : Nat := fld hdr 0 4
/-- TAG. -/
def msgTag (hdr : BitVec 128) : Byte := BitVec.ofNat 8 (fld hdr 8 8)
/-- LEN4. -/
def msgLen (hdr : BitVec 128) : Nat := fld hdr 16 7
/-- ADDR. -/
def msgAddr (hdr : BitVec 128) : Nat := fld hdr 32 56

/-- The fields of a header that the host leaves 0 are 0, and LEN4 is in range (R404). -/
def msgZero (hdr : BitVec 128) : Bool :=
  decide (fld hdr 4 4 = 0) && decide (fld hdr 23 9 = 0) && decide (fld hdr 88 40 = 0) && decide (msgLen hdr ≤ 64)

/-- The header of a message to the host (R404): TYPE, TAG, LEN4, STATUS, PROG and LOP, every other field 0. -/
def HostMsg.header : HostMsg → BitVec 128
  | .completion tag status data => BitVec.ofNat 128 (0x8 + tag.toNat * 2 ^ 8 + data.length % 128 * 2 ^ 16 + status.toNat * 2 ^ 88)
  | .busy tag lop prog => BitVec.ofNat 128 (0x9 + tag.toNat * 2 ^ 8 + prog.toNat * 2 ^ 104 + lop.toNat * 2 ^ 112)
  | .event _ => BitVec.ofNat 128 (0xA + 8 * 2 ^ 16)

/-- The data of a message to the host (R404, R416). -/
def HostMsg.data : HostMsg → List W32
  | .completion _ _ data => data
  | .busy _ _ _ => []
  | .event e => wordsOf e.bytes

/-- The die that serves a block-local address (R18, R28, R406): 24 + h for hub h, of which the block registers
are the port's own. -/
def addrDie (h : Fin 4) (a : Nat) : Nat :=
  match place a with
  | .hbm d _ => d.val
  | .spad p l _ => (coreDie p l).val
  | .part p off => match partCore off with
    | some l => (coreDie p l).val
    | none => 2 * p.val
  | .hub g _ => 24 + g.val
  | .blk _ => 24 + h.val
  | .unmapped => 24 + h.val

/-- The queue that a memory request of an address joins: a stack port's or a DMA port's. -/
def addrQueue (a : Nat) : Option (Nat × Nat) :=
  match place a with
  | .hbm d _ => some (0, d.val)
  | .spad p l _ => some (1, 32 * p.val + l.val)
  | _ => none

/-- The address is that of a ring's TAIL, or of the broadcast that moves TAILs (R266, R268). -/
def isTail (a : Nat) : Bool :=
  match place a with
  | .part _ off =>
    (decide (0x500000 ≤ off ∧ off < 0x520000) && decide (0x200 ≤ off % 0x1000 ∧ off % 0x1000 < 0x300) && decide (off % 0x40 = 0xC))
      || (decide (0x453000 ≤ off ∧ off < 0x453200) && decide (off % 0x40 = 0xC)) || decide (off = 0x453400)
  | _ => false

/-- A write there waits for every earlier write of its source: an alias of a semaphore or counter word (R245, R258), a ring's TAIL
(R267). -/
def isAlias (a : Nat) : Bool :=
  let isAdd := fun v : Option (SemOp × Nat) => match v with
    | some (o, _) => decide (o = .add ∨ o = .sub ∨ o = .inc)
    | none => false
  isTail a || match place a with
  | .part p off => isAdd (semView (.part p) off)
  | .hub h off => isAdd (semView (.hub h) off)
  | _ => false

/-- The tag of a request, when it is of the control port of hub h. -/
def portTag (h : Fin 4) : Requester → Option Byte
  | .port g t => if g = h then some t else none
  | _ => none

/-- Memory requests of a port that wait in a queue: tag, address, is it a write, and the queue. -/
def memOut (h : Fin 4) (q : Nat × Nat) (base : Nat) (l : List MemReq) : List (Byte × Nat × Bool × Option (Nat × Nat)) :=
  l.filterMap fun m => (portTag h m.who).map fun t => (t, base + m.addr, decide (m.kind ≠ .read), some q)

/-- Fence and reset writes of a port that wait for the end of an abort (R445): their tags and addresses. -/
def State.laterOut (s : State) (h : Fin 4) : List (Byte × Nat × Bool × Option (Nat × Nat)) :=
  (List.finRange 12).flatMap fun p => (s.part p).held.filterMap fun r => match r.who with
    | some (g, t) => if g = h then
        some (t, partBase p + (match r.core with
          | some l => 0x500100 + 0x1000 * l.val
          | none => 0x454004), true, none) else none
    | none => none

/-- Requests of a port that have not completed (R405). -/
def State.portOut (s : State) (h : Fin 4) : List (Byte × Nat × Bool × Option (Nat × Nat)) :=
  if (s.hub h).tagsOut.isEmpty then []
  else
    ((s.hub h).aliases.filterMap fun r => (portTag h r.who).map fun t => (t, r.addr, decide (r.len = 0), none))
      ++ ((List.finRange 24).flatMap fun d => memOut h (0, d.val) 0 s.stackPorts[d].qRemote)
      ++ ((List.finRange 12).flatMap fun p => (List.finRange 32).flatMap fun l =>
            memOut h (1, 32 * p.val + l.val) 0 (s.core p l).dmaRemote)
      ++ s.laterOut h

/-- The earlier requests of a port that a new one must wait for (R258, R406): those to the same die that are not
in the queue it joins; a write to an alias or a TAIL waits for every earlier write. -/
def State.portWaits (s : State) (h : Fin 4) (a : Nat) (write : Bool) : List (BitVec 16 × Byte) :=
  ((s.portOut h).filter fun e =>
    (decide (addrDie h e.2.1 = addrDie h a) && !((addrQueue a).isSome && decide (e.2.2.2 = addrQueue a)))
      || (write && isAlias a && e.2.2.1)).map fun e => (e.1.setWidth 16, 0)

/-- A write starts a long operation of port h (R409): a security command that is one, or a capture. -/
def startsLong (h : Fin 4) : Nat → List W32 → Bool
  | _, [] => false
  | a, v :: t =>
    (decide (a = blkBase + 0x8000 + 0x40 * h.val) && decide (secLop v ≠ 0)) || (decide (a = blkBase + 0x6200) && bit v 12)
      || startsLong h (a + 4) t

/-- Why port h does not perform a write (R409): it would start a long operation, and the port is BUSY. -/
def State.busyFor (s : State) (r : HubReq) : Option Busy :=
  match r.src with
  | .port h => if startsLong h r.addr r.data then (s.hub h).busy else none
  | _ => none

/-- Perform a request that a hub has taken: memory queues it, a register access is made and completes. -/
def State.hubRun (r : HubReq) (s : State) : State :=
  if (addrQueue r.addr).isSome then
    s.memAsk { who := r.who, src := r.src, kind := if r.data.isEmpty then .read else .write, addr := r.addr,
               len := if r.data.isEmpty then r.len else 4 * r.data.length, data := bytesOfWords r.data, got := [],
               arrive := none, last := false, tail := false, consume := false }
  else if r.data.isEmpty then
    match s.regReadN r.src r.addr r.len with
    | (st, d, s) => s.complete r.who true st (bytesOfWords d)
  else
    let who := match r.who with
      | .port h t => some (h, t)
      | _ => none
    let turned := fun (o : Busy) (s : State) => match r.who with
      | .port h t => (s.portFree h t).say h (.busy t o.lop o.prog)
      | _ => s
    match s.busyFor r with
    | some o => turned o s
    | none =>
      match s.regWriteN r.src r.addr (4 * r.data.length) r.data who with
      | .now st s => s.complete r.who false st []
      | .later s => s
      | .busy o s => turned o s

/-- Take a request of a port: at once, or held behind earlier ones (R258, R406). -/
def State.portTake (h : Fin 4) (tag : Byte) (a len : Nat) (data : List W32) (s : State) : State :=
  let waits := s.portWaits h a (!data.isEmpty)
  let r : HubReq := { src := .port h, addr := a, len := len, data := data, who := .port h tag, waits := waits }
  let s := s.modHub h fun b => { b with tagsOut := b.tagsOut ++ [tag] }
  if waits.isEmpty then s.hubRun r else s.modHub h fun b => { b with aliases := b.aliases ++ [r] }

/-- A READ or WRITE message is valid (R404, R405). -/
def State.msgValid (s : State) (h : Fin 4) (ty : Nat) (hdr : BitVec 128) : Bool :=
  let a := msgAddr hdr
  decide (msgType hdr = ty) && msgZero hdr && s.thisDevice (a / 2 ^ 48) && decide (a % 4 = 0)
    && decide (a % 256 + 4 * msgLen hdr ≤ 256) && !(s.hub h).tagsOut.contains (msgTag hdr)

/-- A message reaches a port that is up: one that is BUSY answers a READ, WRITE or DOORBELL so (R408), and so does a port that has
trained in a power-up that stopped (R471). -/
def State.portMessage (h : Fin 4) (hdr : BitVec 128) (f : State → State) (s : State) : State :=
  let b := s.hub h
  if s.phase = .ready ∧ b.portUp = true then
    match b.busy with
    | some o => if 1 ≤ msgType hdr ∧ msgType hdr ≤ 3 then s.say h (.busy (msgTag hdr) o.lop o.prog) else f s
    | none => f s
  else if s.phase = .stuck ∧ b.portUp = true ∧ 1 ≤ msgType hdr ∧ msgType hdr ≤ 3 then s.say h (.busy (msgTag hdr) 4 0)
  else s

/-- R405 CONTROL_READ. -/
def execControlRead (h : Fin 4) (hdr : BitVec 128) (data : List W32) (s : State) : Out :=
  let tag := msgTag hdr
  .next (s.portMessage h hdr fun s =>
    if s.msgValid h 1 hdr = false ∨ data ≠ [] then s.portInvalid h tag
    else if msgLen hdr = 0 then s.say h (.completion tag 0 [])
    else s.portTake h tag (msgAddr hdr % 2 ^ 48) (4 * msgLen hdr) [])

/-- R405 CONTROL_WRITE. -/
def execControlWrite (h : Fin 4) (hdr : BitVec 128) (data : List W32) (s : State) : Out :=
  let tag := msgTag hdr
  .next (s.portMessage h hdr fun s =>
    if s.msgValid h 2 hdr = false ∨ data.length ≠ msgLen hdr then s.portInvalid h tag
    else if msgLen hdr = 0 then s.say h (.completion tag 0 [])
    else s.portTake h tag (msgAddr hdr % 2 ^ 48) 0 data)

/-- R411 DOORBELL: a new TAIL for the hub's own ring; the next descriptor is fetched once the writes that came
before it have landed. -/
def execDoorbell (h : Fin 4) (hdr : BitVec 128) (data : List W32) (s : State) : Out :=
  let tag := msgTag hdr
  .next (s.portMessage h hdr fun s =>
    if msgType hdr ≠ 3 ∨ msgZero hdr = false ∨ msgLen hdr ≠ 1 ∨ data.length ≠ 1 ∨ msgAddr hdr % 4 ≠ h.val
        ∨ (s.hub h).tagsOut.contains tag = true then
      s.portInvalid h tag
    else
      match s.taskTail h (nth 0 data 0) with
      | (st, s) =>
        let wr := ((s.portOut h).filter fun e => e.2.2.1).map fun e => e.1
        let s := if st = 0 then s.modHub h fun b => { b with bellWaits := wr } else s
        s.say h (.completion tag st []))

/-- R258 HUB_ALIAS_FORWARD: the oldest request that the hub holds and that waits for nothing any more is
performed. -/
def execHubAliasForward (h : Fin 4) (s : State) : Out :=
  .next (match (s.hub h).aliases.find? fun r => r.waits.isEmpty with
    | some r => (s.modHub h fun b => { b with aliases := b.aliases.erase r }).hubRun r
    | none => s)

end Sys2Proof.Machine
end

