-- ==== Sys2Proof/Machine/Ports.lean ====
section
/-! DEFINITION. The ports of the memories: a scratchpad's DMA port (R157, R163 to R171), a stack port (R310 to
R319) with its patrol (R320), and the updates formed there (R274, R457). -/

namespace Sys2Proof.Machine

/-- The queue of a toll class at a DMA port (R157). -/
def Core.dmaQueue (c : Core) : TollClass → List MemReq
  | .read => c.dmaRead
  | .write => c.dmaWrite
  | .remote => c.dmaRemote

/-- Replace that queue. -/
def Core.setDmaQueue (c : Core) (k : TollClass) (l : List MemReq) : Core :=
  match k with
  | .read => { c with dmaRead := l }
  | .write => { c with dmaWrite := l }
  | .remote => { c with dmaRemote := l }

/-- The queue of a toll class at a stack port (R310). -/
def Stack.queue (k : Stack) : TollClass → List MemReq
  | .read => k.qRead
  | .write => k.qWrite
  | .remote => k.qRemote

/-- Replace that queue. -/
def Stack.setQueue (k : Stack) (c : TollClass) (l : List MemReq) : Stack :=
  match c with
  | .read => { k with qRead := l }
  | .write => { k with qWrite := l }
  | .remote => { k with qRemote := l }

/-- What is left of a request once its next n bytes are done, `d` being what they read: in its second row the last-in-row bit is
that of the second row. -/
def MemReq.after (m : MemReq) (n : Nat) (d : List Byte) : MemReq :=
  { m with addr := m.addr + n, len := m.len - n, data := m.data.drop n, got := m.got ++ d,
           last := if (m.addr + n) / 512 = m.addr / 512 then m.last else m.tail }

/-- Bytes of the element that an access may not cut (R274): that of a REDCOPY. -/
def ReqKind.elem : ReqKind → Nat
  | .redcopy _ f => max 1 (fmtBits f / 8)
  | _ => 1

/-- Bytes that one access of a port serves (R157, R274, R310): the whole elements that lie in the row or unit of the first byte, or
the one element that begins there and ends in the next. -/
def MemReq.span (m : MemReq) (unit : Nat) : Nat :=
  let e := m.kind.elem
  min m.len (max 1 ((unit - m.addr % unit) / e) * e)

/-- The access is the request's last one to its first row, and its last one to the row in which it ends (R163, R166). -/
def MemReq.ends (m : MemReq) (n : Nat) : Bool × Bool :=
  let done := decide (m.len ≤ n)
  (done || decide ((m.addr + n) / 512 ≠ m.addr / 512), done)

/-- The request ends with this status. -/
def State.answerReq (m : MemReq) (st : Code) (s : State) : State :=
  s.complete m.who (decide (m.kind = .read)) st (if st = 0 then m.got else [])

/-- Bit errors strike words of a scratchpad (R168): a word that two strike stays uncorrectable. -/
def Core.strike (c : Core) (l : List (Nat × Ecc)) : Core :=
  { c with bad := l.foldl (fun b e =>
      if 6291456 ≤ e.1 ∨ Sparse.get none b e.1 = some .uncorrectable then b else Sparse.put none e.1 (some e.2) b) c.bad }

/-- An update of whole elements at their DMA port (R157, R274, R457): read, combined and written as one; an element may end in the
next row. A row that the request leaves takes its valid bit and is counted (R163, R166). -/
def State.dmaUpdate (m : MemReq) (p : Fin 12) (l : Fin 32) (off n : Nat) (s : State) : Code × State :=
  let c := s.core p l
  let r0 := off / 512
  let r1 := (off + n - 1) / 512
  let held := fun r : Nat => c.checked r && c.rowValid r
  if held r0 || held r1 then (0x2702, s.logDest p l.val m.src 0x2702)
  else
    match c.checkWords (wordRange off n) with
    | (some w, _) => (0x5702, (s.eccBad p l w).logDest p l.val m.src 0x5702)
    | (none, fixed) =>
      let s := s.correct p l fixed
      let r := updateBytes m.kind ((s.core p l).bytes off n) (m.data.take n)
      let e := m.ends n
      let mark := fun (on : Bool) (row : Nat) (c : Core) => if on then c.setRow row true else c
      let s := s.modCore p l fun c =>
        let c := c.store off r.1
        let c := { c with bad := c.bad.filter fun e => !(wordRange off n).contains e.1 }
        mark (decide (r1 ≠ r0) && e.2 && m.tail) r1 (mark (e.1 && m.last) r0 c)
      let s := if e.1 then s.arrive p l m.arrive else s
      let s := if r1 ≠ r0 ∧ e.2 = true then s.arrive p l m.arrive else s
      (0, s.convAt p m.who r.2)

/-- The part of a request that one access serves: its status and what it read. -/
def State.dmaPiece (m : MemReq) (p : Fin 12) (l : Fin 32) (off n : Nat) (s : State) : Code × List Byte × State :=
  match m.kind with
  | .read => s.dmaRead m.src p l off n m.consume
  | .write =>
    let r := s.dmaWrite m.src p l off (m.data.take n) m.last
    (r.1, [], if r.1 = 0 then r.2.arrive p l m.arrive else r.2)
  | _ =>
    let r := s.dmaUpdate m p l off n
    (r.1, [], r.2)

/-- Serve the head of a class of a DMA port: one row of it (R157). A request any of whose bytes may not be reached
does nothing (R171). -/
def State.dmaServe (p : Fin 12) (l : Fin 32) (cls : TollClass) (m : MemReq) (t : List MemReq) (s : State) : State :=
  let off := m.addr % 0x2000000
  let st := s.spadStatus m.src p l off m.len (decide (m.kind ≠ .read))
  if st ≠ 0 then ((s.modCore p l fun c => c.setDmaQueue cls t).spadRefuse m.src p l st).answerReq m st
  else
    let n := m.span 512
    let x := s.dmaPiece m p l off n
    let r := m.after n x.2.1
    if x.1 ≠ 0 then (x.2.2.modCore p l fun c => c.setDmaQueue cls t).answerReq m x.1
    else if r.len = 0 then (x.2.2.modCore p l fun c => c.setDmaQueue cls t).answerReq r 0
    else x.2.2.modCore p l fun c => c.setDmaQueue cls (r :: t)

/-- R157 SCRATCHPAD_DMA_ACCESS: the head request of the class that owns the cycle takes its bank. A parity error of
the bank control is an internal state error, and takes the cycle (R446). -/
def execScratchpadDmaAccess (p : Fin 12) (l : Fin 32) (cls : TollClass) (flips : List (Nat × Ecc)) (parity : Bool) (s : State) :
    Out :=
  .next (if s.phase = .ready then
      if parity then s.internalCore p l 0xF701 else
      let s := if flips.isEmpty then s else s.modCore p l fun c => c.strike flips
      match (s.core p l).dmaQueue cls with
      | [] => s
      | m :: t => s.dmaServe p l cls m t
    else s)

/-- R168 ECC_WRITE_BACK: the oldest corrected word is stored again with valid check bits. -/
def execEccWriteBack (p : Fin 12) (l : Fin 32) (s : State) : Out :=
  .next (match (s.core p l).writeBack with
    | [] => s
    | w :: t => s.modCore p l fun c => { c with writeBack := t, bad := c.bad.filter fun e => e.1 != w })

/-- What three or more bad symbols do is open (R317): the unit is found uncorrectable, or free bytes take its
place, counted as corrected or not (log entry 6). -/
def State.manyBad (d : Fin 24) (unit : Nat) (s : State) : State :=
  let k := (s.freeLane 0).toNat % 3
  let s' :=
    if k = 0 then s.modStack d fun k => { k with badUnits := if k.badUnits.contains unit then k.badUnits else k.badUnits ++ [unit] }
    else
      let s := s.hbmStore d (unit * 64) (bytesOfWords ((List.range 16).map fun i => s.freeLane (i + 1)))
      if k = 1 then s.hbmFixed d else s
  s'.drawn

/-- A unit is read with `bad` bad symbols (R317 to R319): one is corrected and written back. -/
def State.unitSymbols (d : Fin 24) (unit bad : Nat) (s : State) : State :=
  if s.stackPorts[d].badUnits.contains unit then s
  else if bad = 0 then s
  else if bad = 1 then s.hbmFixed d
  else if bad = 2 then s.modStack d fun k => { k with badUnits := k.badUnits ++ [unit] }
  else s.manyBad d unit

/-- Part of an element in one unit of a stack is read, its source being one that may reach it (R274, R316): its status and bytes. -/
def State.elemRead (src : Source) (a n : Nat) (s : State) : Code × List Byte × State :=
  match place a with
  | .hbm d loc =>
    let s := s.swapDue (regionNo d loc)
    let st := s.hbmStatus src d loc
    if st ≠ 0 then (st, [], s.hbmRefuse src d st) else s.unitRead src d loc n
  | _ => (0x3F01, [], s.logSrc src 0x3F01)

/-- Every part of an element is read, unless one may not be. -/
def State.elemReads (src : Source) : List (Nat × Nat) → State → Code × List Byte × State
  | [], s => (0, [], s)
  | (a, n) :: t, s =>
    let x := s.elemRead src a n
    if x.1 ≠ 0 then (x.1, [], x.2.2)
    else
      let y := State.elemReads src t x.2.2
      (y.1, x.2.1 ++ y.2.1, y.2.2)

/-- Every part of an element is written. -/
def State.elemWrites : List (Nat × Nat) → List Byte → State → State
  | [], _, s => s
  | (a, n) :: t, d, s =>
    State.elemWrites t (d.drop n) (match place a with
      | .hbm e loc => s.hbmStore e loc (d.take n)
      | _ => s)

/-- An update of whole elements at their stack port (R274, R457), atomic also where one ends in the next unit, region or stack (log
entry 113). -/
def State.unitUpdate (m : MemReq) (d : Fin 24) (n : Nat) (s : State) : Code × State :=
  let l := pieces 64 m.addr n
  let x := s.elemReads m.src l
  if x.1 ≠ 0 then (x.1, x.2.2)
  else
    let r := updateBytes m.kind x.2.1 (m.data.take n)
    (0, (x.2.2.elemWrites l r.1).convAt (stackPart d) m.who r.2)

/-- The part of a request in one unit of a stack: its status and what it read (R310). -/
def State.unitPiece (m : MemReq) (d : Fin 24) (loc n bad : Nat) (s : State) : Code × List Byte × State :=
  match m.kind with
  | .read => (s.unitSymbols d (loc / 64) bad).unitRead m.src d loc n
  | .write =>
    let r := (if n < 64 then s.unitSymbols d (loc / 64) bad else s).unitWrite m.src d loc (m.data.take n)
    (r.1, [], r.2)
  | _ =>
    let r := (s.unitSymbols d (loc / 64) bad).unitUpdate m d n
    (r.1, [], r.2)

/-- What is left of a request goes on: at the same port behind nothing, at another port as a new request there, or
to its end. `l` is the class's queue from it on. -/
def State.reqOn (d : Fin 24) (cls : TollClass) (pre post : List MemReq) (r : MemReq) (s : State) : State :=
  if r.len = 0 then (s.modStack d fun k => k.setQueue cls (pre ++ post)).answerReq r 0
  else
    match place r.addr with
    | .hbm e _ =>
      if e = d then s.modStack d fun k => k.setQueue cls (pre ++ r :: post)
      else (s.modStack d fun k => k.setQueue cls (pre ++ post)).memAsk r
    | _ => (s.modStack d fun k => k.setQueue cls (pre ++ post)).memAsk r

/-- Serve the request at place i of a class of a stack port: one 64 B access of it (R281, R310). -/
def State.stackServe (d : Fin 24) (cls : TollClass) (l : List MemReq) (i : Nat) (m : MemReq) (bad : Nat) (s : State) : State :=
  match place m.addr with
  | .hbm _ loc =>
    let s := s.swapDue (regionNo d loc)
    let n := m.span 64
    let st := s.hbmStatus m.src d loc
    if st ≠ 0 then ((s.modStack d fun k => k.setQueue cls (l.eraseIdx i)).hbmRefuse m.src d st).answerReq m st
    else
      let x := s.unitPiece m d loc n bad
      if x.1 = 0 then x.2.2.reqOn d cls (l.take i) (l.drop (i + 1)) (m.after n x.2.1)
      else (x.2.2.modStack d fun k => k.setQueue cls (l.eraseIdx i)).answerReq m x.1
  | _ => s

/-- The second command or address parity error of a command takes the stack down (R306, R307). -/
def State.parityLoss (d : Fin 24) (ca : Nat) (s : State) : State :=
  if ca < 2 ∨ s.stackPorts[d].up = false then s else (s.modStack d fun k => { k with up := false }).logPart (stackPart d) 0x5D05 0

/-- R310 STACK_PORT_ACCESS: the port serves the oldest request of one of the sources of a class; requests wait while
the stack is held or trains (R307, R321). The access meets `bad` bad symbols, and its commands `ca` parity errors, of which the
first is retried (R306). -/
def execStackPortAccess (d : Fin 24) (cls : TollClass) (sel : Nat) (bad : Nat) (s : State) (ca : Nat := 0) : Out :=
  let k := s.stackPorts[d]
  .next (if decide (s.phase = .ready) && !k.hold && !k.training then
      let l := k.queue cls
      let srcs := (l.map fun m => m.src).eraseDups
      match srcs[sel % srcs.length]? with
      | none => s
      | some src =>
        match l.findIdx? fun m => decide (m.src = src) with
        | none => s
        | some i =>
          match l[i]? with
          | none => s
          | some m => (s.parityLoss d ca).stackServe d cls l i m bad
    else s)

/-- R320 PATROL_SCRUB: the patrol reads one unit, and corrects or logs what it finds. -/
def execPatrolScrub (d : Fin 24) (unit : BitVec 30) (bad : Nat) (s : State) (ca : Nat := 0) : Out :=
  let k := s.stackPorts[d]
  .next (if decide (s.phase = .ready) && k.up && !k.hold && !k.training && decide (k.hours ≠ 0) then
      if 2 ≤ ca then s.parityLoss d ca
      else
        let s := s.unitSymbols d unit.toNat bad
        if s.stackPorts[d].badUnits.contains unit.toNat then s.hbmBad (.port (homeHub (stackPart d))) d (unit.toNat * 64) else s
    else s)

/-- Where a stack-local address lies in its stack (R308): byte of the column, pseudo-channel, channel, bank, row. -/
structure StackPlace where
  column  : Nat
  pseudo  : Nat
  channel : Nat
  bank    : BitVec 6
  row     : Nat
deriving DecidableEq, Repr

/-- Decode a stack-local address (R308). -/
def stackDecode (a : BitVec 36) : StackPlace where
  column := fld a 0 6 + fld a 6 2 * 2 ^ 6 + fld a 14 2 * 2 ^ 8
  pseudo := fld a 8 1
  channel := fld a 9 5
  bank := BitVec.ofNat 6 (fld a 16 6) ^^^ BitVec.ofNat 6 (fld a 22 6)
  row := fld a 22 14

/-- Stack ID, bank group and bank within it (R308). -/
def bankParts (b : BitVec 6) : Nat × Nat × Nat := (fld b 4 2, fld b 2 2, fld b 0 2)

/-- A tweak times α^j in GF(2^128) (R311; IEEE 1619): byte 0 lowest. -/
def tweakMul : Nat → BitVec 128 → BitVec 128
  | 0, t => t
  | j + 1, t => tweakMul j ((t <<< 1) ^^^ if t.getLsbD 127 then 0x87 else 0)

/-- XTS-AES-128 of one block (R311): the key pair, the data unit number, the number of the block in its unit. -/
def xtsBlock (keys : BitVec 128 × BitVec 128) (unit j : Nat) (x : BitVec 128) : BitVec 128 :=
  let t := tweakMul j (Config.aes128 keys.2 (BitVec.ofNat 128 unit))
  Config.aes128 keys.1 (x ^^^ t) ^^^ t

/-- Data unit number of a stack-local address (R311). -/
def dataUnit (d : Fin 24) (loc : Nat) : Nat := linear d loc / 512

/-- The key pair that a region holds (R311, R313). -/
def State.regionKeys (s : State) (r : Fin 1536) : BitVec 128 × BitVec 128 := Config.regionKeys s.regions[r].keyGen r.val

/-- What the stack holds for a 64 B unit (R311, R312, R317): its ciphertext, block by block, and the check symbols over that. State.hbm
holds what decryption gives (log entry 7). -/
def State.unitStored (s : State) (d : Fin 24) (unit : Nat) : BitVec 512 × BitVec 64 :=
  let loc := unit * 64
  let plain := s.hbmBytes d loc 64
  let block := fun j : Nat => bytesOf 16 (xtsBlock (s.regionKeys (regionNo d loc)) (dataUnit d loc) (loc % 512 / 16 + j)
    (BitVec.ofNat 128 (ofBytes ((plain.drop (16 * j)).take 16)))).toNat
  let c : BitVec 512 := BitVec.ofNat 512 (ofBytes ((List.range 4).flatMap block))
  (c, Config.checkSymbols c)

end Sys2Proof.Machine
end

