-- ==== Sys2Proof/Machine/Seq.lean ====
section
/-! DEFINITION. The sequencer (08_sequencer.md): the issue of bundles, scalar slots, scalar loads and
stores, the bundle cache, fallback branches, and the dispatcher of a core. -/

namespace Sys2Proof.Machine

/-- The register operations of form R, 0x01 to 0x0D (R200). -/
def aluOp (op : Nat) (a b : W64) : W64 :=
  if op = 0x01 then a + b
  else if op = 0x02 then a - b
  else if op = 0x03 then a &&& b
  else if op = 0x04 then a ||| b
  else if op = 0x05 then a ^^^ b
  else if op = 0x06 then a <<< (b.toNat % 64)
  else if op = 0x07 then a >>> (b.toNat % 64)
  else if op = 0x08 then a.sshiftRight (b.toNat % 64)
  else if op = 0x09 then a * b
  else if op = 0x0A then (if a.toInt < b.toInt then 1 else 0)
  else if op = 0x0B then (if a.toNat < b.toNat then 1 else 0)
  else if op = 0x0C then (if b.toInt < a.toInt then b else a)
  else (if a.toInt < b.toInt then b else a)

/-- The operations with an immediate, 0x10 to 0x16 (R200). -/
def aluImm (op : Nat) (a : W64) (w : W32) : W64 :=
  let z : W64 := BitVec.ofNat 64 (scImm w)
  if op = 0x10 then a + BitVec.ofInt 64 (scSimm w)
  else if op = 0x11 then a &&& z
  else if op = 0x12 then a ||| z
  else if op = 0x13 then a ^^^ z
  else if op = 0x14 then a <<< (scImm w % 64)
  else if op = 0x15 then a >>> (scImm w % 64)
  else a.sshiftRight (scImm w % 64)

/-- A branch relation, 0x20 to 0x25 (R200). -/
def branchHolds (op : Nat) (a b : W64) : Bool :=
  if op = 0x20 then decide (a = b)
  else if op = 0x21 then decide (a ≠ b)
  else if op = 0x22 then decide (a.toInt < b.toInt)
  else if op = 0x23 then decide (b.toInt ≤ a.toInt)
  else if op = 0x24 then decide (a.toNat < b.toNat)
  else decide (b.toNat ≤ a.toNat)

/-- Target of a branch of the bundle at `off` (R199); an offset before the code object lies outside it as one
beyond 2^32 does. -/
def branchTarget (off : Nat) (w : W32) : Nat :=
  if (off : Int) + 4 * scSimm w < 0 then 2 ^ 32 else ((off : Int) + 4 * scSimm w).toNat

/-- Write a scalar register; a write of S0 is discarded (R198). -/
def Part.putS (q : Part) (n : Nat) (v : W64) : Part := if n = 0 then q else { q with sreg := vset q.sreg n v }

/-- A special register (R202). -/
def State.special (s : State) (p : Fin 12) (i : Nat) : W64 :=
  let q := s.part p
  let t := q.task
  if i = 0 then BitVec.ofNat 64 q.liveCount
  else if i = 1 then BitVec.ofNat 64 q.width
  else if i = 2 then BitVec.ofNat 64 q.bucket.toNat
  else if i = 3 then BitVec.ofNat 64 ((t.map fun t => t.shape.toNat).getD 0)
  else if i = 4 then (t.map fun t => t.id).getD 0
  else if 5 ≤ i ∧ i ≤ 8 then (t.map fun t => vget 0 t.args (i - 5)).getD 0
  else if i = 9 then BitVec.ofNat 64 p.val
  else if i = 0x0A then s.now
  else if i = 0x0B then BitVec.ofNat 64 q.rerun.toNat
  else if i = 0x0C then (if q.rerun = 0 then 0 else BitVec.ofNat 64 q.fbSlot.toNat)
  else 0

/-- A scalar access may be made (R201): aligned, and in the partition's own space or an enabled window. -/
def State.scalarOk (s : State) (p : Fin 12) (a size : Nat) : Bool :=
  let own := match place a with
    | .part q _ => decide (q = p) && s.thisDevice (a / 2 ^ 48)
    | _ => false
  decide (a < 2 ^ 56) && decide (a % size = 0) && (own || (s.part p).inWindows a (a + size - 1))

/-- The address is one of a register of this device: the sequencer's access to it is made at once. -/
def State.isReg (s : State) (a : Nat) : Bool :=
  s.thisDevice (a / 2 ^ 48) && match place a with
    | .hbm _ _ => false
    | .spad _ _ _ => false
    | _ => true

/-- A scalar load (R157, R198, R201, R310): it asks the port that serves its address, or a link, and its data return later. -/
def State.scalarLoad (p : Fin 12) (rd : Fin 32) (a size : Nat) (s : State) : State :=
  let put := fun (r : Option (Code × List Byte)) (s : State) =>
    s.modPart p fun q => { q with loads := q.loads ++ [{ rd := rd, addr := a, size := size, answer := r }] }
  if s.isReg a then
    match s.regReadN (.seq p) (a % 2 ^ 48) size with
    | (st, d, s) => put (some (st, bytesOfWords d)) s
  else (put none s).request (.seqLoad p (s.part p).taskNo rd) (.seq p) .read a size []

/-- A scalar store (R201): complete before the next bundle issues. -/
def State.scalarStore (p : Fin 12) (a : Nat) (data : List Byte) (s : State) : State :=
  if s.isReg a then
    let r := s.regWriteN (.seq p) (a % 2 ^ 48) data.length (wordsOf data) none
    if aborts r.status then r.state.abort p r.status 0 else r.state
  else (s.modPart p fun q => { q with storeBusy := true }).request (.seqStore p (s.part p).taskNo) (.seq p) .write a data.length data

/-- Clear or set FBNEXT of a slot in every live core (R205). -/
def State.setNext (p : Fin 12) (k : Nat) (v : Bool) (s : State) : State :=
  s.modPart p fun q => { q with cores := q.cores.map fun c =>
    if c.fenced then c else c.setSlot k { c.slot k with fbnext := v } }

/-- A fallback lookup finds no entry (R120): FBNEXT is cleared, and the core of rank 0 writes the log entry. -/
def State.noFallback (p : Fin 12) (k : Nat) (s : State) : State :=
  let s := s.setNext p k false
  match (s.part p).live with
  | [] => s
  | l :: _ => s.logCore p l 0x1606 0

/-- FBNEXT of a slot, as the core of rank 0 holds it: decisions land alike in every live core (R114). -/
def Part.fbNext (q : Part) (k : Nat) : Bool := match q.live with
  | [] => false
  | l :: _ => (q.cores[l].slot k).fbnext

/-- What a scalar slot does: it goes on at the next bundle, it branches, or it faults (with the bundle
counted as issued). -/
inductive Flow where
  | next (s : State)
  | jump (off : Nat) (s : State)
  | fault (code : Code) (arg : W64) (s : State)
deriving DecidableEq, Repr

/-- The fallback check (R205): `ret` is the bundle at the FBCHK's offset. -/
def State.fbchk (p : Fin 12) (k ret : Nat) (s : State) : Flow :=
  let q := s.part p
  if q.rerun ≠ 0 ∨ q.fbNext k = false then .next s
  else
    match q.fallbackOf k with
    | none => .next (s.noFallback p k)
    | some f => .jump f.entry.toNat ((s.setNext p k false).modPart p fun q =>
        { q with rerun := 2, fbSlot := BitVec.ofNat 6 k, retPoint := BitVec.ofNat 32 ret })

/-- Load and store slots (R200, R201). -/
def State.scalarMem (p : Fin 12) (w : W32) (s : State) : Flow :=
  let op := scOp w
  let q := s.part p
  let a := (q.s (scRa w) + BitVec.ofInt 64 (scSimm w)).toNat
  let size := if op < 0x1A then 8 else 4
  if s.scalarOk p a size = false then .fault 0x3901 0 s
  else if op = 0x18 ∨ op = 0x1A then .next (s.scalarLoad p ⟨scRd w % 32, Nat.mod_lt _ (by decide)⟩ a size)
  else .next (s.scalarStore p a (bytesOf size (q.s (scRd w)).toNat))

/-- DESCW (R200): eight registers as one entry; the cause of R177 lands in RD. -/
def State.descw (p : Fin 12) (w : W32) (s : State) : State :=
  let q := s.part p
  let ent : BitVec 512 := BitVec.ofNat 512 (((List.range 8).map fun i => (q.s (scRa w + i)).toNat * 2 ^ (64 * i)).sum)
  let r := s.descWrite p (BitVec.ofNat 17 (q.s (scRb w)).toNat) ent
  r.2.modPart p fun q => q.putS (scRd w) (BitVec.ofNat 64 r.1)

/-- The scalar slot of the bundle at `off`, which ends at `nxt` (R200). -/
def State.scalar (p : Fin 12) (w : W32) (off nxt : Nat) (s : State) : Flow :=
  let op := scOp w
  let q := s.part p
  let put := fun (v : W64) => Flow.next (s.modPart p fun q => q.putS (scRd w) v)
  let tgt := branchTarget off w
  if op = 0 then .next s
  else if op ≤ 0x0D then put (aluOp op (q.s (scRa w)) (q.s (scRb w)))
  else if op ≤ 0x16 then put (aluImm op (q.s (scRa w)) w)
  else if op = 0x17 then
    let lo := 16 * (scRa w % 4)
    let old := q.s (scRd w)
    put ((old &&& ~~~(BitVec.ofNat 64 (0xFFFF * 2 ^ lo))) ||| BitVec.ofNat 64 (scImm w * 2 ^ lo))
  else if op ≤ 0x1B then s.scalarMem p w
  else if op = 0x1C then .next (s.descw p w)
  else if op = 0x1D then put (s.special p (scImm w % 256))
  else if op ≤ 0x25 then (if branchHolds op (q.s (scRd w)) (q.s (scRa w)) then .jump tgt s else .next s)
  else if op = 0x26 then .jump (q.s (scRa w)).toNat s
  else if op = 0x27 then
    if 8 ≤ q.calls.length then .fault 0x4909 0 s
    else .jump tgt (s.modPart p fun q => { q with calls := BitVec.ofNat 32 nxt :: q.calls })
  else if op = 0x28 then
    match q.calls with
    | [] => .fault 0x4909 0 s
    | r :: t => .jump r.toNat (s.modPart p fun q => { q with calls := t })
  else if op = 0x29 then s.fbchk p (fld w 6 6) (min tgt 0xFFFFFFFF)
  else if op = 0x2A then
    if q.rerun = 0 then .fault 0x4909 0 s
    else .jump q.retPoint.toNat (s.modPart p fun q => { q with rerun := 0, fbSlot := 0 })
  else if op = 0x2B then .next (s.modPart p fun q => { q with seqState := 2 })
  else .fault 0x490A (BitVec.ofInt 64 (scSimm w)) s

/-- The next bundle's wait, if it holds one, has become the sequencer's head wait (R261). -/
def State.markSeq (p : Fin 12) (s : State) : State :=
  let q := s.part p
  if q.waitSince.isNone && q.seqWait.isSome then s.modPart p fun q => { q with waitSince := some s.now } else s

/-- The pending or held fallback branch that an EOG bundle takes (R205): the lowest slot. -/
def Part.fbTake (q : Part) : Option (Nat × Nat) :=
  if q.rerun ≠ 0 then none
  else
    match (List.range 64).find? fun k => q.fbPend.getLsbD k with
    | none => none
    | some k => (q.fallbackOf k).map fun f => (k, f.entry.toNat)

/-- The slots and the sync operation of a bundle go to the promenade of every live core (R226). -/
def State.broadcast (p : Fin 12) (b : Bundle) (svals : List W32) (s : State) : State :=
  let sync := match b.sync with
    | some w => if (syncEngine (syncSlot w)).isSome then some w else none
    | none => none
  let r : Broadcast := { ctx := b.duet, vector := b.vector, matrix := b.matrix, load := b.load, store := b.store,
                         sync := sync, svals := svals }
  if b.slots.isEmpty && sync.isNone then s
  else s.modPart p fun q => { q with cores := q.cores.map fun c => if c.fenced then c else { c with promenade := c.promenade ++ [r] } }

/-- The partition enters a fallback taken at an EOG bundle (R205). -/
def Part.enterFallback (q : Part) (k target : Nat) : Part :=
  { q with rerun := 1, fbSlot := BitVec.ofNat 6 k, retPoint := BitVec.ofNat 32 target,
           fbPend := q.fbPend &&& ~~~(BitVec.ofNat 64 (2 ^ k)) }

/-- The sequencer after an issue (R192, R194, R203): the next bundle, the cycles before it, and the stop of a
capture (R454). -/
def Part.issued (q : Part) (off go skip : Nat) (stop : Bool) : Part :=
  { q with pc := BitVec.ofNat 32 off, next := BitVec.ofNat 32 go, waitDone := false, waitSince := none,
           skip := BitVec.ofNat 17 skip, seqState := if stop && q.seqState == 1 then 3 else q.seqState }

/-- A bundle record (R489). -/
def bundleRecord (now : W64) (off : Nat) (hdr : W32) : BitVec 128 :=
  BitVec.ofNat 128 (now.toNat + off % 4294967296 * 18446744073709551616 + hdr.toNat * 79228162514264337593543950336)

/-- The trace record of a bundle. -/
def State.traceBundle (p : Fin 12) (off : Nat) (hdr : W32) (s : State) : State :=
  if (s.part p).trcEn then s.traceRecord p (bundleRecord s.now off hdr) else s

/-- What remains of the issue cycle once the scalar slot is done (R192, R194, R203, R205, R454): the
broadcast, a fallback branch at an EOG bundle, the next bundle, SKIP, and the stop of END or of a capture. -/
def State.issueEnd (p : Fin 12) (b : Bundle) (off target : Nat) (taken fret : Bool) (svals : List W32) (s : State) : State :=
  let s := s.broadcast p b svals
  let q := s.part p
  let stop := b.eog && decide (s.capState = .quiescing) && s.capMask.getLsbD p.val
  let s := match (if b.eog && !fret && decide (q.seqState = 1) then q.fbTake else none) with
    | none => s.modPart p fun q => q.issued off target (b.skip.toNat + if taken then 2 else 0) stop
    | some (k, e) => s.modPart p fun q => (q.enterFallback k target).issued off e (b.skip.toNat + 2) stop
  ((s.traceBundle p off b.hdr).perf p 4 1).markSeq p

/-- The signal of a sync slot with ENG = 0 (R220, R255): the fault it raises. -/
def State.seqSignal (p : Fin 12) (b : Bundle) (s : State) : Code × State :=
  match b.sync with
  | none => (0, s)
  | some w =>
    let w := syncSlot w
    if syncEng w = 0 ∧ syncIsWait w = false then
      s.signal p (syncPlace p w) (syncSem w) (syncIdx w) ((s.part p).syncAmount w)
    else (0, s)

/-- Issue a bundle (R194): every stall is over. An access of its scalar slot that aborts the task (R201) ends the issue; a
branch beyond 2^32 ends, once the bundle has issued and its SKIP is served (R203), at an offset that no code object holds. -/
def State.issueBundle (p : Fin 12) (b : Bundle) (s : State) : State :=
  let q := s.part p
  let off := q.next.toNat
  let nxt := off + b.len
  let svals := (List.range 32).map fun i => (q.s i).setWidth 32
  let r := s.seqSignal p b
  let s := r.2
  if r.1 ≠ 0 then s.abort p r.1 0
  else
    let here := fun s : State => s.modPart p fun q => { q with pc := BitVec.ofNat 32 off }
    match b.scalar with
    | none => s.issueEnd p b off nxt false false svals
    | some w =>
      match s.scalar p w off nxt with
      | .next s => if (s.part p).abort.isSome then here s else s.issueEnd p b off nxt false false svals
      | .jump t s => s.issueEnd p b off (min t 0xFFFFFFFF) true (scOp w == 0x2A) svals
      | .fault code arg s => (here s).abort p code arg

/-- The first byte of the next bundle that the bundle cache lacks (R194). -/
def Part.missing (q : Part) : Option Nat :=
  let off := q.next.toNat
  let n := match q.cached off 4 with
    | some h => 4 + slotBytes (BitVec.ofNat 32 (ofBytes h))
    | none => 4
  (List.range n).findSome? fun i => if q.bcache.any fun c => c.1 == off + i then none else some (off + i)

/-- The line of the code object that holds an offset, up to SIZE: its offset and its bytes. -/
def Part.fillLine (q : Part) (o : Nat) : Nat × Nat := (o / 64 * 64, min 64 (q.codeSize.toNat - o / 64 * 64))

/-- Full address of the code object of the task. -/
def Part.codeBase (q : Part) : Nat := (q.task.map fun t => t.code.toNat).getD 0

/-- A bundle fetch misses (R194): the line is asked for. -/
def State.bundleMiss (p : Fin 12) (s : State) : State :=
  let q := s.part p
  match q.missing with
  | none => s
  | some o =>
    let ln := q.fillLine o
    let a := q.codeBase + ln.1
    (s.modPart p fun q => { q with bmiss := true, fetchRet := none }).request (.seqFetch p q.taskNo) (.seq p) .read a ln.2 []

/-- R194 BUNDLE_ISSUE: the next bundle issues once no stall holds; a parity error of the sequencer is an
internal state error (R446). -/
def execBundleIssue (p : Fin 12) (parity : Bool) (s : State) : Out :=
  let q := s.part p
  .next (if s.seqRuns p && decide (q.skip = 0) && !q.storeBusy && !q.bmiss then
      if parity then s.abort p 0xF901 0
      else
        match q.fetch with
        | .miss => s.bundleMiss p
        | .fault code => s.abort p code 0
        | .ok b =>
          let code := b.check
          if code ≠ 0 then s.abort p code 0
          else if q.interlock b || !q.room b || q.seqWait.isSome then s
          else s.issueBundle p b
    else s)

/-- The data of a bundle fetch are in the bundle cache of 64 KiB (R194, R201). -/
def State.bundleFill (p : Fin 12) (o : Nat) (st : Code) (data : List Byte) (s : State) : State :=
  let s := s.modPart p fun q => { q with bmiss := false, fetchRet := none }
  if st ≠ 0 then s.abort p st 0
  else
    let new : List Host.Cell := (List.range data.length).map fun i => (o + i, nth 0 data i)
    (s.modPart p fun q =>
      { q with bcache := (new ++ q.bcache.filter fun c => decide (c.1 / 64 ≠ o / 64)).take 65536 }).markSeq p

/-- R194 BUNDLE_CACHE_FILL: what the fetch brought back enters the bundle cache. -/
def execBundleCacheFill (p : Fin 12) (s : State) : Out :=
  let q := s.part p
  .next (if q.bmiss && q.abort.isNone && decide (s.phase = .ready) then
      match q.missing, q.fetchRet with
      | none, _ => s.modPart p fun q => { q with bmiss := false }
      | some o, some (st, d) => s.bundleFill p (q.fillLine o).1 st d
      | some _, none => s
    else s)

/-- R198 SCALAR_LOAD_RETURN: the oldest load whose data have come back. -/
def execScalarLoadReturn (p : Fin 12) (s : State) : Out :=
  let q := s.part p
  .next (match q.loads.find? fun d => d.answer.isSome with
    | none => s
    | some d =>
      match d.answer with
      | none => s
      | some (st, bytes) =>
        let s := s.modPart p fun q => { q with loads := q.loads.erase d }
        if st ≠ 0 then s.abort p st 0
        else s.modPart p fun q => q.putS d.rd.val (BitVec.ofNat 64 (ofBytes (bytes.take d.size))))

/-- The entries of a broadcast for one engine (R197): a wait before the slot, a signal after it. -/
def Broadcast.queue (r : Broadcast) (e : Engine) : List Entry :=
  let sv := fun (w : Slot) => if bit w 14 then nth 0 r.svals (fld w 15 5) else 0
  let slot : List Entry := match (match e with
      | .load => r.load.map fun w => (BitVec.ofNat 96 w.toNat : Slot)
      | .matrix => r.matrix
      | .vector => r.vector.map fun w => (BitVec.ofNat 96 w.toNat : Slot)
      | .store => r.store.map fun w => (BitVec.ofNat 96 w.toNat : Slot)) with
    | some w => [{ sync := false, word := w, sval := if isControl w then sv w else 0 }]
    | none => []
  match r.sync with
  | some w =>
    let w := syncSlot w
    if syncEngine w = some e then
      let sy : Entry := { sync := true, word := w, sval := 0 }
      if syncIsWait w then sy :: slot else slot ++ [sy]
    else slot
  | none => slot

/-- Code of the checks of a core's dispatcher on what a broadcast brings (R222); 0 for none. -/
def Broadcast.check (full : Bool) (r : Broadcast) : Code :=
  let codes := [Engine.load, .matrix, .vector, .store].flatMap fun e =>
    (r.queue e).map fun en => if en.sync then syncCheck en.word else slotCheck full e en.word
  lowest (codes.map fun c => (decide (c ≠ 0), c))

/-- R226 SLOT_DISPATCH: the oldest broadcast reaches the core's dispatcher, which checks its slots and
writes them into the queues; a slot that faults aborts the task. -/
def execSlotDispatch (p : Fin 12) (l : Fin 32) (s : State) : Out :=
  let q := s.part p
  let c := s.core p l
  .next (if q.task.isSome && q.abort.isNone && !c.fenced && decide (s.phase = .ready) then
      match c.promenade with
      | [] => s
      | r :: t =>
        let s := s.modCore p l fun c => { c with promenade := t }
        let code := r.check s.full
        if code ≠ 0 then s.abortCore p l code 0
        else
          s.modCore p l fun c => [Engine.load, .matrix, .vector, .store].foldl (fun c e =>
            c.modCtx e r.ctx fun k => (r.queue e).foldl (fun k en => k.push s.now en) k) c
    else s)

end Sys2Proof.Machine
end

