-- ==== Sys2Proof/Machine/VectorOps.lean ====
section
/-! DEFINITION. The vector instructions (R130, R131, R135 to R142), one definition each. -/

namespace Sys2Proof.Machine

/-- Source and target format of a VCVT (R138, R216): of a 32-bit and a narrower format, in either field, AUX[4] gives the
direction; between two narrower ones it reads FMT for 0; between two 32-bit ones always FMT (log entries 60, 107). -/
def cvtForm (w : Slot) : BitVec 4 × BitVec 4 :=
  let f := vFmt w
  let o := BitVec.ofNat 4 (vAux w % 16)
  let back := decide (vAux w / 16 % 2 = 1)
  if fmtBits o = 32 then (if fmtBits f = 32 ∨ back = true then (f, o) else (o, f))
  else if back then (o, f) else (f, o)

/-- The half or quarter that a VCVT names. -/
def cvtPart (w : Slot) : Nat := vAux w / 32 % 4

/-- Element q of a VCVT (R52 to R55, R138): of a 32-bit format lane q of a, else element q of the named half or quarter. -/
def cvtElem (i : VIn) (q : Nat) : Nat × ConvFx :=
  let r := cvtForm i.w
  let v := if fmtBits r.1 = 32 then (lane i.a q).toNat else elemAt (lineBytes i.a) (fmtBits r.1) (128 * cvtPart i.w + q)
  convert i.core.ieeeOvf r.1 r.2 v

/-- The slot after a VCVT to a narrower format: the named half or quarter holds the results (R138). -/
def cvtSlot (i : VIn) (old : Line) : Line :=
  let n := fmtBits (cvtForm i.w).2
  let first := 128 * cvtPart i.w
  let d := lineBytes old
  lineOf (packElems n ((List.range (4096 / n)).map fun e =>
    let keep := elemAt d n e
    if first ≤ e ∧ e < first + 128 then
      (if active i.k i.w (e - first) then (cvtElem i (e - first)).1 else if zeroes i.k i.w then 0 else keep)
    else keep))

/-- A VCVT that has issued (R138). The model's choice (log entry 107): between two 32-bit formats it ignores the direction bit
AUX[4] and converts FMT to the other format. -/
def State.vecConvert (p : Fin 12) (l : Fin 32) (x : Duet) (en : Entry) (s src : State) : Issued :=
  let w := en.word
  if fmtBits (cvtForm w).2 = 32 then
    s.vecLine p l x (fun i q => let r := cvtElem i q; { bits := BitVec.ofNat 32 r.1, fx := r.2, finf := false }) en src
  else
    let i := src.vIn p l x w
    .done ((((s.writeLine p l (vDst w) (cvtSlot i ((s.core p l).v (vDst w)))).convVec p l
      ((activeList i.k w).foldl (fun a q => a.and (cvtElem i q).2) .none)).popD p l w).drawn)

/-- VCMPR (R139): the active lanes packed low, the rest by policy, VCNT their number. -/
def State.vecCompress (p : Fin 12) (l : Fin 32) (x : Duet) (en : Entry) (s src : State) : Issued :=
  let i := src.vIn p l x en.word
  let qs := activeList i.k en.word
  let old := (s.core p l).v (vDst en.word)
  let v : Line := Vector.ofFn fun q : Fin 128 => match qs[q.val]? with
    | some j => lane i.a j
    | none => if zeroes i.k en.word then 0 else vget 0 old q.val
  .done (((((s.writeLine p l (vDst en.word) v).modCore p l fun c => c.modVec x fun k =>
    { k with vcnt := BitVec.ofNat 8 qs.length }).popD p l en.word)).drawn)

/-- VEXPD (R139): successive lanes of a into the active lanes, VCNT their number. -/
def State.vecExpand (p : Fin 12) (l : Fin 32) (x : Duet) (en : Entry) (s src : State) : Issued :=
  let i := src.vIn p l x en.word
  let n := (activeList i.k en.word).length
  let v := mergeLanes i (fun i q => plain (lane i.a ((activeList i.k i.w).filter fun j => decide (j < q)).length))
    ((s.core p l).v (vDst en.word))
  .done (((((s.writeLine p l (vDst en.word) v).modCore p l fun c => c.modVec x fun k =>
    { k with vcnt := BitVec.ofNat 8 n }).popD p l en.word)).drawn)

/-- Change the vector state of a context. -/
def State.vecState (p : Fin 12) (l : Fin 32) (x : Duet) (f : VIn → EngCtx → VCtx → VCtx) (en : Entry) (s src : State) : Issued :=
  let i := src.vIn p l x en.word
  .done ((s.modCore p l fun c => c.modVec x (f i (c.ctx .vector x))).popD p l en.word)

/-- Bitwise operation on two masks. -/
def maskOp (g : Bool → Bool → Bool) (i : VIn) (q : Nat) : Bool :=
  g ((maskOf i.k (vMaskA i.w)).getLsbD q) ((maskOf i.k (vMaskB i.w)).getLsbD q)

/-- A slide by n lanes (R135): +0 from outside the line. -/
def slideLane (i : VIn) (q : Nat) : LaneOut :=
  let j : Int := (q : Int) + sext 8 (vAux i.w % 256)
  plain (if 0 ≤ j ∧ j < 128 then lane i.a j.toNat else 0)

/-- The new VL of a SETVL (R130). -/
def newVl (w : Slot) (c : EngCtx) (k : VCtx) : Nat :=
  if vImm w then (vImm32 w).toNat
  else if vAux w % 4 = 1 then min (c.rl (vAux w / 4 % 4)) 128
  else k.vcnt.toNat

/-- R136 VADD: a + b. -/
def execVadd (p : Fin 12) (l : Fin 32) (x : Duet) (found : Found) (s : State) : Out :=
  .next (s.vecIssue p l x found 0x00 (fun en src s => s.vecLine p l x (floatLane 2 fun a b _ => a.add b) en src))

/-- R136 VSUB: a − b. -/
def execVsub (p : Fin 12) (l : Fin 32) (x : Duet) (found : Found) (s : State) : Out :=
  .next (s.vecIssue p l x found 0x01 (fun en src s => s.vecLine p l x (floatLane 2 fun a b _ => a.add b.neg) en src))

/-- R136 VMUL: a × b. -/
def execVmul (p : Fin 12) (l : Fin 32) (x : Duet) (found : Found) (s : State) : Out :=
  .next (s.vecIssue p l x found 0x02 (fun en src s => s.vecLine p l x (floatLane 2 fun a b _ => a.mul b) en src))

/-- R136 VFMA: a × b + c, rounded once. -/
def execVfma (p : Fin 12) (l : Fin 32) (x : Duet) (found : Found) (s : State) : Out :=
  .next (s.vecIssue p l x found 0x03 (fun en src s => s.vecLine p l x (floatLane 3 fun a b c => (a.mul b).add c) en src))

/-- R136 VFMS: a × b − c, rounded once. -/
def execVfms (p : Fin 12) (l : Fin 32) (x : Duet) (found : Found) (s : State) : Out :=
  .next (s.vecIssue p l x found 0x04 (fun en src s => s.vecLine p l x (floatLane 3 fun a b c => (a.mul b).add c.neg) en src))

/-- R135 VMIN: IEEE 754-2019 minimum. -/
def execVmin (p : Fin 12) (l : Fin 32) (x : Duet) (found : Found) (s : State) : Out :=
  .next (s.vecIssue p l x found 0x05 (fun en src s => s.vecLine p l x (floatLane 2 fun a b _ => a.min b) en src))

/-- R135 VMAX: IEEE 754-2019 maximum. -/
def execVmax (p : Fin 12) (l : Fin 32) (x : Duet) (found : Found) (s : State) : Out :=
  .next (s.vecIssue p l x found 0x06 (fun en src s => s.vecLine p l x (floatLane 2 fun a b _ => a.max b) en src))

/-- R135 VABS: |a|. -/
def execVabs (p : Fin 12) (l : Fin 32) (x : Duet) (found : Found) (s : State) : Out :=
  .next (s.vecIssue p l x found 0x07 (fun en src s => s.vecLine p l x (floatLane 1 fun a _ _ => a.abs) en src))

/-- R135 VNEG: −a. -/
def execVneg (p : Fin 12) (l : Fin 32) (x : Duet) (found : Found) (s : State) : Out :=
  .next (s.vecIssue p l x found 0x08 (fun en src s => s.vecLine p l x (floatLane 1 fun a _ _ => a.neg) en src))

/-- R142 VDIV: a / b within 1 ulp. -/
def execVdiv (p : Fin 12) (l : Fin 32) (x : Duet) (found : Found) (s : State) : Out :=
  .next (s.vecIssue p l x found 0x09 (fun en src s => s.vecLine p l x (boundLane 2 divResult) en src))

/-- R142 VSQRT: √a, correctly rounded. -/
def execVsqrt (p : Fin 12) (l : Fin 32) (x : Duet) (found : Found) (s : State) : Out :=
  .next (s.vecIssue p l x found 0x0A (fun en src s => s.vecLine p l x (boundLane 1 fun a _ _ => f32 a.sqrt) en src))

/-- R135 VADDI: a + b modulo 2^32. -/
def execVaddi (p : Fin 12) (l : Fin 32) (x : Duet) (found : Found) (s : State) : Out :=
  .next (s.vecIssue p l x found 0x10 (fun en src s => s.vecLine p l x (wordLane fun a b => a + b) en src))

/-- R135 VSUBI: a − b modulo 2^32. -/
def execVsubi (p : Fin 12) (l : Fin 32) (x : Duet) (found : Found) (s : State) : Out :=
  .next (s.vecIssue p l x found 0x11 (fun en src s => s.vecLine p l x (wordLane fun a b => a - b) en src))

/-- R135 VMULI: the low 32 bits of a × b. -/
def execVmuli (p : Fin 12) (l : Fin 32) (x : Duet) (found : Found) (s : State) : Out :=
  .next (s.vecIssue p l x found 0x12 (fun en src s => s.vecLine p l x (wordLane fun a b => a * b) en src))

/-- R135 VMINI: the signed minimum. -/
def execVmini (p : Fin 12) (l : Fin 32) (x : Duet) (found : Found) (s : State) : Out :=
  .next (s.vecIssue p l x found 0x13 (fun en src s => s.vecLine p l x (wordLane fun a b => if b.toInt < a.toInt then b else a) en src))

/-- R135 VMAXI: the signed maximum. -/
def execVmaxi (p : Fin 12) (l : Fin 32) (x : Duet) (found : Found) (s : State) : Out :=
  .next (s.vecIssue p l x found 0x14 (fun en src s => s.vecLine p l x (wordLane fun a b => if a.toInt < b.toInt then b else a) en src))

/-- R135 VAND: a AND b. -/
def execVand (p : Fin 12) (l : Fin 32) (x : Duet) (found : Found) (s : State) : Out :=
  .next (s.vecIssue p l x found 0x15 (fun en src s => s.vecLine p l x (wordLane fun a b => a &&& b) en src))

/-- R135 VOR: a OR b. -/
def execVor (p : Fin 12) (l : Fin 32) (x : Duet) (found : Found) (s : State) : Out :=
  .next (s.vecIssue p l x found 0x16 (fun en src s => s.vecLine p l x (wordLane fun a b => a ||| b) en src))

/-- R135 VXOR: a XOR b. -/
def execVxor (p : Fin 12) (l : Fin 32) (x : Duet) (found : Found) (s : State) : Out :=
  .next (s.vecIssue p l x found 0x17 (fun en src s => s.vecLine p l x (wordLane fun a b => a ^^^ b) en src))

/-- R135 VNOT: NOT a. -/
def execVnot (p : Fin 12) (l : Fin 32) (x : Duet) (found : Found) (s : State) : Out :=
  .next (s.vecIssue p l x found 0x18 (fun en src s => s.vecLine p l x (wordLane fun a _ => ~~~a) en src))

/-- R135 VSHL: a shifted left by b[4:0]. -/
def execVshl (p : Fin 12) (l : Fin 32) (x : Duet) (found : Found) (s : State) : Out :=
  .next (s.vecIssue p l x found 0x19 (fun en src s => s.vecLine p l x (wordLane fun a b => a <<< (b.toNat % 32)) en src))

/-- R135 VSHRL: a shifted right by b[4:0], logically. -/
def execVshrl (p : Fin 12) (l : Fin 32) (x : Duet) (found : Found) (s : State) : Out :=
  .next (s.vecIssue p l x found 0x1A (fun en src s => s.vecLine p l x (wordLane fun a b => a >>> (b.toNat % 32)) en src))

/-- R135 VSHRA: a shifted right by b[4:0], arithmetically. -/
def execVshra (p : Fin 12) (l : Fin 32) (x : Duet) (found : Found) (s : State) : Out :=
  .next (s.vecIssue p l x found 0x1B (fun en src s => s.vecLine p l x (wordLane fun a b => a.sshiftRight (b.toNat % 32)) en src))

/-- R137 VCMP.EQ: mask bits where a EQ b. -/
def execVcmpEq (p : Fin 12) (l : Fin 32) (x : Duet) (found : Found) (s : State) : Out :=
  .next (s.vecIssue p l x found 0x20 (fun en src s => s.vecMask p l x (compareLane (ordered Num.eq) fun a b => decide (a = b)) en src))

/-- R137 VCMP.NE: mask bits where a NE b. -/
def execVcmpNe (p : Fin 12) (l : Fin 32) (x : Duet) (found : Found) (s : State) : Out :=
  .next (s.vecIssue p l x found 0x21 (fun en src s => s.vecMask p l x (compareLane (fun a b => !Num.eq a b) fun a b => decide (a ≠ b)) en src))

/-- R137 VCMP.LT: mask bits where a LT b. -/
def execVcmpLt (p : Fin 12) (l : Fin 32) (x : Duet) (found : Found) (s : State) : Out :=
  .next (s.vecIssue p l x found 0x22 (fun en src s => s.vecMask p l x (compareLane (ordered Num.lt) fun a b => decide (a < b)) en src))

/-- R137 VCMP.LE: mask bits where a LE b. -/
def execVcmpLe (p : Fin 12) (l : Fin 32) (x : Duet) (found : Found) (s : State) : Out :=
  .next (s.vecIssue p l x found 0x23 (fun en src s => s.vecMask p l x (compareLane (ordered (fun a b => !Num.lt b a)) fun a b => decide (a ≤ b)) en src))

/-- R137 VCMP.GT: mask bits where a GT b. -/
def execVcmpGt (p : Fin 12) (l : Fin 32) (x : Duet) (found : Found) (s : State) : Out :=
  .next (s.vecIssue p l x found 0x24 (fun en src s => s.vecMask p l x (compareLane (ordered (fun a b => Num.lt b a)) fun a b => decide (b < a)) en src))

/-- R137 VCMP.GE: mask bits where a GE b. -/
def execVcmpGe (p : Fin 12) (l : Fin 32) (x : Duet) (found : Found) (s : State) : Out :=
  .next (s.vecIssue p l x found 0x25 (fun en src s => s.vecMask p l x (compareLane (ordered (fun a b => !Num.lt a b)) fun a b => decide (b ≤ a)) en src))

/-- R135 VSEL: a where the selector mask is 1, else b. -/
def execVsel (p : Fin 12) (l : Fin 32) (x : Duet) (found : Found) (s : State) : Out :=
  .next (s.vecIssue p l x found 0x28 (fun en src s => s.vecLine p l x (fun i q => plain (if (maskOf i.k (vAux i.w % 8)).getLsbD q then lane i.a q else lane i.b q)) en src))

/-- R135 VMOV: d = a. -/
def execVmov (p : Fin 12) (l : Fin 32) (x : Duet) (found : Found) (s : State) : Out :=
  .next (s.vecIssue p l x found 0x29 (fun en src s => s.vecLine p l x (fun i q => plain (lane i.a q)) en src))

/-- R135 VBCST: d = the broadcast b. -/
def execVbcst (p : Fin 12) (l : Fin 32) (x : Duet) (found : Found) (s : State) : Out :=
  .next (s.vecIssue p l x found 0x2A (fun en src s => s.vecLine p l x (fun i q => plain (lane i.b q)) en src))

/-- R135 VIOTA: d = lane index + immediate. -/
def execViota (p : Fin 12) (l : Fin 32) (x : Duet) (found : Found) (s : State) : Out :=
  .next (s.vecIssue p l x found 0x2B (fun en src s => s.vecLine p l x (fun i q => plain (BitVec.ofNat 32 q + vImm32 i.w)) en src))

/-- R135 VSLIDE: d = a[lane + n]. -/
def execVslide (p : Fin 12) (l : Fin 32) (x : Duet) (found : Found) (s : State) : Out :=
  .next (s.vecIssue p l x found 0x2C (fun en src s => s.vecLine p l x slideLane en src))

/-- R138 VCVT: conversion between formats. -/
def execVcvt (p : Fin 12) (l : Fin 32) (x : Duet) (found : Found) (s : State) : Out :=
  .next (s.vecIssue p l x found 0x2D (fun en src s => s.vecConvert p l x en src))

/-- R142 VEXP2: 2^a within its bound. -/
def execVexp2 (p : Fin 12) (l : Fin 32) (x : Duet) (found : Found) (s : State) : Out :=
  .next (s.vecIssue p l x found 0x30 (fun en src s => s.vecLine p l x (boundLane 1 fun a _ r => Tran.result .exp2 a r) en src))

/-- R142 VEXP: e^a within its bound. -/
def execVexp (p : Fin 12) (l : Fin 32) (x : Duet) (found : Found) (s : State) : Out :=
  .next (s.vecIssue p l x found 0x31 (fun en src s => s.vecLine p l x (boundLane 1 fun a _ r => Tran.result .exp a r) en src))

/-- R142 VLOG2: log₂ a within its bound. -/
def execVlog2 (p : Fin 12) (l : Fin 32) (x : Duet) (found : Found) (s : State) : Out :=
  .next (s.vecIssue p l x found 0x32 (fun en src s => s.vecLine p l x (boundLane 1 fun a _ r => Tran.result .log2 a r) en src))

/-- R142 VLN: ln a within its bound. -/
def execVln (p : Fin 12) (l : Fin 32) (x : Duet) (found : Found) (s : State) : Out :=
  .next (s.vecIssue p l x found 0x33 (fun en src s => s.vecLine p l x (boundLane 1 fun a _ r => Tran.result .ln a r) en src))

/-- R142 VRCP: 1/a within its bound. -/
def execVrcp (p : Fin 12) (l : Fin 32) (x : Duet) (found : Found) (s : State) : Out :=
  .next (s.vecIssue p l x found 0x34 (fun en src s => s.vecLine p l x (boundLane 1 fun a _ r => Tran.result .rcp a r) en src))

/-- R142 VRSQRT: 1/√a within its bound. -/
def execVrsqrt (p : Fin 12) (l : Fin 32) (x : Duet) (found : Found) (s : State) : Out :=
  .next (s.vecIssue p l x found 0x35 (fun en src s => s.vecLine p l x (boundLane 1 fun a _ r => Tran.result .rsqrt a r) en src))

/-- R142 VTANH: tanh a within its bound. -/
def execVtanh (p : Fin 12) (l : Fin 32) (x : Duet) (found : Found) (s : State) : Out :=
  .next (s.vecIssue p l x found 0x36 (fun en src s => s.vecLine p l x (boundLane 1 fun a _ r => Tran.result .tanh a r) en src))

/-- R142 VSIGM: 1/(1 + e^−a) within its bound. -/
def execVsigm (p : Fin 12) (l : Fin 32) (x : Duet) (found : Found) (s : State) : Out :=
  .next (s.vecIssue p l x found 0x37 (fun en src s => s.vecLine p l x (boundLane 1 fun a _ r => Tran.result .sigm a r) en src))

/-- R142 VERF: erf a within its bound. -/
def execVerf (p : Fin 12) (l : Fin 32) (x : Duet) (found : Found) (s : State) : Out :=
  .next (s.vecIssue p l x found 0x38 (fun en src s => s.vecLine p l x (boundLane 1 fun a _ r => Tran.result .erf a r) en src))

/-- R139 VCMPR: compress. -/
def execVcmpr (p : Fin 12) (l : Fin 32) (x : Duet) (found : Found) (s : State) : Out :=
  .next (s.vecIssue p l x found 0x3C (fun en src s => s.vecCompress p l x en src))

/-- R139 VEXPD: expand. -/
def execVexpd (p : Fin 12) (l : Fin 32) (x : Duet) (found : Found) (s : State) : Out :=
  .next (s.vecIssue p l x found 0x3D (fun en src s => s.vecExpand p l x en src))

/-- R140 VSCAN.SUM: prefix SUM. -/
def execVscanSum (p : Fin 12) (l : Fin 32) (x : Duet) (found : Found) (s : State) : Out :=
  .next (s.vecIssue p l x found 0x40 (fun en src s => s.vecLine p l x (scanLane .sum) en src))

/-- R140 VSCAN.MAX: prefix MAX. -/
def execVscanMax (p : Fin 12) (l : Fin 32) (x : Duet) (found : Found) (s : State) : Out :=
  .next (s.vecIssue p l x found 0x41 (fun en src s => s.vecLine p l x (scanLane .max) en src))

/-- R140 VSCAN.MIN: prefix MIN. -/
def execVscanMin (p : Fin 12) (l : Fin 32) (x : Duet) (found : Found) (s : State) : Out :=
  .next (s.vecIssue p l x found 0x42 (fun en src s => s.vecLine p l x (scanLane .min) en src))

/-- R141 VRED.SUM: reduction SUM. -/
def execVredSum (p : Fin 12) (l : Fin 32) (x : Duet) (found : Found) (s : State) : Out :=
  .next (s.vecIssue p l x found 0x44 (fun en src s => s.vecReduce p l x (reduceComb .sum) en src))

/-- R141 VRED.MAX: reduction MAX. -/
def execVredMax (p : Fin 12) (l : Fin 32) (x : Duet) (found : Found) (s : State) : Out :=
  .next (s.vecIssue p l x found 0x45 (fun en src s => s.vecReduce p l x (reduceComb .max) en src))

/-- R141 VRED.MIN: reduction MIN. -/
def execVredMin (p : Fin 12) (l : Fin 32) (x : Duet) (found : Found) (s : State) : Out :=
  .next (s.vecIssue p l x found 0x46 (fun en src s => s.vecReduce p l x (reduceComb .min) en src))

/-- R141 VRED.ARGMAX: reduction ARGMAX. -/
def execVredArgmax (p : Fin 12) (l : Fin 32) (x : Duet) (found : Found) (s : State) : Out :=
  .next (s.vecIssue p l x found 0x47 (fun en src s => s.vecReduce p l x (reduceArg true) en src))

/-- R141 VRED.ARGMIN: reduction ARGMIN. -/
def execVredArgmin (p : Fin 12) (l : Fin 32) (x : Duet) (found : Found) (s : State) : Out :=
  .next (s.vecIssue p l x found 0x48 (fun en src s => s.vecReduce p l x (reduceArg false) en src))

/-- R141 VRED.AND: reduction AND. -/
def execVredAnd (p : Fin 12) (l : Fin 32) (x : Duet) (found : Found) (s : State) : Out :=
  .next (s.vecIssue p l x found 0x49 (fun en src s => s.vecReduce p l x (reduceComb .and) en src))

/-- R141 VRED.OR: reduction OR. -/
def execVredOr (p : Fin 12) (l : Fin 32) (x : Duet) (found : Found) (s : State) : Out :=
  .next (s.vecIssue p l x found 0x4A (fun en src s => s.vecReduce p l x (reduceComb .or) en src))

/-- R141 VRED.XOR: reduction XOR. -/
def execVredXor (p : Fin 12) (l : Fin 32) (x : Duet) (found : Found) (s : State) : Out :=
  .next (s.vecIssue p l x found 0x4B (fun en src s => s.vecReduce p l x (reduceComb .xor) en src))

/-- R135 VMLOG.AND: mask AND. -/
def execVmlogAnd (p : Fin 12) (l : Fin 32) (x : Duet) (found : Found) (s : State) : Out :=
  .next (s.vecIssue p l x found 0x50 (fun en src s => s.vecMask p l x (maskOp fun a b => a && b) en src))

/-- R135 VMLOG.OR: mask OR. -/
def execVmlogOr (p : Fin 12) (l : Fin 32) (x : Duet) (found : Found) (s : State) : Out :=
  .next (s.vecIssue p l x found 0x51 (fun en src s => s.vecMask p l x (maskOp fun a b => a || b) en src))

/-- R135 VMLOG.XOR: mask XOR. -/
def execVmlogXor (p : Fin 12) (l : Fin 32) (x : Duet) (found : Found) (s : State) : Out :=
  .next (s.vecIssue p l x found 0x52 (fun en src s => s.vecMask p l x (maskOp fun a b => a != b) en src))

/-- R135 VMLOG.ANDN: a AND NOT b. The model's choice (log entry 107): the mask that VB names is the one complemented. -/
def execVmlogAndn (p : Fin 12) (l : Fin 32) (x : Duet) (found : Found) (s : State) : Out :=
  .next (s.vecIssue p l x found 0x53 (fun en src s => s.vecMask p l x (maskOp fun a b => a && !b) en src))

/-- R135 VMNOT: mask complement. -/
def execVmnot (p : Fin 12) (l : Fin 32) (x : Duet) (found : Found) (s : State) : Out :=
  .next (s.vecIssue p l x found 0x54 (fun en src s => s.vecMask p l x (maskOp fun a _ => !a) en src))

/-- R135 VMFIRST: mask bits below the immediate. -/
def execVmfirst (p : Fin 12) (l : Fin 32) (x : Duet) (found : Found) (s : State) : Out :=
  .next (s.vecIssue p l x found 0x55 (fun en src s => s.vecMask p l x (fun i q => decide (q < (vImm32 i.w).toNat)) en src))

/-- R135 VMFROM: mask bits from bit 0 of the lanes. -/
def execVmfrom (p : Fin 12) (l : Fin 32) (x : Duet) (found : Found) (s : State) : Out :=
  .next (s.vecIssue p l x found 0x56 (fun en src s => s.vecMask p l x (fun i q => (lane i.a q).getLsbD 0) en src))

/-- R135 VMTO: lanes from mask bits. -/
def execVmto (p : Fin 12) (l : Fin 32) (x : Duet) (found : Found) (s : State) : Out :=
  .next (s.vecIssue p l x found 0x57 (fun en src s => s.vecLine p l x (fun i q => plain (if (maskOf i.k (vMaskA i.w)).getLsbD q then 1 else 0)) en src))

/-- R131 VMPOL: the policy bit of a mask. -/
def execVmpol (p : Fin 12) (l : Fin 32) (x : Duet) (found : Found) (s : State) : Out :=
  .next (s.vecIssue p l x found 0x58 (fun en src s => s.vecState p l x (fun i _ k =>
    let m := BitVec.ofNat 8 (2 ^ vMaskD i.w)
    { k with pol := if vAux i.w % 2 = 1 then k.pol ||| m else k.pol &&& ~~~m }) en src))

/-- R130 SETVL: the vector length. -/
def execSetvl (p : Fin 12) (l : Fin 32) (x : Duet) (found : Found) (s : State) : Out :=
  .next (s.vecIssue p l x found 0x5C (fun en src s => s.vecState p l x (fun i c k => { k with vl := BitVec.ofNat 8 (newVl i.w c k) }) en src))

end Sys2Proof.Machine
end

