-- ==== Sys2Proof/Machine/Dispatch.lean ====
section
/-! DEFINITION. One arm for every command of the table: the direct call of its meaning. -/

namespace Sys2Proof.Machine

/-- The effect of a command on everything but the queue of waiting commands. -/
def exec (i : Instr) (s : State) : Host.Outcome State Fault Refusal :=
  match i with
  | .coldReset env => Sys2Proof.Machine.execColdReset env s
  | .pwrOkFall => Sys2Proof.Machine.execPwrOkFall s
  | .warmReset h v => Sys2Proof.Machine.execWarmReset h v s
  | .stackTrainingDone d ok => Sys2Proof.Machine.execStackTrainingDone d ok s
  | .timingMessage => Sys2Proof.Machine.execTimingMessage s
  | .controlRead h hdr data => Sys2Proof.Machine.execControlRead h hdr data s
  | .controlWrite h hdr data => Sys2Proof.Machine.execControlWrite h hdr data s
  | .doorbell h hdr data => Sys2Proof.Machine.execDoorbell h hdr data s
  | .stream h hdr data => Sys2Proof.Machine.execStream h hdr data s
  | .registerWrite src a v clash => Sys2Proof.Machine.execRegisterWrite src a v s clash
  | .readClear src a => Sys2Proof.Machine.execReadClear src a s
  | .latchingRead src a => Sys2Proof.Machine.execLatchingRead src a s
  | .gridEntWrite src p l e v => Sys2Proof.Machine.execGridEntWrite src p l e v s
  | .gridCsrWrite src p l n v => Sys2Proof.Machine.execGridCsrWrite src p l n v s
  | .steerSlotWrite src p l k w v => Sys2Proof.Machine.execSteerSlotWrite src p l k w v s
  | .gmaskUpdate p l => Sys2Proof.Machine.execGmaskUpdate p l s
  | .descriptorEntryWrite src p hd ent => Sys2Proof.Machine.execDescriptorEntryWrite src p hd ent s
  | .ringCommit src c v => Sys2Proof.Machine.execRingCommit src c v s
  | .tailWrite src c v => Sys2Proof.Machine.execTailWrite src c v s
  | .trunkCtailBc src p v => Sys2Proof.Machine.execTrunkCtailBc src p v s
  | .trunkDepotInv src p v => Sys2Proof.Machine.execTrunkDepotInv src p v s
  | .relayPush src p q v => Sys2Proof.Machine.execRelayPush src p q v s
  | .relayPop src p q => Sys2Proof.Machine.execRelayPop src p q s
  | .claimRead src p n => Sys2Proof.Machine.execClaimRead src p n s
  | .claimRelease src p n v => Sys2Proof.Machine.execClaimRelease src p n v s
  | .semaphoreSet src sp idx v => Sys2Proof.Machine.execSemaphoreSet src sp idx v s
  | .addAlias src sp idx v => Sys2Proof.Machine.execAddAlias src sp idx v s
  | .subAlias src sp idx v => Sys2Proof.Machine.execSubAlias src sp idx v s
  | .counterSet src sp idx v => Sys2Proof.Machine.execCounterSet src sp idx v s
  | .incAlias src sp idx v => Sys2Proof.Machine.execIncAlias src sp idx v s
  | .globalOwnerWrite src hub w v => Sys2Proof.Machine.execGlobalOwnerWrite src hub w v s
  | .taskRingCommit src h v => Sys2Proof.Machine.execTaskRingCommit src h v s
  | .taskTailWrite src h v => Sys2Proof.Machine.execTaskTailWrite src h v s
  | .linkCertWrite src w v => Sys2Proof.Machine.execLinkCertWrite src w v s
  | .linkDisable src n v => Sys2Proof.Machine.execLinkDisable src n v s
  | .rearm src n v => Sys2Proof.Machine.execRearm src n v s
  | .rekey src n v => Sys2Proof.Machine.execRekey src n v s
  | .pctlClr src p v => Sys2Proof.Machine.execPctlClr src p v s
  | .traceEnable src p v => Sys2Proof.Machine.execTraceEnable src p v s
  | .bundleIssue p parity => Sys2Proof.Machine.execBundleIssue p parity s
  | .bundleCacheFill p => Sys2Proof.Machine.execBundleCacheFill p s
  | .scalarLoadReturn p => Sys2Proof.Machine.execScalarLoadReturn p s
  | .slotDispatch p l => Sys2Proof.Machine.execSlotDispatch p l s
  | .opa p l x found => Sys2Proof.Machine.execOpa p l x found s
  | .stripe p l x found => Sys2Proof.Machine.execStripe p l x found s
  | .drain p l x found => Sys2Proof.Machine.execDrain p l x found s
  | .clear p l x found => Sys2Proof.Machine.execClear p l x found s
  | .stage p l x found => Sys2Proof.Machine.execStage p l x found s
  | .slot p l x found => Sys2Proof.Machine.execSlot p l x found s
  | .csr p l x found => Sys2Proof.Machine.execCsr p l x found s
  | .grid p l x found => Sys2Proof.Machine.execGrid p l x found s
  | .wslot p l x found => Sys2Proof.Machine.execWslot p l x found s
  | .wdrain p l x found => Sys2Proof.Machine.execWdrain p l x found s
  | .wsets p l x found => Sys2Proof.Machine.execWsets p l x found s
  | .setr p l e x => Sys2Proof.Machine.execSetr p l e x s
  | .addr p l e x => Sys2Proof.Machine.execAddr p l e x s
  | .rankadd p l e x => Sys2Proof.Machine.execRankadd p l e x s
  | .loop p l e x => Sys2Proof.Machine.execLoop p l e x s
  | .bind p l e x => Sys2Proof.Machine.execBind p l e x s
  | .descriptorCacheFill u => Sys2Proof.Machine.execDescriptorCacheFill u s
  | .vadd p l x found => Sys2Proof.Machine.execVadd p l x found s
  | .vsub p l x found => Sys2Proof.Machine.execVsub p l x found s
  | .vmul p l x found => Sys2Proof.Machine.execVmul p l x found s
  | .vfma p l x found => Sys2Proof.Machine.execVfma p l x found s
  | .vfms p l x found => Sys2Proof.Machine.execVfms p l x found s
  | .vmin p l x found => Sys2Proof.Machine.execVmin p l x found s
  | .vmax p l x found => Sys2Proof.Machine.execVmax p l x found s
  | .vabs p l x found => Sys2Proof.Machine.execVabs p l x found s
  | .vneg p l x found => Sys2Proof.Machine.execVneg p l x found s
  | .vdiv p l x found => Sys2Proof.Machine.execVdiv p l x found s
  | .vsqrt p l x found => Sys2Proof.Machine.execVsqrt p l x found s
  | .vaddi p l x found => Sys2Proof.Machine.execVaddi p l x found s
  | .vsubi p l x found => Sys2Proof.Machine.execVsubi p l x found s
  | .vmuli p l x found => Sys2Proof.Machine.execVmuli p l x found s
  | .vmini p l x found => Sys2Proof.Machine.execVmini p l x found s
  | .vmaxi p l x found => Sys2Proof.Machine.execVmaxi p l x found s
  | .vand p l x found => Sys2Proof.Machine.execVand p l x found s
  | .vor p l x found => Sys2Proof.Machine.execVor p l x found s
  | .vxor p l x found => Sys2Proof.Machine.execVxor p l x found s
  | .vnot p l x found => Sys2Proof.Machine.execVnot p l x found s
  | .vshl p l x found => Sys2Proof.Machine.execVshl p l x found s
  | .vshrl p l x found => Sys2Proof.Machine.execVshrl p l x found s
  | .vshra p l x found => Sys2Proof.Machine.execVshra p l x found s
  | .vcmpEq p l x found => Sys2Proof.Machine.execVcmpEq p l x found s
  | .vcmpNe p l x found => Sys2Proof.Machine.execVcmpNe p l x found s
  | .vcmpLt p l x found => Sys2Proof.Machine.execVcmpLt p l x found s
  | .vcmpLe p l x found => Sys2Proof.Machine.execVcmpLe p l x found s
  | .vcmpGt p l x found => Sys2Proof.Machine.execVcmpGt p l x found s
  | .vcmpGe p l x found => Sys2Proof.Machine.execVcmpGe p l x found s
  | .vsel p l x found => Sys2Proof.Machine.execVsel p l x found s
  | .vmov p l x found => Sys2Proof.Machine.execVmov p l x found s
  | .vbcst p l x found => Sys2Proof.Machine.execVbcst p l x found s
  | .viota p l x found => Sys2Proof.Machine.execViota p l x found s
  | .vslide p l x found => Sys2Proof.Machine.execVslide p l x found s
  | .vcvt p l x found => Sys2Proof.Machine.execVcvt p l x found s
  | .vexp2 p l x found => Sys2Proof.Machine.execVexp2 p l x found s
  | .vexp p l x found => Sys2Proof.Machine.execVexp p l x found s
  | .vlog2 p l x found => Sys2Proof.Machine.execVlog2 p l x found s
  | .vln p l x found => Sys2Proof.Machine.execVln p l x found s
  | .vrcp p l x found => Sys2Proof.Machine.execVrcp p l x found s
  | .vrsqrt p l x found => Sys2Proof.Machine.execVrsqrt p l x found s
  | .vtanh p l x found => Sys2Proof.Machine.execVtanh p l x found s
  | .vsigm p l x found => Sys2Proof.Machine.execVsigm p l x found s
  | .verf p l x found => Sys2Proof.Machine.execVerf p l x found s
  | .vcmpr p l x found => Sys2Proof.Machine.execVcmpr p l x found s
  | .vexpd p l x found => Sys2Proof.Machine.execVexpd p l x found s
  | .vscanSum p l x found => Sys2Proof.Machine.execVscanSum p l x found s
  | .vscanMax p l x found => Sys2Proof.Machine.execVscanMax p l x found s
  | .vscanMin p l x found => Sys2Proof.Machine.execVscanMin p l x found s
  | .vredSum p l x found => Sys2Proof.Machine.execVredSum p l x found s
  | .vredMax p l x found => Sys2Proof.Machine.execVredMax p l x found s
  | .vredMin p l x found => Sys2Proof.Machine.execVredMin p l x found s
  | .vredArgmax p l x found => Sys2Proof.Machine.execVredArgmax p l x found s
  | .vredArgmin p l x found => Sys2Proof.Machine.execVredArgmin p l x found s
  | .vredAnd p l x found => Sys2Proof.Machine.execVredAnd p l x found s
  | .vredOr p l x found => Sys2Proof.Machine.execVredOr p l x found s
  | .vredXor p l x found => Sys2Proof.Machine.execVredXor p l x found s
  | .vmlogAnd p l x found => Sys2Proof.Machine.execVmlogAnd p l x found s
  | .vmlogOr p l x found => Sys2Proof.Machine.execVmlogOr p l x found s
  | .vmlogXor p l x found => Sys2Proof.Machine.execVmlogXor p l x found s
  | .vmlogAndn p l x found => Sys2Proof.Machine.execVmlogAndn p l x found s
  | .vmnot p l x found => Sys2Proof.Machine.execVmnot p l x found s
  | .vmfirst p l x found => Sys2Proof.Machine.execVmfirst p l x found s
  | .vmfrom p l x found => Sys2Proof.Machine.execVmfrom p l x found s
  | .vmto p l x found => Sys2Proof.Machine.execVmto p l x found s
  | .vmpol p l x found => Sys2Proof.Machine.execVmpol p l x found s
  | .setvl p l x found => Sys2Proof.Machine.execSetvl p l x found s
  | .quant p l x found => Sys2Proof.Machine.execQuant p l x found s
  | .steer p l x found => Sys2Proof.Machine.execSteer p l x found s
  | .steerCal p l x found => Sys2Proof.Machine.execSteerCal p l x found s
  | .steerDecision p k => Sys2Proof.Machine.execSteerDecision p k s
  | .vcustS p l x found => Sys2Proof.Machine.execVcustS p l x found s
  | .vcustR p l x found => Sys2Proof.Machine.execVcustR p l x found s
  | .copResponse p l beat more => Sys2Proof.Machine.execCopResponse p l beat more s
  | .customOpTimeout p l => Sys2Proof.Machine.execCustomOpTimeout p l s
  | .copRequestStall p l => Sys2Proof.Machine.execCopRequestStall p l s
  | .waitGe u => Sys2Proof.Machine.execWaitGe u s
  | .waitSub u meet => Sys2Proof.Machine.execWaitSub u s meet
  | .waitReach u => Sys2Proof.Machine.execWaitReach u s
  | .semAdd p l e x meet => Sys2Proof.Machine.execSemAdd p l e x s meet
  | .semSub p l e x meet => Sys2Proof.Machine.execSemSub p l e x s meet
  | .inc p l e x meet => Sys2Proof.Machine.execInc p l e x s meet
  | .watchdogExpiry u => Sys2Proof.Machine.execWatchdogExpiry u s
  | .taskDescriptorCheck h => Sys2Proof.Machine.execTaskDescriptorCheck h s
  | .taskDelivery h => Sys2Proof.Machine.execTaskDelivery h s
  | .taskStart p parity => Sys2Proof.Machine.execTaskStart p parity s
  | .taskFinish p => Sys2Proof.Machine.execTaskFinish p s
  | .endRecord h => Sys2Proof.Machine.execEndRecord h s
  | .abortPropagate h => Sys2Proof.Machine.execAbortPropagate h s
  | .channelFlushTimeout c => Sys2Proof.Machine.execChannelFlushTimeout c s
  | .abortDump p => Sys2Proof.Machine.execAbortDump p s
  | .baleFetch c parity => Sys2Proof.Machine.execBaleFetch c parity s
  | .baleRelayPop c => Sys2Proof.Machine.execBaleRelayPop c s
  | .baleStart c parity more => Sys2Proof.Machine.execBaleStart c parity more s
  | .baleComplete c => Sys2Proof.Machine.execBaleComplete c s
  | .baleRelayPush c => Sys2Proof.Machine.execBaleRelayPush c s
  | .deadlineMiss p n => Sys2Proof.Machine.execDeadlineMiss p n s
  | .scratchpadDmaAccess p l cls flips parity => Sys2Proof.Machine.execScratchpadDmaAccess p l cls flips parity s
  | .eccWriteBack p l => Sys2Proof.Machine.execEccWriteBack p l s
  | .stackPortAccess d cls sel bad ca => Sys2Proof.Machine.execStackPortAccess d cls sel bad s ca
  | .readDataReturn c => Sys2Proof.Machine.execReadDataReturn c s
  | .depotLineFill d => Sys2Proof.Machine.execDepotLineFill d s
  | .patrolScrub d unit bad ca => Sys2Proof.Machine.execPatrolScrub d unit bad s ca
  | .temperatureRead d t => Sys2Proof.Machine.execTemperatureRead d t s
  | .refresh d rfm => Sys2Proof.Machine.execRefresh d s rfm
  | .regionKeySwap r => Sys2Proof.Machine.execRegionKeySwap r s
  | .zeroFillDone r => Sys2Proof.Machine.execZeroFillDone r s
  | .streamHeader h => Sys2Proof.Machine.execStreamHeader h s
  | .borderDrainTimeout h => Sys2Proof.Machine.execBorderDrainTimeout h s
  | .segment h => Sys2Proof.Machine.execSegment h s
  | .personalityRelease h => Sys2Proof.Machine.execPersonalityRelease h s
  | .fabricPllLockTimeout h => Sys2Proof.Machine.execFabricPllLockTimeout h s
  | .streamTimeout h => Sys2Proof.Machine.execStreamTimeout h s
  | .linkTrainStart h => Sys2Proof.Machine.execLinkTrainStart h s
  | .linkTrainDone n rev => Sys2Proof.Machine.execLinkTrainDone n rev s
  | .linkTrainTimeout n => Sys2Proof.Machine.execLinkTrainTimeout n s
  | .linkAuthTimeout n => Sys2Proof.Machine.execLinkAuthTimeout n s
  | .linkRetrain n => Sys2Proof.Machine.execLinkRetrain n s
  | .flitTransmit n => Sys2Proof.Machine.execFlitTransmit n s
  | .flitReceive n fecOk flit => Sys2Proof.Machine.execFlitReceive n fecOk flit s
  | .ackInterval n => Sys2Proof.Machine.execAckInterval n s
  | .heartbeatSend n => Sys2Proof.Machine.execHeartbeatSend n s
  | .hubAliasForward h => Sys2Proof.Machine.execHubAliasForward h s
  | .flitSilence n => Sys2Proof.Machine.execFlitSilence n s
  | .creditStarvation n => Sys2Proof.Machine.execCreditStarvation n s
  | .remoteRequestTimeout n tag => Sys2Proof.Machine.execRemoteRequestTimeout n tag s
  | .eventQueueRoom h room => Sys2Proof.Machine.execEventQueueRoom h room s
  | .tenantSet h v => Sys2Proof.Machine.execTenantSet h v s
  | .regionSet h v => Sys2Proof.Machine.execRegionSet h v s
  | .attest h v => Sys2Proof.Machine.execAttest h v s
  | .lcAdvance h v => Sys2Proof.Machine.execLcAdvance h v s
  | .fence src p l v => Sys2Proof.Machine.execFence src p l v s
  | .unfence src p l v => Sys2Proof.Machine.execUnfence src p l v s
  | .bypassOctet src p l v => Sys2Proof.Machine.execBypassOctet src p l v s
  | .partitionReset src p v => Sys2Proof.Machine.execPartitionReset src p v s
  | .capture h v => Sys2Proof.Machine.execCapture h v s
  | .captureQuiesced => Sys2Proof.Machine.execCaptureQuiesced s
  | .captureQuiesceTimeout => Sys2Proof.Machine.execCaptureQuiesceTimeout s
  | .captureWriteDone status => Sys2Proof.Machine.execCaptureWriteDone status s
  | .rampStart p => Sys2Proof.Machine.execRampStart p s
  | .rampStep p => Sys2Proof.Machine.execRampStep p s
  | .tapReset => Sys2Proof.Machine.execTapReset s
  | .bypass d => Sys2Proof.Machine.execBypass d s
  | .idcode d => Sys2Proof.Machine.execIdcode d s
  | .samplePreload d => Sys2Proof.Machine.execSamplePreload d s
  | .extest d => Sys2Proof.Machine.execExtest d s
  | .clamp d => Sys2Proof.Machine.execClamp d s
  | .highz d => Sys2Proof.Machine.execHighz d s
  | .wspSelect d => Sys2Proof.Machine.execWspSelect d s
  | .wsBypass d t data => Sys2Proof.Machine.execWsBypass d t data s
  | .wsExtest d t data => Sys2Proof.Machine.execWsExtest d t data s
  | .wsIntest d t data => Sys2Proof.Machine.execWsIntest d t data s
  | .mbist d t data => Sys2Proof.Machine.execMbist d t data s
  | .mbistStatus d t data => Sys2Proof.Machine.execMbistStatus d t data s
  | .stack1500 d => Sys2Proof.Machine.execStack1500 d s
  | .probesel d sel => Sys2Proof.Machine.execProbesel d sel s
  | .secscan d => Sys2Proof.Machine.execSecscan d s
  | .blkRstNLow => Sys2Proof.Machine.execBlkRstNLow s
  | .copRequestAccepted p l n => Sys2Proof.Machine.execCopRequestAccepted p l s n
  | .mbistComplete d t pass => Sys2Proof.Machine.execMbistComplete d t pass s

end Sys2Proof.Machine
end

