-- ==== Sys2Proof/Machine/Pins.lean ====
section
/-! DEFINITION. What pins present (R344, R365, R374, R477, R485, R486): an observation of the state; no command
depends on it. -/

namespace Sys2Proof.Machine

/-- What a pin presents: nothing, a weak pull-down, a level that the state holds, the bits that a fabric output serialises
in one clock of its fabric side, first bit first (R365), or a signal that lasts less than a command and that the state does
not hold. -/
inductive Pin where
  | highZ
  | pullDown
  | level (b : Bool)
  | fabric (word : List Bool)
  | pulse
deriving DecidableEq, Repr

/-- A personality has claimed a resource of hub h (R344). -/
def State.claimedPin (s : State) (h : Fin 4) (cls n : Nat) : Bool :=
  (s.hub h).hubClaims.any fun c => decide (c.1.toNat = cls) && decide (c.2.2.1 = n)

/-- What the cell of a claimed pin presents (R365): fabric I/O pin n, or probe pin n - 64. -/
def State.pad (s : State) (h : Fin 4) (n : Nat) : Pin :=
  let w := s.cellWord h n
  if s.padDrives h n then .fabric ((List.range (padRate (padMode w))).map (s.padBit h n))
  else if n < 64 ∧ padPull w = true then .pullDown else .highZ

/-- The width of a group of signals (R485). -/
def probeWidth (group : Nat) : Nat :=
  nth 0 [5, 5, 64, 64, 64, 64, 5, 3, 8, 24] group

/-- The signal that SEL names in a group of a die (R485): those that the state holds, and pulses. -/
def State.probeSignal (s : State) (die group sel : Nat) : Pin :=
  if group = 1 ∧ sel = 4 ∧ die < 24 then .level (decide ((s.part (partNo (die / 2))).rerun ≠ 0))
  else if group = 6 ∧ sel = 1 ∧ die < 24 then .level s.stackPorts[stackNo die].throt
  else if group = 6 ∧ sel = 2 ∧ die < 24 then .level s.stackPorts[stackNo die].hold
  else if group = 8 then
    (if die < 24 then .level false
     else if sel % 2 = 0 then .level (decide ((vget Link.reset s.links (4 * (die - 24) + sel / 2)).state = .active)) else .pulse)
  else if group = 9 then .level (decide (powerCode (s.part (partNo (sel / 2))).power / 2 ^ (sel % 2) % 2 = 1))
  else .pulse

/-- Probe pin n of hub h (R344, R477, R485, R486). -/
def State.probePin (s : State) (h : Fin 4) (n : Fin 16) : Pin :=
  let f := 16 * n.val
  let die := fld (s.hub h).probe (f + 10) 5
  let group := fld (s.hub h).probe (f + 6) 4
  let sel := fld (s.hub h).probe f 6
  if s.phase = .off ∨ s.pwrOk = false then .highZ
  else if s.claimedPin h 2 n.val then s.pad h (64 + n.val)
  else if s.gate 4 = false ∨ (s.hub h).probe.getLsbD (f + 15) = false then .highZ
  else if (die < 24 ∧ homeHub (partNo (die / 2)) = h ∨ die = 24 + h.val) ∧ group < 10 ∧ sel < probeWidth group then
    s.probeSignal die group sel
  else .level false

/-- Fabric I/O pin n of hub h (R365, R477). -/
def State.fabricPin (s : State) (h : Fin 4) (n : Fin 64) : Pin :=
  if s.phase = .ready ∧ s.claimedPin h 1 n.val = true then s.pad h n.val else .highZ

/-- The valid signal of a mesh bridge of a compute die (R20, R25): de-asserted at an unconnected bridge and at one
that stays down. -/
def State.bridgeValid (s : State) (d : Fin 24) (sd : Side) : Bool := vget false s.bridges[d] sd.no.val

/-- The valid signal of a mesh bridge of a hub. -/
def State.hubBridgeValid (s : State) (h : Fin 4) (i : Fin 2) : Bool := s.hubBridges[h][i]

/-- A link's lanes are in electrical idle (R374, R477). -/
def State.laneIdle (s : State) (n : Fin 16) : Bool :=
  decide (s.phase ≠ .ready ∨ s.links[n].claimed = false ∨ (s.links[n].state = .idle ∧ s.links[n].groups = 0))

end Sys2Proof.Machine
end

