-- ==== Sys2Proof/WellFormed.lean ====
section
/-! DEFINITION. What a command must satisfy beside the types of its operands: an index lies within the
memory it names, a message carries at most the words its form allows, a flit has its 256 bytes. A
command that is not well formed names nothing the block has; `exec` answers it as its docstrings say. -/

namespace Sys2Proof

/-- Words of a semaphore space, or of its counters (R245). -/
def SemSpace.words : SemSpace → Bool → Nat
  | .part _, false => 4096
  | .part _, true => 1024
  | .hub _, false => 2048
  | .hub _, true => 512

/-- The command is well formed: a READ carries no data and a WRITE or STREAM message at most 64 words,
a DOORBELL at most one (R404); a view names a word of its space (R245); a flit is 256 bytes (R378); a
hub event queue has at most 256 places (R418);
a bit error strikes a word of the scratchpad (R154). -/
def Instr.wellFormed : Instr → Bool
  | .coldReset .. => true
  | .pwrOkFall .. => true
  | .warmReset .. => true
  | .stackTrainingDone .. => true
  | .timingMessage .. => true
  | .controlRead _ _ data => data.isEmpty
  | .controlWrite _ _ data => decide (data.length ≤ 64)
  | .doorbell _ _ data => decide (data.length ≤ 1)
  | .stream _ _ data => decide (data.length ≤ 64)
  | .registerWrite .. => true
  | .readClear .. => true
  | .latchingRead .. => true
  | .gridEntWrite .. => true
  | .gridCsrWrite .. => true
  | .steerSlotWrite .. => true
  | .gmaskUpdate .. => true
  | .descriptorEntryWrite .. => true
  | .ringCommit .. => true
  | .tailWrite .. => true
  | .trunkCtailBc .. => true
  | .trunkDepotInv .. => true
  | .relayPush .. => true
  | .relayPop .. => true
  | .claimRead .. => true
  | .claimRelease .. => true
  | .semaphoreSet _ sp i _ => decide (i.toNat < sp.words false)
  | .addAlias _ sp i _ => decide (i.toNat < sp.words false)
  | .subAlias _ sp i _ => decide (i.toNat < sp.words false)
  | .counterSet _ sp i _ => decide (i.toNat < sp.words true)
  | .incAlias _ sp i _ => decide (i.toNat < sp.words true)
  | .globalOwnerWrite .. => true
  | .taskRingCommit .. => true
  | .taskTailWrite .. => true
  | .linkCertWrite .. => true
  | .linkDisable .. => true
  | .rearm .. => true
  | .rekey .. => true
  | .pctlClr .. => true
  | .traceEnable .. => true
  | .bundleIssue .. => true
  | .bundleCacheFill .. => true
  | .scalarLoadReturn .. => true
  | .slotDispatch .. => true
  | .opa .. => true
  | .stripe .. => true
  | .drain .. => true
  | .clear .. => true
  | .stage .. => true
  | .slot .. => true
  | .csr .. => true
  | .grid .. => true
  | .wslot .. => true
  | .wdrain .. => true
  | .wsets .. => true
  | .setr .. => true
  | .addr .. => true
  | .rankadd .. => true
  | .loop .. => true
  | .bind .. => true
  | .descriptorCacheFill .. => true
  | .vadd .. => true
  | .vsub .. => true
  | .vmul .. => true
  | .vfma .. => true
  | .vfms .. => true
  | .vmin .. => true
  | .vmax .. => true
  | .vabs .. => true
  | .vneg .. => true
  | .vdiv .. => true
  | .vsqrt .. => true
  | .vaddi .. => true
  | .vsubi .. => true
  | .vmuli .. => true
  | .vmini .. => true
  | .vmaxi .. => true
  | .vand .. => true
  | .vor .. => true
  | .vxor .. => true
  | .vnot .. => true
  | .vshl .. => true
  | .vshrl .. => true
  | .vshra .. => true
  | .vcmpEq .. => true
  | .vcmpNe .. => true
  | .vcmpLt .. => true
  | .vcmpLe .. => true
  | .vcmpGt .. => true
  | .vcmpGe .. => true
  | .vsel .. => true
  | .vmov .. => true
  | .vbcst .. => true
  | .viota .. => true
  | .vslide .. => true
  | .vcvt .. => true
  | .vexp2 .. => true
  | .vexp .. => true
  | .vlog2 .. => true
  | .vln .. => true
  | .vrcp .. => true
  | .vrsqrt .. => true
  | .vtanh .. => true
  | .vsigm .. => true
  | .verf .. => true
  | .vcmpr .. => true
  | .vexpd .. => true
  | .vscanSum .. => true
  | .vscanMax .. => true
  | .vscanMin .. => true
  | .vredSum .. => true
  | .vredMax .. => true
  | .vredMin .. => true
  | .vredArgmax .. => true
  | .vredArgmin .. => true
  | .vredAnd .. => true
  | .vredOr .. => true
  | .vredXor .. => true
  | .vmlogAnd .. => true
  | .vmlogOr .. => true
  | .vmlogXor .. => true
  | .vmlogAndn .. => true
  | .vmnot .. => true
  | .vmfirst .. => true
  | .vmfrom .. => true
  | .vmto .. => true
  | .vmpol .. => true
  | .setvl .. => true
  | .quant .. => true
  | .steer .. => true
  | .steerCal .. => true
  | .steerDecision .. => true
  | .vcustS .. => true
  | .vcustR .. => true
  | .copResponse .. => true
  | .customOpTimeout .. => true
  | .copRequestStall .. => true
  | .waitGe .. => true
  | .waitSub .. => true
  | .waitReach .. => true
  | .semAdd .. => true
  | .semSub .. => true
  | .inc .. => true
  | .watchdogExpiry .. => true
  | .taskDescriptorCheck .. => true
  | .taskDelivery .. => true
  | .taskStart .. => true
  | .taskFinish .. => true
  | .endRecord .. => true
  | .abortPropagate .. => true
  | .channelFlushTimeout .. => true
  | .abortDump .. => true
  | .baleFetch .. => true
  | .baleRelayPop .. => true
  | .baleStart .. => true
  | .baleComplete .. => true
  | .baleRelayPush .. => true
  | .deadlineMiss .. => true
  | .scratchpadDmaAccess _ _ _ flips _ => flips.all fun e => decide (e.1 < 6291456)
  | .eccWriteBack .. => true
  | .stackPortAccess .. => true
  | .readDataReturn .. => true
  | .depotLineFill .. => true
  | .patrolScrub .. => true
  | .temperatureRead .. => true
  | .refresh .. => true
  | .regionKeySwap .. => true
  | .zeroFillDone .. => true
  | .streamHeader .. => true
  | .borderDrainTimeout .. => true
  | .segment .. => true
  | .personalityRelease .. => true
  | .fabricPllLockTimeout .. => true
  | .streamTimeout .. => true
  | .linkTrainStart .. => true
  | .linkTrainDone .. => true
  | .linkTrainTimeout .. => true
  | .linkAuthTimeout .. => true
  | .linkRetrain .. => true
  | .flitTransmit .. => true
  | .flitReceive _ _ flit => decide (flit.length = 256)
  | .ackInterval .. => true
  | .heartbeatSend .. => true
  | .hubAliasForward .. => true
  | .flitSilence .. => true
  | .creditStarvation .. => true
  | .remoteRequestTimeout .. => true
  | .eventQueueRoom _ room => decide (room ≤ 256)
  | .tenantSet .. => true
  | .regionSet .. => true
  | .attest .. => true
  | .lcAdvance .. => true
  | .fence .. => true
  | .unfence .. => true
  | .bypassOctet .. => true
  | .partitionReset .. => true
  | .capture .. => true
  | .captureQuiesced .. => true
  | .captureQuiesceTimeout .. => true
  | .captureWriteDone .. => true
  | .rampStart .. => true
  | .rampStep .. => true
  | .tapReset .. => true
  | .bypass .. => true
  | .idcode .. => true
  | .samplePreload .. => true
  | .extest .. => true
  | .clamp .. => true
  | .highz .. => true
  | .wspSelect .. => true
  | .wsBypass .. => true
  | .wsExtest .. => true
  | .wsIntest .. => true
  | .mbist .. => true
  | .mbistStatus .. => true
  | .stack1500 .. => true
  | .probesel .. => true
  | .secscan .. => true
  | .blkRstNLow .. => true
  | .copRequestAccepted .. => true
  | .mbistComplete .. => true

end Sys2Proof
end

