-- ==== Sys2Proof/Safety.lean ====
section
/-! DEFINITION. The words in which statements about the block are made: what a step leaves as it was,
what instructions share beside their own result, and the invariants of the state. -/

namespace Sys2Proof.Machine

/-- A change of core (p, l) by f, with entries and events at hubs: what an operation that only does this leaves. -/
def State.CoreAndHubs (p : Fin 12) (l : Fin 32) (f : Core → Core) (s t : State) : Prop :=
  t = { s.modCore p l f with hubs := t.hubs }

/-- Conversions count (R66). -/
def Core.convAdd (fx : ConvFx) (c : Core) : Core :=
  if fx.cnt = 0 then c else { c with convCnt := satAdd c.convCnt fx.cnt }

/-- A flag of GRID_FLAGS, when something sets it (R65). -/
def Core.gridFlag (on : Bool) (i : Nat) (c : Core) : Core :=
  if on then { c with gridFlags := c.gridFlags ||| BitVec.ofNat 7 (2 ^ i) } else c

/-- What conversions do to a core (R53, R54, R66). -/
def Core.convFlags (fx : ConvFx) (c : Core) : Core :=
  Core.gridFlag fx.nan 5 (Core.gridFlag fx.sat 4 (Core.convAdd fx c))

/-- FINF, when a lane raises it (R151). -/
def Core.finfFlag (on : Bool) (c : Core) : Core := if on then { c with vecFlags := c.vecFlags ||| 2 } else c

/-- What the active lanes of a float instruction do to a core (R53, R151). -/
def Core.laneFlags (outs : List LaneOut) (c : Core) : Core :=
  Core.finfFlag (outs.any fun o => o.finf) (Core.convFlags (outs.foldl (fun a o => a.and o.fx) .none) c)

/-- A core after an entry has issued (R207, R231): it leaves its queue, a loop repeat may end, its context is the current one of the
engine, and the account of the engines' cycles is `tm` (R240). -/
def Core.issued (e : Engine) (x : Duet) (now : W64) (en : Entry) (tm : Timing) (c : Core) : Core :=
  { c.modCtx e x (fun k => k.pop now en) with current := vset c.current (engNo e) x, timing := tm }

/-- A core after a vector instruction has issued (R133, R207, R231), beside what it writes: D is popped
when the instruction names it, the entry leaves its queue and the context is the current one. -/
def Core.vecIssued (x : Duet) (now : W64) (en : Entry) (tm : Timing) (c : Core) : Core :=
  Core.issued .vector x now en tm
    (if namesD en.word = 0 then c else Core.refill 16 { c with drainQ := c.drainQ.drop 1 })

/-- The operand cache after a line destination is written (R129, R135): in slot VD an active lane takes
its result, an inactive one 0 or what it held, by the policy of its mask; every other slot keeps its
line. -/
def lineWritten (c : Core) (x : Duet) (w : Slot) (f : Nat → W32) (o : Vector Line 64) : Prop :=
  ∀ n < 64, ∀ q < 128, lane (vget Line.zero o n) q =
    if n = vDst w ∧ active (c.vec x) w q = true then f q
    else if n = vDst w ∧ zeroes (c.vec x) w = true then 0
    else lane (c.v n) q

/-- Beside core (p, l), a step changed at most the performance counters of partition p, the hubs (their
logs and events) and the model's counter of free values. -/
def State.OnlyCore (p : Fin 12) (l : Fin 32) (s t : State) : Prop :=
  (∀ q k, ¬(q = p ∧ k = l) → t.core q k = s.core q k)
    ∧ (∀ q, q ≠ p → t.part q = s.part q)
    ∧ t.part p = { s.part p with cores := (t.part p).cores, pcnt := (t.part p).pcnt }
    ∧ t = { s with parts := t.parts, hubs := t.hubs, free := t.free }

/-- The packets that a side of an OPA reads in step m of item n (R71 to R76). -/
def OpaSide.packets (sd : OpaSide) (c : Core) (k : Nat) (wide : Bool) (n m : Nat) : Nat → BitVec 16 :=
  let base := sd.addr + BitVec.ofNat 32 n * sd.batch
  if sd.isStage then stagePacket (vget (Vector.replicate 128 (Vector.replicate 128 0)) c.stages sd.stage) k sd.column base m
  else
    let u := if wide then 512 else 256
    packetsOf (c.bytes ((base + BitVec.ofNat 32 m * sd.step).toNat / u * u) u)

/-- The side reads inside the scratchpad in step m of item n (R502). -/
def OpaSide.inside (sd : OpaSide) (n m : Nat) : Prop :=
  sd.isStage = true ∨ (sd.addr + BitVec.ofNat 32 n * sd.batch + BitVec.ofNat 32 m * sd.step).toNat < spadSize

/-- The tile after i steps of an OPA of `count` steps an item (R69, R88), and whether a sum was clamped;
`free` is the first draw. -/
def opaTile (c : Core) (w : Slot) (sa sb : OpaSide) (width count free : Nat) (tile : Tile) : Nat → Tile × Bool
  | 0 => (tile, false)
  | i + 1 =>
    let r := opaTile c w sa sb width count free tile i
    let k := pairK sa.fmt sb.fmt
    let wide := fld w 18 2 == 2
    let r' := opaStep c sa.fmt sb.fmt (fld w 15 3) (fld w 18 2) width
      (sa.packets c k wide (i / count) (i % count)) (sb.packets c k wide (i / count) (i % count))
      (fun j => (Config.freeBits (free + i) j).getLsbD 0) r.1
    (r'.1, r.2 || r'.2)

/-- The source can make an access to the register at a block-local address, may name it, and reaches it
without an error status (R12, R180, R492, R494). -/
def State.reaches (s : State) (src : Source) (a : Nat) (write : Bool) : Prop :=
  s.srcReady src = true ∧ s.named src a 4 = true ∧ s.regStatus src a write = 0

/-- Fuses are burned as R433 and R434 say: the bits of each bank one after another from bit 0 upward, a return before each
refurbishment, the first service before any return, provisioning before the first service. -/
def State.lifeLegal (s : State) : Prop :=
  (∃ r v : Fin 17, s.fuseBits.ret.toNat = 2 ^ r.val - 1 ∧ s.fuseBits.svc.toNat = 2 ^ v.val - 1 ∧ v ≤ r ∧ r.val ≤ v.val + 1
      ∧ (0 < r.val → s.fuseBits.svc0 = true))
    ∧ (s.fuseBits.svc0 = true → s.fuseBits.prov = true)

/-- Every TAP controller holds an instruction that its die has (R481). -/
def State.tapLegal (s : State) : Prop :=
  ∀ d : Fin 28, s.tap[d].toNat ∈ [0xFF, 1, 2, 3, 4, 5, 0x10] ∨ (s.tap[d] = 0x20 ∧ d.val < 24) ∨ (s.tap[d] = 0x30 ∧ 24 ≤ d.val)
    ∨ (s.tap[d] = 0x40 ∧ d.val = 24)

/-- What every step of the block keeps: the canonical form of the stacks' contents, the order in which fuses burn, and legal
TAP instructions. -/
def State.Inv (s : State) : Prop := Memory.wf s.hbm = true ∧ s.lifeLegal ∧ s.tapLegal

end Sys2Proof.Machine
end

