-- ==== Sys2Proof/Certificates/Slice0/Obligations.lean ====
section
/-! DEFINITION. What is claimed of the block, statement by statement (OBLIGATIONS.json lists them). -/

open Sys2Proof Sys2Proof.Machine

/-- VADD, VSUB, VMUL, VFMA, VFMS, VMIN, VMAX, VABS and VNEG (R135, R136): when the context may issue and
its head is the instruction, the command completes. Every active lane of slot VD takes the exact result
of a, b and c rounded once to FMT (both halves of a lane for a 16-bit format); an inactive lane follows
the policy of its mask; the conversions that saturate are counted and FINF is raised as the lanes say;
D is popped when the instruction names it. Nothing else changes but the hubs' logs and events, the
model's counter of free values and the core's account tm of the engines' cycles (log entry 106).
Commands completed: vadd, vsub, vmul, vfma, vfms, vmin, vmax, vabs, vneg. -/
def Obligations.VectorFloatArithmetic : Prop :=
  ∀ (p : Fin 12) (l : Fin 32) (x : Duet) (s : State) (en : Entry) (i : Instr) (op arity : Nat)
    (g : Machine.Num → Machine.Num → Machine.Num → Machine.Num),
    (i, op, arity, g) ∈ ([
      (.vadd p l x .clean, 0x00, 2, fun a b _ => a.add b),
      (.vsub p l x .clean, 0x01, 2, fun a b _ => a.add b.neg),
      (.vmul p l x .clean, 0x02, 2, fun a b _ => a.mul b),
      (.vfma p l x .clean, 0x03, 3, fun a b c => (a.mul b).add c),
      (.vfms p l x .clean, 0x04, 3, fun a b c => (a.mul b).add c.neg),
      (.vmin p l x .clean, 0x05, 2, fun a b _ => a.min b),
      (.vmax p l x .clean, 0x06, 2, fun a b _ => a.max b),
      (.vabs p l x .clean, 0x07, 1, fun a _ _ => a.abs),
      (.vneg p l x .clean, 0x08, 1, fun a _ _ => a.neg)] : List (Instr × Nat × Nat × (Machine.Num → Machine.Num → Machine.Num → Machine.Num))) →
    s.ready p l .vector x = some en → slotOp en.word = op →
    ∃ t o tm, exec i s = .next t
      ∧ lineWritten (s.core p l) x en.word (fun q => (floatLane arity g (s.vIn p l x en.word) q).bits) o
      ∧ State.CoreAndHubs p l (fun c => Core.vecIssued x s.now en tm (Core.laneFlags
          (activeOuts (s.vIn p l x en.word) (floatLane arity g)) { c with ocache := o })) s.drawn t

/-- VDIV, VSQRT and the transcendental instructions (R142): as the float instructions, each active lane
taking a value within its bound, which the model leaves free (log entry 9).
Commands completed: vdiv, vsqrt, vexp2, vexp, vlog2, vln, vrcp, vrsqrt, vtanh, vsigm, verf. -/
def Obligations.VectorBoundedFunctions : Prop :=
  ∀ (p : Fin 12) (l : Fin 32) (x : Duet) (s : State) (en : Entry) (i : Instr) (op arity : Nat)
    (g : Machine.Num → Machine.Num → W32 → W32),
    (i, op, arity, g) ∈ ([
      (.vdiv p l x .clean, 0x09, 2, divResult),
      (.vsqrt p l x .clean, 0x0A, 1, fun a _ _ => f32 a.sqrt),
      (.vexp2 p l x .clean, 0x30, 1, fun a _ r => Tran.result .exp2 a r),
      (.vexp p l x .clean, 0x31, 1, fun a _ r => Tran.result .exp a r),
      (.vlog2 p l x .clean, 0x32, 1, fun a _ r => Tran.result .log2 a r),
      (.vln p l x .clean, 0x33, 1, fun a _ r => Tran.result .ln a r),
      (.vrcp p l x .clean, 0x34, 1, fun a _ r => Tran.result .rcp a r),
      (.vrsqrt p l x .clean, 0x35, 1, fun a _ r => Tran.result .rsqrt a r),
      (.vtanh p l x .clean, 0x36, 1, fun a _ r => Tran.result .tanh a r),
      (.vsigm p l x .clean, 0x37, 1, fun a _ r => Tran.result .sigm a r),
      (.verf p l x .clean, 0x38, 1, fun a _ r => Tran.result .erf a r)] : List (Instr × Nat × Nat × (Machine.Num → Machine.Num → W32 → W32))) →
    s.ready p l .vector x = some en → slotOp en.word = op →
    ∃ t o tm, exec i s = .next t
      ∧ lineWritten (s.core p l) x en.word (fun q => (boundLane arity g (s.vIn p l x en.word) q).bits) o
      ∧ State.CoreAndHubs p l (fun c => Core.vecIssued x s.now en tm (Core.laneFlags
          (activeOuts (s.vIn p l x en.word) (boundLane arity g)) { c with ocache := o })) s.drawn t

/-- The integer and bitwise instructions (R135): wrapping INT32 sums, differences and products, signed
minimum and maximum, bitwise operations, and shifts by b[4:0], lane by lane. Nothing else of the block
changes but what every vector instruction changes, and no flag is raised.
Commands completed: vaddi, vsubi, vmuli, vmini, vmaxi, vand, vor, vxor, vnot, vshl, vshrl, vshra. -/
def Obligations.VectorIntegerAndBitwise : Prop :=
  ∀ (p : Fin 12) (l : Fin 32) (x : Duet) (s : State) (en : Entry) (i : Instr) (op : Nat) (g : W32 → W32 → W32),
    (i, op, g) ∈ ([
      (.vaddi p l x .clean, 0x10, fun a b => a + b),
      (.vsubi p l x .clean, 0x11, fun a b => a - b),
      (.vmuli p l x .clean, 0x12, fun a b => a * b),
      (.vmini p l x .clean, 0x13, fun a b => if b.toInt < a.toInt then b else a),
      (.vmaxi p l x .clean, 0x14, fun a b => if a.toInt < b.toInt then b else a),
      (.vand p l x .clean, 0x15, fun a b => a &&& b),
      (.vor p l x .clean, 0x16, fun a b => a ||| b),
      (.vxor p l x .clean, 0x17, fun a b => a ^^^ b),
      (.vnot p l x .clean, 0x18, fun a _ => ~~~a),
      (.vshl p l x .clean, 0x19, fun a b => a <<< (b.toNat % 32)),
      (.vshrl p l x .clean, 0x1A, fun a b => a >>> (b.toNat % 32)),
      (.vshra p l x .clean, 0x1B, fun a b => a.sshiftRight (b.toNat % 32))] : List (Instr × Nat × (W32 → W32 → W32))) →
    s.ready p l .vector x = some en → slotOp en.word = op →
    ∃ o tm, exec i s = .next (s.modCore p l fun c => Core.vecIssued x s.now en tm { c with ocache := o }).drawn
      ∧ lineWritten (s.core p l) x en.word
          (fun q => g (lane (srcA (s.core p l) en.word) q) (lane (srcB (s.core p l) en.word) q)) o

/-- VSEL, VMOV, VBCST, VIOTA, VSLIDE and VMTO (R135): each active lane takes a where the selector mask is
1 and b elsewhere; a; the broadcast b; the lane index plus the immediate; a of lane + n, or +0 beyond the
line; 1 or 0 as its bit of the named mask.
Commands completed: vsel, vmov, vbcst, viota, vslide, vmto. -/
def Obligations.VectorMoves : Prop :=
  ∀ (p : Fin 12) (l : Fin 32) (x : Duet) (s : State) (en : Entry) (i : Instr) (op : Nat) (f : Nat → W32),
    (i, op, f) ∈ ([
      (.vsel p l x .clean, 0x28, fun q => if (maskOf ((s.core p l).vec x) (vAux en.word % 8)).getLsbD q
        then lane (srcA (s.core p l) en.word) q else lane (srcB (s.core p l) en.word) q),
      (.vmov p l x .clean, 0x29, fun q => lane (srcA (s.core p l) en.word) q),
      (.vbcst p l x .clean, 0x2A, fun q => lane (srcB (s.core p l) en.word) q),
      (.viota p l x .clean, 0x2B, fun q => BitVec.ofNat 32 q + vImm32 en.word),
      (.vslide p l x .clean, 0x2C, fun q => let j : Int := (q : Int) + sext 8 (vAux en.word % 256)
        if 0 ≤ j ∧ j < 128 then lane (srcA (s.core p l) en.word) j.toNat else 0),
      (.vmto p l x .clean, 0x57, fun q => if (maskOf ((s.core p l).vec x) (vMaskA en.word)).getLsbD q then 1 else 0)]
        : List (Instr × Nat × (Nat → W32))) →
    s.ready p l .vector x = some en → slotOp en.word = op →
    ∃ o tm, exec i s = .next (s.modCore p l fun c => Core.vecIssued x s.now en tm { c with ocache := o }).drawn
      ∧ lineWritten (s.core p l) x en.word f o

/-- The comparisons and the mask instructions (R131, R135, R137): an active lane's bit of mask VD takes
the relation of a and b, or the named function of masks and lanes; an inactive lane's bit is 0 or stays,
by policy; no other mask and no other state of the core changes but what every vector instruction
changes. VMLOG.ANDN complements the mask that VB names (the model's choice, log entry 107).
Commands completed: vcmpEq, vcmpNe, vcmpLt, vcmpLe, vcmpGt, vcmpGe, vmlogAnd, vmlogOr, vmlogXor, vmlogAndn, vmnot, vmfirst,
vmfrom. -/
def Obligations.VectorMaskResults : Prop :=
  ∀ (p : Fin 12) (l : Fin 32) (x : Duet) (s : State) (en : Entry) (i : Instr) (op : Nat) (f : VIn → Nat → Bool),
    (i, op, f) ∈ ([
      (.vcmpEq p l x .clean, 0x20, compareLane (ordered Machine.Num.eq) fun a b => decide (a = b)),
      (.vcmpNe p l x .clean, 0x21, compareLane (fun a b => !Machine.Num.eq a b) fun a b => decide (a ≠ b)),
      (.vcmpLt p l x .clean, 0x22, compareLane (ordered Machine.Num.lt) fun a b => decide (a < b)),
      (.vcmpLe p l x .clean, 0x23, compareLane (ordered fun a b => !Machine.Num.lt b a) fun a b => decide (a ≤ b)),
      (.vcmpGt p l x .clean, 0x24, compareLane (ordered fun a b => Machine.Num.lt b a) fun a b => decide (b < a)),
      (.vcmpGe p l x .clean, 0x25, compareLane (ordered fun a b => !Machine.Num.lt a b) fun a b => decide (b ≤ a)),
      (.vmlogAnd p l x .clean, 0x50, maskOp fun a b => a && b),
      (.vmlogOr p l x .clean, 0x51, maskOp fun a b => a || b),
      (.vmlogXor p l x .clean, 0x52, maskOp fun a b => a != b),
      (.vmlogAndn p l x .clean, 0x53, maskOp fun a b => a && !b),
      (.vmnot p l x .clean, 0x54, maskOp fun a _ => !a),
      (.vmfirst p l x .clean, 0x55, fun i q => decide (q < (vImm32 i.w).toNat)),
      (.vmfrom p l x .clean, 0x56, fun i q => (lane i.a q).getLsbD 0)] : List (Instr × Nat × (VIn → Nat → Bool))) →
    s.ready p l .vector x = some en → slotOp en.word = op →
    ∃ (m : Vector (BitVec 128) 8) (tm : Timing),
      exec i s = .next (s.modCore p l fun c => Core.vecIssued x s.now en tm
        (c.modVec x fun k => { k with masks := m })).drawn
      ∧ ∀ n < 8, ∀ q < 128, (vget 0 m n).getLsbD q =
          let k := (s.core p l).vec x
          if n = vMaskD en.word ∧ active k en.word q = true then f (s.vIn p l x en.word) q
          else if n = vMaskD en.word ∧ zeroes k en.word = true then false
          else (maskOf k n).getLsbD q


/-- VCVT (R138) from the format r.1 to the format r.2 that its slot names (cvtForm; between two 32-bit formats bit AUX[4] has no
effect, the model's choice, log entry 107). To a 32-bit format, each active lane takes the conversion of lane q of a, or of
element q of the named half or quarter of a when the source is narrower; to a narrower format, slot VD becomes the line in whose
named half or quarter the active lanes' conversions stand (cvtSlot). The conversions are counted under R53, and D is popped when
it is named. Commands completed: vcvt. -/
def Obligations.VectorConversions : Prop :=
  ∀ (p : Fin 12) (l : Fin 32) (x : Duet) (s : State) (en : Entry),
    s.ready p l .vector x = some en → slotOp en.word = 0x2D →
    let i := s.vIn p l x en.word
    let r := cvtForm en.word
    let a := fun q => if fmtBits r.1 = 32 then (lane i.a q).toNat
      else elemAt (lineBytes i.a) (fmtBits r.1) (128 * (vAux en.word / 32 % 4) + q)
    let res := fun q => convert (s.core p l).ieeeOvf r.1 r.2 (a q)
    ∃ t o tm, exec (.vcvt p l x .clean) s = .next t
      ∧ (fmtBits r.2 = 32 → lineWritten (s.core p l) x en.word (fun q => BitVec.ofNat 32 (res q).1) o)
      ∧ (fmtBits r.2 ≠ 32 → o = vset (s.core p l).ocache (vDst en.word) (cvtSlot i ((s.core p l).v (vDst en.word))))
      ∧ State.CoreAndHubs p l (fun c => Core.vecIssued x s.now en tm (Core.convFlags
          ((activeList i.k en.word).foldl (fun a q => a.and (res q).2) .none) { c with ocache := o })) s.drawn t

/-- VCMPR and VEXPD (R139). VCMPR packs the active lanes of a, in ascending order, into lanes 0 to n − 1
of VD, the rest following policy; VEXPD writes a[0], a[1] and so on into the active lanes of VD. Both set
VCNT to the number n of active lanes. Commands completed: vcmpr, vexpd. -/
def Obligations.CompressAndExpand : Prop :=
  ∀ (p : Fin 12) (l : Fin 32) (x : Duet) (s : State) (en : Entry), s.ready p l .vector x = some en →
    let c := s.core p l
    let qs := activeList (c.vec x) en.word
    let a := srcA c en.word
    (slotOp en.word = 0x3C → ∃ o tm,
      exec (.vcmpr p l x .clean) s = .next (s.modCore p l fun c => Core.vecIssued x s.now en tm
        (({ c with ocache := o } : Core).modVec x fun k => { k with vcnt := BitVec.ofNat 8 qs.length })).drawn
      ∧ ∀ n < 64, ∀ q < 128, lane (vget Line.zero o n) q =
          if n ≠ vDst en.word then lane (c.v n) q
          else match qs[q]? with
            | some j => lane a j
            | none => if zeroes (c.vec x) en.word then 0 else lane (c.v n) q)
    ∧ (slotOp en.word = 0x3D → ∃ o tm,
      exec (.vexpd p l x .clean) s = .next (s.modCore p l fun c => Core.vecIssued x s.now en tm
        (({ c with ocache := o } : Core).modVec x fun k => { k with vcnt := BitVec.ofNat 8 qs.length })).drawn
      ∧ lineWritten c x en.word (fun q => lane a (qs.filter fun j => decide (j < q)).length) o)


/-- VSCAN.SUM, VSCAN.MAX and VSCAN.MIN (R140), and the reductions (R141). In a scan each active lane takes the combination of the
active lanes of its segment up to itself, its own value included in inclusive form and left out in exclusive form (bit 30 of
the slot); a float sum is free within R48. In a reduction lane 0 of VD takes the result over the active lanes, or the lane
index for ARGMAX and ARGMIN; lane 1 their count; lane 2, for the index forms, the value; every other lane and slot
stays; with no active lane VEC_FLAGS.EMPTY is set. Commands completed: vscanSum, vscanMax, vscanMin, vredSum, vredMax,
vredMin, vredArgmax, vredArgmin, vredAnd, vredOr, vredXor. -/
def Obligations.VectorScansAndReductions : Prop :=
  (∀ (p : Fin 12) (l : Fin 32) (x : Duet) (s : State) (en : Entry) (i : Instr) (op : Nat) (o : Comb),
      (i, op, o) ∈ ([(.vscanSum p l x .clean, 0x40, .sum), (.vscanMax p l x .clean, 0x41, .max),
        (.vscanMin p l x .clean, 0x42, .min)] : List (Instr × Nat × Comb)) →
      s.ready p l .vector x = some en → slotOp en.word = op →
      let k := (s.core p l).vec x
      ∃ oc tm, exec i s = .next (s.modCore p l fun c => Core.vecIssued x s.now en tm { c with ocache := oc }).drawn
        ∧ lineWritten (s.core p l) x en.word (fun q =>
            o.fold (vFmt en.word)
              ((((List.range 128).filter fun j => active k en.word j).filter fun j =>
                decide (segStart k en.word q ≤ j) && (if bit en.word 30 then decide (j < q) else decide (j ≤ q))).map
                  fun j => lane (srcA (s.core p l) en.word) j)
              (s.freeLane q)) oc)
  ∧ (∀ (p : Fin 12) (l : Fin 32) (x : Duet) (s : State) (en : Entry) (i : Instr) (op : Nat)
      (res : VIn → List Nat → W32 × Option W32),
      (i, op, res) ∈ ([
        (.vredSum p l x .clean, 0x44, reduceComb .sum), (.vredMax p l x .clean, 0x45, reduceComb .max),
        (.vredMin p l x .clean, 0x46, reduceComb .min), (.vredArgmax p l x .clean, 0x47, reduceArg true),
        (.vredArgmin p l x .clean, 0x48, reduceArg false), (.vredAnd p l x .clean, 0x49, reduceComb .and),
        (.vredOr p l x .clean, 0x4A, reduceComb .or), (.vredXor p l x .clean, 0x4B, reduceComb .xor)]
          : List (Instr × Nat × (VIn → List Nat → W32 × Option W32))) →
      s.ready p l .vector x = some en → slotOp en.word = op →
      let c := s.core p l
      let qs := activeList (c.vec x) en.word
      let r := res (s.vIn p l x en.word) qs
      ∃ o tm, exec i s = .next (s.modCore p l fun c => Core.vecIssued x s.now en tm
          { c with ocache := o, vecFlags := if qs.isEmpty then c.vecFlags ||| 1 else c.vecFlags }).drawn
        ∧ ∀ n < 64, ∀ q < 128, lane (vget Line.zero o n) q =
            if n ≠ vDst en.word then lane (c.v n) q
            else if q = 0 then r.1
            else if q = 1 then BitVec.ofNat 32 qs.length
            else if q = 2 then r.2.getD (lane (c.v n) 2)
            else lane (c.v n) q)

/-- VMPOL (R131) sets the policy bit of the named mask to bit 0 of AUX and leaves every mask bit; SETVL
(R130) sets VL from the immediate, from min(Ln, 128) or from VCNT. Commands completed: vmpol, setvl. -/
def Obligations.PolicyAndVectorLength : Prop :=
  ∀ (p : Fin 12) (l : Fin 32) (x : Duet) (s : State) (en : Entry), s.ready p l .vector x = some en →
    let k := (s.core p l).ctx .vector x
    let m := BitVec.ofNat 8 (2 ^ vMaskD en.word)
    let pol := fun v : VCtx => if vAux en.word % 2 = 1 then v.pol ||| m else v.pol &&& ~~~m
    let vl := fun v : VCtx =>
      if vImm en.word then (vImm32 en.word).toNat
      else if vAux en.word % 4 = 1 then min (k.rl (vAux en.word / 4 % 4)) 128
      else v.vcnt.toNat
    (slotOp en.word = 0x58 → ∃ tm,
      exec (.vmpol p l x .clean) s = .next (s.modCore p l fun c => Core.vecIssued x s.now en tm
        (c.modVec x fun v => { v with pol := pol v })))
    ∧ (slotOp en.word = 0x5C → ∃ tm,
      exec (.setvl p l x .clean) s = .next (s.modCore p l fun c => Core.vecIssued x s.now en tm
        (c.modVec x fun v => { v with vl := BitVec.ofNat 8 (vl v) })))

/-- QUANT (R103) on lanes whose channels all lie inside their slots: the lanes run in order, each
updating its trackers, its code, its shadow and, outside re-run state, its counters; then the stripe
record is written when the slot names one, SVALID clears where no shadow is kept, and the conversions of
shadow and stripe are counted (R53); a counter that held sets CNT_SAT (R105). Commands completed: quant. -/
def Obligations.QuantOfLanes : Prop :=
  ∀ (p : Fin 12) (l : Fin 32) (x : Duet) (s : State) (en : Entry),
    s.ready p l .vector x = some en → slotOp en.word = 0x60 →
    let c := s.core p l
    let zs := quantZs c x en.word
    let reRun := decide ((s.part p).rerun ≠ 0)
    let r := Core.quantLanes en.word reRun zs c
    let coded := if bit en.word 54 then (r.1.quantStripe en.word zs).1 else r.1
    let c' := if reRun then coded else coded.quantValid en.word
    let fx := r.2.2.and (if bit en.word 54 then (c.quantStripe en.word zs).2 else .none)
    (∀ z ∈ zs, z.chan < (c.slot z.k).setCount.toNat) →
    ∃ t tm, exec (.quant p l x .clean) s = .next t
      ∧ State.CoreAndHubs p l (fun _ => Core.vecIssued x s.now en tm
          { Core.convFlags fx c' with
            qntFlags := if r.2.1 then c'.qntFlags ||| 2 else c'.qntFlags }) s t

/-- STEER in its normal form (R111, R114) with a valid profile and outside re-run state: the slot's
tensor counters and its candidates are taken for the decision, and the slot's counters and sets reset;
in CAL form (R106) the channel-scale registers of the slot's channels take their scales, and the counters
reset. In re-run state (R121) neither does more than issue. The issue that leaves no live core without a STEER fixes the
SVALID that the decision reads (R117). Commands completed: steer, steerCal. -/
def Obligations.SteerTakesAndCalibrates : Prop :=
  ∀ (p : Fin 12) (l : Fin 32) (x : Duet) (s : State) (en : Entry),
    s.ready p l .vector x = some en → slotOp en.word = 0x61 →
    let c := s.core p l
    let k : Fin 64 := ⟨fld en.word 7 6, Nat.mod_lt _ (by decide)⟩
    let sl := c.slot k
    let take : SteerTake := { clip := sl.clip.toNat, van := sl.van.toNat, nan := sl.nan.toNat,
                              tot := sl.tot.toNat, cands := c.candidates k }
    (c.profile k).valid = true →
    (bit en.word 13 = false → (s.part p).rerun = 0 → ∃ tm,
      let u := s.modCore p l fun c => Core.issued .vector x s.now en tm { c.resetCounts k with takes := c.takes ++ [(k, take)] }
      ((u.part p).steersDone k ≤ (s.part p).steersDone k → exec (.steer p l x .clean) s = .next u)
      ∧ ((s.part p).steersDone k < (u.part p).steersDone k →
          exec (.steer p l x .clean) s = .next (u.modPart p fun q => { q with shadows := q.shadows ++ [(k, (u.part p).shadowValid k)] })))
    ∧ (bit en.word 13 = true → (s.part p).rerun = 0 →
      ∃ (g : Vector W32 4096) (tm : Timing),
        exec (.steerCal p l x .clean) s = .next (s.modCore p l fun c => Core.issued .vector x s.now en tm
          (({ c with csr := g } : Core).resetCounts k))
        ∧ (∀ n < 4096, (∀ i < sl.setCount.toNat, n ≠ (sl.csrBase.toNat + i) % 4096) → vget 0 g n = vget 0 c.csr n)
        ∧ (∀ i < sl.setCount.toNat, vget 0 g ((sl.csrBase.toNat + i) % 4096)
            = calScale c (BitVec.ofNat 4 (fld en.word 14 4)) (fld en.word 18 3)
                (vget CSet.reset c.sets ((sl.setBase.toNat + i) % 1024))))
    ∧ ((s.part p).rerun ≠ 0 → ∃ tm,
        exec (if bit en.word 13 then .steerCal p l x .clean else .steer p l x .clean) s
          = .next (s.modCore p l fun c => Core.issued .vector x s.now en tm c))

/-- The steering rule (R112) keeps Q within the slot's limits: from QMIN ≤ Q ≤ QMAX, whatever the sums
and the profile, the decision's Q is within them and has moved by at most one step; it moves up only
when the clipped share is above the band and down only when it is below. -/
def Obligations.SteeringKeepsWithinLimits : Prop :=
  ∀ (sl : Steer) (f : Profile) (c n t : Nat),
    sl.qmin.toInt ≤ sl.q.toInt → sl.q.toInt ≤ sl.qmax.toInt →
    let d := (steerRule sl f c n t).slot
    (sl.qmin.toInt ≤ d.q.toInt ∧ d.q.toInt ≤ sl.qmax.toInt)
      ∧ (d.q.toInt = sl.q.toInt ∨ d.q.toInt = sl.q.toInt + 1 ∨ d.q.toInt = sl.q.toInt - 1)
      ∧ (sl.q.toInt < d.q.toInt → t ≠ 0 ∧ fld f.band 16 16 * t < c * 65536)
      ∧ (d.q.toInt < sl.q.toInt → t ≠ 0 ∧ c * 65536 < fld f.band 0 16 * t)
      ∧ d.qmin = sl.qmin ∧ d.qmax = sl.qmax

/-- STEER_DECISION (R109, R112, R114, R119, R120): when every live core has issued the STEER, the decision of
the summed counters lands in every live core: Q, the hold and step counters, the stripe list with the
promoted channels, FB on a panic, FBNEXT, and SVALID as WATCH says. The rank-0 core's slot, profile and list count where the
cores' copies differ (the model's choice, log entry 107). Cores that are not live, other
partitions and everything but this partition and the hubs' logs keep what they held. Commands completed: steerDecision. -/
def Obligations.SteerDecisionLands : Prop :=
  ∀ (p : Fin 12) (k : Fin 64) (s : State) (ts : List SteerTake) (l0 : Fin 32) (rest : List (Fin 32)),
    (s.part p).steerTakes k = some ts → (s.part p).live = l0 :: rest →
    (s.part p).task.isSome = true → (s.part p).abort = none →
    let c0 := s.core p l0
    let old := vget (Vector.replicate 64 0) c0.stripe k.val
    let sum := fun g : SteerTake → Nat => (ts.map g).sum
    let tot := sum fun t => t.tot
    let d := steerRule (c0.slot k) (c0.profile k) (sum fun t => t.clip) (sum fun t => t.nan) tot
    let pr := if tot = 0 then (old, (c0.slot k).stripeN.toNat, false)
      else promoteList old (c0.slot k).stripeN.toNat (mergeCands (ts.map fun t => t.cands))
    let valid := (((s.part p).shadows.find? fun t => decide (t.1 = k)).map Prod.snd).getD ((s.part p).shadowValid k)
    let later := d.panic && !(valid && decide ((s.part p).seqState ≠ 2))
    let fbnext := later || (!(d.panic && ((s.part p).fallbackOf k).isNone) && (c0.slot k).fbnext)
    ∃ t, exec (.steerDecision p k) s = .next t
      ∧ (∀ l ∈ (s.part p).live, t.core p l =
          { Core.landDecision k d.slot pr.1 pr.2.1 d.panic fbnext (s.core p l)
            with qntFlags := (t.core p l).qntFlags })
      ∧ (∀ l, l ∉ (s.part p).live → t.core p l = s.core p l)
      ∧ (∀ p', p' ≠ p → t.part p' = s.part p')
      ∧ t = { s with parts := t.parts, hubs := t.hubs }


/-- Taking an abort (R444, R445): the first fault with the effect Abort in a partition that runs a task
is recorded with its code, argument, core and waiters, every engine queue, loop and broadcast of the
partition's cores is discarded, the destinations of writes that have not landed take free values, every channel flushes, the waiting WAIT_SUB requests and the sequencer's
claims go, and the dispatching hub is told; what engines hold beside, and every other partition but for
those requests, stays. A later fault only enters the trouble log; one with no task enters it and sends a fault event (R417). -/
def Obligations.AbortStopsThePartition : Prop :=
  ∀ (p : Fin 12) (l : Fin 32) (code : Code) (arg : W64) (s : State),
    (∀ t, (s.part p).task = some t → (s.part p).abort = none →
      let u := s.abortCore p l code arg
      (u.part p).abort = some { code := code, arg := arg, time := s.now, core := BitVec.ofNat 8 l.val,
                                waits := (s.part p).waiters s.now, dump := none, dumpBad := false }
        ∧ (∀ k : Fin 32, ∃ ch, u.core p k = { ((s.core p k).abandon fun i => s.freeLane (2 ^ 40 * k.val + i)).discard with chans := ch }
            ∧ ∀ i : Fin 4, ch[i] = (s.core p k).chans[i].beginFlush s.now)
        ∧ (∀ q, q ≠ p → u.part q = { s.part q with subQ := dropSubs p (s.part q).subQ })
        ∧ (u.hub t.hub).reports = (s.hub t.hub).reports ++ [(p, t.serial, code)]
        ∧ (∀ n : Fin 32, (u.part p).claims[n] =
            if (s.part p).claims[n].owner = 1 then { (s.part p).claims[n] with owner := 0, free := true }
            else (s.part p).claims[n])
        ∧ u = { s with parts := u.parts, hubs := u.hubs, free := s.free + 1 })
    ∧ (∀ t i, (s.part p).task = some t → (s.part p).abort = some i →
        s.abortCore p l code arg = s.logAt (homeHub p) code p.val l.val 2 t.id arg)
    ∧ ((s.part p).task = none →
        s.abortCore p l code arg = (s.logAt (homeHub p) code p.val l.val 0 0 arg).sendEvent (homeHub p) 2 code p.val 0 0)

/-- The custom-operation port (R144 to R148, R362, R368, R370). VCUST.S on a claimed port with room queues its
request and takes its D line; VCUST.R writes the oldest response to its active lanes. On a port whose PCLK runs, beats of the
oldest request transfer, and the last of them is its acceptance: it waits for its response from that time, the next request
being presented from then. A response of a header and four data beats, in order, with status 0 and the tag expected, joins the
response queue. A request unanswered, or a header presented without a transfer, for 65,536 ACLK cycles raises 0x9301.
Commands completed: vcustS, vcustR, copRequestAccepted, copResponse, customOpTimeout, copRequestStall. -/
def Obligations.CustomOperationPort : Prop :=
  ∀ (p : Fin 12) (l : Fin 32) (x : Duet) (s : State) (en : Entry) (hdr b0 b1 b2 b3 : BitVec 1024) (n : Nat),
    let c := s.core p l
    (s.ready p l .vector x = some en → slotOp en.word = 0x68 → (s.part p).copClaimed l = true → ∃ tm,
      exec (.vcustS p l x .clean) s = .next (s.modCore p l fun c => Core.vecIssued x s.now en tm
        { c with copOut := c.copOut ++ [copRequest s.now (s.vIn p l x en.word)] }))
    ∧ (s.ready p l .vector x = some en → slotOp en.word = 0x69 → (s.part p).copClaimed l = true →
      ∃ o r rest tm, c.copRsp = r :: rest
        ∧ exec (.vcustR p l x .clean) s = .next (s.modCore p l fun c => Core.vecIssued x s.now en tm
            { c with ocache := o, copRsp := rest })
        ∧ lineWritten c x en.word (fun q => lane r q) o)
    ∧ (∀ r rest, (s.part p).copHeld l = false → s.pclkRuns p l = true → c.copOut = r :: rest →
      (r.sent + n < 1 + 4 * r.lines.length → exec (.copRequestAccepted p l n) s = .next (s.modCore p l fun c =>
        { c with copOut := { r with sent := r.sent + n } :: rest }))
      ∧ (1 + 4 * r.lines.length ≤ r.sent + n → exec (.copRequestAccepted p l n) s = .next (s.modCore p l fun c =>
        { c with copWait := c.copWait ++ [(r.tag, s.now)],
                 copOut := rest.modifyHead fun r' => { r' with since := s.now } })))
    ∧ (∀ tag t0 rest, (s.part p).copHeld l = false → s.pclkRuns p l = true → c.copIn = none → c.copWait = (tag, t0) :: rest →
        c.copRsp.length < 4 → fld hdr 0 8 = 0 → fld hdr 8 4 = tag.toNat →
      exec (.copResponse p l hdr [b0, b1, b2, b3]) s = .next (s.modCore p l fun c =>
        { c with copWait := rest, copIn := none, copRsp := c.copRsp ++ [beatLine [b0, b1, b2, b3]] }))
    ∧ (s.pclkRuns p l = false → exec (.copRequestAccepted p l n) s = .next s ∧ exec (.copResponse p l hdr []) s = .next s)
    ∧ (∀ tag t0 rest, c.copWait = (tag, t0) :: rest → copLimit ≤ (s.now - t0).toNat →
      exec (.customOpTimeout p l) s = .next (s.abortCore p l 0x9301 0))
    ∧ (∀ r rest, (s.part p).copHeld l = false → c.copOut = r :: rest → r.sent = 0 → copLimit ≤ (s.now - r.since).toNat →
      exec (.copRequestStall p l) s = .next (s.abortCore p l 0x9301 0))

/-- OPA and STRIPE (R69, R70, R85, R88) whose tile is EMPTY or of the pair's own tag, and whose reads lie
in the scratchpad with no guard mode and no bad word: N·B = 0 changes nothing but the queue; otherwise
the tile takes its tag and pack mode and the N·B steps in order, ACC_SAT sets when an integer sum was
clamped, every other tile stays, and without CONSUME the valid bits stay. An OPA of no step leaves the tile's recorded pack mode
(the model's choice, log entry 107). Commands completed: opa, stripe. -/
def Obligations.OuterProductSteps : Prop :=
  ∀ (p : Fin 12) (l : Fin 32) (x : Duet) (s : State) (en : Entry) (i : Instr) (op : Nat),
    (i, op) ∈ ([(.opa p l x .clean, 0x00), (.stripe p l x .clean, 0x03)] : List (Instr × Nat)) →
    s.ready p l .matrix x = some en → slotOp en.word = op →
    let c := s.core p l
    let ctx := c.ctx .matrix x
    let sa := opaSide en.word ctx false
    let sb := opaSide en.word ctx true
    let t := fld en.word 20 3
    let tag := if intPath sa.fmt sb.fmt then TileTag.int32 else TileTag.fp32
    let count := ctx.rl (fld en.word 23 2)
    let total := count * fld en.word 41 16
    let r := opaTile c en.word sa sb (s.part p).width count s.free (c.tile t) total
    vget TileTag.empty c.tileTag t = .empty ∨ vget TileTag.empty c.tileTag t = tag →
    t < 4 → c.guardEn = false → c.bad = [] →
    (∀ n m, n < fld en.word 41 16 → m < count → sa.inside n m ∧ sb.inside n m) →
    (total = 0 → ∃ tm, exec i s = .next (s.modCore p l (Core.issued .matrix x s.now en tm)))
    ∧ (total ≠ 0 → ∃ u v tm, exec i s = .next u ∧ State.OnlyCore p l s u
        ∧ u.core p l = Core.issued .matrix x s.now en tm
            { c with tiles := vset c.tiles t r.1, tileTag := vset c.tileTag t tag,
                     tileMode := vset c.tileMode t (BitVec.ofNat 2 (fld en.word 18 2)),
                     gridFlags := if r.2 then c.gridFlags ||| BitVec.ofNat 7 (2 ^ t) else c.gridFlags,
                     valid := v }
        ∧ ((sa.isStage = true ∨ sa.consume = false) → (sb.isStage = true ∨ sb.consume = false) → v = c.valid))

/-- DRAIN (R83, R92, R96, R97, R445) with a count its axis has and no INT32 stripe tile: N lines, rescaled, leave in
order for the engine that bit 32 names, as far as its queue of 8 has room; the tile and its tag stay. With only one of the two
checks failed it aborts with its fault; with both, 0x4102 is the abort and 0x4105 is logged after it. CLEAR (R81) makes the
tile zero, EMPTY and of recorded mode 0, and touches no other tile. Commands completed: drain, clear. -/
def Obligations.DrainAndClear : Prop :=
  ∀ (p : Fin 12) (l : Fin 32) (x : Duet) (s : State) (en : Entry), s.ready p l .matrix x = some en →
    let c := s.core p l
    let w := en.word
    let count := (c.ctx .matrix x).rl (fld w 23 2)
    let far := (if bit w 31 then (s.part p).width else 128) < count
    let int := bit w 33 = true ∧ vget TileTag.empty c.tileTag (fld w 34 3) = .int32
    (slotOp w = 0x01 →
      (¬far → ¬int → ∃ tm,
        exec (.drain p l x .clean) s = .next (s.modCore p l fun c => Core.issued .matrix x s.now en tm
          (Core.refill 16 { c.modCtx .matrix x (fun k => { k with drains := k.drains + 1 }) with
            draining := c.draining ++ (List.range count).map fun n =>
              { ctx := x, no := (c.ctx .matrix x).drains + 1, toVec := bit w 32,
                line := { line := drainLine c w (s.part p).width (fun i => (Config.freeBits s.free i).getLsbD 0) n, row := !bit w 31 } } })).drawn)
      ∧ (far → ¬int → s.drainRun p l x w = s.abortCore p l 0x4105 0)
      ∧ (¬far → int → s.drainRun p l x w = s.abortCore p l 0x4102 0)
      ∧ (far → int → s.drainRun p l x w = (s.abortCore p l 0x4102 0).abortCore p l 0x4105 0))
    ∧ (slotOp w = 0x02 → ∃ tm,
      exec (.clear p l x .clean) s = .next (s.modCore p l fun c => Core.issued .matrix x s.now en tm
        { c with tiles := vset c.tiles (fld w 20 3) zeroTile, tileTag := vset c.tileTag (fld w 20 3) .empty,
                 tileMode := vset c.tileMode (fld w 20 3) 0 }))


/-- STAGE and SLOT (R76, R212, R213) with their reads inside the scratchpad, no guard mode and no bad
word. STAGE with an even count of at most 128: each of its stage rows, from the row that the cursor
register names, takes its share of the spread of the half-row it is read from, left to right; the other
stage and the other rows stay. SLOT: its rows go to consecutive operand-cache slots in order, the address
moving by the step stride. Without CONSUME the valid bits stay. Commands completed: stage, slot. -/
def Obligations.StageAndSlotLoads : Prop :=
  ∀ (p : Fin 12) (l : Fin 32) (x : Duet) (s : State) (en : Entry), s.ready p l .load x = some en →
    let c := s.core p l
    let k := c.ctx .load x
    let w := en.word
    c.guardEn = false → c.bad = [] →
    (slotOp w = 0x00 →
      let f := 2 ^ fld w 18 2
      let sw := fmtBits (BitVec.ofNat 4 (fld w 20 4))
      let count := k.rl (fld w 16 2)
      let a := k.ra (fld w 8 4)
      let row := fld (k.ra (fld w 12 4)) 0 7
      let at' := fun j => if f = 1 then (a + BitVec.ofNat 32 512 * BitVec.ofNat 32 (j / 2)).toNat
                          else (a + BitVec.ofNat 32 256 * BitVec.ofNat 32 (j / f)).toNat
      count % 2 = 0 → count ≤ 128 → (∀ j < count, at' j < spadSize) →
      ∃ g v tm, exec (.stage p l x .clean) s = .next (s.modCore p l fun c => Core.issued .load x s.now en tm
          { c with stages := g, valid := v })
        ∧ (bit w 24 = false → v = c.valid)
        ∧ ∀ st < 2, ∀ r < 128,
            let new := vget (Vector.replicate 128 0) (vget (Vector.replicate 128 (Vector.replicate 128 0)) g st) r
            let old := vget (Vector.replicate 128 0) (vget (Vector.replicate 128 (Vector.replicate 128 0)) c.stages st) r
            (∀ j < count, st = fld w 7 1 → r = (row + j) % 128 →
              new = if f = 1 then spreadRow 1 16 0 ((c.bytes (at' j / 512 * 512) 512).drop (256 * (j % 2)))
                    else spreadRow f sw (j % f) (c.bytes (at' j / 256 * 256) 256))
            ∧ ((st ≠ fld w 7 1 ∨ ∀ j < count, r ≠ (row + j) % 128) → new = old))
    ∧ (slotOp w = 0x01 →
      let count := k.rl (fld w 17 2)
      let at' := fun i => (k.ra (fld w 13 4) + BitVec.ofNat 32 i * k.rs (fld w 13 4)).toNat
      (∀ i < count, at' i < spadSize) →
      ∃ v tm, exec (.slot p l x .clean) s = .next (s.modCore p l fun c => Core.issued .load x s.now en tm
          { c with valid := v, ocache := (List.range count).foldl (fun o i =>
                     vset o ((fld w 7 6 + i) % 64) (lineOf (c.bytes (at' i / 512 * 512) 512))) c.ocache })
        ∧ (bit w 19 = false → v = c.valid))

/-- CSR and GRID (R39, R40, R94, R95) on a row inside the scratchpad with no guard mode and no bad word:
each of the 128 registers whose image is valid takes it, each whose image is rejected keeps its value,
and a rejection sets WR_REJ, or ENT_REJ for a grid entry. Commands completed: csr, grid. -/
def Obligations.ScaleAndGridLoads : Prop :=
  ∀ (p : Fin 12) (l : Fin 32) (x : Duet) (s : State) (en : Entry), s.ready p l .load x = some en →
    let c := s.core p l
    let k := c.ctx .load x
    let w := en.word
    c.guardEn = false → c.bad = [] →
    (slotOp w = 0x02 →
      let a := (k.ra (fld w 12 4)).toNat
      let new := fun j => BitVec.ofNat 32 (ofBytes (((c.bytes (a / 512 * 512) 512).drop (4 * j)).take 4))
      let rej := (List.range 128).any fun j => csrRejects (new j)
      a < spadSize →
      ∃ t o v tm, exec (.csr p l x .clean) s = .next t
        ∧ State.CoreAndHubs p l (fun c => Core.issued .load x s.now en tm
            { c with csr := o, valid := v, qntFlags := if rej then c.qntFlags ||| 1 else c.qntFlags }) s t
        ∧ (bit w 16 = false → v = c.valid)
        ∧ ∀ n < 4096, vget 0 o n =
            if 128 * fld w 7 5 ≤ n ∧ n < 128 * fld w 7 5 + 128 ∧ csrRejects (new (n - 128 * fld w 7 5)) = false
            then new (n - 128 * fld w 7 5) else vget 0 c.csr n)
    ∧ (slotOp w = 0x03 →
      let a := (k.ra (fld w 8 4)).toNat
      let new := fun j => Grid.stored (BitVec.ofNat 32 (ofBytes (((c.bytes (a / 512 * 512) 512).drop (2 * j)).take 2)))
      let rej := (List.range 128).any fun j => Grid.rejects (new j)
      a < spadSize →
      ∃ t o v tm, exec (.grid p l x .clean) s = .next t
        ∧ State.CoreAndHubs p l (fun c => Core.issued .load x s.now en tm
            { c with gridEnt := o, valid := v, gridFlags := if rej then c.gridFlags ||| 64 else c.gridFlags }) s t
        ∧ (bit w 12 = false → v = c.valid)
        ∧ ∀ n < 128, vget 0 o n = if Grid.rejects (new n) then vget 0 c.gridEnt n else new n)

/-- WSLOT and WSETS (R166, R214, R502) with every address inside the scratchpad and no guard mode: their
writes happen in order, each of operand-cache slots or of sets as the slot names them, the valid bit of every row
written sets, and a byte that none of them covers reads as before. WDRAIN with all its lines in the store drain queue likewise: each
line is converted to the named format, with IEEE_OVF as it stands at the issue (R64), and written at its record's address, and as
many lines leave the queue. A saturating conversion of a WDRAIN is logged as 0x1502 (the model's choice, log entry 107).
Commands completed: wslot, wsets, wdrain. -/
def Obligations.StoreEngineWrites : Prop :=
  ∀ (p : Fin 12) (l : Fin 32) (x : Duet) (s : State) (en : Entry), s.ready p l .store x = some en →
    let c := s.core p l
    let k := c.ctx .store x
    let w := en.word
    c.guardEn = false →
    let result := fun (i : Instr) (ws : List (Nat × List Byte)) =>
      ∃ v b r tm, exec i s = .next (s.modCore p l fun c => Core.issued .store x s.now en tm
          { c with spad := ws.foldl (fun m e => memWrite m e.1 e.2) c.spad, valid := v, bad := b, writeBack := r })
        ∧ (∀ e ∈ b, e ∈ c.bad) ∧ (∀ e ∈ r, e ∈ c.writeBack)
        ∧ (∀ n < 49152, (vget 0 v (n / 32)).getLsbD (n % 32) = (c.rowValid n || ws.any fun e => e.1 / 512 == n))
        ∧ ∀ a, (∀ e ∈ ws, ¬(e.1 ≤ a ∧ a < e.1 + e.2.length)) →
            Sparse.get 0 (ws.foldl (fun m e => memWrite m e.1 e.2) c.spad) a = Sparse.get 0 c.spad a
    (slotOp w = 0x00 → (∀ e ∈ wslotWrites c k w, e.1 < spadSize) → result (.wslot p l x .clean) (wslotWrites c k w))
    ∧ (slotOp w = 0x02 → (∀ e ∈ wsetsWrites c k w, e.1 < spadSize) → result (.wsets p l x .clean) (wsetsWrites c k w))
    ∧ (slotOp w = 0x01 →
      let count := k.rl (fld w 17 2)
      let f := BitVec.ofNat 4 (fld w 19 4)
      let rs := recordSize f
      let rec' := fun sl => recordBytes c.ieeeOvf f (recordValues (s.part p).width sl)
      let lines := c.storeQ.take count
      k.prog = 0 → count ≤ c.storeQ.length → c.draining = [] → (∀ i < count, wdrainAddr k w i < spadSize) →
      ∃ t v b r tm, exec (.wdrain p l x .clean) s = .next t
        ∧ State.CoreAndHubs p l (fun c => Core.issued .store x s.now en tm
            { (Core.convFlags (lines.foldl (fun a sl => a.and (rec' sl).2) .none) c).modCtx .store x (fun k => { k with ieee := c.ieeeOvf }) with
              spad := (lines.zipIdx).foldl (fun m e => memWrite m (wdrainAddr k w e.2 / rs * rs) (rec' e.1).1) c.spad,
              storeQ := c.storeQ.drop count, valid := v, bad := b, writeBack := r }) s t
        ∧ (∀ e ∈ b, e ∈ c.bad) ∧ (∀ e ∈ r, e ∈ c.writeBack)
        ∧ (∀ n < 49152, (vget 0 v (n / 32)).getLsbD (n % 32)
            = (c.rowValid n || (List.range count).any fun i => wdrainAddr k w i / rs * rs / 512 == n)))

/-- SETR, ADDR and RANKADD (R208): the register named takes the value, the sum with the signed value, or
the sum with rank times the signed value, modulo 2³²; an L register takes it when it lies in 0 to
0xFF_FFFF, and otherwise keeps its value under fault 0x4904. A register set reads back as the value
written, and every other register of the context reads as before. Commands completed: setr, addr, rankadd. -/
def Obligations.EngineRegisterSlots : Prop :=
  (∀ (p : Fin 12) (l : Fin 32) (e : Engine) (x : Duet) (s : State) (en : Entry) (i : Instr) (v : Int),
    s.ready p l e x = some en →
    let k := (s.core p l).ctx e x
    let cls := fld en.word 7 3
    let idx := fld en.word 10 4
    let value := ctlValue en
    (i = .setr p l e x ∧ slotOp en.word = 0x70 ∧ v = (value.toNat : Int))
      ∨ (i = .addr p l e x ∧ slotOp en.word = 0x71 ∧ v = ((k.reg cls idx).toNat : Int) + value.toInt)
      ∨ (i = .rankadd p l e x ∧ slotOp en.word = 0x72 ∧ cls = 0 ∧ v = ((k.reg 0 idx).toNat : Int) + ((s.part p).rank l : Int) * value.toInt) →
    (cls ≠ 4 ∨ (0 ≤ v ∧ v ≤ 0xFFFFFF) → ∃ tm, exec i s = .next (s.modCore p l fun c => Core.issued e x s.now en tm
      (c.modCtx e x fun k => k.setReg cls idx (BitVec.ofInt 32 v))))
    ∧ (cls = 4 ∧ (v < 0 ∨ 0xFFFFFF < v) →
        ∃ tm : Timing, exec i s = .next ((s.abortCore p l 0x4904 0).modCore p l fun c => { c with timing := tm })))
  ∧ (∀ (k : EngCtx) (cls idx cls' idx' : Nat) (v : W32), cls ≤ 4 → cls' ≤ 4 → idx < (if cls = 4 then 4 else 16) →
    (k.setReg cls idx v).reg cls' idx' =
      if cls' = cls ∧ idx' = idx then (if cls = 4 then v &&& 0xFFFFFF else v) else k.reg cls' idx')

/-- LOOP (R208, R209, R225) with a body of 1 to 64 entries that ends inside the loop around it, if any,
and at most 2 loops running: the count is read at issue; a count of 0 discards the body's entries as they
arrive, any other begins the repeats. A fourth nested loop, or a body that extends past the end of the
outer body, raises 0x4908. At the end of a repeat that another follows, each A n that AMASK names moves by AL n, every other
A register stays, and the body starts again from its first entry. Commands completed: loop. -/
def Obligations.HardwareLoops : Prop :=
  (∀ (p : Fin 12) (l : Fin 32) (e : Engine) (x : Duet) (s : State) (en : Entry), s.ready p l e x = some en →
    slotOp en.word = 0x73 →
    let k := (s.core p l).ctx e x
    let k' := k.take en
    let nb := fld en.word 9 7
    let count := k.rl (fld en.word 7 2)
    let fits := ∀ f fs, k'.loops = f :: fs → f.pos + nb ≤ f.nb
    let frame : Frame := { body := [], nb := nb, pos := 0, left := count, amask := BitVec.ofNat 16 (fld en.word 32 16) }
    (1 ≤ nb → nb ≤ 64 → k.loops.length < 3 → fits →
      ∃ tm, exec (.loop p l e x) s = .next (s.modCore p l fun c =>
        { c.modCtx e x (fun _ => (EngCtx.pass 64 (if count = 0 then ({ k' with skip := nb } : EngCtx).settle 65
                                                  else { k' with loops := frame :: k'.loops })).mark s.now)
          with current := vset c.current (engNo e) x, timing := tm }))
    ∧ (nb = 0 ∨ 64 < nb ∨ 3 ≤ k.loops.length ∨ ¬fits →
        ∃ tm : Timing, exec (.loop p l e x) s = .next ((s.abortCore p l 0x4908 0).modCore p l fun c => { c with timing := tm })))
  ∧ (∀ (k : EngCtx) (f : Frame) (fs : List Frame) (n : Nat), k.loops = f :: fs → 0 < f.nb → f.nb ≤ f.pos → 1 < f.left →
      let k' := k.endRepeats (n + 1)
      k'.loops = { f with pos := 0, left := f.left - 1 } :: fs
        ∧ (∀ i < 16, k'.ra i = if f.amask.getLsbD i then k.ra i + vget 0 k.al i else k.ra i)
        ∧ k' = { k with loops := k'.loops, a := k'.a })

/-- BIND (R181 to R183, R208, R238). Handle 0 sets the address, stride and batch stride registers it names to 0. Another
handle whose entry the core's cache holds and whose checks pass sets them to the core-local address of
the moved base, STR1 and STR2; a check that fails raises its fault. An entry that arrives from the store
serves the oldest miss of its partition, in the cache that missed, where a look-up then finds it. Commands completed: bind,
descriptorCacheFill. -/
def Obligations.DescriptorBinding : Prop :=
  (∀ (p : Fin 12) (l : Fin 32) (e : Engine) (x : Duet) (s : State) (en : Entry), s.ready p l e x = some en →
    slotOp en.word = 0x74 →
    let an := fld en.word 7 4
    let hd := BitVec.ofNat 17 (fld en.word 11 17)
    let off := sext 32 (fld en.word 32 32)
    let put := fun (a st sb : W32) (tm : Timing) => s.modCore p l fun c => Core.issued e x s.now en tm
      { c.modCtx e x (fun k => { k with a := vset k.a an a, as := vset k.as an st, ab := vset k.ab an sb })
        with dcache := lruTouch hd c.dcache }
    let faults := fun (code : Code) => ∃ tm : Timing, exec (.bind p l e x) s =
      .next ((s.abortCore p l code 0).modCore p l fun c => { c with timing := tm })
    (hd = 0 → ∃ tm, exec (.bind p l e x) s = .next (put 0 0 0 tm))
    ∧ ∀ d, hd ≠ 0 → lruFind hd (s.core p l).dcache = some d →
      (∀ a, descVld d = true → descTenant d = (s.part p).tenant.toNat → descEpoch d = (s.part p).epoch.toNat →
        descFits (s.part p) d off = true → s.bindAddr p l d off = some a →
        ∃ tm, exec (.bind p l e x) s =
          .next (put (BitVec.ofInt 32 a) (BitVec.ofNat 32 (descStr d 1)) (BitVec.ofNat 32 (descStr d 2)) tm))
      ∧ (descVld d = false → faults 0x3803)
      ∧ (descVld d = true → (descTenant d ≠ (s.part p).tenant.toNat ∨ descEpoch d ≠ (s.part p).epoch.toNat) → faults 0x3804)
      ∧ (descVld d = true → descTenant d = (s.part p).tenant.toNat → descEpoch d = (s.part p).epoch.toNat →
          descFits (s.part p) d off = true → s.bindAddr p l d off = none → faults 0x3807))
  ∧ (∀ (p : Fin 12) (l : Fin 32) (hd : BitVec 17) (t : List (Option (Fin 32) × BitVec 17)) (s : State),
      (s.part p).misses = (some l, hd) :: t →
      exec (.descriptorCacheFill (.core p l)) s =
        .next ((s.modCore p l fun c => { c with dcache := lruPut hd (Sparse.get 0 (s.part p).store hd.toNat) c.dcache }).modPart p
          fun q => { q with misses := t }))
  ∧ (∀ (p : Fin 12) (hd : BitVec 17) (t : List (Option (Fin 32) × BitVec 17)) (s : State), (s.part p).misses = (none, hd) :: t →
      exec (.descriptorCacheFill (.trunk p)) s = .next (s.modPart p fun q =>
        { q with misses := t, tcache := lruPut hd (Sparse.get 0 (s.part p).store hd.toNat) q.tcache }))
  ∧ (∀ (hd : BitVec 17) (d : DescRec) (c : List (BitVec 17 × DescRec)),
      lruFind hd (lruPut hd d c) = some d ∧ (lruPut hd d c).length ≤ 128)

/-- The operations on semaphore and counter words (R248, R249, R251): what the word becomes and which
fault is raised, for every word and amount. -/
def Obligations.WordOperations : Prop :=
  ∀ (w : W32) (n : Nat),
    let limit := fld w 16 16
    let max := if limit = 0 then 65535 else limit
    (65535 < n → SemOp.add.apply w n = (w, 0x2A03) ∧ SemOp.sub.apply w n = (w, 0x2A03))
    ∧ (n ≤ 65535 →
      (semCount w + n ≤ max → ∃ v, SemOp.add.apply w n = (v, 0) ∧ semCount v = semCount w + n ∧ fld v 16 16 = limit)
      ∧ (max < semCount w + n → ∃ v, SemOp.add.apply w n = (v, 0x2A02) ∧ semCount v = max ∧ fld v 16 16 = limit)
      ∧ (n ≤ semCount w → ∃ v, SemOp.sub.apply w n = (v, 0) ∧ semCount v = semCount w - n ∧ fld v 16 16 = limit)
      ∧ (semCount w < n → SemOp.sub.apply w n = (w, 0x2A01)))
    ∧ (∀ v : W32, SemOp.set.apply w v.toNat =
        if semCount v ≤ (if fld v 16 16 = 0 then 65535 else fld v 16 16) then (v, 0) else (w, 0x2A05))
    ∧ (∀ v : W32, SemOp.cset.apply w v.toNat = (v, 0))
    ∧ (n ≤ 2 ^ 31 - 1 → ∃ v, SemOp.inc.apply w n = (v, 0) ∧ v.toNat = (w.toNat + n) % 2 ^ 32)
    ∧ (2 ^ 31 - 1 < n → SemOp.inc.apply w n = (w, 0x2A03))

/-- A write through a view of a semaphore or counter (R245, R247, R248, R255), by a source that reaches it, of a word that
is not closed to it: the operation is done on that word alone, and the access completes without error.
The amount of the ADD and SUB aliases is bits [15:0]. A SET that R248 rejects leaves the word, sets
WR_REJ, is recorded and logged with 0x2A05 and completes with that status. Commands completed: semaphoreSet, addAlias, subAlias,
counterSet, incAlias. -/
def Obligations.SemaphoreViews : Prop :=
  ∀ (src : Source) (sp : SemSpace) (i : BitVec 12) (v : W32) (s : State) (c : Instr) (o : SemOp) (view : Nat),
    (c, o, view) ∈ ([(.semaphoreSet src sp i v, .set, 0), (.addAlias src sp i v, .add, 0x10000),
      (.subAlias src sp i v, .sub, 0x20000), (.counterSet src sp i v, .cset, 0x30000),
      (.incAlias src sp i v, .inc, 0x31000)] : List (Instr × SemOp × Nat)) →
    i.toNat < semLimit sp o.ctr →
    s.reaches src (spaceBase sp + view + 4 * i.toNat) true → s.semClosed src sp o.ctr i.toNat = false →
    let n := if o = .add ∨ o = .sub then fld v 0 16 else v.toNat
    (∀ w, o.apply (s.word sp o.ctr i.toNat) n = (w, 0) →
      exec c s = .next ((s.putWord sp o.ctr i.toNat w).answered 0 0))
    ∧ (o = .set → (o.apply (s.word sp o.ctr i.toNat) n).2 = 0x2A05 →
      exec c s = .next ((((((s.putWord sp false i.toNat (s.word sp false i.toNat)).semErrAt sp false i.toNat 0x2A05).semFlag sp 1).semLog
        sp src 0x2A05).punish src 0x2A05).answered 0x2A05 0))

/-- ADD, SUB and INC of an engine context (R219, R234, R247, R249, R251): the oldest signal that the context holds
unreleased, at its release point, does its operation on the word that the slot names, by the amount read when its turn came, and is
released; with ONE = 1 a core of another rank than 0 only drops it. A global word of another tenant raises 0x2A04, and an operation
that faults aborts the task with its fault. Where a second unit's signal or WAIT_SUB reaches memory in the same cycle, the two are
done in R253's order: ADD and INC before SUB, SUB before WAIT_SUB. Commands completed: semAdd, semSub, inc. -/
def Obligations.SyncSlotSignals : Prop :=
  (∀ (p : Fin 12) (l : Fin 32) (e : Engine) (x : Duet) (s : State) (g : Signal) (rest : List Signal) (i : Instr) (o : SemOp) (op : Nat),
    (i, o, op) ∈ ([(.semAdd p l e x [], .add, 1), (.semSub p l e x [], .sub, 2), (.inc p l e x [], .inc, 4)] : List (Instr × SemOp × Nat)) →
    let c := s.core p l
    let sp := syncPlace p g.word
    let idx := syncIdx g.word
    let released := fun s' : State => s'.modCore p l fun c => c.modCtx e x fun k => ({ k with signals := rest }.pass 64).mark s.now
    s.alive p l = true → c.engFrozen ((s.part p).copClaimed l) e = false → (c.ctx e x).signals = g :: rest → syncOp g.word = op →
    c.atRelease e x g = true →
    (syncOne g.word = true → (s.part p).rank l ≠ 0 → exec i s = .next (released s))
    ∧ (syncOne g.word = false ∨ (s.part p).rank l = 0 →
      (∀ v, s.mayUse sp o.ctr idx (s.part p).tenant = true → o.apply (s.word sp o.ctr idx) g.amount = (v, 0) →
        exec i s = .next (released (s.putWord sp o.ctr idx v)))
      ∧ (∀ v code, s.mayUse sp o.ctr idx (s.part p).tenant = true → o.apply (s.word sp o.ctr idx) g.amount = (v, code) →
        code ≠ 0 → exec i s = .next (((s.putWord sp o.ctr idx v).semErrAt sp o.ctr idx code).abortCore p l code 0))
      ∧ (s.mayUse sp o.ctr idx (s.part p).tenant = false →
        exec i s = .next ((s.semErrAt sp o.ctr idx 0x2A04).abortCore p l 0x2A04 0))))
  ∧ (∀ (p q : Fin 12) (l m : Fin 32) (e f : Engine) (x y : Duet) (u : WaitUnit) (s : State),
      let one := fun (i : Instr) (j : State → Host.Outcome State Fault Refusal) =>
        match exec i s with
        | .next t => j t
        | r => r
      (s.semNext (.eng q m f y) = 2 → exec (.semAdd p l e x [.eng q m f y]) s = one (.semAdd p l e x []) (exec (.semSub q m f y [])))
      ∧ (s.semNext (.eng q m f y) = 1 → exec (.semSub p l e x [.eng q m f y]) s = one (.semAdd q m f y []) (exec (.semSub p l e x [])))
      ∧ (s.semNext u = 3 → exec (.semAdd p l e x [u]) s = one (.semAdd p l e x []) (exec (.waitSub u []))
          ∧ exec (.semSub p l e x [u]) s = one (.semSub p l e x []) (exec (.waitSub u []))
          ∧ exec (.inc p l e x [u]) s = one (.inc p l e x []) (exec (.waitSub u [])))
      ∧ (s.semNext (.eng q m f y) = 1 → exec (.waitSub u [.eng q m f y]) s = one (.semAdd q m f y []) (exec (.waitSub u [])))
      ∧ (s.semNext (.eng q m f y) = 2 → exec (.waitSub u [.eng q m f y]) s = one (.semSub q m f y []) (exec (.waitSub u []))))

/-- Waits (R164, R219, R233, R247, R249 to R251) at the head of an engine context, the sequencer or a channel whose unit runs, and
the watchdog (R261). A WAIT_GE and a WAIT_SUB of 0 are consumed at once. A WAIT_GE is consumed when COUNT is at least its
amount, a WAIT_REACH when its counter or arrival counter lies less than 2³¹ past its target modulo 2³², and nothing
changes until then. A WAIT_SUB that is, or becomes, the oldest request on its semaphore and finds COUNT at least its amount
subtracts it and is consumed. A wait, or a bale's relay pop, unconsumed for longer than LIMIT microseconds, a capture's hold
not counted, raises 0x9A01 and sets WDOG; before that, and with LIMIT = 0, nothing happens. SKIP cycles, and the freezes of an engine, stop no watchdog.
Commands completed: waitGe, waitSub, waitReach, watchdogExpiry. -/
def Obligations.WaitsAndWatchdog : Prop :=
  (∀ (u : WaitUnit) (s : State) (i : WaitInfo), s.unitRuns u = true → s.headWait u = some i →
      let p := unitPart u
      let sp := waitPlace p i
      let own := fun ctr => s.mayUse sp ctr i.idx (s.part p).tenant = true
      (i.op = 0 → i.value = 0 → exec (.waitGe u) s = .next (s.consume u))
      ∧ (i.op = 3 → i.value = 0 → exec (.waitSub u []) s = .next (s.consume u))
      ∧ (i.op = 0 → 0 < i.value → i.value ≤ 65535 → i.space ≠ 2 → own false →
        exec (.waitGe u) s = .next (if i.value ≤ semCount (s.word sp false i.idx) then s.consume u else s))
      ∧ (i.op = 5 → i.space ≠ 2 → own true → exec (.waitReach u) s = .next
          (if (s.word sp true i.idx - BitVec.ofNat 32 i.value).toNat < 2 ^ 31 then s.consume u else s))
      ∧ (i.op = 5 → i.space = 2 → exec (.waitReach u) s = .next
          (if (s.unitArr u i.idx - BitVec.ofNat 32 i.value).toNat < 2 ^ 31 then s.consume u else s))
      ∧ (i.op = 3 → 0 < i.value → i.value ≤ 65535 → i.space ≠ 2 → own false →
        (∀ r ∈ s.subs sp, r.idx ≠ i.idx ∧ r.who ≠ u) → (s.subs sp).length < subRoom sp → i.value ≤ semCount (s.word sp false i.idx) →
        exec (.waitSub u []) s = .next (((s.setSubs sp (s.subs sp)).putWord sp false i.idx
          (s.word sp false i.idx - BitVec.ofNat 32 i.value)).consume u))
      ∧ (∀ r rest, i.op = 3 → 0 < i.value → i.value ≤ 65535 → i.space ≠ 2 → own false →
        (s.subs sp).filter (fun r => r.idx == i.idx) = r :: rest → r.who ≠ u → (s.subs sp).any (fun r => decide (r.who = u)) = true →
        exec (.waitSub u []) s = .next s))
  ∧ (∀ (u : WaitUnit) (s : State) (t : W64),
      let p := unitPart u
      let lim := (s.part p).wdog.toNat
      let waited := (s.now - t).toNat - (s.part p).heldSince t
      (∀ i, s.watched u = true → s.headWait u = some i → i.since = t → lim ≠ 0 → lim * 1000 < waited →
        exec (.watchdogExpiry u) s = .next (((s.semFlag (.part p) 3).semErrAt (.part p) (decide (i.op = 5)) i.idx 0x9A01).unitFault u 0x9A01 0))
      ∧ (s.waitSince u = some t → waited ≤ lim * 1000 → exec (.watchdogExpiry u) s = .next s)
      ∧ (lim = 0 → exec (.watchdogExpiry u) s = .next s))

/-- Writes of a grid-table entry, a channel-scale register and a steer-slot word (R39, R94, R101), by a
source that reaches the register: a valid value is stored in that register alone; a rejected one leaves it
and sets ENT_REJ, or WR_REJ. A new GMASK takes effect when the toll wheel is at position 0, 0x0000 as 0x0001 (R172).
Commands completed: gridEntWrite, gridCsrWrite, steerSlotWrite, gmaskUpdate. -/
def Obligations.GridAndSteerRegisters : Prop :=
  ∀ (src : Source) (p : Fin 12) (l : Fin 32) (v : W32) (s : State),
    let base := partBase p + 0x20000 * l.val
    (∀ e : Fin 128, s.reaches src (base + 4 * e.val) true →
      exec (.gridEntWrite src p l e v) s = .next (State.answered 0 0
        (if Grid.rejects (Grid.stored v) then s.setGridFlag p l 6 0x1401
         else s.modCore p l fun c => { c with gridEnt := vset c.gridEnt e.val (Grid.stored v) })))
    ∧ (∀ n : Fin 4096, s.reaches src (base + 0x4000 + 4 * n.val) true →
      exec (.gridCsrWrite src p l n v) s = .next (State.answered 0 0
        (if (bit v 31 = true ∧ fld v 0 31 ≠ 0) ∨ (bit v 31 = false ∧ (fld v 23 8 = 0 ∨ fld v 23 8 = 255))
         then s.setQnt p l 0 0x1601
         else s.modCore p l fun c => { c with csr := vset c.csr n.val v })))
    ∧ (∀ (k : Fin 64) (w : Fin 8), s.reaches src (base + 0x1000 + 32 * k.val + 4 * w.val) true →
      (∀ t, ((s.core p l).slot k.val).put w.val v = some t →
        exec (.steerSlotWrite src p l k w v) s = .next (State.answered 0 0 (s.modCore p l fun c => c.setSlot k.val t)))
      ∧ (((s.core p l).slot k.val).put w.val v = none →
        exec (.steerSlotWrite src p l k w v) s = .next (State.answered 0 0 (s.setQnt p l 0 0x1601)))
      ∧ (((s.core p l).slot k.val).put w.val v = none ↔
          (w = 0 ∧ ¬((-496 : Int) ≤ sext 12 (fld v 0 12) ∧ sext 12 (fld v 0 12) ≤ 496))
          ∨ (w = 1 ∧ ¬((-496 : Int) ≤ sext 12 (fld v 0 12) ∧ sext 12 (fld v 0 12) ≤ sext 12 (fld v 16 12)
              ∧ sext 12 (fld v 16 12) ≤ 496))
          ∨ (w = 2 ∧ (1024 < fld v 0 10 + fld v 10 11 ∨ 64 < fld v 21 7))))
    ∧ exec (.gmaskUpdate p l) s = .next (s.modCore p l fun c => { c with gmaskEff := if c.gmask = 0 then 1 else c.gmask })

/-- The access codes of R12 and the latches of R478, by a source that reaches the register named. A W1C
write clears the flags whose bits are 1 (GRID_FLAGS); an RO register takes no write (FENCE_LIVE); an RC
read returns the count and clears it (GRID_CONV_CNT); a read of TIME_NOW_LO returns its low word and
latches the high one; a read of a performance counter's LO word latches its HI word (R488). A write to a CSR word in a cycle in which
hardware updates the word is lost (R15): what stands there is written; one that hardware updates in part keeps those bits only; a
W1C write is not lost. Commands completed: registerWrite, readClear, latchingRead. -/
def Obligations.RegisterAccessCodes : Prop :=
  ∀ (src : Source) (a : BitVec 56) (v : W32) (s : State), s.local a = true →
    let n := fld a 0 48
    (∀ (p : Fin 12) (l : Fin 32),
      (∀ clash, n = partBase p + 0x20000 * l.val + 0x204 → s.reaches src n true →
        exec (.registerWrite src a v clash) s = .next (State.answered 0 0 (s.modCore p l fun c =>
          { c with gridFlags := c.gridFlags &&& ~~~(BitVec.ofNat 7 (fld v 0 7)) })))
      ∧ (∀ clash, n = partBase p + 0x454000 → s.reaches src n true →
        exec (.registerWrite src a v clash) s = .next (State.answered 0 0 s))
      ∧ (∀ (k : Fin 4096) (clash : W32), n = partBase p + 0x20000 * l.val + 0x4000 + 4 * k.val → s.reaches src n true →
        let old := (s.core p l).csr[k]
        let new := (v &&& ~~~clash) ||| (old &&& clash)
        ¬((bit new 31 = true ∧ fld new 0 31 ≠ 0) ∨ (bit new 31 = false ∧ (fld new 23 8 = 0 ∨ fld new 23 8 = 255))) →
        exec (.registerWrite src a v clash) s = .next (State.answered 0 0 (s.modCore p l fun c => { c with csr := vset c.csr k.val new })))
      ∧ (n = partBase p + 0x20000 * l.val + 0x208 → s.reaches src n false →
        exec (.readClear src a) s = .next (State.answered 0 (s.core p l).convCnt (s.modCore p l fun c => { c with convCnt := 0 })))
      ∧ (∀ k : Fin 8, n = partBase p + 0x455310 + 8 * k.val → s.reaches src n false →
        exec (.latchingRead src a) s = .next (State.answered 0 (BitVec.ofNat 32 (s.part p).pcnt[k].toNat)
          (s.modPart p fun q => { q with pcntHi := vset q.pcntHi k.val (BitVec.ofNat 32 ((s.part p).pcnt[k].toNat / 2 ^ 32)) }))))
    ∧ (∀ h : Fin 4, src = .port h → n = blkBase + 0x7000 → s.reaches src n false →
      exec (.latchingRead src a) s = .next (State.answered 0 (BitVec.ofNat 32 (s.dieTime[24 + h.val]).toNat)
        (s.modHub h fun b => { b with nowHi := BitVec.ofNat 32 ((s.dieTime[24 + h.val]).toNat / 2 ^ 32) })))

/-- A whole entry write by a source of the partition that reaches the store (R174 to R177, R184): with no
cause against it, the entry takes the record with VLD, TENANT and EPOCH filled in and the handle leaves
every cache; with one, the entry stays, REJ, the cause and the handle are recorded and the write completes
with an error, which aborts no task. The causes come in the rule's order. Commands completed: descriptorEntryWrite. -/
def Obligations.DescriptorEntries : Prop :=
  ∀ (src : Source) (p : Fin 12) (hd : BitVec 17) (ent : BitVec 512) (s : State),
    s.reaches src (partBase p + 0x800000 + 64 * hd.toNat) true → entrySource p src = true →
    let cause := descCause (s.part p) s.full hd ent
    (cause = 0 → ∃ q r, exec (.descriptorEntryWrite src p hd ent) s = .next (State.answered 0 0 (s.modPart p fun _ => q))
      ∧ r = Sparse.get 0 q.store hd.toNat
      ∧ (∀ i < 384, r.getLsbD i = if i = 293 then true else if 296 ≤ i ∧ i < 300 then (s.part p).tenant.getLsbD (i - 296)
          else if 304 ≤ i ∧ i < 320 then (s.part p).epoch.getLsbD (i - 304) else ent.getLsbD i)
      ∧ (∀ h, h ≠ hd.toNat → Sparse.get 0 q.store h = Sparse.get 0 (s.part p).store h)
      ∧ (∀ l : Fin 32, ∀ e ∈ q.cores[l].dcache, e.1 ≠ hd) ∧ (∀ e ∈ q.tcache, e.1 ≠ hd))
    ∧ (cause ≠ 0 → exec (.descriptorEntryWrite src p hd ent) s = .next (State.answered 0x3801 0 (s.descReject p hd cause)))
    ∧ (hd = 0 → cause = 1)

/-- RING_HI and TAIL of a channel (R266, R268), by a source that reaches them. A ring inside an enabled
window, of a legal size, on a channel neither running nor waiting, is committed with HEAD and TAIL 0; another
is rejected with RING_REJ and 0x3B05. A TAIL that would make more than 2^LSZ bales is rejected with TAIL_REJ
and 0x3B02. TRUNK_CTAIL_BC does this to one channel of every live core in turn. Commands completed: ringCommit, tailWrite,
trunkCtailBc. -/
def Obligations.RingRegisters : Prop :=
  ∀ (src : Source) (c : ChanId) (v : W32) (s : State),
    let k := s.chan c
    let base := fld v 0 24 * 2 ^ 32 + fld k.stagedLo 6 26 * 64
    let size := fld k.stagedLo 0 5
    let ok := (k.stateCode = 0 ∨ k.stateCode = 3) ∧ 4 ≤ size ∧ size ≤ 16
      ∧ (s.part (chanPart c)).inWindows base (base + 64 * 2 ^ size - 1) = true
    (s.reaches src (chanBase c + 4) true →
      (ok → exec (.ringCommit src c v) s = .next (State.answered 0 0 (s.modChan c fun k =>
        { k with ringLo := k.stagedLo, ringHi := v &&& 0xFFFFFF, head := 0, tail := 0, ring := [] })))
      ∧ (¬ok → exec (.ringCommit src c v) s = .next (State.answered 0 0
        ((s.modChan c fun k => { k with ringRej := true }).logChan c 0x3B05))))
    ∧ (s.reaches src (chanBase c + 0xC) true →
      ((v - k.head).toNat ≤ 2 ^ fld k.ringLo 0 5 →
        exec (.tailWrite src c v) s = .next (State.answered 0 0 (s.modChan c fun k => { k with tail := v })))
      ∧ (2 ^ fld k.ringLo 0 5 < (v - k.head).toNat →
        exec (.tailWrite src c v) s = .next (State.answered 0 0 ((s.modChan c fun k => { k with tailRej := true }).logChan c 0x3B02))))
    ∧ (∀ p, s.reaches src (partBase p + 0x453400) true →
        (∀ l ∈ (s.part p).live, ∀ n : Fin 4, n.val = fld v 0 2 → let k := (s.core p l).chans[n]
          (k.tail + BitVec.ofNat 32 (fld v 16 16) - k.head).toNat ≤ 2 ^ fld k.ringLo 0 5) →
        ∃ t, exec (.trunkCtailBc src p v) s = .next (State.answered 0 0 t)
          ∧ (∀ (l : Fin 32) (n : Fin 4), ((t.core p l).chans[n]) =
              if (s.core p l).fenced = false ∧ n.val = fld v 0 2 then
                { (s.core p l).chans[n] with tail := (s.core p l).chans[n].tail + BitVec.ofNat 32 (fld v 16 16) }
              else (s.core p l).chans[n])
          ∧ ∀ q, q ≠ p → t.part q = s.part q)

/-- Relay queues and claim registers (R243, R286) by a source that reaches them. A push joins the end of a
queue of fewer than 16 handles; onto a full one it pushes nothing, sets FULL_REJ and completes with an error
whose code the manual does not number (log entry 20). A pop takes the oldest handle, or returns EMPTY. A
claiming read by the partition's sequencer or a control port returns FREE and OWNER as they stood and takes a
bound register that was free; another source gets FREE = 0 and changes nothing. A release frees it whoever
the owner. Commands completed: relayPush, relayPop, claimRead, claimRelease. -/
def Obligations.RelayQueuesAndClaims : Prop :=
  ∀ (src : Source) (p : Fin 12) (v : W32) (s : State),
    (∀ q : Fin 64,
      let l := (s.part p).relay[q]
      (s.reaches src (partBase p + 0x452000 + 8 * q.val) true →
        (l.length < 16 → exec (.relayPush src p q v) s = .next (State.answered 0 0
          (s.modPart p fun k => { k with relay := vset k.relay q.val (l ++ [BitVec.ofNat 17 (fld v 0 17)]) })))
        ∧ (16 ≤ l.length → ∃ code, code ≠ 0 ∧ exec (.relayPush src p q v) s = .next (State.answered code 0
            ((((s.modPart p fun k => { k with fullRej := true }).logDest p 0xFF src code).drawn).punish src code))))
      ∧ (s.reaches src (partBase p + 0x452004 + 8 * q.val) false →
        (l = [] → exec (.relayPop src p q) s = .next (State.answered 0 0x80000000 s))
        ∧ (∀ h t, l = h :: t → ∃ d : W32, fld d 0 17 = h.toNat ∧ (l.length ≤ 16 → bit d 31 = false) ∧ exec (.relayPop src p q) s =
            .next (State.answered 0 d (s.modPart p fun k => { k with relay := vset k.relay q.val t })))))
    ∧ (∀ n : Fin 32,
      let c := (s.part p).claims[n]
      (s.reaches src (partBase p + 0x456800 + 8 * n.val) false →
        (∀ o, (src = .seq p ∧ o = 1) ∨ (∃ h : Fin 4, src = .port h ∧ o = BitVec.ofNat 4 (2 + h.val)) →
          (c.bound = true → c.free = true → ∃ d : W32, bit d 0 = true ∧ fld d 4 4 = c.owner.toNat
            ∧ exec (.claimRead src p n) s = .next (State.answered 0 d
              (s.modPart p fun k => { k with claims := vset k.claims n.val { c with owner := o, free := false } })))
          ∧ (c.bound = false ∨ c.free = false → ∃ d : W32, bit d 0 = false ∧ fld d 4 4 = c.owner.toNat
            ∧ exec (.claimRead src p n) s = .next (State.answered 0 d s)))
        ∧ (src ≠ .seq p → isPort src = false → ∃ d : W32, bit d 0 = false ∧ exec (.claimRead src p n) s = .next (State.answered 0 d s)))
      ∧ (s.reaches src (partBase p + 0x456804 + 8 * n.val) true →
        (bit v 0 = true → c.bound = true → (src = .seq p ∨ isPort src = true) →
          exec (.claimRelease src p n v) s = .next (State.answered 0 0
            (s.modPart p fun k => { k with claims := vset k.claims n.val { c with owner := 0, free := true } })))
        ∧ (c.bound = false → exec (.claimRelease src p n v) s = .next (State.answered 0 0 s))))

/-- Partition registers that act (R285, R488, R489), by a source that reaches them. TRUNK_DEPOT_INV with GO
empties both depot halves. STAT_PCTL with CLR zeroes every counter and takes RUN. STAT_TRC_CTL takes BALE and
WRAP, and EN unless it would set while the ring lies outside every enabled window. Of another source than a
control port both STAT writes are ignored. Commands completed: trunkDepotInv, pctlClr, traceEnable. Under hazard audit (R241, R487,
log entry 55) a read before landing, or a collision, found at an issue is logged by the code of its engine, up to LIMIT entries in a
task, and counted beyond that; the instruction's sources are as they stood before the writes found not to have landed (R240), and
neither stalls it nor faults. Of a load and a vector instruction whose writes of a slot land in one cycle, the vector write wins in
the bits that it writes (R127). -/
def Obligations.DepotCountersAndTrace : Prop :=
  (∀ (src : Source) (p : Fin 12) (v : W32) (s : State),
    (s.reaches src (partBase p + 0x453420) true → bit v 0 = true →
      ∃ d, exec (.trunkDepotInv src p v) s = .next (State.answered 0 0 (s.modPart p fun q => { q with depots := d }))
        ∧ ∀ i (h : i < 2), (d[i]).sets = [] ∧ ∀ f ∈ (d[i]).fills, f.alloc = false)
    ∧ (s.reaches src (partBase p + 0x455304) true →
      exec (.pctlClr src p v) s = .next (State.answered 0 0 (if isPort src then s.modPart p fun q =>
        { q with pctlRun := bit v 0, pcnt := if bit v 1 then Vector.replicate 8 0 else q.pcnt } else s)))
    ∧ (s.reaches src (partBase p + 0x455388) true → isPort src = false →
      exec (.traceEnable src p v) s = .next (State.answered 0 0 s))
    ∧ (s.reaches src (partBase p + 0x455388) true → isPort src = true →
      let q := s.part p
      let lo := q.trcHi.toNat * 2 ^ 32 + fld q.trcLo 12 20 * 4096
      let inside := q.inWindows lo (lo + 2 ^ (fld q.trcLo 0 4 + 12) - 1)
      ∃ en, exec (.traceEnable src p v) s = .next (State.answered 0 0 (s.modPart p fun q =>
          { q with trcEn := en, trcBale := bit v 1, trcWrap := bit v 2 }))
        ∧ (bit v 0 = false → en = false) ∧ (bit v 0 = true → inside = true → en = true)
        ∧ (q.trcEn = false → inside = false → en = false)))
  ∧ (∀ (p : Fin 12) (l : Fin 32) (e : Engine) (collide : Bool) (u : Landing) (us : List Landing) (s : State),
    (s.core p l).timing.past = u :: us →
    let q := s.part p
    let found := if collide then Found.hazard [] [] 1 else Found.hazard [(u.what.spot, 1)] [] 0
    let no : Code := (match e with | .matrix => 0x2110 | .vector => 0x2310 | .load => 0x2510 | .store => 0x2510) + (if collide then 1 else 0)
    s.hazard p l e found =
      if q.auditEn = false then s
      else if q.audit.toNat < q.auditLimit.toNat then
        (s.logAt (homeHub p) no p.val l.val 0 q.taskId 0).modPart p fun q => { q with audit := q.audit + 1 }
      else s.modPart p fun q => { q with auditCount := BitVec.ofNat 8 (min (q.auditCount.toNat + 1) 255) })
  ∧ (∀ (p : Fin 12) (l : Fin 32) (e : Engine) (x : Duet) (early : List (Spot × Nat)) (n : Nat) (code : Code) (want : Slot → Bool)
      (run : Entry → State → State → Issued) (en : Entry) (s t : State),
    s.ready p l e x = some en → want en.word = true →
    run en (s.seen p l early) (s.hazard p l e (.hazard early [] n)) = .done t →
    ∃ tm : Timing, s.issueBy p l e x (.hazard early [] n) code want run =
      (t.modCore p l fun c => { c with timing := tm }).advance p l e x)
  ∧ (∀ (n : Fin 64) (old m v : Line) (eng : Engine) (left : Nat) (us : List Landing) (c : Core),
    c.timing.past = { eng := eng, left := left, what := .slot n old m v } :: us →
    (c.seen [(.slot n, 1)]).ocache = c.ocache.set n old
    ∧ ∀ (mine : Line) (k : Line) (i : Fin 128), eng = .vector →
      ((({ c with ocache := c.ocache.set n k } : Core).land .load left [(n, 1, true)] (.slot n c.ocache[n] mine k)).ocache[n])[i]
        = (k[i] &&& ~~~m[i]) ||| (v[i] &&& m[i]))

/-- The task ring of a hub (R411, R419). A write of TASK_RING_HI by the hub's own port commits the staged
ring and sets HEAD and TAIL to 0 when the ring is acceptable, which needs HEAD = TAIL, RSZ from 4 to 12 and
a ring open to the host; otherwise it is rejected with REJ and 0x3F04. A TAIL that would make more than 2^RSZ
descriptors is rejected with 0x3F02; another is taken. A descriptor under fetch that the ring no longer holds is forgotten. Writes from any other source are ignored. Commands completed: taskRingCommit,
taskTailWrite. -/
def Obligations.TaskRings : Prop :=
  ∀ (src : Source) (h : Fin 4) (v : W32) (s : State),
    let b := s.hub h
    let size := fld b.stagedLo 0 4
    let taken := fun (v : W32) (b : Hub) =>
      if v = b.head then { b with tail := v, descRead := none, nextTask := b.nextTask + 1 } else { b with tail := v }
    let ok := b.head = b.tail ∧ 4 ≤ size ∧ size ≤ 12
      ∧ s.hostOpen (fld v 0 24 * 2 ^ 32 + fld b.stagedLo 7 25 * 128) (128 * 2 ^ size) = true
    (s.reaches src (blkBase + 0x2004 + 0x40 * h.val) true →
      (src = .port h → ok → exec (.taskRingCommit src h v) s = .next (State.answered 0 0 (s.modHub h fun b =>
        { b with ringLo := b.stagedLo, ringHi := BitVec.ofNat 24 v.toNat, head := 0, tail := 0, checked := none, descRead := none, nextTask := b.nextTask + 1 })))
      ∧ (src = .port h → ¬ok → exec (.taskRingCommit src h v) s = .next (State.answered 0x3F04 0
        ((s.modHub h fun b => { b with taskRej := true, taskErr := b.taskErr }).logHub h 0x3F04 0)))
      ∧ (src ≠ .port h → exec (.taskRingCommit src h v) s = .next (State.answered 0 0 s)))
    ∧ (s.reaches src (blkBase + 0x200C + 0x40 * h.val) true →
      (src = .port h → (v - b.head).toNat ≤ 2 ^ fld b.ringLo 0 4 →
        exec (.taskTailWrite src h v) s = .next (State.answered 0 0 (s.modHub h (taken v))))
      ∧ (src = .port h → 2 ^ fld b.ringLo 0 4 < (v - b.head).toNat →
        exec (.taskTailWrite src h v) s = .next (State.answered 0x3F02 0
          ((s.modHub h fun b => { b with taskRej := true, taskErr := 0x3F02 }).logHub h 0x3F02 0)))
      ∧ (src ≠ .port h → exec (.taskTailWrite src h v) s = .next (State.answered 0 0 s)))

/-- Owners of global blocks (R427, R429, R438). A write of SEC_GOWN that would give a block to a tenant from 1 to 12 while the device
is not IN_SERVICE changes nothing and completes with 0x8E02. Another gives each of its 8 blocks the tenant written,
when that is a tenant number from 0 to 12; a block whose owner changes has its words zeroed, and one whose
old owner runs a task keeps its owner, the write then completing with 0x8E03. No other block changes. Commands completed:
globalOwnerWrite. -/
def Obligations.GlobalBlockOwners : Prop :=
  ∀ (src : Source) (h w : Fin 4) (v : W32) (s : State), s.reaches src (blkBase + 0x8400 + 16 * h.val + 4 * w.val) true →
    let b := s.hub h
    let new := fun j : Nat => BitVec.ofNat 4 (fld v (4 * (j % 8)) 4)
    let old := fun j : Nat => vget 0 b.gown j
    let runs := fun j : Nat => ∃ p, (s.part p).tenant = old j ∧ (s.part p).task.isSome = true
    let changes := fun j : Nat => j / 8 = w.val ∧ (new j).toNat < 13 ∧ new j ≠ old j
    let leases := ∃ j < 8, 1 ≤ (new j).toNat ∧ (new j).toNat ≤ 12
    (s.life ≠ 2 → leases → exec (.globalOwnerWrite src h w v) s =
      .next (State.answered 0x8E02 0 ((s.logSrc src 0x8E02).punish src 0x8E02)))
    ∧ (s.life = 2 ∨ ¬leases → ∃ (t : State) (st : Code), exec (.globalOwnerWrite src h w v) s = .next (State.answered st 0 (t.punish src st))
      ∧ (st = 0 ∨ st = 0x8E03) ∧ (st = 0x8E03 ↔ ∃ j < 32, changes j ∧ runs j)
      ∧ (∀ j < 32, (changes j → ¬runs j → vget 0 (t.hub h).gown j = new j) ∧ (¬(changes j ∧ ¬runs j) → vget 0 (t.hub h).gown j = old j))
      ∧ (∀ i < 2048, (changes (i / 64) ∧ ¬runs (i / 64) → Sparse.get 0 (t.hub h).gsems i = 0)
          ∧ (¬(changes (i / 64) ∧ ¬runs (i / 64)) → Sparse.get 0 (t.hub h).gsems i = Sparse.get 0 b.gsems i))
      ∧ (∀ i < 512, (changes (i / 16) ∧ ¬runs (i / 16) → Sparse.get 0 (t.hub h).gctrs i = 0)
          ∧ (¬(changes (i / 16) ∧ ¬runs (i / 16)) → Sparse.get 0 (t.hub h).gctrs i = Sparse.get 0 b.gctrs i))
      ∧ t = { s with hubs := t.hubs })

/-- LINK_CTL and LINK_CERT (R375, R392, R402), by a source that reaches them. DISABLE is stored, and holds in
IDLE a link that is neither in QUAR nor in DISABLED; REARM returns one that is in QUAR or DISABLED to IDLE; the end of a session sends
what waits for the link another way (R394), and with nothing waiting changes the link alone;
REKEY on an ACTIVE link sends KEYUPD. A word of the own certificate is stored for every hub, and VALID is
recomputed at each. Commands completed: linkDisable, rearm, rekey, linkCertWrite. -/
def Obligations.LinkControlRegisters : Prop :=
  ∀ (src : Source) (n : Fin 16) (v : W32) (s : State),
    let held := s.links[n].state = .quar ∨ s.links[n].state = .disabled
    let take := fun k : Link => { k with disable := bit v 0 }
    (s.reaches src (linkCtlAddr n) true →
      (bit v 2 = false → ∀ c, (c = .linkDisable src n v ∨ (c = .rearm src n v ∧ bit v 1 = true)) →
        (held → bit v 1 = true → exec c s = .next (State.answered 0 0 ((s.modLink n take).endSession n Link.toIdle)))
        ∧ (held → bit v 1 = false → exec c s = .next (State.answered 0 0 (s.modLink n take)))
        ∧ (¬held → bit v 0 = true → exec c s = .next (State.answered 0 0 ((s.modLink n take).endSession n Link.toIdle)))
        ∧ (¬held → bit v 0 = false → exec c s = .next (State.answered 0 0 (s.modLink n take))))
      ∧ (bit v 2 = true → bit v 0 = false → s.links[n].state = .active →
        exec (.rekey src n v) s = .next (State.answered 0 0 ((s.modLink n take).linkPacket n 8 []))))
    ∧ (∀ k : Link, k.toIdle.state = .idle ∧ k.toIdle.disable = k.disable)
    ∧ ((∀ m : Fin 16, s.links[m].waits = []) → s.endSession n Link.toIdle = s.modLink n Link.toIdle)
    ∧ (∀ (h : Fin 4) (w : Fin 64), src = .port h → s.reaches src (hubBase h + 0x450300 + 4 * w.val) true →
      ∃ t : State, exec (.linkCertWrite src w v) s = .next (State.answered 0 0 t) ∧ t.cert = vset s.cert w.val v
        ∧ ∀ g : Fin 4, (t.hub g).certv = State.ownCert { s with cert := vset s.cert w.val v } (s.hub g))

/-- Messages to a control port that is up (R404 to R408, R411, R326). A BUSY port answers READ, WRITE and
DOORBELL with BUSY and performs none; an invalid request is answered with 0x3F01 and logged, nothing being performed. A valid
READ or WRITE that waits for no earlier request reads or writes registers and is answered, or goes to the
memory port of its address, where its tag stays outstanding. A WRITE that would start a long operation reaches a port that is not BUSY
here, and runs; a request behind earlier ones is held until they end (R406). A DOORBELL for the hub's own ring has the effect of a
TAIL write. The first bytes of a stream begin a load, and those that follow it, of the same load, join it, and a STREAM that is not
valid is answered with 0x3F01. The header of each message to the host holds the fields of R404 at their bits. Commands completed:
controlRead, controlWrite, doorbell, stream. -/
def Obligations.ControlPortMessages : Prop :=
  ∀ (h : Fin 4) (hdr : BitVec 128) (data : List W32) (s : State), s.phase = .ready → (s.hub h).portUp = true →
    let b := s.hub h
    let tag : Byte := BitVec.ofNat 8 (fld hdr 8 8)
    let len := fld hdr 16 7
    let a := fld hdr 32 56 % 2 ^ 48
    let s1 := s.modHub h fun b => { b with tagsOut := b.tagsOut ++ [tag] }
    let req := fun (kind : ReqKind) (n : Nat) (d : List Byte) =>
      ({ who := .port h tag, src := .port h, kind := kind, addr := a, len := n, data := d, got := [],
         arrive := none, last := false, tail := false, consume := false } : MemReq)
    let ty := msgType hdr
    (∀ o c, b.busy = some o → 1 ≤ ty → ty ≤ 3 → (c = .controlRead h hdr data ∨ c = .controlWrite h hdr data ∨ c = .doorbell h hdr data) →
      exec c s = .next (s.say h (.busy tag o.lop o.prog)))
    ∧ (b.busy = none → s.msgValid h 1 hdr = false → exec (.controlRead h hdr data) s = .next ((s.logHub h 0x3F01 0).say h (.completion tag 0x3F01 [])))
    ∧ (b.busy = none → s.msgValid h 2 hdr = false → exec (.controlWrite h hdr data) s = .next ((s.logHub h 0x3F01 0).say h (.completion tag 0x3F01 [])))
    ∧ (b.busy = none → s.msgValid h 1 hdr = true → data = [] → 0 < len → s.portWaits h a false = [] →
      (∀ st d u, addrQueue a = none → s1.regReadN (.port h) a (4 * len) = (st, d, u) →
        exec (.controlRead h hdr data) s = .next (u.portAnswer h tag st d))
      ∧ ((addrQueue a).isSome = true → exec (.controlRead h hdr data) s = .next (s1.memAsk (req .read (4 * len) []))))
    ∧ (b.busy = none → s.msgValid h 2 hdr = true → data.length = len → 0 < len → s.portWaits h a true = [] →
      (∀ st u, addrQueue a = none → s1.regWriteN (.port h) a (4 * len) data (some (h, tag)) = .now st u →
        exec (.controlWrite h hdr data) s = .next (u.portAnswer h tag st []))
      ∧ ((addrQueue a).isSome = true → exec (.controlWrite h hdr data) s = .next (s1.memAsk (req .write (4 * len) (bytesOfWords data)))))
    ∧ (∀ v, b.busy = none → msgType hdr = 3 → msgZero hdr = true → len = 1 → data = [v] → fld hdr 32 56 % 4 = h.val → b.tagsOut.contains tag = false →
      ((v - b.head).toNat ≤ 2 ^ fld b.ringLo 0 4 → exec (.doorbell h hdr data) s = .next (State.say h (.completion tag 0 [])
        (s.modHub h fun b => { (if v = b.head then { b with tail := v, descRead := none, nextTask := b.nextTask + 1 } else { b with tail := v })
          with bellWaits := ((s.portOut h).filter fun e => e.2.2.1).map fun e => e.1 })))
      ∧ (2 ^ fld b.ringLo 0 4 < (v - b.head).toNat → exec (.doorbell h hdr data) s = .next (State.say h (.completion tag 0x3F02 [])
        ((s.modHub h fun b => { b with taskRej := true, taskErr := 0x3F02 }).logHub h 0x3F02 0))))
    ∧ (b.busy = none → s.msgValid h 1 hdr = true → data = [] → 0 < len → s.portWaits h a false ≠ [] →
      exec (.controlRead h hdr data) s = .next (s1.modHub h fun b => { b with aliases := b.aliases ++
        [{ src := .port h, addr := a, len := 4 * len, data := [], who := .port h tag, waits := s.portWaits h a false }] }))
    ∧ (let ok := ty = 4 ∧ fld hdr 4 4 = 0 ∧ fld hdr 23 9 = 0 ∧ fld hdr 32 56 = 0 ∧ fld hdr 88 40 = 0 ∧ len ≤ 64 ∧ data.length = len
          ∧ b.tagsOut.contains tag = false
      (¬ok → exec (.stream h hdr data) s = .next ((s.logHub h 0x3F01 0).say h (.completion tag 0x3F01 [])))
      ∧ (∀ o, b.busy = some o → o.lop = 1 → b.loader.started = true → ok →
        ∃ since, exec (.stream h hdr data) s = .next ((s.modHub h fun b => { b with loader := { b.loader with
          buf := b.loader.buf ++ bytesOfWords data, since := since } }).say h (.completion tag 0 [])))
      ∧ (∀ o, b.busy = some o → o.lop ≠ 1 ∨ b.loader.started = false → ok →
        exec (.stream h hdr data) s = .next (s.say h (.busy tag o.lop o.prog)))
      ∧ (b.busy = none → ok → data ≠ [] → ∃ since, exec (.stream h hdr data) s = .next ((s.modHub h fun b =>
          { b with busy := some { lop := 1, prog := 0 },
                   loader := { Loader.idle with started := true, buf := bytesOfWords data, lastErr := b.loader.lastErr,
                                                since := since } }).say h (.completion tag 0 []))))
    ∧ (∀ (d : List W32) (st : Code) (lop : BitVec 4) (prog : Byte) (e : Event), d.length ≤ 64 →
      let m := HostMsg.header (.completion tag st d)
      let y := HostMsg.header (.busy tag lop prog)
      let z := HostMsg.header (.event e)
      (fld m 0 4 = 8 ∧ fld m 8 8 = tag.toNat ∧ fld m 16 7 = d.length ∧ fld m 88 16 = st.toNat)
      ∧ (fld y 0 4 = 9 ∧ fld y 8 8 = tag.toNat ∧ fld y 104 8 = prog.toNat ∧ fld y 112 4 = lop.toNat)
      ∧ fld z 0 4 = 0xA ∧ fld z 16 7 = 8)

/-- BUNDLE_ISSUE (R192 to R194, R198, R203, R205, R220, R222, R227, R454). A sequencer that runs, with no cycle of
SKIP left, no store and no fetch outstanding and the bundle in its bundle cache, aborts the task when a check of the bundle fails, and
otherwise does nothing while a scalar register of the bundle waits for a load, a queue it names has no room or its wait is
unconsumed; then the bundle issues: its signal, its scalar slot, its slots to every live
core, and the next bundle, with SKIP and two more cycles for a taken branch; a branch beyond 2^32 goes to an offset that lies in no
code object. An access of the scalar slot that aborts ends the issue. An EOG bundle takes the
lowest pending fallback; a capture stops the sequencer there. A bundle the cache lacks is asked for, and
one past SIZE or with a reserved header aborts. Commands completed: bundleIssue. -/
def Obligations.SequencerIssue : Prop :=
  ∀ (p : Fin 12) (s : State),
    let q := s.part p
    let off := q.next.toNat
    let c := Instr.bundleIssue p false
    s.seqRuns p = true → q.skip = 0 → q.storeBusy = false → q.bmiss = false →
    (q.fetch = .miss → ∀ o, q.missing = some o →
      exec c s = .next ((s.modPart p fun q => { q with bmiss := true, fetchRet := none }).request (.seqFetch p q.taskNo) (.seq p) .read
        (q.codeBase + (q.fillLine o).1) (q.fillLine o).2 []))
    ∧ (∀ code, q.fetch = .fault code → exec c s = .next (s.abort p code 0))
    ∧ (∀ b, q.fetch = .ok b →
      let nxt := off + b.len
      let stalled := q.interlock b = true ∨ q.room b = false ∨ q.seqWait.isSome = true
      (b.check ≠ 0 → exec c s = .next (s.abort p b.check 0))
      ∧ (b.check = 0 → stalled → exec c s = .next s)
      ∧ (b.check = 0 → ¬stalled →
        (∀ code s', s.seqSignal p b = (code, s') → code ≠ 0 → exec c s = .next (s'.abort p code 0))
        ∧ ∀ s₁, s.seqSignal p b = (0, s₁) →
          let sync := b.sync.filter fun w => (syncEngine (syncSlot w)).isSome
          let r : Broadcast := { ctx := b.duet, vector := b.vector, matrix := b.matrix, load := b.load, store := b.store,
                                 sync := sync, svals := (List.range 32).map fun i => (q.s i).setWidth 32 }
          let sent := fun (c : Core) =>
            if c.fenced = true ∨ (b.slots.isEmpty = true ∧ sync.isNone = true) then c else { c with promenade := c.promenade ++ [r] }
          let fin := fun (s' : State) (f : Part → Part) (go extra : Nat) =>
            ((s'.modPart p fun q => { f q with
                cores := q.cores.map sent, pc := BitVec.ofNat 32 off, next := BitVec.ofNat 32 go, waitDone := false, waitSince := none,
                skip := BitVec.ofNat 17 (b.skip.toNat + extra) }).perf p 4 1).markSeq p
          let at' := fun (s' : State) => s'.modPart p fun q => { q with pc := BitVec.ofNat 32 off }
          (∀ s', (b.scalar = none ∧ s' = s₁) ∨ (∃ w, b.scalar = some w ∧ s₁.scalar p w off nxt = .next s' ∧ (s'.part p).abort = none) →
            (s'.part p).trcEn = false →
            (b.eog = false → exec c s = .next (fin s' (fun q => q) nxt 0))
            ∧ (b.eog = true → s'.capState ≠ .quiescing → (s'.part p).fbPend = 0 → exec c s = .next (fin s' (fun q => q) nxt 0))
            ∧ (b.eog = true → s'.capState = .quiescing → s'.capMask.getLsbD p.val = true → (s'.part p).fbPend = 0 →
                (s'.part p).seqState = 1 → exec c s = .next (fin s' (fun q => { q with seqState := 3 }) nxt 0))
            ∧ (∀ k fb, b.eog = true → s'.capState ≠ .quiescing → (s'.part p).seqState = 1 → (s'.part p).rerun = 0 →
                ((List.range 64).find? fun i => (s'.part p).fbPend.getLsbD i) = some k → (s'.part p).fallbackOf k = some fb → 
                (∀ w, b.scalar = some w → scOp w ≠ 0x2A) →
                exec c s = .next (fin s' (fun q => { q with
                  rerun := 1, fbSlot := BitVec.ofNat 6 k, retPoint := BitVec.ofNat 32 nxt,
                  fbPend := q.fbPend &&& ~~~(BitVec.ofNat 64 (2 ^ k)) }) fb.entry.toNat 2)))
          ∧ (∀ w t s', b.scalar = some w → s₁.scalar p w off nxt = .jump t s' →
            b.eog = false → (s'.part p).trcEn = false → exec c s = .next (fin s' (fun q => q) (min t 0xFFFFFFFF) 2))
          ∧ (∀ w s', b.scalar = some w → s₁.scalar p w off nxt = .next s' → (s'.part p).abort.isSome = true → exec c s = .next (at' s'))
          ∧ (∀ w code arg s', b.scalar = some w → s₁.scalar p w off nxt = .fault code arg s' →
            exec c s = .next ((at' s').abort p code arg))))

/-- Scalar operations (R198 to R202, R205): what each opcode makes of the registers it names, the calls
and returns of the branch register stack, fallbacks, END, TRAP, DESCW, and the loads and stores: of a register of this
device at once, of memory by a request whose answer comes later. S0 reads 0, and a write to it is discarded. -/
def Obligations.ScalarOperations : Prop :=
  (∀ (q : Part) (n m : Nat) (v : W64), n < 32 → m < 32 → (q.putS n v).s m = if m = n ∧ n ≠ 0 then v else q.s m)
  ∧ ∀ (p : Fin 12) (w : W32) (off nxt : Nat) (s : State),
    let q := s.part p
    let rd := fld w 6 5
    let a := q.s (fld w 11 5)
    let b := q.s (fld w 16 5)
    let d := q.s rd
    let imm := fld w 16 16
    let z : W64 := BitVec.ofNat 64 imm
    let tgt : Int := off + 4 * sext 16 imm
    let op := fld w 0 6
    let run := s.scalar p w off nxt
    (∀ v, (op, v) ∈ ([(0x01, a + b), (0x02, a - b), (0x03, a &&& b), (0x04, a ||| b), (0x05, a ^^^ b), (0x06, a <<< (b.toNat % 64)),
        (0x07, a >>> (b.toNat % 64)), (0x08, a.sshiftRight (b.toNat % 64)), (0x09, a * b), (0x0A, if a.toInt < b.toInt then 1 else 0),
        (0x0B, if a.toNat < b.toNat then 1 else 0), (0x0C, if a.toInt ≤ b.toInt then a else b), (0x0D, if a.toInt ≤ b.toInt then b else a),
        (0x10, a + BitVec.ofInt 64 (sext 16 imm)), (0x11, a &&& z), (0x12, a ||| z), (0x13, a ^^^ z), (0x14, a <<< (imm % 64)),
        (0x15, a >>> (imm % 64)), (0x16, a.sshiftRight (imm % 64)),
        (0x17, (d &&& ~~~(0xFFFF#64 <<< (16 * (fld w 11 5 % 4)))) ||| (z <<< (16 * (fld w 11 5 % 4)))),
        (0x1D, s.special p (imm % 256))] : List (Nat × W64)) → run = .next (s.modPart p fun q => q.putS rd v))
    ∧ (op = 0 → run = .next s)
    ∧ (∀ t, (op, t) ∈ ([(0x20, decide (d = a)), (0x21, decide (d ≠ a)), (0x22, decide (d.toInt < a.toInt)), (0x23, decide (a.toInt ≤ d.toInt)),
        (0x24, decide (d.toNat < a.toNat)), (0x25, decide (a.toNat ≤ d.toNat))] : List (Nat × Bool)) →
        (t = false → run = .next s) ∧ (t = true → 0 ≤ tgt → run = .jump tgt.toNat s))
    ∧ (op = 0x26 → run = .jump a.toNat s)
    ∧ (op = 0x27 → 0 ≤ tgt → run = if q.calls.length < 8 then .jump tgt.toNat (s.modPart p fun q => { q with calls := BitVec.ofNat 32 nxt :: q.calls })
        else .fault 0x4909 0 s)
    ∧ (op = 0x28 → (q.calls = [] → run = .fault 0x4909 0 s)
        ∧ ∀ r t, q.calls = r :: t → run = .jump r.toNat (s.modPart p fun q => { q with calls := t }))
    ∧ (op = 0x29 → let k := fld w 6 6
        (q.rerun ≠ 0 ∨ q.fbNext k = false → run = .next s)
        ∧ (∀ f, q.rerun = 0 → q.fbNext k = true → q.fallbackOf k = some f → 0 ≤ tgt → tgt < 2 ^ 32 →
            run = .jump f.entry.toNat ((s.setNext p k false).modPart p fun q =>
              { q with rerun := 2, fbSlot := BitVec.ofNat 6 k, retPoint := BitVec.ofNat 32 tgt.toNat })))
    ∧ (op = 0x2A → run = if q.rerun = 0 then .fault 0x4909 0 s
        else .jump q.retPoint.toNat (s.modPart p fun q => { q with rerun := 0, fbSlot := 0 }))
    ∧ (op = 0x2B → run = .next (s.modPart p fun q => { q with seqState := 2 }))
    ∧ (op = 0x2C → run = .fault 0x490A (BitVec.ofInt 64 (sext 16 imm)) s)
    ∧ (op = 0x1C → ∀ cause s', s.descWrite p (BitVec.ofNat 17 b.toNat)
          (BitVec.ofNat 512 (((List.range 8).map fun i => (q.s (fld w 11 5 + i)).toNat * 2 ^ (64 * i)).sum)) = (cause, s') →
        run = .next (s'.modPart p fun q => q.putS rd (BitVec.ofNat 64 cause)))
    ∧ (0x18 ≤ op ∧ op ≤ 0x1B → let addr := (a + BitVec.ofInt 64 (sext 16 imm)).toNat
        let size := if op < 0x1A then 8 else 4
        (s.scalarOk p addr size = false → run = .fault 0x3901 0 s)
        ∧ (s.scalarOk p addr size = true →
          let load := fun (r : Option (Code × List Byte)) (s : State) => s.modPart p fun q =>
            { q with loads := q.loads ++ [{ rd := ⟨rd % 32, Nat.mod_lt _ (by decide)⟩, addr := addr, size := size, answer := r }] }
          (op % 2 = 0 → s.isReg addr = true → ∀ st data s', s.regReadN (.seq p) (addr % 2 ^ 48) size = (st, data, s') →
            run = .next (load (some (st, bytesOfWords data)) s'))
          ∧ (op % 2 = 0 → s.isReg addr = false →
            run = .next ((load none s).request (.seqLoad p q.taskNo ⟨rd % 32, Nat.mod_lt _ (by decide)⟩) (.seq p) .read addr size []))
          ∧ (op % 2 = 1 → s.isReg addr = true → ∀ s',
            s.regWriteN (.seq p) (addr % 2 ^ 48) size (wordsOf (bytesOf size d.toNat)) none = .now 0 s' → run = .next s')
          ∧ (op % 2 = 1 → s.isReg addr = false →
            run = .next ((s.modPart p fun q => { q with storeBusy := true }).request (.seqStore p q.taskNo) (.seq p) .write addr size
              (bytesOf size d.toNat)))))

/-- BUNDLE_CACHE_FILL, SCALAR_LOAD_RETURN and SLOT_DISPATCH (R194, R197, R198, R222, R224, R226). A line
that arrives replaces its line in the bundle cache and ends the miss; a status other than 0 aborts. The oldest load that has
its data writes them, zero-extended, to its register, or aborts with its status. The oldest broadcast on
the promenade of a live core leaves it and enters the queues of its context, a wait before the slot of its
engine and a signal after it, or aborts with the lowest code of its checks. Commands completed: bundleCacheFill, scalarLoadReturn,
slotDispatch. -/
def Obligations.SequencerReturns : Prop :=
  ∀ (p : Fin 12) (s : State),
    let q := s.part p
    (∀ o st d, q.bmiss = true → q.abort = none → s.phase = .ready → q.missing = some o → q.fetchRet = some (st, d) →
      let ln := q.fillLine o
      let s'' := s.modPart p fun q => { q with bmiss := false, fetchRet := none }
      (st ≠ 0 → exec (.bundleCacheFill p) s = .next (s''.abort p st 0))
      ∧ (st = 0 → exec (.bundleCacheFill p) s = .next ((s''.modPart p fun q => { q with bcache :=
          (((List.range d.length).map fun i => (ln.1 + i, nth 0 d i)) ++ q.bcache.filter fun c => decide (c.1 / 64 ≠ ln.1 / 64)).take 65536 }).markSeq p)))
    ∧ (∀ (before after : List Load) (ld : Load) (st : Code) (bytes : List Byte), q.loads = before ++ ld :: after → ld ∉ before → (∀ x ∈ before, x.answer = none) →
      ld.answer = some (st, bytes) → let s' := s.modPart p fun q => { q with loads := before ++ after }
      (st = 0 → exec (.scalarLoadReturn p) s = .next (s'.modPart p fun q => q.putS ld.rd.val (BitVec.ofNat 64 (ofBytes (bytes.take ld.size)))))
      ∧ (st ≠ 0 → exec (.scalarLoadReturn p) s = .next (s'.abort p st 0)))
    ∧ (∀ (l : Fin 32) (r : Broadcast) (t : List Broadcast), s.phase = .ready → q.task.isSome = true → q.abort = none →
      (s.core p l).fenced = false → (s.core p l).promenade = r :: t →
      (r.check s.full ≠ 0 → exec (.slotDispatch p l) s = .next ((s.modCore p l fun c => { c with promenade := t }).abortCore p l (r.check s.full) 0))
      ∧ (r.check s.full = 0 → exec (.slotDispatch p l) s = .next (s.modCore p l fun c =>
          { c with promenade := t, eng := Vector.ofFn fun i : Fin 8 =>
              let e : Engine := if i.val / 2 = 0 then .load else if i.val / 2 = 1 then .matrix else if i.val / 2 = 2 then .vector else .store
              if i.val % 2 = duetNo r.ctx then (r.queue e).foldl (fun k en => k.push s.now en) c.eng[i] else c.eng[i] })))

/-- TASK_DESCRIPTOR_CHECK and TASK_DELIVERY (R411 to R413, R475). A ready hub with none checked, work in its
ring and no earlier write still on its way asks for the descriptor at HEAD, and takes it when it has come; the checks run in order and
the first that fails gives the code. 0x3F03 leaves no task and sends an event; another code makes a task that
never runs; a task that passes waits for room. With room in every delivery queue it reaches every named
partition that is available, HEAD advances, and a ramp-down there is reversed; without room WAITQ sets. Commands completed:
taskDescriptorCheck, taskDelivery. -/
def Obligations.TaskSubmission : Prop :=
  (∀ (h : Fin 4) (s : State),
    let b := s.hub h
    s.phase = .ready → b.checked = none → b.head ≠ b.tail → b.descRead = none → b.bellWaits = [] →
    exec (.taskDescriptorCheck h) s = .next ((s.modHub h fun b => { b with descRead := some none }).requestHere (.desc h b.nextTask) (.port h) .read
      (fld b.ringHi 0 24 * 2 ^ 32 + fld b.ringLo 7 25 * 128 + b.head.toNat % 2 ^ fld b.ringLo 0 4 * 128) 128 []))
  ∧ (∀ (h : Fin 4) (s s' : State) (n : Nat) (st : Code) (data : List Byte),
    let b := s.hub h
    s.phase = .ready → b.checked = none → b.head ≠ b.tail → b.descRead = some (some (st, data)) → s.taskBytes st data = (n, s') →
    let d := taskOf n h b.head b.nextTask
    let code := s'.taskChecks d (taskZero n)
    let refuse := fun (f : Hub → Hub) => ((s'.modHub h fun b =>
        f { b with nextTask := b.nextTask + 1, descRead := none, head := b.head + 1, taskRej := true, taskErr := code })).logAt h code (0xF0 + h.val) 0xFF 0 d.id 0
    (st = 0 → n = ofBytes data ∧ s' = s)
    ∧ (code = 0 → exec (.taskDescriptorCheck h) s =
        .next (s'.modHub h fun b => { b with nextTask := b.nextTask + 1, descRead := none, checked := some d }))
    ∧ (code = 0x3F03 → exec (.taskDescriptorCheck h) s = .next ((refuse fun b => b).sendEvent h 1 code 0xFF 0 d.id))
    ∧ (code ≠ 0 → code ≠ 0x3F03 → exec (.taskDescriptorCheck h) s =
        .next ((refuse fun b => b).modHub h fun b => { b with tasks := b.tasks ++ [{ RunTask.new d with status := code, notrun := true }] })))
  ∧ (∀ (s : State) (d : TaskDesc) (zero : Bool) (p : Fin 12) (r : List (Fin 12)),
      let bad1 := d.endAddr.toNat % 64 ≠ 0 ∨ s.hostOpen d.endAddr.toNat 64 = false
      let bad2 := zero = false ∨ d.pmask = 0
      let bad3 := ∃ q ∈ d.parts, s.fused q = true
      let bad4 := 256 < d.scount ∨ 4096 < d.sbase + d.scount ∨ 256 < d.gcount ∨ 2048 < d.gbase + d.gcount
      let bad5 := (∃ q ∈ d.parts, (s.part q).tenant ≠ (s.part p).tenant) ∨ (∃ i < d.gcount, s.wordOwner d.ghub false (d.gbase + i) ≠ (s.part p).tenant)
      d.parts = p :: r →
      (bad1 → s.taskChecks d zero = 0x3F03)
      ∧ (¬bad1 → bad2 → s.taskChecks d zero = 0x4F01)
      ∧ (¬bad1 → ¬bad2 → bad3 → s.taskChecks d zero = 0x4F02)
      ∧ (¬bad1 → ¬bad2 → ¬bad3 → bad4 → s.taskChecks d zero = 0x4F03)
      ∧ (¬bad1 → ¬bad2 → ¬bad3 → ¬bad4 → bad5 → s.taskChecks d zero = 0x8F01)
      ∧ (¬bad1 → ¬bad2 → ¬bad3 → ¬bad4 → ¬bad5 → s.taskChecks d zero = 0))
  ∧ (∀ (h : Fin 4) (s : State) (d : TaskDesc), (s.hub h).checked = some d →
      ((∃ p ∈ d.parts, 8 ≤ (s.part p).delivery.length) → exec (.taskDelivery h) s = .next (s.modHub h fun b => { b with waitQ := true }))
      ∧ ((∀ p ∈ d.parts, (s.part p).delivery.length < 8 ∧ (s.part p).unavail = false) →
          let t := { RunTask.new d with left := d.pmask, gsnap := s.counts (.hub d.ghub) d.gbase d.gcount }
          let s' := s.modHub h fun b => { b with checked := none, waitQ := false, head := b.head + 1, tasks := b.tasks ++ [t] }
          exec (.taskDelivery h) s = .next { s' with
            parts := Vector.ofFn fun p : Fin 12 =>
            if d.pmask.getLsbD p.val then { s.part p with
              delivery := (s.part p).delivery ++ [d],
              power := if (s.part p).power = .rampDown then (if 16 ≤ (s.part p).rampAt then .running else .rampUp) else (s.part p).power }
            else s.part p }))

/-- TASK_START, TASK_FINISH and END_RECORD (R31, R188, R189, R191, R204, R206, R260, R268, R415, R417, R418). A free running
partition takes the oldest task of its delivery queue with its registers, calls and caches cleared, asks for the header of its
code object and then for its tables, and starts at the entry of the first bucket that fits, or aborts with the fault of its code
object, or with 0xF901 at a parity error of its sequencer (R446). After END,
with all work done, a task with balanced words ends there; an unbalanced one is reported with 0x2A10; the engine registers are lost.
When no partition has work left, the hub writes the end record, or holds it while its event queue
is full, and sends the event once the record has landed. Commands completed: taskStart, taskFinish, endRecord. -/
def Obligations.TaskLife : Prop :=
  (∀ (p : Fin 12) (s : State) (d : TaskDesc) (rest : List TaskDesc),
    let q := s.part p
    q.delivery = d :: rest → s.phase = .ready → q.opening = false → q.task = none → q.unavail = false → q.power = .running →
    s.frozen p = false →
    exec (.taskStart p false) s = .next ((s.takeTask p d).codeAsk p 0 0 64)
    ∧ exec (.taskStart p true) s = .next ((s.takeTask p d).abort p 0xF901 0)
    ∧ (let t := (s.takeTask p d).part p
       t.task = some d ∧ t.opening = true ∧ t.codeReads = [] ∧ t.delivery = rest ∧ t.seqState = 1 ∧ t.skip = 0 ∧ t.calls = [] ∧ t.loads = []
       ∧ t.rerun = 0 ∧ t.fbPend = 0
       ∧ t.bcache = [] ∧ (∀ n, t.s n = 0) ∧ t.tstart = s.now ∧ t.snap = s.counts (.part p) d.sbase d.scount
       ∧ t.sems = q.sems ∧ t.ctrs = q.ctrs ∧ t.store = q.store ∧ t.relay = q.relay
       ∧ ∀ l : Fin 32, t.cores[l] = { q.cores[l] with
           eng := Vector.replicate 8 EngCtx.reset, current := Vector.replicate 4 .a,
           vctx := Vector.replicate 2 VCtx.reset, timing := Timing.reset, copFlush := false,
           chans := q.cores[l].chans.map fun k => if k.stopped then { k with stopped := false, head := k.tail } else k }))
  ∧ (∀ (p : Fin 12) (s : State) (d : TaskDesc) (i off n : Nat), (s.part p).task = some d → 0 < n →
      s.codeAsk p i off n = (s.modPart p fun q => { q with codeReads := q.codeReads ++ [(i, none)] }).request (.code p (s.part p).taskNo i)
        (.seq p) .read (d.code.toNat + off) n [])
  ∧ (∀ (p : Fin 12) (s : State) (d : TaskDesc) (st : Code) (hd : List Byte),
    let q := s.part p
    let n := ofBytes hd
    s.phase = .ready → q.opening = true → q.task = some d → q.codeGot 0 = some (st, hd) →
    (st ≠ 0 → exec (.taskStart p false) s = .next (s.abort p st 0))
    ∧ (st = 0 → headerOk d.code.toNat n = false → exec (.taskStart p false) s = .next (s.abort p 0x4906 0))
    ∧ (st = 0 → headerOk d.code.toNat n = true →
      (q.codeReads.length = 1 → exec (.taskStart p false) s =
        .next ((s.codeAsk p 1 (fieldN n 112 32) (16 * fieldN n 64 8)).codeAsk p 2 (fieldN n 144 32) (8 * fieldN n 72 8)))
      ∧ (q.codeReads.length ≠ 1 → ∀ bt ft, q.codeGot 1 = some bt → q.codeGot 2 = some ft →
        (∀ i b fs, s.openCode p d.shape n bt ft = .inr (i, b, fs) → exec (.taskStart p false) s = .next (s.modPart p fun q =>
          { q with opening := false, codeReads := [], next := b.entry, bucket := BitVec.ofNat 4 i,
                   codeSize := BitVec.ofNat 32 (fieldN n 80 32), fallbacks := fs }))
        ∧ (∀ code, s.openCode p d.shape n bt ft = .inl code → exec (.taskStart p false) s = .next (s.abort p code 0)))))
  ∧ (∀ (q : Part) (shape : W32) (l : List Bucket) (i : Nat) (b : Bucket),
      let fits := fun (b : Bucket) => shape.toNat ≤ b.maxShape.toNat ∧ (b.width = 0 ∨ b.width.toNat = q.width) ∧ b.minLive ≤ q.liveCount
      q.chooseBucket shape l = some (i, b) ↔ l[i]? = some b ∧ fits b ∧ ∀ j < i, ∀ x, l[j]? = some x → ¬fits x)
  ∧ (∀ (p : Fin 12) (s : State) (d : TaskDesc),
      let q := s.part p
      let ended := fun s : State => (s.modPart p fun q => { q with
        task := none, abort := none, seqState := 0, opening := false, codeReads := [], loads := [], storeBusy := false,
        cores := q.cores.map fun c => if c.fenced then c else { c with eng := c.eng.map fun k =>
          { k with a := Vector.replicate 16 0, as := Vector.replicate 16 0, ab := Vector.replicate 16 0, al := Vector.replicate 16 0,
                   lr := Vector.replicate 4 0 } },
        claims := q.claims.map fun c => if c.owner = 1 then { c with owner := 0, free := true } else c }).modTask d fun t =>
          { t with left := t.left &&& ~~~(BitVec.ofNat 12 (2 ^ p.val)) }
      q.task = some d → q.abort = none → q.seqState = 2 → q.finished = true → s.frozen p = false →
      (q.snap = s.counts (.part p) d.sbase d.scount → exec (.taskFinish p) s = .next (ended s))
      ∧ (∀ i, firstDiff q.snap (s.counts (.part p) d.sbase d.scount) = some i →
          exec (.taskFinish p) s = .next (ended (((((s.semFlag (.part p) 2).semErrAt (.part p) false (d.sbase + i) 0x2A10).logPart p 0x2A10
            (BitVec.ofNat 64 (d.sbase + i))).modTask d fun t => { t with unbal := t.unbal.orElse fun _ => some (d.sbase + i, 0, BitVec.ofNat 8 p.val) })))))
  ∧ (∀ (h : Fin 4) (s : State) (i : Nat) (t : RunTask),
      let b := s.hub h
      let due := fun t : RunTask => decide (t.left = 0) && !b.reports.any fun r => r.2.1 == t.desc.serial
      let s' := s.modHub h fun b => { b with tasks := b.tasks.eraseIdx i }
      b.tasks[i]? = some t → due t = true → (∀ j < i, ∀ x, b.tasks[j]? = some x → due x = false) →
      let full := 256 ≤ b.evq.length + b.evLate.length + b.records.length
      (full → exec (.endRecord h) s = .next (s'.modHub h fun b => { b with evHeld := b.evHeld ++ [t] }))
      ∧ (¬full → let t' := { t with notrun := t.notrun || decide (t.ran = 0) }
            (t.aborted = true ∨ t.gsnap.length ≠ t.desc.gcount ∨ t.gsnap = s'.counts (.hub t.desc.ghub) t.desc.gbase t.desc.gcount) →
            exec (.endRecord h) s = .next ((s'.modHub h fun b => { b with records := b.records ++ [t'] }).requestHere (.record h t.desc.serial)
              (.port h) .write t.desc.endAddr.toNat 64 (t'.record s.now))))
  ∧ (∀ (h : Fin 4) (s : State) (t : RunTask) (rest : List RunTask) (st : Code),
      (s.hub h).records = t :: rest → (∀ x ∈ rest, x.desc.serial ≠ t.desc.serial) →
      let s' := s.modHub h fun b => { b with records := rest }
      s.complete (.record h t.desc.serial) false st [] =
        if t.status ≠ 0 ∨ t.notrun = true ∨ t.unbal.isSome = true ∨ t.desc.evt = true then
          s'.sendEvent h 1 t.status t.fpart.toNat 0 t.desc.id else s')
  ∧ (∀ (t : RunTask) (now : W64), (t.record now).length = 64 ∧ ofBytes ((t.record now).take 8) = t.desc.id.toNat
      ∧ ofBytes (((t.record now).drop 8).take 8) = t.tstart.toNat ∧ ofBytes (((t.record now).drop 16).take 8) = now.toNat
      ∧ ofBytes (((t.record now).drop 24).take 2) = t.status.toNat)

/-- The rest of an abort (R262, R290, R414, R444, R445). The oldest report at the dispatching hub gives the task its first
STATUS and marks it aborted, and reaches every other partition of the task: one that has not started drops
it, one that runs it stops. 50 µs after its flush began a channel's writes to other devices are given up. Once the
channels have flushed the partition writes its dump where DUMP names an open window, or sets DUMP_ERR, and
becomes idle; what waited for that goes ahead. Commands completed: abortPropagate, channelFlushTimeout, abortDump. -/
def Obligations.AbortPath : Prop :=
  (∀ (h : Fin 4) (s : State) (p : Fin 12) (n : Nat) (code : Code) (rest : List (Fin 12 × Nat × Code)) (t : RunTask),
    (s.hub h).reports = (p, n, code) :: rest → (s.hub h).tasks.find? (fun t => t.desc.serial == n) = some t →
    exec (.abortPropagate h) s = .next ((t.desc.parts.filter fun q => decide (q ≠ p)).foldl (State.abortFan t.desc code)
      ((s.modHub h fun b => { b with reports := rest }).modTask t.desc fun t =>
        { t with aborted := true, status := if t.status = 0 then code else t.status, fpart := if t.status = 0 then BitVec.ofNat 8 p.val else t.fpart })))
  ∧ (∀ (d : TaskDesc) (code : Code) (s : State) (p : Fin 12),
      let q := s.part p
      (d ∈ q.delivery → s.abortFan d code p = (s.modPart p fun q => { q with delivery := q.delivery.filter fun e => decide (e ≠ d) }).modTask d fun t =>
          { t with left := t.left &&& ~~~(BitVec.ofNat 12 (2 ^ p.val)) })
      ∧ (d ∉ q.delivery → q.task = some d → q.abort = none → s.abortFan d code p =
          s.stopPart p { code := code, arg := 0, time := s.now, core := 0xFF, waits := q.waiters s.now, dump := none, dumpBad := false })
      ∧ (d ∉ q.delivery → q.task ≠ some d → s.abortFan d code p = s))
  ∧ (∀ (c : ChanId) (s : State) (t : W64),
      ((s.chan c).flush = none → exec (.channelFlushTimeout c) s = .next s)
      ∧ ((s.chan c).flush = some t → (s.now - t).toNat < 50000 → exec (.channelFlushTimeout c) s = .next s)
      ∧ ((s.chan c).flush = some t → 50000 ≤ (s.now - t).toNat →
          exec (.channelFlushTimeout c) s = .next ((List.finRange 16).foldl (State.abandonWrites c) s))
      ∧ (∀ n : Fin 16, s.links[n].chanWrites c = [] → (∀ w ∈ s.links[n].waits, w.chanWrite c = false) → s.abandonWrites c n = s)
      ∧ (∀ (n : Fin 16) (o : Outst), s.links[n].chanWrites c = [o] → (∀ w ∈ s.links[n].waits, w.chanWrite c = false) →
          s.abandonWrites c n =
          ((s.modLink n fun k => { k with outst := k.outst.filter fun x => decide (x.tag ≠ o.tag), late := k.late ++ [o.tag] }).complete o.who false 0 []).logAt
            (homeHub (chanPart c)) 0x9B01 (chanPart c).val (chanCore c) 0
            (s.part (chanPart c)).taskId 0))
  ∧ (∀ (p : Fin 12) (s : State) (d : TaskDesc) (a : AbortInfo),
      let q := s.part p
      let stopped := s.modPart p fun q =>
        { q with cores := q.cores.map fun c => { c with chans := c.chans.map Chan.stop }, trunk := q.trunk.map Chan.stop }
      let addr := q.dumpHi.toNat * 2 ^ 32 + fld q.dumpLo 15 17 * 2 ^ 15
      let bad := fun s : State => s.semFlag (.part p) 4
      q.task = some d → q.abort = some a →
      (a.dump = none → q.flushed = true →
        (bit q.dumpLo 0 = false → exec (.abortDump p) s = .next (stopped.abortDone p d a))
        ∧ (bit q.dumpLo 0 = true → q.inWindows addr (addr + 0x7FFF) = false → exec (.abortDump p) s = .next ((bad stopped).abortDone p d a))
        ∧ (bit q.dumpLo 0 = true → q.inWindows addr (addr + 0x7FFF) = true →
            exec (.abortDump p) s = .next ((List.range 64).foldl (fun s k => s.request (.dump p) (.seq p) .write (addr + 512 * k) 512
                (((stopped.dumpImage p d a).drop (512 * k)).take 512))
              (stopped.modPart p fun q => { q with abort := some { a with dump := some 64 } }))))
      ∧ (a.dump = none → q.flushed = false → exec (.abortDump p) s = .next s)
      ∧ (a.dump = some 0 → exec (.abortDump p) s = .next ((if a.dumpBad = true then bad s else s).abortDone p d a))
      ∧ (∀ n, a.dump = some (n + 1) → exec (.abortDump p) s = .next s))
  ∧ (∀ (p : Fin 12) (d : TaskDesc) (a : AbortInfo) (s : State),
      s.abortEnd p d a = ((s.logStamp (homeHub p) a.time a.code p.val a.core.toNat 1 d.id a.arg).modPart p fun q =>
        { q with task := none, abort := none, seqState := 0, opening := false, codeReads := [], loads := [], storeBusy := false,
                 cores := q.cores.map fun c => if c.fenced then c else { c with eng := c.eng.map fun k =>
                   { k with a := Vector.replicate 16 0, as := Vector.replicate 16 0, ab := Vector.replicate 16 0, al := Vector.replicate 16 0,
                            lr := Vector.replicate 4 0 } },
                 claims := q.claims.map fun c => if c.owner = 1 then { c with owner := 0, free := true } else c }).modTask d fun t =>
          { t with left := t.left &&& ~~~(BitVec.ofNat 12 (2 ^ p.val)) })

/-- BALE_FETCH, BALE_RELAY_POP and BALE_START (R265, R276, R277, R279, R286, R288, R291). A channel that runs and holds no bale
asks for the next one below its tail and takes it when it has come; a read that failed raises 0x5B01 with the status, a field that fails its check raises its
code, and otherwise the bale becomes the channel's head bale; a parity error of the channel in its fetch or start is an internal
state error (R446). Its relay pop waits until its queue holds a handle and takes the
oldest. Once the pop and the waits are done and fewer than four transfers are under way, it waits for the
descriptors its cache lacks, faults on a reference that fails, or starts, a one-dimensional COPY together with those that
merge with it (R278), for which it waits while they are on their way: its timer is armed, and its reads or
writes begin, IEEE_OVF as it is then (R64) kept with it. Commands completed: baleFetch, baleRelayPop, baleStart. -/
def Obligations.BaleStarts : Prop :=
  (∀ (c : ChanId) (s : State) (st : Code) (d : List Byte),
    let k := s.chan c
    let i := k.nextBale
    let b : Bale := BitVec.ofNat 512 (ofBytes d)
    let s' := s.modChan c fun k => { k with ring := k.ring.filter fun e => decide (e.2.1 ≠ k.nextBale) }
    s.chanRuns c = true → k.cur = none → k.nextBale ≠ k.tail →
    exec (.baleFetch c true) s = .next (s.chanParity c)
    ∧ (k.ringGot i = none → exec (.baleFetch c false) s =
      .next ((s.modChan c fun k => { k with ring := k.ring ++ [(k.serial, i, none)], serial := k.serial + 1 }).request (.ring c k.serial) (.chan c) .read
        ((k.ringHi.toNat * 2 ^ 32 + fld k.ringLo 6 26 * 64 + i.toNat % 2 ^ fld k.ringLo 0 5 * 64) % 2 ^ 56) 64 []))
    ∧ (k.ringGot i = some none → exec (.baleFetch c false) s = .next s)
    ∧ (k.ringGot i = some (some (st, d)) →
      (st ≠ 0 → exec (.baleFetch c false) s = .next (s'.chanFault c 0x5B01 (BitVec.ofNat 64 st.toNat)))
      ∧ (st = 0 → baleCheck (chanIsCore c) b ≠ 0 → exec (.baleFetch c false) s = .next (s'.chanFault c (baleCheck (chanIsCore c) b) 0))
      ∧ (st = 0 → baleCheck (chanIsCore c) b = 0 → exec (.baleFetch c false) s = .next (s'.modChan c fun k =>
          { k with cur := some { bale := b, popped := none, popOk := false, w0 := false, w1 := false, since := s'.now } }))))
  ∧ (∀ (c : ChanId) (s : State) (n : Nat) (t : W64), s.chanRuns c = true → (s.chan c).popWait = some (n, t) →
      (vget [] (s.part (chanPart c)).relay n = [] → exec (.baleRelayPop c) s = .next s)
      ∧ ∀ h r, vget [] (s.part (chanPart c)).relay n = h :: r → exec (.baleRelayPop c) s =
          .next ((s.modPart (chanPart c) fun q => { q with relay := vset q.relay n r }).modChan c fun k =>
            { k with cur := k.cur.map fun u => { u with popped := some h, popOk := true, since := s.now } }))
  ∧ (∀ (c : ChanId) (s : State) (u : Cur) (more : Nat),
      let k := s.chan c
      let b := u.resolved
      s.chanRuns c = true → k.cur = some u → k.popWait = none → k.waitWord = none → k.runs.length < 4 →
      exec (.baleStart c true more) s = .next (s.chanParity c)
      ∧ (s.missingDescs c b ≠ [] → exec (.baleStart c false more) s = .next (s.askDescs c (s.missingDescs c b)))
      ∧ (∀ code, s.missingDescs c b = [] → s.baleRefs c b = .inl code →
          exec (.baleStart c false more) s = .next ((s.modChan c fun k => { k with cur := none }).chanFault c code 0))
      ∧ (∀ sd dd xd, s.missingDescs c b = [] → s.baleRefs c b = .inr (sd, dd, xd) → baleOp b ≠ 1 ∨ descDims sd ≠ 0 ∨ descDims dd ≠ 0 →
          exec (.baleStart c false more) s =
            .next ((((baleNeeds b).map (baleHandle b)).foldl (fun s h => s.touchDesc c h) s).startRun c [(b, sd, dd, xd)]))
      ∧ (∀ sd dd xd s' m, s.missingDescs c b = [] → s.baleRefs c b = .inr (sd, dd, xd) → baleOp b = 1 → baleIdle b = false →
          descDims sd = 0 → descDims dd = 0 → descEmpty sd = false → descEmpty dd = false → s.mergeNext c more b sd dd = (m, s') →
          (baleMrg b = false → m = some [] ∧ s' = s)
          ∧ (m = none → exec (.baleStart c false more) s = .next s')
          ∧ ∀ l, m = some l →
            let all := (b, sd, dd, xd) :: l.map fun e => (e.1, e.2.1, e.2.2, (0 : DescRec))
            exec (.baleStart c false more) s = .next ((all.foldl (fun s e => ((baleNeeds e.1).map (baleHandle e.1)).foldl
              (fun s h => s.touchDesc c h) s) s').startRun c all)))
  ∧ (∀ (c : ChanId) (s : State) (b : Bale) (sd dd xd : DescRec),
      let k := s.chan c
      let begin' := fun (phase : RunPhase) (todo : List Piece) =>
        let s := s.modChan c fun e => { e with cur := none, serial := e.serial + 1, ring := e.ring.filter fun x => decide (1 ≤ (x.2.1 - k.nextBale).toNat), runs := e.runs ++
          [{ no := k.serial, idx := k.nextBale, bales := [b], descs := [(sd, dd, xd)], phase := phase, todo := numberPieces todo,
             reads := 0, got := [], lines := [], writes := 0, regs := [], ieee := s.chanIeee c }] }
        if bit b 16 then s.modPart (chanPart c) fun q => if q.rtEn then { q with tmrArm := q.tmrArm.set (baleTmr b) (some s.now) } else q else s
      let go := fun s : State => (s.advanceRun c k.serial 2).pump c
      (baleIdle b = false → baleOp b = 1 ∨ baleOp b = 4 ∨ baleOp b = 5 ∨ baleOp b = 6 →
        s.startRun c [(b, sd, dd, xd)] = go (begin' .source (balePieces c b sd (descWalk sd))))
      ∧ (baleIdle b = false → baleOp b = 2 ∨ baleOp b = 3 → s.startRun c [(b, sd, dd, xd)] = go (begin' .index (balePieces c b xd (descWalk xd))))
      ∧ (baleIdle b = true → baleOp b ≠ 7 → baleOp b ≠ 8 → s.startRun c [(b, sd, dd, xd)] = go (begin' .write []))
      ∧ (baleIdle b = true → baleOp b = 8 → s.startRun c [(b, sd, dd, xd)] = go ((begin' .write []).depotDrop (chanDie c) sd))
      ∧ (baleOp b = 7 → s.startRun c [(b, sd, dd, xd)] = go ((begin' .write []).issueWrite c k.serial .write
          { addr := rwAddr b, data := bytesOf (rwSize b) (fld b 64 64), arrive := none, last := true, tail := true })))

/-- BALE_COMPLETE and BALE_RELAY_PUSH (R249, R251, R258, R276, R286, R288). The oldest transfer of a channel, with no read
or write of it left, writes register space in order, takes its destination lines out of the depot where its
operation says so, and its bales complete in ring order. A bale that pushes onto a full relay queue is held with those
after it until an entry is free; otherwise its handle joins the queue. Completing sends the bale's enabled signals,
disarms its timer, and advances HEAD by one; it changes no other channel. A bale with a register write to another device
out waits for its answer. Commands completed: baleComplete, baleRelayPush. -/
def Obligations.BaleCompletes : Prop :=
  (∀ (c : ChanId) (s : State) (r : BaleRun) (rest : List BaleRun),
    let k := s.chan c
    k.runs = r :: rest → s.chanOpen c = true → k.pushHeld = [] → r.phase = .write → r.todo = [] → r.reads = 0 → r.writes = 0 →
    let s' := (s.modRun c r.no fun r => { r with regs := [] }).regWrites c r.no r.regs
    (s'.chanOpen c = true → ((s'.chan c).runs.head?.any fun r => decide (r.writes = 0)) = true → exec (.baleComplete c) s = .next ((s'.dropDest c r).releaseBales c r.bales))
    ∧ (s'.chanOpen c = false ∨ ((s'.chan c).runs.head?.any fun r => decide (r.writes = 0)) = false → exec (.baleComplete c) s = .next s'))
  ∧ (∀ (c : ChanId) (no : W32) (s : State), s.regWrites c no [] = s)
  ∧ (∀ (c : ChanId) (s : State) (b : Bale) (t : List Bale), s.chanOpen c = true →
      s.releaseBales c [] = s
      ∧ (balePush b = none → s.releaseBales c (b :: t) = (s.finishBale c b).releaseBales c t)
      ∧ (∀ n h, balePush b = some (n, h) →
          ((s.part (chanPart c)).relayFull n = true → s.releaseBales c (b :: t) = s.modChan c fun k => { k with pushHeld := [(n, h)] })
          ∧ ((s.part (chanPart c)).relayFull n = false → s.releaseBales c (b :: t) =
              ((s.modPart (chanPart c) fun q => { q with relay := vset q.relay n.toNat (vget [] q.relay n.toNat ++ [h]) }).finishBale c b).releaseBales c t)))
  ∧ (∀ (c : ChanId) (s : State) (b : Bale),
      let p := chanPart c
      let s' := (s.baleSignal c (baleSignal b 0)).baleSignal c (baleSignal b 1)
      (s'.part p).abort = none → (s'.part p).trcEn = false →
      s.finishBale c b = (((if bit b 17 then s'.modPart p fun q => if q.rtEn then { q with tmrArm := q.tmrArm.set (baleTmr b) none } else q else s').modChan c fun k =>
        { k with head := k.head + 1, runs := match k.runs with
            | [] => []
            | r :: t => if r.bales.length ≤ 1 then t else { r with bales := r.bales.drop 1, descs := r.descs.drop 1, idx := r.idx + 1 } :: t }).perf p 6 1))
  ∧ (∀ (c : ChanId) (s : State) (w : BitVec 64),
      (bit w 0 = false → s.baleSignal c w = s)
      ∧ (bit w 0 = true → (s.part (chanPart c)).abort = none → ∀ code s', s.signal (chanPart c) (if wordSpace w = 0 then .part (chanPart c) else .hub (hubNo (wordHub w)))
            (if wordOp w = 1 then .add else if wordOp w = 2 then .sub else .inc) (wordIdx w) (wordValue w) = (code, s') →
          s.baleSignal c w = if code = 0 then s' else s'.chanFault c code 0))
  ∧ (∀ (c : ChanId) (s : State) (n : BitVec 6) (h : BitVec 17) (x : List (BitVec 6 × BitVec 17)) (r : BaleRun) (rest : List BaleRun) (b : Bale) (t : List Bale),
      (s.chan c).pushHeld = (n, h) :: x → (s.chan c).runs = r :: rest → r.bales = b :: t → s.chanOpen c = true →
      ((s.part (chanPart c)).relayFull n = true → exec (.baleRelayPush c) s = .next s)
      ∧ ((s.part (chanPart c)).relayFull n = false → exec (.baleRelayPush c) s = .next ((((s.modChan c fun k => { k with pushHeld := [] }).modPart (chanPart c)
            fun q => { q with relay := vset q.relay n.toNat (vget [] q.relay n.toNat ++ [h]) }).finishBale c b).releaseBales c t)))

/-- READ_DATA_RETURN, DEPOT_LINE_FILL and DEADLINE_MISS (R279, R284, R288, R290, R291). The oldest read data frees its tag; data of a
bale that is still there joins what that bale has and the bale goes on, an error status raises 0x5B01 with it, and
data of a bale that is gone is dropped. A line whose data are back leaves the fills, enters the depot when it
came without error, and serves every read that waited for it. An armed timer at its limit is disarmed, counts a miss,
logs it and sends the event; before its limit nothing happens. Commands completed: readDataReturn, depotLineFill,
deadlineMiss. -/
def Obligations.BaleReturns : Prop :=
  (∀ (c : ChanId) (s : State) (x : Ret) (t : List Ret),
    let s' := (s.modChan c fun k => { k with ret := t }).modTags c (· - 1)
    let live := s'.chanOpen c = true ∧ ∃ r ∈ (s'.chan c).runs, r.no = x.bale
    (s.chan c).ret = x :: t →
    (live → x.status = 0 → exec (.readDataReturn c) s = .next (((s'.modRun c x.bale fun r =>
        { r with reads := r.reads - 1, got := r.got ++ [(x.piece, x.data)] }).advanceRun c x.bale 2).pump c))
    ∧ (live → x.status ≠ 0 → exec (.readDataReturn c) s = .next ((s'.modRun c x.bale fun r => { r with reads := r.reads - 1 }).chanFault c 0x5B01
        (BitVec.ofNat 64 x.status.toNat)))
    ∧ (¬live → exec (.readDataReturn c) s = .next (s'.pump c)))
  ∧ (∀ (d : Fin 24) (s : State) (before after : List Fill) (f : Fill) (st : Code) (data : List Byte),
      (s.depot d).fills = before ++ f :: after → f ∉ before → (∀ x ∈ before, x.done = none) → f.done = some (st, data) →
      let s' := s.modDepot d fun t => { t with fills := before ++ after }
      let line : DepotLine := { base := f.base, data := f.upd.foldl (fun l e => overlay l e.1 e.2) data }
      let serve := fun (s : State) => f.wait.foldl (fun s w =>
        s.returnRead w.1 w.2.1 w.2.2.1 st (if st = 0 then (data.drop w.2.2.2.1).take w.2.2.2.2 else [])) s
      (st = 0 → f.alloc = true → exec (.depotLineFill d) s = .next (serve (s'.modDepot d fun t => t.alloc line)))
      ∧ (st ≠ 0 ∨ f.alloc = false → exec (.depotLineFill d) s = .next (serve s')))
  ∧ (∀ (p : Fin 12) (n : Fin 16) (s : State) (t : W64),
      let q := s.part p
      let lim := q.tmrLim[n].toNat
      let due := lim * 1000 + q.heldSince t ≤ (s.now - t).toNat
      (q.tmrArm[n] = none → exec (.deadlineMiss p n) s = .next s)
      ∧ (q.tmrArm[n] = some t → q.rtEn = true → lim ≠ 0 → s.phase = .ready → s.timersRun p = true →
        (due → exec (.deadlineMiss p n) s = .next (((s.modPart p fun q => { q with tmrArm := q.tmrArm.set n none, rtMiss := satAdd q.rtMiss 1 }).logPart p
            0xAB01 (BitVec.ofNat 64 n.val)).sendEvent (homeHub p) 3 0xAB01 p.val 0 (BitVec.ofNat 64 n.val)))
        ∧ (¬due → exec (.deadlineMiss p n) s = .next s)))

/-- SCRATCHPAD_DMA_ACCESS, ECC_WRITE_BACK, STACK_PORT_ACCESS and PATROL_SCRUB (R157, R163, R166 to R168, R170, R171, R310, R317 to
R320). A port serves the head request of a class, one row or one 64 B unit at a time: a request whose bytes may not be
reached leaves with its status; otherwise a read takes the bytes there, a write stores its own and changes no other byte,
and the request leaves once nothing of it is left. A guarded read of an unfilled row and a guarded write of a filled
one fail, as does a read that meets an uncorrectable word or unit. A corrected word is stored again; the patrol
corrects or records what it finds. A first command or address parity error of a stack is retried, a second takes it down with
0x5D05 (R306). An element of a REDCOPY is never cut at a row or unit. No two addresses of a stack share a place in it (R308).
A parity error of the bank control raises 0xF701 (R446). Commands completed: scratchpadDmaAccess, eccWriteBack,
stackPortAccess, patrolScrub. -/
def Obligations.MemoryPorts : Prop :=
  (∀ (p : Fin 12) (l : Fin 32) (cls : TollClass) (m : MemReq) (t : List MemReq) (s : State),
    let off := m.addr % 0x2000000
    let st := s.spadStatus m.src p l off m.len (decide (m.kind ≠ .read))
    let n := m.span 512
    let put := fun (l' : List MemReq) (s : State) => s.modCore p l fun c => c.setDmaQueue cls l'
    s.phase = .ready → (s.core p l).dmaQueue cls = m :: t →
    (st ≠ 0 → exec (.scratchpadDmaAccess p l cls [] false) s = .next (((put t s).spadRefuse m.src p l st).answerReq m st))
    ∧ (st = 0 → ∀ e d s', s.dmaPiece m p l off n = (e, d, s') →
      (e ≠ 0 → exec (.scratchpadDmaAccess p l cls [] false) s = .next ((put t s').answerReq m e))
      ∧ (e = 0 → m.len ≤ n → exec (.scratchpadDmaAccess p l cls [] false) s = .next ((put t s').answerReq (m.after n d) 0))
      ∧ (e = 0 → n < m.len → exec (.scratchpadDmaAccess p l cls [] false) s = .next (put (m.after n d :: t) s'))))
  ∧ (∀ (p : Fin 12) (l : Fin 32) (cls : TollClass) (flips : List (Nat × Ecc)) (s : State), s.phase = .ready →
      exec (.scratchpadDmaAccess p l cls flips true) s = .next (s.internalCore p l 0xF701))
  ∧ (∀ (p : Fin 12) (l : Fin 32) (m : MemReq) (off n : Nat) (s : State),
      let c := s.core p l
      let guarded := c.checked (off / 512)
      let filled := c.rowValid (off / 512)
      (m.kind = .read → guarded = true → filled = false → s.dmaPiece m p l off n = (0x2701, [], s.logDest p l.val m.src 0x2701))
      ∧ (m.kind = .read → guarded = false ∨ filled = true → (∀ w ∈ wordRange off n, Sparse.get none c.bad w = none) →
          s.dmaPiece m p l off n = (0, c.bytes off n, if m.consume then s.modCore p l fun c => c.setRow (off / 512) false else s))
      ∧ (m.kind = .write → guarded = true → filled = true → s.dmaPiece m p l off n = (0x2702, [], s.logDest p l.val m.src 0x2702))
      ∧ (m.kind = .write → guarded = false ∨ filled = false → m.arrive = none → partWords off (m.data.take n).length = [] →
          s.dmaPiece m p l off n = (0, [], s.modCore p l fun c =>
            if m.last then (c.store off (m.data.take n)).setRow (off / 512) true else c.store off (m.data.take n))))
  ∧ (∀ (c : Core) (a i : Nat) (data : List Byte), a + data.length ≤ spadSize →
      Sparse.get 0 (c.store a data).spad i = if a ≤ i ∧ i < a + data.length then (data[i - a]?).getD 0 else Sparse.get 0 c.spad i)
  ∧ (∀ (p : Fin 12) (l : Fin 32) (w : Nat) (t : List Nat) (s : State),
      ((s.core p l).writeBack = [] → exec (.eccWriteBack p l) s = .next s)
      ∧ ((s.core p l).writeBack = w :: t → exec (.eccWriteBack p l) s = .next (s.modCore p l fun c =>
          { c with writeBack := t, bad := c.bad.filter fun e => e.1 != w })))
  ∧ (∀ (d : Fin 24) (cls : TollClass) (sel i loc ca : Nat) (m : MemReq) (s : State),
      let l := s.stackPorts[d].queue cls
      let srcs := (l.map fun m => m.src).eraseDups
      let n := m.span 64
      let st := s.hbmStatus m.src d loc
      s.phase = .ready → s.stackPorts[d].hold = false → s.stackPorts[d].training = false →
      srcs[sel % srcs.length]? = some m.src → l[i]? = some m → (∀ j < i, ∀ x, l[j]? = some x → x.src ≠ m.src) →
      ca < 2 → place m.addr = .hbm d loc → s.regions[regionNo d loc].swap = none →
      (st ≠ 0 → exec (.stackPortAccess d cls sel 0 ca) s = .next
        (((s.modStack d fun k => k.setQueue cls (l.eraseIdx i)).hbmRefuse m.src d st).answerReq m st))
      ∧ (st = 0 → s.stackPorts[d].badUnits.contains (loc / 64) = false →
        (m.kind = .read → exec (.stackPortAccess d cls sel 0 ca) s = .next
          (s.reqOn d cls (l.take i) (l.drop (i + 1)) (m.after n (s.hbmBytes d loc n))))
        ∧ (m.kind = .write → exec (.stackPortAccess d cls sel 0 ca) s = .next
          ((s.hbmStore d loc (m.data.take n)).reqOn d cls (l.take i) (l.drop (i + 1)) (m.after n []))))
      ∧ (st = 0 → s.stackPorts[d].badUnits.contains (loc / 64) = true → m.kind = .read → exec (.stackPortAccess d cls sel 0 ca) s = .next
          (((s.hbmBad m.src d loc).modStack d fun k => k.setQueue cls (l.eraseIdx i)).answerReq m 0x5D02)))
  ∧ (∀ (d : Fin 24) (cls : TollClass) (sel i bad ca : Nat) (m : MemReq) (s : State),
      let l := s.stackPorts[d].queue cls
      let srcs := (l.map fun m => m.src).eraseDups
      s.phase = .ready → s.stackPorts[d].hold = false → s.stackPorts[d].training = false → s.stackPorts[d].up = true →
      srcs[sel % srcs.length]? = some m.src → l[i]? = some m → (∀ j < i, ∀ x, l[j]? = some x → x.src ≠ m.src) → 2 ≤ ca →
      exec (.stackPortAccess d cls sel bad ca) s = .next
        (((s.modStack d fun k => { k with up := false }).logPart (stackPart d) 0x5D05 0).stackServe d cls l i m bad))
  ∧ (∀ (m : MemReq) (unit : Nat), (m.kind = .read ∨ m.kind = .write ∨ m.kind = .xoracc → 0 < unit → m.span unit = min m.len (unit - m.addr % unit))
      ∧ (∀ op, m.kind = .redcopy op 8 → m.span unit = min m.len (max 1 ((unit - m.addr % unit) / 4) * 4)))
  ∧ (∀ (d : Fin 24) (unit : BitVec 30) (ca : Nat) (s : State),
      let u := unit.toNat
      let k := s.stackPorts[d]
      s.phase = .ready → k.up = true → k.hold = false → k.training = false → k.hours ≠ 0 → k.badUnits.contains u = false →
      (2 ≤ ca → ∀ bad, exec (.patrolScrub d unit bad ca) s = .next ((s.modStack d fun k => { k with up := false }).logPart (stackPart d) 0x5D05 0))
      ∧ (ca < 2 → exec (.patrolScrub d unit 0 ca) s = .next s
      ∧ ((s.hbmFixed d).stackPorts[d].badUnits.contains u = false → exec (.patrolScrub d unit 1 ca) s = .next (s.hbmFixed d))
      ∧ exec (.patrolScrub d unit 2 ca) s = .next ((s.modStack d fun k => { k with badUnits := k.badUnits ++ [u] }).hbmBad (.port (homeHub (stackPart d))) d (u * 64))))
  ∧ (∀ a b : BitVec 36, stackDecode a = stackDecode b → a = b)

/-- TEMPERATURE_READ, REFRESH, REGION_KEY_SWAP, ZERO_FILL_DONE and STACK_TRAINING_DONE (R307, R313, R315, R316, R321). Throttling
begins at 95 °C and ends below 90 °C, holding begins at 105 °C and ends below 100 °C, each beginning logged. A rotation
that is due takes effect: new keys, and nothing that was written under the old ones is left, while every other region
keeps its bytes; a security command that waited for it goes on. A filled region reads as zeros again. A stack that has trained is up, one that has failed is
down and logged; the last one that a warm reset trains ends that reset (R473). Commands completed: temperatureRead, refresh, regionKeySwap, zeroFillDone, stackTrainingDone. -/
def Obligations.StackUpkeep : Prop :=
  (∀ (d : Fin 24) (t : Byte) (s : State), s.phase = .ready → s.fused (stackPart d) = false →
    let k := s.stackPorts[d]
    let p := stackPart d
    let s' := fun (throt hold : Bool) => s.modStack d fun k => { k with temp := t, throt := throt, hold := hold }
    let T := t.toNat
    (90 ≤ T → T < 95 → exec (.temperatureRead d t) s = .next (s' k.throt false))
    ∧ (T < 90 → exec (.temperatureRead d t) s = .next (s' false false))
    ∧ (95 ≤ T → T < 100 → exec (.temperatureRead d t) s = .next (if k.throt then s' true false else (s' true false).logPart p 0x5D10 0))
    ∧ (100 ≤ T → T < 105 → exec (.temperatureRead d t) s = .next (if k.throt then s' true k.hold else (s' true k.hold).logPart p 0x5D10 0))
    ∧ (105 ≤ T → k.throt = true → exec (.temperatureRead d t) s = .next (if k.hold then s' true true else
        ((s' true true).logPart p 0x5D11 0).sendEvent (homeHub p) 2 0x5D11 p.val 0 0))
    ∧ exec (.refresh d false) s = .next (s.modStack d fun k => { k with refreshes := k.refreshes + 1 })
    ∧ exec (.refresh d true) s = .next (s.modStack d fun k => { k with rfms := k.rfms + 1 }))
  ∧ (∀ (r : Fin 1536) (s : State),
      (s.regions[r].swap = none → exec (.regionKeySwap r) s = .next s.secResume)
      ∧ (s.secNow = none → s.secQ = [] → s.secResume = s)
      ∧ (∀ fill, s.regions[r].swap = some fill → ∃ t : State, exec (.regionKeySwap r) s = .next t.secResume
          ∧ t.regions = s.regions.set r { s.regions[r] with keyGen := s.regions[r].keyGen + 1, swap := none, zero := false, fill := s.regions[r].fill || fill }
          ∧ (∀ e, e ∈ t.hbm ↔ e ∈ s.hbm ∧ (e.1 < regionBase r ∨ regionBase r + 2 ^ 30 ≤ e.1))
          ∧ t = { s with hbm := t.hbm, regions := t.regions })
      ∧ (s.regions[r].fill = false → exec (.zeroFillDone r) s = .next s)
      ∧ (s.regions[r].fill = true → ∃ t : State, exec (.zeroFillDone r) s = .next t
          ∧ t.regions = s.regions.set r { s.regions[r] with fill := false, zero := true }
          ∧ (∀ e : Fin 24, e ≠ stackNo (r.val / 64) → t.stackPorts[e] = s.stackPorts[e])
          ∧ t = { s with stackPorts := t.stackPorts, regions := t.regions }))
  ∧ (∀ (d : Fin 24) (s : State), s.stackPorts[d].training = true → s.phase = .ready → s.warm = true →
      let s' := s.modStack d fun k => { k with training := false, up := true }
      ((∀ e, e ≠ d → s.stackPorts[e].training = false) → exec (.stackTrainingDone d true) s = .next s'.warmEnd)
      ∧ (∀ e, e ≠ d → s.stackPorts[e].training = true → exec (.stackTrainingDone d true) s = .next s'))
  ∧ (∀ (d : Fin 24) (ok : Bool) (s : State), s.stackPorts[d].training = true → s.phase = .ready → s.warm = false →
      exec (.stackTrainingDone d ok) s = .next (if ok then s.modStack d fun k => { k with training := false, up := true }
        else (s.modStack d fun k => { k with training := false, up := false }).logPart (stackPart d) 0x5D05 0))

/-- STREAM_HEADER, SEGMENT, PERSONALITY_RELEASE and the timeouts of a load (R326, R328 to R334, R347 to R354, R364). A whole header is
checked in the order of R329: with the first code it fails the stream is rejected, and otherwise its targets become unavailable and
isolated. A whole segment is authenticated and its commands run; the first commands that change anything pass the
commit point, where every target is wiped. A rejection before that point restores every target, one after it wipes and
holds them. Requests left 50 µs after isolation are given up, 100 ms without the next segment and 20 µs without lock reject. At
the release the personality's registers and claims take effect, the flip-flops of the fabric take their initial values
(R340), the targets are available again and ramp in, and the completion event is sent. A tenant change of a target that is
under way ends before the header is checked (the model's reading, log entry 111). Commands completed: streamHeader, segment,
personalityRelease, streamTimeout, fabricPllLockTimeout, borderDrainTimeout. -/
def Obligations.PersonalityStreams : Prop :=
  (∀ (h : Fin 4) (s : State),
    let l := (s.hub h).loader
    let hdr := l.buf.take 512
    let akey := (hdr.drop 0xB0).take 96
    let c1 := streamForm hdr = false
    let c2 := hfield hdr 0xA 1 ≠ h.val ∨ ∃ p ∈ targets hdr, homeHub p ≠ h ∨ s.fused p = true
    let c3 := hfield hdr 6 2 ≠ 0x5A12
    let c4 := hfield hdr 8 2 ≠ s.build.toNat
    let c5 := (hdr.drop 0x20).take 48 ≠ bytesOf 48 (Config.sha384 (pointBytes s.kaPub)).toNat
    let c6 := s.life = 4
    let c7 := s.life ≠ 0 ∧ Config.sha384 akey ≠ s.fuseBits.authH
    let c8 := Config.verify (BitVec.ofNat 768 (ofBytes akey)) (hdr.take 0x1A0) (BitVec.ofNat 768 (hfield hdr 0x1A0 96)) = false
    let c9 := ∃ p ∈ targets hdr, (s.part p).task.isSome = true
    l.started = true → l.state = .idle → 512 ≤ l.buf.length → (∀ p ∈ targets hdr, s.secTakes p = false) →
    (∀ code, ((c1 ∧ code = 0x7E01) ∨ (¬c1 ∧ c2 ∧ code = 0x7E12) ∨ (¬c1 ∧ ¬c2 ∧ c3 ∧ code = 0x7E02) ∨ (¬c1 ∧ ¬c2 ∧ ¬c3 ∧ c4 ∧ code = 0x7E03)
        ∨ (¬c1 ∧ ¬c2 ∧ ¬c3 ∧ ¬c4 ∧ c5 ∧ code = 0x7E04) ∨ (¬c1 ∧ ¬c2 ∧ ¬c3 ∧ ¬c4 ∧ ¬c5 ∧ c6 ∧ code = 0x7E13)
        ∨ (¬c1 ∧ ¬c2 ∧ ¬c3 ∧ ¬c4 ∧ ¬c5 ∧ ¬c6 ∧ c7 ∧ code = 0x7E05) ∨ (¬c1 ∧ ¬c2 ∧ ¬c3 ∧ ¬c4 ∧ ¬c5 ∧ ¬c6 ∧ ¬c7 ∧ c8 ∧ code = 0x7E06)
        ∨ (¬c1 ∧ ¬c2 ∧ ¬c3 ∧ ¬c4 ∧ ¬c5 ∧ ¬c6 ∧ ¬c7 ∧ ¬c8 ∧ c9 ∧ code = 0x7E11)) →
      exec (.streamHeader h) s = .next (((s.logHub h code (BitVec.ofNat 64 l.done)).modLoader h fun l =>
        { Loader.idle with prog := l.prog, lastErr := code }).sendEvent h 5 code 0xFF 1 0))
    ∧ (¬c1 → ¬c2 → ¬c3 → ¬c4 → ¬c5 → ¬c6 → ¬c7 → ¬c8 → ¬c9 → ∃ t : State, exec (.streamHeader h) s = .next t
        ∧ (t.hub h).loader.state = .header ∧ (t.hub h).loader.hdr = hdr ∧ (t.hub h).loader.buf = l.buf.drop 512
        ∧ (∀ p, t.part p = if p ∈ targets hdr then { s.part p with unavail := true, isolated := true, pers := .loading } else s.part p)
        ∧ (∀ g, g ≠ h → t.hub g = s.hub g)))
  ∧ (∀ (h : Fin 4) (s : State) (code : Code), code ≠ 0 →
      let l := (s.hub h).loader
      let s' := s.logReject h code
      (l.state = .header →
        let b := (targets l.hdr).foldl (fun s p => s.modPart p fun q =>
          { q with pers := vget PersState.none l.prev p.val, unavail := decide (vget PersState.none l.prev p.val = .held),
                   isolated := decide (vget PersState.none l.prev p.val = .held) }) s'
        s.reject h code = (if tgtHub l.hdr then b.modHub h fun b => { b with hubf := l.prevHub } else b).loadEnd h code)
      ∧ (l.state = .committed ∨ l.state = .releasing →
        let b := (targets l.hdr).foldl (fun s p =>
          ((s.wipePart .load p).modPart p fun q => { q.bare with pers := .held, unavail := true, isolated := true }).bareRegs p) s'
        s.reject h code = (if tgtHub l.hdr then ((b.idleLinks h).bareHub h).modHub h fun b => { b with hubf := .held } else b).loadEnd h code))
  ∧ (∀ (h : Fin 4) (s : State),
      let l := (s.hub h).loader
      let n := segLen l.hdr l.done
      let cur := l.state = .header ∨ l.state = .committed
      (cur → l.ended = false → 24 + n ≤ l.buf.length → l.state = .committed ∨ l.drained = true ∨ s.drained h = true →
        ∀ code s', s.takeSegment h = (code, s') → exec (.segment h) s = .next (if code = 0 then s' else s'.reject h code))
      ∧ (hfield (l.buf.take 8) 0 4 ≠ l.done → s.takeSegment h = (0x7E08, s))
      ∧ (hfield (l.buf.take 8) 0 4 = l.done → Config.tag (segKey l.seed l.done) (List.replicate 12 0) (l.buf.take 8) ((l.buf.drop 8).take n)
          ≠ BitVec.ofNat 128 (hfield l.buf (8 + n) 16) → s.takeSegment h = (0x7E07, s))
      ∧ (l.whole ≠ 0 ∨ (s.now - l.since).toNat < 100000000 → exec (.streamTimeout h) s = .next s)
      ∧ (cur → l.ended = false → l.whole = 0 → 100000000 ≤ (s.now - l.since).toNat → exec (.streamTimeout h) s = .next (s.reject h 0x7E0E))
      ∧ (∀ t, l.pllFrom = some t → l.ended = true → (∃ d ∈ streamDies h l.hdr, s.pllRuns d = true) → 20000 ≤ (s.now - t).toNat →
          exec (.fabricPllLockTimeout h) s = .next (s.reject h 0x7E15))
      ∧ (∀ t, l.pllFrom = some t → (s.now - t).toNat < 20000 → exec (.fabricPllLockTimeout h) s = .next s)
      ∧ (let s' := ((targets l.hdr).foldl (fun s p => s.abandon p) s).modLoader h fun l => { l with drained := true };
          s'.secNow = none → l.state = .header → l.drained = false → 50000 ≤ (s.now - l.isoAt).toNat → exec (.borderDrainTimeout h) s = .next s')
      ∧ (s.secNow = none → (s.now - l.isoAt).toNat < 50000 → exec (.borderDrainTimeout h) s = .next s)
      ∧ (∀ r, s.secNow = some r → r.cmd.hub = h → r.phase = .drain → l.state ≠ .header → 50000 ≤ (s.now - r.since).toNat →
          exec (.borderDrainTimeout h) s = .next ((s.secParts h).foldl (fun s p => s.abandon p) s))
      ∧ (∀ p, s.abandon p = (s.partReqs p).foldl (fun s r => (s.complete r.1 r.2 0x7E10 []).logPart p 0x9B01 0) (s.dropReqs p)))
  ∧ (∀ (h : Fin 4) (n : Nat) (s : State),
      (s.command h = .wait → s.commands h (n + 1) = (0, s.reachCommit h))
      ∧ (∀ code, s.command h = .bad code → s.commands h (n + 1) = (code, s.reachCommit h))
      ∧ (∀ k s', s.command h = .ok k s' → s.commands h (n + 1) = (s'.modLoader h fun l => { l with plain := l.plain.drop k }).commands h n)
      ∧ (∀ s', s.command h = .finish s' → s.commands h (n + 1) = (0, s'))
      ∧ ((s.hub h).loader.state ≠ .header → s.commit h = s)
      ∧ ((s.hub h).loader.state = .header →
          let b := (targets (s.hub h).loader.hdr).foldl (fun s p =>
            (s.wipePart .load p).modPart p fun q => { q with fabric := [], flops := [] }) (s.modLoader h fun l => { l with state := .committed })
          s.commit h = if tgtHub (s.hub h).loader.hdr then (b.idleLinks h).modHub h fun b => { b with fabric := [], flops := [] } else b))
  ∧ (∀ (h : Fin 4) (s : State),
      let l := (s.hub h).loader
      let content : BitVec 384 := BitVec.ofNat 384 (hfield l.hdr 0x110 48)
      let akey := Config.sha384 ((l.hdr.drop 0xB0).take 96)
      let b := (targets l.hdr).foldl (fun s p => s.modPart p fun q =>
          { q with content := content, akey := akey, flops := initFlops 250 q.fabric, isolated := false, unavail := false, rampIn := true,
                   pers := .loaded }) ((s.releaseRegs h l).releaseClaims h l)
      let s' := if tgtHub l.hdr then b.modHub h fun e =>
          { e with content := content, akey := akey, flops := initFlops 112 e.fabric, hubf := .loaded, lastSlot := some (b.now.toNat / 250000) } else b
      l.ended = true → exec (.personalityRelease h) s = .next ((s'.recert.logHub h 0x7E20 0).loadEnd h 0))

/-- LINK_TRAIN_START, LINK_TRAIN_DONE, LINK_TRAIN_TIMEOUT, LINK_AUTH_TIMEOUT and LINK_RETRAIN (R375, R376, R399). In a stagger slot
of its own a hub starts one lane group, the first of its claimed links that may start: a link in IDLE enters TRAIN. A trained
link enters AUTH and sends its HELLO when the own certificate is valid. 100 ms of training, or of authentication after
the HELLO, take the link DOWN; 1 s later it trains again. A FINISH follows the HELLO where the partner's HELLO came first.
The fourth entry to DOWN within 60 s disables the link. The entry logs the cause. What waited for the link at its source takes
the other link of its route, or ends. Commands completed: linkTrainStart, linkTrainDone, linkTrainTimeout, linkAuthTimeout,
linkRetrain. -/
def Obligations.LinkTraining : Prop :=
  (∀ (h : Fin 4) (n : Fin 16) (s : State),
    let k := s.links[n]
    let slot := s.now.toNat / 250000
    s.phase = .ready → slot % 4 = h.val → (s.hub h).lastSlot ≠ some slot → linkHub n = h →
    k.claimed = true → k.disable = false → (k.state = .idle ∨ (k.state = .train ∧ k.groups = 1)) →
    (∀ m, m < n → linkHub m = h → s.links[m].wantsGroup = false) →
    ∃ t : State, exec (.linkTrainStart h) s = .next t
      ∧ t.links[n] = (if k.state = .idle then { k.toIdle with state := .train, since := s.now, downs := k.downs, groups := 1 }
          else { k with groups := 2 })
      ∧ (∀ m, m ≠ n → t.links[m] = s.links[m])
      ∧ t.hub h = { s.hub h with lastSlot := some slot } ∧ (∀ g, g ≠ h → t.hub g = s.hub g)
      ∧ t = { s with links := t.links, hubs := t.hubs })
  ∧ (∀ (h : Fin 4) (s : State), s.now.toNat / 250000 % 4 ≠ h.val ∨ (s.hub h).lastSlot = some (s.now.toNat / 250000) →
      exec (.linkTrainStart h) s = .next s)
  ∧ (∀ (n : Fin 16) (rev : Bool) (s : State), s.links[n].state = .train → s.links[n].groups = 2 →
      exec (.linkTrainDone n rev) s = .next ((s.modLink n fun k => { k with state := .auth, rev := rev }).sendHello n))
  ∧ (∀ (n : Fin 16) (s : State), s.links[n].state = .auth →
      ((s.hub (linkHub n)).certv = false → s.sendHello n = s)
      ∧ ((s.hub (linkHub n)).certv = true → s.links[n].helloTx = [] →
          (s.sendHello n).links[n].since = s.now
          ∧ ∃ (e : Nat) (o : OutPacket) (fin : List OutPacket), (s.sendHello n).links[n].helloTx = pointBytes (Config.publicKey e)
                ++ bytesOf 32 (Config.draw (s.drbg + 2)).toNat ++ s.certBytes ++ pointBytes (Config.authorityKey (s.hub (linkHub n)).dahHash)
              ∧ (s.sendHello n).links[n].eph = e ∧ (s.sendHello n).links[n].egress = s.links[n].egress ++ o :: fin
              ∧ (s.links[n].helloRx = [] → fin = [])
              ∧ (s.links[n].helloRx ≠ [] → ∃ o', fin = [o'] ∧ (Header.ofBits o'.hdr).ptype = 7
                  ∧ o'.data = pointBytes (Config.sign s.idKey (hashBytes (transcript (s.sendHello n).links[n].helloTx s.links[n].helloRx))))
              ∧ o.data = (s.sendHello n).links[n].helloTx ∧ (Header.ofBits o.hdr).ptype = 6))
  ∧ (∀ (n : Fin 16) (s : State),
      let k := s.links[n]
      (k.state = .train → 100000000 ≤ (s.now - k.since).toNat → exec (.linkTrainTimeout n) s = .next (s.linkDown n .training))
      ∧ ((s.now - k.since).toNat < 100000000 → exec (.linkTrainTimeout n) s = .next s ∧ exec (.linkAuthTimeout n) s = .next s)
      ∧ (k.state = .auth → k.helloTx ≠ [] → 100000000 ≤ (s.now - k.since).toNat → exec (.linkAuthTimeout n) s = .next (s.linkDown n .auth))
      ∧ (k.state = .down → 1000000000 ≤ (s.now - k.since).toNat → ∃ t : State, exec (.linkRetrain n) s = .next t
          ∧ t.links[n] = { k.toIdle with state := .train, since := s.now, downs := k.downs, groups := 2 }
          ∧ (∀ m, m ≠ n → t.links[m] = s.links[m]) ∧ t = { s with links := t.links })
      ∧ (k.state ≠ .down ∨ (s.now - k.since).toNat < 1000000000 → exec (.linkRetrain n) s = .next s))
  ∧ (∀ (n : Fin 16) (cause : DownCause) (s : State),
      let k := s.links[n]
      let downs := s.now :: k.downs.filter fun t => decide ((s.now - t).toNat < 60000000000)
      let four := 4 ≤ downs.length
      s.linkDown n cause = (s.endSession n fun k => { k.toIdle with
          state := if four then .disabled else .down, fDown := true, downs := downs, since := s.now, groups := k.groups }).logHub (linkHub n)
        (if four then 0x6C06 else 0x6C01) (Config.downCause cause))
  ∧ (∀ (n : Fin 16) (f : Link → Link) (s : State), ∃ u : State,
      s.endSession n f = (s.links[n].waits.map (Waiting.unlinked n)).foldl (fun s w => (s.launch w).getD (s.stranded w)) u
      ∧ u.links[n] = { f s.links[n] with waits := [] }
      ∧ (∀ m, m ≠ n → u.links[m] = { s.links[m] with waits := s.links[m].waits.map (Waiting.unlinked n) })
      ∧ u = { s with links := u.links })

/-- FLIT_TRANSMIT, FLIT_RECEIVE, ACK_INTERVAL and HEARTBEAT_SEND (R378, R381 to R384, R391, R399, R400). A flit slot resends what
a NAK asked for, unchanged and in order; else it sends new packets of the sync, control, or in turn the ordered and unordered
VC, unless 512 flits are unacknowledged; else an idle flit. A flit with an uncorrectable codeword or a bad CRC, or out of
sequence, is discarded with all it carries and one NAK for each episode. Packets leave sealed under the key and the counter.
What waits for the link enters its egress queue as space comes, in order. A data flit is acknowledged within 100 ns, and
no later than the 64th. Commands completed: flitTransmit, flitReceive, ackInterval, heartbeatSend. -/
def Obligations.LinkFlits : Prop :=
  (∀ (n : Fin 16) (s : State), s.links[n].state = .auth ∨ s.links[n].state = .active ∨ s.links[n].state = .quar →
      exec (.flitTransmit n) s = .next (s.transmit n)
      ∧ (let s' := (s.modLink n (Link.slot s.now)).autoRekey n; s.transmit n = s'.enterLink n s'.links[n].waits.length))
  ∧ (∀ (n : Fin 16) (f : Nat) (s : State),
      ((∀ w ∈ s.links[n].waits, s.links[n].space w.cls = false) → s.enterLink n f = s)
      ∧ (∀ pre w post, s.links[n].waits = pre ++ w :: post → (∀ x ∈ pre, s.links[n].space x.cls = false) → s.links[n].space w.cls = true → w ∉ pre →
          s.enterLink n (f + 1) = ((s.modLink n fun k => { k with waits := pre ++ post }).accept n w).enterLink n f))
  ∧ (∀ (now : W64) (k : Link),
      (k.state = .quar → (Link.slot now k).txDone = k.txDone ++ [flitOf ((k.rxSeq - 1).toNat * 2 ^ 14 + flag k.nakOwed 26) []]
          ∧ (Link.slot now k).owed = k.owed)
      ∧ (k.state ≠ .quar → ∀ f t, k.resend = f :: t → (Link.slot now k).txDone = k.txDone ++ [f.2] ∧ (Link.slot now k).resend = t
          ∧ (Link.slot now k).replay = k.replay)
      ∧ (k.state ≠ .quar → k.resend = [] → (512 ≤ k.replay.length ∨ k.pickVc = none) →
          (Link.slot now k).txDone = k.txDone ++ [flitOf k.commonHdr []] ∧ (Link.slot now k).replay = k.replay)
      ∧ (k.state ≠ .quar → k.resend = [] → k.replay.length < 512 → ∀ vc, k.pickVc = some vc →
          ∃ flit, (Link.slot now k).txSeq = k.txSeq + 1 ∧ (Link.slot now k).txDone = k.txDone ++ [flit]
            ∧ (Link.slot now k).replay = k.replay ++ [(k.txSeq, flit)]
            ∧ flit = flitOf (1 + k.txSeq.toNat * 4 + k.commonHdr + vc * 2 ^ 41 + (fillBody vc 130 [] none k).2.1.getD 63 * 2 ^ 43)
                (fillBody vc 130 [] none k).1)
      ∧ (k.hasData 3 = true → k.pickVc = some 3)
      ∧ (k.hasData 3 = false → k.hasData 2 = true → k.pickVc = some 2)
      ∧ (k.hasData 3 = false → k.hasData 2 = false → k.rest 0 = [] → k.rest 1 = [] → k.hasData 0 = true → k.hasData 1 = true →
          k.pickVc = some (if k.altVc then 1 else 0)))
  ∧ (∀ (hdr : Nat) (body : List Byte), body.length ≤ 244 → (flitOf hdr body).length = 256
      ∧ hfield (flitOf hdr body) 252 4 = flitCrc ((flitOf hdr body).take 252))
  ∧ (∀ (o : OutPacket) (k : Link),
      let pt := (Header.ofBits o.hdr).ptype
      let iv := packIv k.txCtr
      let ct := gcm k.txKey iv o.data
      (pt ≠ 6 → pt ≠ 7 → (k.begin o).1 = bytesOf 24 o.hdr.toNat ++ ct ++ bytesOf 16 (Config.tag k.txKey iv (bytesOf 24 o.hdr.toNat) ct).toNat)
      ∧ (pt = 8 → (k.begin o).2.txKey = nextKey k.txKey k.txCtr ∧ (k.begin o).2.txCtr = 0)
      ∧ (pt ≠ 6 → pt ≠ 7 → pt ≠ 8 → (k.begin o).2.txKey = k.txKey ∧ (k.begin o).2.txCtr = k.txCtr + 1))
  ∧ (∀ (n : Fin 16) (fec : Bool) (flit : List Byte) (s : State),
      let k := s.links[n]
      let good := fec = true ∧ flitCrc (flit.take 252) = hfield flit 252 4
      (k.state = .auth ∨ k.state = .active) → flit.length = 256 →
      (¬ good → exec (.flitReceive n fec flit) s = .next (s.modLink n fun k => { k with
          lastRx := s.now, badCnt := satAdd k.badCnt 1, nakOwed := k.nakOwed || !k.nakOpen, nakOpen := true }))
      ∧ (good → exec (.flitReceive n fec flit) s = .next ((s.modLink n fun k => { k with lastRx := s.now }).flitIn n flit)))
  ∧ (∀ (n : Fin 16) (flit : List Byte) (s : State),
      let h := hfield flit 0 8
      let bad := 2 ≤ fieldN h 0 2 ∨ fieldN h 43 6 = 61 ∨ fieldN h 43 6 = 62 ∨ fieldN h 49 15 ≠ 0
      let late := fieldN h 0 2 = 1 ∧ fieldN h 2 12 ≠ s.links[n].rxSeq.toNat
      let u := s.modLink n fun k =>
        let k := (k.acked (BitVec.ofNat 12 (fieldN h 14 12))).credited (fieldN h 27 2) (fieldN h 29 12)
        if fieldN h 26 1 = 1 then k.naked (BitVec.ofNat 12 (fieldN h 14 12)) else k
      let v := (u.modLink n (Link.inOrder u.now)).bodyIn n (fieldN h 41 2) (words4 ((flit.drop 8).take 244))
      (bad → s.flitIn n flit = s.linkQuar n 0x6C05)
      ∧ (¬ bad → late → s.flitIn n flit = s.modLink n Link.badFlit)
      ∧ (¬ bad → ¬ late → fieldN h 26 1 = 1 → 8 ≤ u.links[n].nakRun → s.flitIn n flit = (u.logHub (linkHub n) 0x6C02 0).linkDown n .retry)
      ∧ (¬ bad → ¬ late → ¬ (fieldN h 26 1 = 1 ∧ 8 ≤ u.links[n].nakRun) →
          (fieldN h 0 2 = 0 → s.flitIn n flit = u)
          ∧ (fieldN h 0 2 = 1 → s.flitIn n flit = if 64 ≤ v.links[n].ackOwed then v.transmit n else v)))
  ∧ (∀ (now : W64) (k : Link), (Link.inOrder now k).rxSeq = k.rxSeq + 1 ∧ (Link.inOrder now k).ackOwed = k.ackOwed + 1
      ∧ (Link.inOrder now k).nakOpen = false ∧ (k.ackOwed = 0 → (Link.inOrder now k).ackSince = now)
      ∧ (k.ackOwed ≠ 0 → (Link.inOrder now k).ackSince = k.ackSince))
  ∧ (∀ (n : Fin 16) (s : State), s.links[n].state = .active ∨ s.links[n].state = .auth → 0 < s.links[n].ackOwed →
      (100 ≤ (s.now - s.links[n].ackSince).toNat → exec (.ackInterval n) s = .next (s.transmit n))
      ∧ ((s.now - s.links[n].ackSince).toNat < 100 → exec (.ackInterval n) s = .next s))
  ∧ (∀ (n : Fin 16) (s : State), s.links[n].state = .active → 10000 ≤ (s.now - s.links[n].lastBeat).toNat →
      ∃ (t : State) (o : OutPacket), exec (.heartbeatSend n) s = .next t ∧ (Header.ofBits o.hdr).ptype = 9 ∧ o.vc = 3 ∧ o.data = []
        ∧ t.links[n] = { s.links[n] with lastBeat := s.now, egress := s.links[n].egress ++ [o] }
        ∧ (∀ m, m ≠ n → t.links[m] = s.links[m]) ∧ t = { s with links := t.links })

/-- FLIT_SILENCE, CREDIT_STARVATION, REMOTE_REQUEST_TIMEOUT, HUB_ALIAS_FORWARD and EVENT_QUEUE_ROOM (R258, R386, R398, R399, R408,
R418). 1 ms without a flit, or 10 ms without a credit while traffic waits, take the link DOWN. A request without its response
within LINK_TMO completes with 0x9C01 and frees its tag. A hub performs the oldest request it holds that waits for no
earlier one. As a port takes events, each pending bit sends one merged event, and held end records go ahead. LINK_TMO runs
from when the request was made, also while it waits at its source (log entry 110). Commands completed: flitSilence,
creditStarvation, remoteRequestTimeout, hubAliasForward, eventQueueRoom. -/
def Obligations.LinkTimersAndEvents : Prop :=
  (∀ (n : Fin 16) (s : State), s.links[n].state = .active →
      (1000000 ≤ (s.now - s.links[n].lastRx).toNat → exec (.flitSilence n) s = .next (s.linkDown n .silence))
      ∧ ((s.now - s.links[n].lastRx).toNat < 1000000 → exec (.flitSilence n) s = .next s)
      ∧ (s.links[n].credWait = none → exec (.creditStarvation n) s = .next s)
      ∧ (∀ t, s.links[n].credWait = some t →
          (10000000 ≤ (s.now - t).toNat → exec (.creditStarvation n) s = .next ((s.logHub (linkHub n) 0x6C07 0).linkDown n .credits))
          ∧ ((s.now - t).toNat < 10000000 → exec (.creditStarvation n) s = .next s)))
  ∧ (∀ (n : Fin 16) (tag : BitVec 16) (s : State),
      let due := max (s.hub (linkHub n)).tmo.toNat 1 * 1000
      (∀ o, s.links[n].outst.find? (fun o => decide (o.tag = tag)) = some o →
        (due ≤ (s.now - o.since).toNat → ∃ u : State,
            u.links[n] = { s.links[n] with outst := s.links[n].outst.filter fun x => decide (x.tag ≠ tag), late := s.links[n].late ++ [tag] }
            ∧ (∀ m, m ≠ n → u.links[m] = s.links[m]) ∧ u = { s with links := u.links }
            ∧ exec (.remoteRequestTimeout n (some tag)) s = .next ((u.logHub (linkHub n) 0x9C01 0).complete o.who o.read 0x9C01 []))
        ∧ ((s.now - o.since).toNat < due → exec (.remoteRequestTimeout n (some tag)) s = .next s))
      ∧ (∀ pre w post who read len, s.links[n].waits = pre ++ w :: post → (∀ x ∈ pre, x.req = none) → w.req = some (who, read, len) → w ∉ pre →
          (due ≤ (s.now - w.since).toNat → exec (.remoteRequestTimeout n none) s =
            .next (((s.modLink n fun k => { k with waits := pre ++ post }).logHub (linkHub n) 0x9C01 0).complete who read 0x9C01 []))
          ∧ ((s.now - w.since).toNat < due → exec (.remoteRequestTimeout n none) s = .next s))
      ∧ ((∀ o ∈ s.links[n].outst, o.tag ≠ tag) → exec (.remoteRequestTimeout n (some tag)) s = .next s))
  ∧ (∀ (h : Fin 4) (s : State),
      (∀ r pre post, (s.hub h).aliases = pre ++ r :: post → r.waits = [] → (∀ x ∈ pre, x.waits ≠ []) →
        exec (.hubAliasForward h) s = .next ((s.modHub h fun b => { b with aliases := pre ++ post }).hubRun r))
      ∧ ((∀ x ∈ (s.hub h).aliases, x.waits ≠ []) → exec (.hubAliasForward h) s = .next s))
  ∧ (∀ (h : Fin 4) (room : Nat) (s : State), (s.hub h).portUp = true →
      let out := (s.hub h).evq.take room
      let s1 := out.foldl (fun s e => (s.say h (.event e)).leaveBusy h e) s
      let s2 := s1.modHub h fun b =>
        let q := b.evq.drop room
        { b with evq := q ++ b.evLate.take (256 - q.length), evLate := b.evLate.drop (256 - q.length) }
      let s3 := (List.range 9).foldl (State.sendPend h) s2
      let s4 := State.freeHeld h (s3.hub h).evHeld s3
      (s1.hub h).outbox = (s.hub h).outbox ++ out.map HostMsg.event
      ∧ exec (.eventQueueRoom h room) s = .next
          (s4.modHub h fun b => { b with alert := if b.evq.isEmpty then false else b.alert }).secResume.capTry)
  ∧ (∀ (h : Fin 4) (i : Nat) (s : State),
      let b := s.hub h
      ((b.evPend.getLsbD i = false ∨ 256 ≤ b.evq.length) → State.sendPend h s i = s)
      ∧ (b.evPend.getLsbD i = true → b.evq.length < 256 → ∃ e : Event, e.coal = true ∧ e.kind = BitVec.ofNat 16 (2 + i / 3)
          ∧ e.seq = b.evSeq ∧ ((State.sendPend h s i).hub h) = { b with evq := b.evq ++ [e], evSeq := b.evSeq + 1,
                                                                        evPend := b.evPend &&& ~~~(BitVec.ofNat 32 (2 ^ i)) }))
  ∧ (∀ (h : Fin 4) (e : Event) (o : Busy) (s : State), (s.hub h).busy = some o →
      (s.leaveBusy h e).hub h = { s.hub h with busy := if e.kind = 5 ∧ e.lop.toNat = o.lop.toNat then none else some o })

/-- TENANT_SET, REGION_SET, ATTEST and LC_ADVANCE (R421, R424, R426, R427, R429 to R436, R438). A command of a port that is not BUSY joins
the engine's queue; the engine runs one command at a time, in order, each once it waits for nothing. A command of a wrong form
fails. TENANT_SET isolates the named partitions, wipes them once their requests have drained, rotates the keys of what a lessee
without a partition leaves to tenant 0, and then gives them to the tenant. REGION_SET gives regions and rotates their keys.
ATTEST writes a signed report. LC_ADVANCE makes the transitions of R434 and no others, and wipes the block. Commands completed:
tenantSet, regionSet, attest, lcAdvance. -/
def Obligations.SecurityCommands : Prop :=
  (∀ (h : Fin 4) (v : W32) (s : State), s.phase = .ready → (s.hub h).busy = none →
      (secOp v = 1 → exec (.tenantSet h v) s = .next ((s.secWrite h v).answered 0 0))
      ∧ (secOp v = 2 → exec (.regionSet h v) s = .next ((s.secWrite h v).answered 0 0))
      ∧ (secOp v = 3 → exec (.attest h v) s = .next ((s.secWrite h v).answered 0 0))
      ∧ (secOp v = 4 → exec (.lcAdvance h v) s = .next ((s.secWrite h v).answered 0 0)))
  ∧ (∀ (h : Fin 4) (v : W32) (s : State), (s.hub h).busy.isSome = true →
      exec (.tenantSet h v) s = .next s ∧ exec (.regionSet h v) s = .next s ∧ exec (.attest h v) s = .next s ∧ exec (.lcAdvance h v) s = .next s)
  ∧ (∀ (h : Fin 4) (v : W32) (s : State), secOp v ≠ 0 →
      s.secWrite h v = State.secResume { (s.modHub h fun b =>
        { b with cmdStat := 1, cmdCode := 0, busy := if secLop v = 0 then b.busy else some { lop := BitVec.ofNat 4 (secLop v), prog := 0 } }) with
        secQ := s.secQ ++ [{ hub := h, v := v }] })
  ∧ (∀ (s : State), s.secResume = s.secStep.secStep.secStep.secStep
      ∧ (∀ r, s.secNow = some r → s.secStep = s.secGo r)
      ∧ (s.secNow = none → s.secQ = [] → s.secStep = s)
      ∧ (∀ c t, s.secNow = none → s.secQ = c :: t → (s.secWaits c = true → s.secStep = s)
          ∧ (s.secWaits c = false → s.secStep = State.secRun c { s with secQ := t })))
  ∧ (∀ (v : W32) (s : State),
      let op := secOp v
      let bad := op = 0 ∨ 4 < op ∨ 12 < (secTen v).toNat ∨ (op ≠ 4 ∧ secTgt v ≠ 0) ∨ (op ≠ 2 ∧ (secKr v ∨ secHost v))
        ∨ (op = 4 ∧ (secTgt v = 0 ∨ 4 < secTgt v))
      let far := secTen v ≠ 0 ∧ s.life ≠ 2
      (s.secForm v = 0x8E01 ↔ bad) ∧ (s.secForm v = 0x8E02 ↔ ¬bad ∧ far) ∧ (s.secForm v = 0 ↔ ¬bad ∧ ¬far))
  ∧ (∀ (c : SecCmd) (s : State),
      (s.secForm c.v ≠ 0 → s.secRun c = s.secEnd c (s.secForm c.v))
      ∧ (s.secForm c.v = 0 →
          (secOp c.v = 1 → s.secRun c = s.tenantSet c)
          ∧ (secOp c.v = 2 → s.secRun c = s.regionSet c)
          ∧ (secOp c.v = 3 → s.secRun c = s.attest c)
          ∧ (secOp c.v = 4 → s.secRun c = (s.lcAdvance c.hub c.v).2.secEnd c (s.lcAdvance c.hub c.v).1)))
  ∧ (∀ (c : SecCmd) (code : Code) (s : State),
      let u := State.modHub c.hub (fun b => { b with cmdStat := if code = 0 then 2 else 3, cmdCode := code }) { s with secNow := none }
      let u := if code = 0 then u else u.logSec code
      s.secEnd c code = if secLop c.v = 0 then u else if secLop c.v = 4 then (u.busyAll 4).eventAll 4 code
        else u.sendEvent c.hub 5 code 0xFF (secLop c.v) 0)
  ∧ (∀ (c : SecCmd) (s : State),
      let named := fun p : Fin 12 => (s.hub c.hub).arg1.getLsbD p.val = true
      ((∃ p, named p ∧ (s.part p).task.isSome = true) → s.tenantSet c = s.secEnd c 0x8E03)
      ∧ ((∀ p, named p → (s.part p).task = none) →
          let t := s.tenantSet c
          t.secNow = some { cmd := c, since := s.now, phase := .drain, regs := [], ended := none }
          ∧ (∀ p, named p → t.part p =
              { s.part p with unavail := true, isolated := true,
                              cores := (s.part p).cores.map fun k => { k with copFlush := true } })
          ∧ (∀ p, ¬ named p → t.part p = s.part p) ∧ t = { s with parts := t.parts, secNow := t.secNow }))
  ∧ (∀ (r : SecRun) (s : State),
      (r.phase = .drain → ((∃ p ∈ s.secParts r.cmd.hub, s.partReqs p ≠ []) → s.secGo r = s)
          ∧ ((∀ p ∈ s.secParts r.cmd.hub, s.partReqs p = []) → s.secGo r = s.tenantWipe r.cmd))
      ∧ (r.phase = .rotate →
          let s' := s.secProgress r
          ((∃ i ∈ r.regs, s'.regions[i].swap.isSome = true) → s.secGo r = s')
          ∧ ((∀ i ∈ r.regs, s'.regions[i].swap = none) → (secOp r.cmd.v = 1 → s.secGo r = s'.tenantGive r.cmd)
              ∧ (secOp r.cmd.v ≠ 1 → s.secGo r = s'.secEnd r.cmd 0)))
      ∧ (r.phase = .report → (r.ended = none → s.secGo r = s) ∧ ∀ st, r.ended = some st → s.secGo r = s.secEnd r.cmd st))
  ∧ (∀ (c : SecCmd) (s : State),
      let named := fun p : Fin 12 => (s.hub c.hub).arg1.getLsbD p.val = true
      let t := s.tenantWipe c
      (∀ p, named p → t.part p = Part.wipe .tenant (s.part p)) ∧ (∀ p, ¬ named p → t.part p = s.part p)
      ∧ ∃ since, t.secNow = some
          { cmd := c, since := since, phase := .rotate, ended := none,
            regs := (List.finRange 1536).filter fun r => (s.leaving c).contains s.regions[r].ten })
  ∧ (∀ (c : SecCmd) (s : State),
      let named := fun p : Fin 12 => (s.hub c.hub).arg1.getLsbD p.val = true
      ∃ t : State, s.tenantGive c = t.secEnd c 0
        ∧ (∀ p, named p → t.part p =
              { s.part p with tenant := secTen c.v, unavail := decide ((s.part p).pers = .held),
                              isolated := decide ((s.part p).pers = .held) })
        ∧ (∀ p, ¬ named p → t.part p = s.part p))
  ∧ (∀ (q : Part),
      let w := Part.wipe .tenant q
      w.epoch = q.epoch + 1 ∧ w.sems = [] ∧ w.ctrs = [] ∧ w.wins = Part.reset.wins ∧ w.pers = q.pers ∧ w.flops = initFlops 250 q.fabric
      ∧ ∀ l : Fin 32, w.cores[l].spad = [] ∧ w.cores[l].tiles = Core.reset.tiles ∧ w.cores[l].fenced = q.cores[l].fenced
          ∧ w.cores[l].copFlush = true)
  ∧ (∀ (t : BitVec 4) (zf : Bool) (s : State),
      let u := s.departed zf t
      (∀ r : Fin 1536, u.regions[r] = if s.regions[r].ten = t then
          { s.regions[r] with ten := 0, host := true, swap := some (zf || s.regions[r].swap == some true) } else s.regions[r])
      ∧ (∀ n : Fin 16, u.links[n] = if s.links[n].tenant = t then { s.links[n] with bound := false } else s.links[n]))
  ∧ (∀ (c : SecCmd) (s : State),
      let base := fld (s.hub c.hub).arg0 0 11
      let n := fld (s.hub c.hub).arg0 16 11
      let turn := fun r : Fin 1536 => s.regions[r].ten ≠ secTen c.v ∨ secKr c.v = true
      (n = 0 ∨ 1536 < base + n → s.regionSet c = s.secEnd c 0x8E01)
      ∧ (¬ (n = 0 ∨ 1536 < base + n) → (∃ r : Fin 1536, base ≤ r.val ∧ r.val < base + n ∧ (s.regions[r].fill = true ∨ s.regions[r].swap = some true)) →
          s.regionSet c = s.secEnd c 0x8E03)
      ∧ (¬ (n = 0 ∨ 1536 < base + n) → (∀ r : Fin 1536, base ≤ r.val → r.val < base + n → s.regions[r].fill = false ∧ s.regions[r].swap ≠ some true) →
          let t := s.regionSet c
          (∃ l : List (Fin 1536), t.secNow = some { cmd := c, since := s.now, phase := .rotate, regs := l, ended := none }
            ∧ ∀ r, r ∈ l ↔ base ≤ r.val ∧ r.val < base + n ∧ turn r)
          ∧ t = { s with regions := t.regions, secNow := t.secNow }
          ∧ ∀ r : Fin 1536, (base ≤ r.val ∧ r.val < base + n →
              (turn r → t.regions[r] = { s.regions[r] with ten := secTen c.v, host := secHost c.v, swap := some (secZf c.v) })
              ∧ (¬ turn r → t.regions[r] = { s.regions[r] with ten := secTen c.v, host := secHost c.v }))
            ∧ (¬ (base ≤ r.val ∧ r.val < base + n) → t.regions[r] = s.regions[r])))
  ∧ (∀ (c : SecCmd) (s : State),
      let a := (s.hub c.hub).arg3.toNat * 2 ^ 32 + fld (s.hub c.hub).arg2 11 21 * 2048
      (s.life = 0 ∨ s.life = 4 → s.attest c = s.secEnd c 0x8E07)
      ∧ (s.life ≠ 0 → s.life ≠ 4 → s.hostOpen a 2048 = true →
          s.attest c = { s with secNow := some { cmd := c, since := s.now, phase := .report, regs := [], ended := none } }.requestHere (.report c.hub)
            (.port c.hub) .write a 2048 (s.report c.hub ++ pointBytes (Config.sign s.idKey (s.report c.hub)))))
  ∧ (∀ (tgt : Nat) (s : State),
      (s.life ≠ 4 → tgt = 4 → s.transition tgt = (0, s.burn fun u => { u with scrap := true, idSeed := BitVec.allOnes 256 })
          ∧ (s.transition tgt).2.life = 4)
      ∧ (s.life = 0 → tgt = 1 → ∃ t : State, s.transition tgt = (0, t) ∧ t.fuses.prov = true ∧ t.fuseCopy.prov = true
          ∧ t.fuses.authH = BitVec.ofNat 384 (ofBytes (bytesOfWords (s.auth.toList.take 12))) ∧ t.fuses.idSeed = Config.draw s.drbg)
      ∧ (s.life = 1 → tgt = 2 → s.transition tgt = if s.authorised 2 then (0, s.burn fun u => { u with svc0 := true }) else (0x8E05, s))
      ∧ (s.life = 2 → tgt = 3 → s.fuseBits.ret ≠ BitVec.allOnes 16 →
          s.transition tgt = if s.authorised 3 then (0, s.burn fun u => { u with ret := u.ret ||| burnNext s.fuseBits.ret }) else (0x8E05, s))
      ∧ (s.life = 3 → tgt = 2 → s.fuseBits.svc ≠ BitVec.allOnes 16 →
          s.transition tgt = if s.authorised 2 then (0, s.burn fun u => { u with svc := u.svc ||| burnNext s.fuseBits.svc }) else (0x8E05, s))
      ∧ ((s.life = 2 ∧ tgt = 3 ∧ s.fuseBits.ret = BitVec.allOnes 16) ∨ (s.life = 3 ∧ tgt = 2 ∧ s.fuseBits.svc = BitVec.allOnes 16) →
          s.transition tgt = (0x8E06, s))
      ∧ (¬ (s.life ≠ 4 ∧ tgt = 4) → ¬ (s.life = 0 ∧ tgt = 1) → ¬ (s.life = 1 ∧ tgt = 2) → ¬ (s.life = 2 ∧ tgt = 3) → ¬ (s.life = 3 ∧ tgt = 2) →
          s.transition tgt = (0x8E04, s))
      ∧ s.fuseBits.ret = s.fuses.ret ||| s.fuseCopy.ret ∧ s.fuseBits.scrap = (s.fuses.scrap || s.fuseCopy.scrap))
  ∧ (∀ (h : Fin 4) (v : W32) (s : State),
      let task := ∃ p, (s.part p).task.isSome = true
      (h ≠ 0 → s.lcAdvance h v = (0x8E01, s)) ∧ (h = 0 → task → s.lcAdvance h v = (0x8E03, s))
      ∧ (h = 0 → ¬ task → ∀ code t, s.transition (secTgt v) = (code, t) →
          (code ≠ 0 → s.lcAdvance h v = (code, t))
          ∧ (code = 0 → s.lcAdvance h v = (0, (({ t.coldWipe true with drbg := t.drbg + 1, tap := Vector.replicate 28 1 }).deriveKeys).logSec 0x8E20))))

/-- FENCE, UNFENCE, BYPASS_OCTET and PARTITION_RESET (R90, R432, R445, R447, R448, R450 to R452), by a control port that reaches the
register. A rejected request records its cause and completes with 0x3F05; a fence empties the core's queues, stops its channels
with HEAD equal to TAIL and keeps its contents; an unfence wipes the core as a personality load does; a change of the
array width clears the tiles. A reset of a partition without a task wipes it; one with a task is aborted first with 0x4F05. The
registers of its two stacks that R322 lists are initialised with it (R14, R432). Commands completed: fence, unfence, bypassOctet,
partitionReset. -/
def Obligations.FencingAndReset : Prop :=
  (∀ (h : Fin 4) (p : Fin 12) (l : Fin 32) (v : W32) (s : State),
    s.reaches (.port h) (partBase p + 0x500100 + 0x1000 * l.val) true →
    let r := s.fenceWrite (.port h) p l v none
    let t := (r.2.punish (.port h) (r.1.getD 0)).answered (r.1.getD 0) 0
    (fenceReq v = 1 → exec (.fence (.port h) p l v) s = .next t)
    ∧ (fenceReq v = 2 → exec (.unfence (.port h) p l v) s = .next t)
    ∧ (fenceReq v = 3 → exec (.bypassOctet (.port h) p l v) s = .next t))
  ∧ (∀ (h : Fin 4) (p : Fin 12) (l : Fin 32) (v : W32) (who : Option (Fin 4 × Byte)) (s : State), fenceReq v ≠ 0 →
    let q := s.part p
    let c := s.core p l
    let busy := q.task.isSome = true ∨ q.unavail = true ∨ (s.capState ≠ .idle ∧ s.capMask.getLsbD p.val = true) ∨ q.pers = .held ∨ q.pers = .loading
    let last := fenceReq v = 1 ∧ c.fenced = false ∧ q.liveCount ≤ 1
    let second := ∃ o, c.bypass = some o ∧ fenceReq v = 3 ∧ o ≠ fenceOct v
    let keep := fun u : State => if bit v 1 then u.modCore p l fun c => { c with cand := false } else u
    (q.abort.isSome = true → s.fenceWrite (.port h) p l v who
        = (none, s.modPart p fun q => { q with held := q.held ++ [{ core := some l, v := v, who := who }] }))
    ∧ (q.abort = none →
        (∀ cause : BitVec 4, (busy ∧ cause = 1) ∨ (¬busy ∧ s.fused p = true ∧ cause = 4) ∨ (¬busy ∧ s.fused p = false ∧ last ∧ cause = 2)
            ∨ (¬busy ∧ s.fused p = false ∧ ¬last ∧ second ∧ cause = 3) →
          s.fenceWrite (.port h) p l v who = (some 0x3F05, (s.modCore p l fun c => { c with fcause := cause }).logCore p l 0x3F05 0))
        ∧ (¬busy → s.fused p = false → ¬last → ¬second →
            ∃ f : Core → Core, s.fenceWrite (.port h) p l v who
                = (some 0, keep (s.modPart p fun q => q.reshape fun q => { q with cores := q.cores.set l (f q.cores[l]) }))
              ∧ (fenceReq v = 1 → f c = if c.fenced then c else c.fence)
              ∧ (fenceReq v = 2 → f c = if c.fenced then { c.wipe false q.grid67 with fenced := false, fcause := 0 } else c)
              ∧ (fenceReq v = 3 → f c = { c with bypass := some (fenceOct v) }))))
  ∧ (∀ (c : Core), c.fence.fenced = true ∧ c.fence.spad = c.spad ∧ c.fence.ocache = c.ocache ∧ c.fence.tiles = c.tiles
      ∧ (∀ e : Fin 8, c.fence.eng[e].queue = [])
      ∧ ∀ i : Fin 4, c.fence.chans[i].head = c.chans[i].tail ∧ c.fence.chans[i].tail = c.chans[i].tail ∧ c.fence.chans[i].stopped = true)
  ∧ (∀ (f : Part → Part) (q : Part), (q.reshape f).width = (f q).width
      ∧ ((f q).width = q.width → q.reshape f = f q)
      ∧ ((f q).width ≠ q.width → ∀ l : Fin 32, (q.reshape f).cores[l] = { (f q).cores[l] with
          tiles := Vector.replicate 4 (Vector.replicate 128 Line.zero), tileTag := Vector.replicate 4 .empty, tileMode := Vector.replicate 4 0 }))
  ∧ (∀ (h : Fin 4) (p : Fin 12) (v : W32) (s : State), s.reaches (.port h) (partBase p + 0x454004) true → bit v 0 = true →
      ((s.part p).task = none → ∃ t : State, exec (.partitionReset (.port h) p v) s = .next (t.answered 0 0)
          ∧ t.part p = Part.wipe .reset (s.part p) ∧ (∀ q, q ≠ p → t.part q = s.part q)
          ∧ ∀ d : Fin 24, t.stackPorts[d] = if stackPart d = p then (s.stackPorts[d]).wipe else s.stackPorts[d])
      ∧ ((s.part p).task.isSome = true → exec (.partitionReset (.port h) p v) s = .next (((s.abort p 0x4F05 0).modPart p fun q =>
          { q with held := q.held ++ [{ core := none, v := v, who := none }] }).answered 0 0)))
  ∧ (∀ (q : Part) (l : Fin 32),
      let w := Part.wipe .reset q
      w.cores[l].spad = q.cores[l].spad ∧ w.cores[l].fenced = q.cores[l].fenced ∧ w.cores[l].tiles = Core.reset.tiles
      ∧ w.sems = [] ∧ w.ctrs = [] ∧ w.store = q.store ∧ w.wins = q.wins ∧ w.tenant = q.tenant ∧ w.power = .gated)
  ∧ (∀ k : Stack, k.wipe.hold = false ∧ k.wipe.throt = false ∧ k.wipe.ce = false ∧ k.wipe.ue = false ∧ k.wipe.ceCnt = 0 ∧ k.wipe.ueAddr = 0
      ∧ k.wipe.hours = Stack.reset.hours ∧ k.wipe.temp = 0 ∧ k.wipe.rate = k.rate ∧ k.wipe.up = k.up)

/-- CAPTURE, CAPTURE_QUIESCED, CAPTURE_QUIESCE_TIMEOUT and CAPTURE_WRITE_DONE (R409, R445, R453 to R455). A control port's request makes it
BUSY; once no other port runs a long operation and no named partition aborts, the capture fails at once or its partitions quiesce.
When nothing is in flight they are isolated and their images are written; after 12 µs it fails with 0x9002. At the
end isolation ends, issue resumes and every port sends the completion event. Captures wait in the order in which they came.
Commands completed: capture, captureQuiesced, captureQuiesceTimeout, captureWriteDone. -/
def Obligations.Captures : Prop :=
  (∀ (h : Fin 4) (v : W32) (s : State), s.reaches (.port h) (blkBase + 0x6200) true → bit v 12 = true →
      let s0 := { (s.modHub h fun b => { b with busy := some { lop := 3, prog := 0 } }) with capWait := s.capWait ++ [(h, v)] }
      exec (.capture h v) s = .next (s0.capTry.answered 0 0))
  ∧ (∀ (h : Fin 4) (v : W32) (rest : List (Fin 4 × W32)) (s : State), s.capWait = (h, v) :: rest →
      let mask := BitVec.ofNat 12 (fld v 0 12)
      let blocked := s.anyLoad = true ∨ (∃ r, s.secNow = some r ∧ secLop r.cmd.v ≠ 0) ∨ s.capState ≠ .idle ∨ ∃ p : Fin 12, mask.getLsbD p.val = true ∧ (s.part p).abort.isSome = true
      let u := State.busyAll 3 { s with capWait := rest }
      (blocked → s.capTry = s)
      ∧ (¬ blocked → u.capCheck mask ≠ 0 → s.capTry = u.capEnd (u.capCheck mask))
      ∧ (¬ blocked → u.capCheck mask = 0 → s.capTry = { u with capState := .quiescing, capMask := mask, capSince := u.now }))
  ∧ (∀ (mask : BitVec 12) (s : State), (mask = 0 ∨ 2 ^ 36 < s.capOff.toNat * 2 ^ 20 + 411107328 → s.capCheck mask = 0x3003)
      ∧ (s.capCheck mask = 0 → mask ≠ 0 ∧ s.capOff.toNat * 2 ^ 20 + 411107328 ≤ 2 ^ 36
          ∧ ∀ e ∈ capDies mask, s.stackPorts[e.1].up = true))
  ∧ (∀ (s : State),
      let named := fun p : Fin 12 => s.capMask.getLsbD p.val = true
      let image := (capDies s.capMask).foldl (fun t e => t.putImage e.1 s.capBase (s.dieImage e.1)) s.drawn
      (s.capState = .quiescing → (∀ p, named p → s.quiesced p = true) → ∃ t : State, exec .captureQuiesced s = .next (t.progress 3 1 1 (List.finRange 4))
          ∧ t.hubs = image.hubs ∧ t.capState = .writing ∧ t.capHeld = s.now ∧ t.hbm = image.hbm
          ∧ (∀ p, t.part p = if named p then { image.part p with isolated := true } else image.part p))
      ∧ (s.capState = .quiescing → (∃ p, named p ∧ s.quiesced p = false) → exec .captureQuiesced s = .next s)
      ∧ (s.capState = .quiescing → 12000 ≤ (s.now - s.capSince).toNat → exec .captureQuiesceTimeout s = .next (s.capResume.capEnd 0x9002))
      ∧ ((s.now - s.capSince).toNat < 12000 → exec .captureQuiesceTimeout s = .next s)
      ∧ (∀ status, s.capState = .writing →
          let u := if status = 0 then s else s.capSpoil
          exec (.captureWriteDone status) s = .next ((((List.finRange 12).filter fun p => s.capMask.getLsbD p.val).foldl (fun t p =>
            t.modPart p fun q =>
              { q with isolated := decide (q.pers = .held), holds := q.holds ++ [(u.capHeld, u.now)],
                       cores := q.cores.map (Core.copResume u.now) }) u).capResume.capEnd status)))
  ∧ (∀ (code : Code) (s : State), (s.capEnd code).capState = .idle ∧ (s.capEnd code).capCode = code
      ∧ s.capEnd code = State.eventAll 3 code (if code = 0 then { s with capState := .idle, capCode := code }
          else State.logBlock code 0 { s with capState := .idle, capCode := code }))
  ∧ (∀ (s : State) (p : Fin 12), s.capResume.part p = if (s.part p).seqState = 3 then { s.part p with seqState := 1 } else s.part p)

/-- COLD_RESET, PWR_OK_FALL, BLK_RST_N_LOW, WARM_RESET, RAMP_START, RAMP_STEP and TIMING_MESSAGE (R307, R313, R432, R466, R470 to R476). A
cold reset samples the straps, wipes the block and brings it to READY, unless a PLL, the check of the straps at the mesh bridges (R19,
R24, R25) or a control port fails; a stack that fails is down. A port that has trained in a power-up that stopped answers BUSY with LOP 4. A bridge has its valid signal only when a die stands at its other end
and the straps that it is sent are those of the neighbour that R19 names (R20). A fall
of pwr_ok loses the region keys and the stacks' contents. A warm reset wipes every partition, ends all tenancy, rotates every
region and takes every link to IDLE. Ramps run in ascending partition order, at most MAX + 1 at once, in 16 steps. Each
die's timebase only rises to hub 0's. Commands completed: coldReset, pwrOkFall, blkRstNLow, warmReset, rampStart, rampStep,
timingMessage. -/
def Obligations.PowerAndResets : Prop :=
  (∀ (env : BootEnv) (s : State), s.phase ≠ .off → exec (.coldReset env) s = .next s)
  ∧ (∀ (env : BootEnv) (s : State), s.phase = .off →
      let good := env.pll = BitVec.allOnes 28 ∧ meshAgrees env.straps = true ∧ env.ports = BitVec.allOnes 4
      ∃ t : State, exec (.coldReset env) s = .next t
        ∧ (¬ good → t.phase = .stuck ∧ ∀ h, (t.hub h).alert = true)
        ∧ (good → t.phase = .ready ∧ ∀ d : Fin 24, t.stackPorts[d].up = (env.stack.getLsbD d.val && !s.fused (stackPart d)))
        ∧ (∀ p, t.part p = { Part.reset with cores := (s.part p).cores.map (Core.cold false), wraps := (s.part p).wraps })
        ∧ (∀ n : Fin 16, t.links[n] = { Link.reset with txDone := s.links[n].txDone })
        ∧ t.hbm = [] ∧ t.dieTime = Vector.replicate 28 0 ∧ t.life = s.life ∧ t.pending = s.pending
        ∧ t.straps = env.straps
        ∧ (∀ d sd, t.bridgeValid d sd = (decide (env.pll = BitVec.allOnes 28) && bridgeComesUp env.straps d sd))
        ∧ (∀ h i, t.hubBridgeValid h i = (decide (env.pll = BitVec.allOnes 28) && hubBridgeComesUp env.straps h i)))
  ∧ (∀ (h : Fin 4) (hdr : BitVec 128) (f : State → State) (s : State), s.phase = .stuck → (s.hub h).portUp = true →
      1 ≤ msgType hdr → msgType hdr ≤ 3 → s.portMessage h hdr f = s.say h (.busy (msgTag hdr) 4 0))
  ∧ meshAgrees rightStraps = true ∧ (∀ (x : Straps) (d : Fin 24), strapPlace x[d.val] = none → meshAgrees x = false)
  ∧ (∀ (d : Fin 24), (bridgeEnd d .n = none ↔ dieRow d = 0) ∧ (bridgeEnd d .s = none ↔ dieRow d = 3)
      ∧ (∀ e, (bridgeEnd d .n = some (.die e) ↔ bridgeEnd e .s = some (.die d)) ∧ (bridgeEnd d .e = some (.die e) ↔ bridgeEnd e .w = some (.die d)))
      ∧ ∀ h, (bridgeEnd d .w = some (.hub h) ∨ bridgeEnd d .e = some (.hub h)) ↔ ∃ i, hubBridgeEnd h i = d)
  ∧ (∀ (s : State), ∃ t : State, exec .pwrOkFall s = .next t ∧ t.phase = .off ∧ t.pwrOk = false ∧ t.hbm = []
      ∧ (∀ r : Fin 1536, t.regions[r].keyGen = s.regions[r].keyGen + 1) ∧ (∀ h, (t.hub h).portUp = false) ∧ t.parts = s.parts
      ∧ (∀ d sd, t.bridgeValid d sd = false))
  ∧ (∀ (s : State), ∃ t : State, exec .blkRstNLow s = .next t ∧ t.phase = .off ∧ t.rstN = false ∧ t.pwrOk = s.pwrOk
      ∧ (∀ h, (t.hub h).portUp = false) ∧ t.hbm = s.hbm ∧ t.parts = s.parts)
  ∧ (∀ (h : Fin 4) (v : W32) (s : State), s.reaches (.port h) (blkBase + 0x7010) true →
      (fld v 16 16 = 0x5752 → bit v 0 = true → (∀ g, (s.hub g).busy = none) → exec (.warmReset h v) s = .next (s.warmReset.answered 0 0))
      ∧ (fld v 16 16 ≠ 0x5752 ∨ bit v 0 = false ∨ (∃ g, (s.hub g).busy.isSome = true) → exec (.warmReset h v) s = .next (s.answered 0 0)))
  ∧ (∀ (s : State),
      let t := s.warmReset
      t.hbm = [] ∧ (∀ r : Fin 1536, t.regions[r] = { Region.reset with keyGen := s.regions[r].keyGen + 1 })
      ∧ (∀ n : Fin 16, t.links[n].state = .idle ∧ t.links[n].bound = false ∧ t.links[n].outst = [])
      ∧ (∀ h, (t.hub h).gsems = [] ∧ (t.hub h).gctrs = [] ∧ (t.hub h).gown = Vector.replicate 32 0 ∧ (t.hub h).tasks = [])
      ∧ (∀ p, (t.part p).tenant = 0 ∧ (t.part p).sems = [] ∧ (t.part p).store = [] ∧ (t.part p).task = none ∧ (t.part p).pers = (s.part p).pers
          ∧ ∀ l : Fin 32, (t.part p).cores[l].spad = [])
      ∧ ((∀ d, d ∈ s.liveStacks → s.stackPorts[d].up = true) → t.warm = false))
  ∧ (∀ (p : Fin 12) (s : State),
      let running := (s.parts.toList.filter Part.ramping).length
      (s.phase = .ready → s.rampDue p = true → running ≤ s.rampMax.toNat → (∀ q, q < p → s.rampDue q = false) →
        exec (.rampStart p) s = .next (s.modPart p fun q =>
          if q.power = .gated then { q with power := .rampUp, rampAt := 0 } else { q with power := .rampDown, rampAt := 16 }))
      ∧ (s.rampDue p = false ∨ s.rampMax.toNat < running ∨ (∃ q, q < p ∧ s.rampDue q = true) → exec (.rampStart p) s = .next s))
  ∧ (∀ (p : Fin 12) (s : State), s.phase = .ready →
      ((s.part p).power = .rampUp → exec (.rampStep p) s = .next (s.modPart p fun q =>
        if 15 ≤ q.rampAt then { q with power := .running, rampAt := 16 } else { q with rampAt := q.rampAt + 1 }))
      ∧ ((s.part p).power = .rampDown → exec (.rampStep p) s = .next (s.modPart p fun q =>
        if q.rampAt ≤ 1 then { q with power := .gated, rampAt := 0 } else { q with rampAt := q.rampAt - 1 }))
      ∧ ((s.part p).power = .gated ∨ (s.part p).power = .running → exec (.rampStep p) s = .next s))
  ∧ (∀ (s : State), ∃ t : State, exec .timingMessage s = .next t
      ∧ (∀ d : Fin 28, t.dieTime[d].toNat = max s.dieTime[d].toNat s.now.toNat) ∧ t = { s with dieTime := t.dieTime })

/-- The test access port, the wrappers and the probe selection (R437, R479 to R485). An instruction whose gate is closed, or that the die
does not hold, selects BYPASS; EXTEST, CLAMP and HIGHZ act as BYPASS while blk_rst_n is high. A wrapper instruction other than
WS_BYPASS is accepted for a core only while it is fenced, for a compute die only while its partition is GATED and not
loading; otherwise it is refused and the wrapper stays in WS_BYPASS. A core that leaves a test instruction is wiped. Commands
completed: tapReset, bypass, idcode, samplePreload, extest, clamp, highz, wspSelect, stack1500, secscan, probesel, wsBypass, wsExtest,
wsIntest, mbist, mbistStatus, mbistComplete. -/
def Obligations.TestAccess : Prop :=
  (∀ (s : State), s.pwrOk = true → exec .tapReset s = .next { s with tap := Vector.replicate 28 1 })
  ∧ (∀ (d : Fin 28) (s : State) (i : Instr) (code : Byte) (row : Nat) (here : Bool), s.pwrOk = true →
      (i, code, row, here) ∈ ([(.bypass d, 0xFF, 1, true), (.idcode d, 0x01, 1, true), (.samplePreload d, 0x02, 1, true), (.extest d, 0x03, 1, true),
        (.clamp d, 0x04, 1, true), (.highz d, 0x05, 1, true), (.wspSelect d, 0x10, 2, true), (.stack1500 d, 0x20, 3, decide (d.val < 24)),
        (.secscan d, 0x40, 5, decide (d.val = 24))] : List (Instr × Byte × Nat × Bool)) →
      exec i s = .next { s with tap := s.tap.set d (if here = true ∧ s.gate row = true then code else 0xFF) })
  ∧ (∀ (d : Fin 28) (sel : BitVec 256) (s : State), s.pwrOk = true →
      (∀ h : Fin 4, d.val = 24 + h.val → s.gate 4 = true → ∃ t : State, exec (.probesel d sel) s = .next t
          ∧ t.tap = s.tap.set d 0x30 ∧ t.hub h = { s.hub h with probe := sel } ∧ t = { s with tap := t.tap, hubs := t.hubs })
      ∧ (d.val < 24 ∨ s.gate 4 = false → exec (.probesel d sel) s = .next { s with tap := s.tap.set d 0xFF }))
  ∧ (∀ (s : State), s.gate 1 = true ∧ (s.gate 2 = true ↔ s.life ≠ 2) ∧ (s.gate 4 = true ↔ s.life ≠ 2) ∧ (s.gate 5 = true ↔ s.life = 0 ∨ s.life = 4))
  ∧ (∀ (d : Fin 28) (s : State), s.tap[d] = 3 ∨ s.tap[d] = 4 ∨ s.tap[d] = 5 → s.tapActs d = if s.rstN then 0xFF else s.tap[d])
  ∧ (∀ (d : Fin 28), fld (idcodeOf d) 28 4 = 1 ∧ fld (idcodeOf d) 12 16 = (if d.val < 24 then 0xC012 else 0xC112)
      ∧ fld (idcodeOf d) 1 11 = 0x5E7 ∧ fld (idcodeOf d) 0 1 = 1)
  ∧ (∀ (d : Fin 28) (t : BitVec 5) (data : W32) (s : State) (c : Instr) (wir : BitVec 3), s.pwrOk = true → s.tap[d] = 0x10 →
      (c, wir) ∈ ([(.wsBypass d t data, 0), (.wsExtest d t data, 1), (.wsIntest d t data, 2), (.mbist d t data, 3), (.mbistStatus d t data, 4)]
        : List (Instr × BitVec 3)) →
      (wrapAt d t = none → exec c s = .next s)
      ∧ (∀ i, wrapAt d t = some i →
          let ok := wir = 0 ∨ s.wrapOpen i = true
          let w := s.wrapper i
          (¬ ok → exec c s = .next ((s.leaveTest i 0).setWrapper i { wir := 0, status := 1, data := data, tested := w.tested }))
          ∧ (ok → ∃ st : BitVec 3, exec c s = .next ((s.leaveTest i wir).setWrapper i { wir := wir, status := st, data := data, tested := w.tested || isTest wir })
              ∧ (wir = 3 → st = 2) ∧ (wir ≠ 3 → wir ≠ 4 → st = 0))))
  ∧ (∀ (p : Fin 12) (l : Fin 32) (wir : BitVec 3) (s : State),
      (isTest (s.core p l).wrap.wir = true → (s.core p l).wrap.wir ≠ wir →
        s.leaveTest (.core p l) wir = s.modCore p l fun c => c.wipe false (s.part p).grid67)
      ∧ (isTest (s.core p l).wrap.wir = false ∨ (s.core p l).wrap.wir = wir → s.leaveTest (.core p l) wir = s))
  ∧ (∀ (s : State) (p : Fin 12) (l : Fin 32) (b : Fin 2), (s.wrapOpen (.core p l) = true ↔ (s.core p l).fenced = true)
      ∧ (s.wrapOpen (.die p b) = true ↔ (s.part p).power = .gated ∧ (s.part p).pers ≠ .loading))
  ∧ (∀ (d : Fin 28) (t : BitVec 5) (pass : Bool) (i : WrapId) (s : State), s.pwrOk = true → wrapAt d t = some i → (s.wrapper i).status = 2 →
      exec (.mbistComplete d t pass) s = .next (s.setWrapper i { s.wrapper i with status := if pass then 3 else 4 }))

/-- A step of the block (log entry 11): with a command at the front of the queue it is exec of that command on the state
with the queue's rest. On an empty queue one MCLK cycle passes, unless the block is without clocks: every die's timebase advances
alternately by 2 and by 3, by 2 first (R466), the sequencers' SKIP counts down by the cycle's 4 bundle slots, and of what the fabric
clocks' edges do only flip-flops are seen (R359); then what a long operation waited for may have come (R409, R430), and where none
waits nothing else happens. No word of the table spells a command. -/
def Obligations.StepRunsTheCommand : Prop :=
  (∀ (c : Instr) (rest : List Instr) (s : State), step { s with pending := c :: rest } = exec c { s with pending := rest })
  ∧ (∀ (s : State), s.pending = [] → ∃ t : State, step s = .next t
      ∧ (s.phase = .off → t = s)
      ∧ (s.phase ≠ .off → ∃ u : State, t = u.longOps
          ∧ (s.secNow = none → s.secQ = [] → s.capWait = [] → t = u)
          ∧ u.half = !s.half ∧ (∀ d : Fin 28, u.dieTime[d] = s.dieTime[d] + if s.half then 3 else 2)
          ∧ u.pending = [] ∧ u.links = s.links ∧ u.hbm = s.hbm ∧ u.stackPorts = s.stackPorts ∧ u.regions = s.regions
          ∧ u.secNow = s.secNow ∧ u.secQ = s.secQ ∧ u.capWait = s.capWait
          ∧ (∀ h, u.hub h = { s.hub h with flops := (u.hub h).flops })
          ∧ ∀ p, (u.part p).skip = BitVec.ofNat 17 ((s.part p).skip.toNat - 4) ∧ (u.part p).cores = (s.part p).cores))
  ∧ (∀ (s : State) (nbits w : Nat), s.withFetchWord nbits w = s)

/-- The state after reset (R42, R67, R313, R375, R438, R452, R461, R471, R474, R478): READY, partitions gated without a task, a
personality or a tenant, every core live, memories wiped, logs empty, links in IDLE, the straps right and every mesh bridge that has a partner up (R20), every region open to the host with owner 0,
and the completion event of the power-up sent on every port. The fuses, and so the life-cycle state, are the model's choice (log
entry 2). The invariant of InvariantKept holds there. -/
def Obligations.ResetState : Prop :=
  let s := State.reset
  s.phase = .ready ∧ s.pending = [] ∧ s.hbm = [] ∧ s.rampMax = 2 ∧ s.capState = .idle ∧ s.warm = false
  ∧ s.straps = rightStraps ∧ (∀ d sd, s.bridgeValid d sd = (bridgeEnd d sd).isSome)
  ∧ (∀ p, (s.part p).power = .gated ∧ (s.part p).pers = .none ∧ (s.part p).tenant = 0 ∧ (s.part p).task = none ∧ (s.part p).liveMask = 0xFFFFFFFF
      ∧ (s.part p).sems = [] ∧ (s.part p).ctrs = [] ∧ (s.part p).store = [] ∧ (s.part p).width = 128)
  ∧ (∀ p l, (s.core p l).spad = [] ∧ (s.core p l).gridFlags = 0 ∧ (s.core p l).vecFlags = 0 ∧ (s.core p l).fenced = false
      ∧ (∀ i : Fin 4, (s.core p l).tileTag[i] = .empty)
      ∧ (∀ n : Fin 128, 96 ≤ n.val → (s.core p l).gridEnt[n] = 0x8000))
  ∧ (∀ h, (s.hub h).log = [] ∧ (s.hub h).logThr = 0x1000 ∧ (s.hub h).tmo = 0x03E8 ∧ (s.hub h).evMask = 0 ∧ (s.hub h).busy = none
      ∧ (s.hub h).gown = Vector.replicate 32 0
      ∧ ∃ e : Event, (s.hub h).outbox = [.event e] ∧ e.kind = 5 ∧ e.lop = 4 ∧ e.code = 0)
  ∧ (∀ n : Fin 16, s.links[n].state = .idle ∧ s.links[n].bound = false)
  ∧ (∀ r : Fin 1536, s.regions[r].ten = 0 ∧ s.regions[r].host = true ∧ s.regions[r].fill = false)
  ∧ s.Inv

/-- An invariant that every step keeps (R310, R433, R434, R479, R481): the stacks' contents stay in canonical form, fuses stay burned
in the order of R434 (so a block serves at most 17 periods), and every TAP controller holds an instruction of its die. -/
def Obligations.InvariantKept : Prop :=
  ∀ (s t : State), s.Inv → step s = .next t → t.Inv
end

