-- ==== Sys2Proof/Laws/State.lean ====
section
/-! SUPPORT. What each update of the state leaves as it was, and reading back what an update wrote: one
lemma per field per update, true by definition. -/

namespace Sys2Proof.Machine

section
variable (p : Fin 12) (f : Part → Part) (s : State)

@[simp] theorem State.modPart_pending : (s.modPart p f).pending = s.pending := rfl
@[simp] theorem State.modPart_hubs : (s.modPart p f).hubs = s.hubs := rfl
@[simp] theorem State.modPart_links : (s.modPart p f).links = s.links := rfl
@[simp] theorem State.modPart_stackPorts : (s.modPart p f).stackPorts = s.stackPorts := rfl
@[simp] theorem State.modPart_regions : (s.modPart p f).regions = s.regions := rfl
@[simp] theorem State.modPart_hbm : (s.modPart p f).hbm = s.hbm := rfl
@[simp] theorem State.modPart_dieTime : (s.modPart p f).dieTime = s.dieTime := rfl
@[simp] theorem State.modPart_half : (s.modPart p f).half = s.half := rfl
@[simp] theorem State.modPart_phase : (s.modPart p f).phase = s.phase := rfl
@[simp] theorem State.modPart_pwrOk : (s.modPart p f).pwrOk = s.pwrOk := rfl
@[simp] theorem State.modPart_rstN : (s.modPart p f).rstN = s.rstN := rfl
@[simp] theorem State.modPart_warm : (s.modPart p f).warm = s.warm := rfl
@[simp] theorem State.modPart_rampMax : (s.modPart p f).rampMax = s.rampMax := rfl
@[simp] theorem State.modPart_pll : (s.modPart p f).pll = s.pll := rfl
@[simp] theorem State.modPart_straps : (s.modPart p f).straps = s.straps := rfl
@[simp] theorem State.modPart_bridges : (s.modPart p f).bridges = s.bridges := rfl
@[simp] theorem State.modPart_hubBridges : (s.modPart p f).hubBridges = s.hubBridges := rfl
@[simp] theorem State.modPart_grade : (s.modPart p f).grade = s.grade := rfl
@[simp] theorem State.modPart_plive : (s.modPart p f).plive = s.plive := rfl
@[simp] theorem State.modPart_build : (s.modPart p f).build = s.build := rfl
@[simp] theorem State.modPart_fuses : (s.modPart p f).fuses = s.fuses := rfl
@[simp] theorem State.modPart_fuseCopy : (s.modPart p f).fuseCopy = s.fuseCopy := rfl
@[simp] theorem State.modPart_tmpSeed : (s.modPart p f).tmpSeed = s.tmpSeed := rfl
@[simp] theorem State.modPart_idPub : (s.modPart p f).idPub = s.idPub := rfl
@[simp] theorem State.modPart_kaPub : (s.modPart p f).kaPub = s.kaPub := rfl
@[simp] theorem State.modPart_auth : (s.modPart p f).auth = s.auth := rfl
@[simp] theorem State.modPart_secQ : (s.modPart p f).secQ = s.secQ := rfl
@[simp] theorem State.modPart_devNum : (s.modPart p f).devNum = s.devNum := rfl
@[simp] theorem State.modPart_minEp : (s.modPart p f).minEp = s.minEp := rfl
@[simp] theorem State.modPart_cert : (s.modPart p f).cert = s.cert := rfl
@[simp] theorem State.modPart_routes : (s.modPart p f).routes = s.routes := rfl
@[simp] theorem State.modPart_capOff : (s.modPart p f).capOff = s.capOff := rfl
@[simp] theorem State.modPart_capCode : (s.modPart p f).capCode = s.capCode := rfl
@[simp] theorem State.modPart_capState : (s.modPart p f).capState = s.capState := rfl
@[simp] theorem State.modPart_capMask : (s.modPart p f).capMask = s.capMask := rfl
@[simp] theorem State.modPart_capSince : (s.modPart p f).capSince = s.capSince := rfl
@[simp] theorem State.modPart_capHeld : (s.modPart p f).capHeld = s.capHeld := rfl
@[simp] theorem State.modPart_capWait : (s.modPart p f).capWait = s.capWait := rfl
@[simp] theorem State.modPart_secNow : (s.modPart p f).secNow = s.secNow := rfl
@[simp] theorem State.modPart_tap : (s.modPart p f).tap = s.tap := rfl
@[simp] theorem State.modPart_drbg : (s.modPart p f).drbg = s.drbg := rfl
@[simp] theorem State.modPart_free : (s.modPart p f).free = s.free := rfl
@[simp] theorem State.modPart_answer : (s.modPart p f).answer = s.answer := rfl

end

section
variable (p : Fin 12) (l : Fin 32) (f : Core → Core) (s : State)

@[simp] theorem State.modCore_pending : (s.modCore p l f).pending = s.pending := rfl
@[simp] theorem State.modCore_hubs : (s.modCore p l f).hubs = s.hubs := rfl
@[simp] theorem State.modCore_links : (s.modCore p l f).links = s.links := rfl
@[simp] theorem State.modCore_stackPorts : (s.modCore p l f).stackPorts = s.stackPorts := rfl
@[simp] theorem State.modCore_regions : (s.modCore p l f).regions = s.regions := rfl
@[simp] theorem State.modCore_hbm : (s.modCore p l f).hbm = s.hbm := rfl
@[simp] theorem State.modCore_dieTime : (s.modCore p l f).dieTime = s.dieTime := rfl
@[simp] theorem State.modCore_half : (s.modCore p l f).half = s.half := rfl
@[simp] theorem State.modCore_phase : (s.modCore p l f).phase = s.phase := rfl
@[simp] theorem State.modCore_pwrOk : (s.modCore p l f).pwrOk = s.pwrOk := rfl
@[simp] theorem State.modCore_rstN : (s.modCore p l f).rstN = s.rstN := rfl
@[simp] theorem State.modCore_warm : (s.modCore p l f).warm = s.warm := rfl
@[simp] theorem State.modCore_rampMax : (s.modCore p l f).rampMax = s.rampMax := rfl
@[simp] theorem State.modCore_pll : (s.modCore p l f).pll = s.pll := rfl
@[simp] theorem State.modCore_straps : (s.modCore p l f).straps = s.straps := rfl
@[simp] theorem State.modCore_bridges : (s.modCore p l f).bridges = s.bridges := rfl
@[simp] theorem State.modCore_hubBridges : (s.modCore p l f).hubBridges = s.hubBridges := rfl
@[simp] theorem State.modCore_grade : (s.modCore p l f).grade = s.grade := rfl
@[simp] theorem State.modCore_plive : (s.modCore p l f).plive = s.plive := rfl
@[simp] theorem State.modCore_build : (s.modCore p l f).build = s.build := rfl
@[simp] theorem State.modCore_fuses : (s.modCore p l f).fuses = s.fuses := rfl
@[simp] theorem State.modCore_fuseCopy : (s.modCore p l f).fuseCopy = s.fuseCopy := rfl
@[simp] theorem State.modCore_tmpSeed : (s.modCore p l f).tmpSeed = s.tmpSeed := rfl
@[simp] theorem State.modCore_idPub : (s.modCore p l f).idPub = s.idPub := rfl
@[simp] theorem State.modCore_kaPub : (s.modCore p l f).kaPub = s.kaPub := rfl
@[simp] theorem State.modCore_auth : (s.modCore p l f).auth = s.auth := rfl
@[simp] theorem State.modCore_secQ : (s.modCore p l f).secQ = s.secQ := rfl
@[simp] theorem State.modCore_devNum : (s.modCore p l f).devNum = s.devNum := rfl
@[simp] theorem State.modCore_minEp : (s.modCore p l f).minEp = s.minEp := rfl
@[simp] theorem State.modCore_cert : (s.modCore p l f).cert = s.cert := rfl
@[simp] theorem State.modCore_routes : (s.modCore p l f).routes = s.routes := rfl
@[simp] theorem State.modCore_capOff : (s.modCore p l f).capOff = s.capOff := rfl
@[simp] theorem State.modCore_capCode : (s.modCore p l f).capCode = s.capCode := rfl
@[simp] theorem State.modCore_capState : (s.modCore p l f).capState = s.capState := rfl
@[simp] theorem State.modCore_capMask : (s.modCore p l f).capMask = s.capMask := rfl
@[simp] theorem State.modCore_capSince : (s.modCore p l f).capSince = s.capSince := rfl
@[simp] theorem State.modCore_capHeld : (s.modCore p l f).capHeld = s.capHeld := rfl
@[simp] theorem State.modCore_capWait : (s.modCore p l f).capWait = s.capWait := rfl
@[simp] theorem State.modCore_secNow : (s.modCore p l f).secNow = s.secNow := rfl
@[simp] theorem State.modCore_tap : (s.modCore p l f).tap = s.tap := rfl
@[simp] theorem State.modCore_drbg : (s.modCore p l f).drbg = s.drbg := rfl
@[simp] theorem State.modCore_free : (s.modCore p l f).free = s.free := rfl
@[simp] theorem State.modCore_answer : (s.modCore p l f).answer = s.answer := rfl

end

section
variable (h : Fin 4) (f : Hub → Hub) (s : State)

@[simp] theorem State.modHub_pending : (s.modHub h f).pending = s.pending := rfl
@[simp] theorem State.modHub_parts : (s.modHub h f).parts = s.parts := rfl
@[simp] theorem State.modHub_links : (s.modHub h f).links = s.links := rfl
@[simp] theorem State.modHub_stackPorts : (s.modHub h f).stackPorts = s.stackPorts := rfl
@[simp] theorem State.modHub_regions : (s.modHub h f).regions = s.regions := rfl
@[simp] theorem State.modHub_hbm : (s.modHub h f).hbm = s.hbm := rfl
@[simp] theorem State.modHub_dieTime : (s.modHub h f).dieTime = s.dieTime := rfl
@[simp] theorem State.modHub_half : (s.modHub h f).half = s.half := rfl
@[simp] theorem State.modHub_phase : (s.modHub h f).phase = s.phase := rfl
@[simp] theorem State.modHub_pwrOk : (s.modHub h f).pwrOk = s.pwrOk := rfl
@[simp] theorem State.modHub_rstN : (s.modHub h f).rstN = s.rstN := rfl
@[simp] theorem State.modHub_warm : (s.modHub h f).warm = s.warm := rfl
@[simp] theorem State.modHub_rampMax : (s.modHub h f).rampMax = s.rampMax := rfl
@[simp] theorem State.modHub_pll : (s.modHub h f).pll = s.pll := rfl
@[simp] theorem State.modHub_straps : (s.modHub h f).straps = s.straps := rfl
@[simp] theorem State.modHub_bridges : (s.modHub h f).bridges = s.bridges := rfl
@[simp] theorem State.modHub_hubBridges : (s.modHub h f).hubBridges = s.hubBridges := rfl
@[simp] theorem State.modHub_grade : (s.modHub h f).grade = s.grade := rfl
@[simp] theorem State.modHub_plive : (s.modHub h f).plive = s.plive := rfl
@[simp] theorem State.modHub_build : (s.modHub h f).build = s.build := rfl
@[simp] theorem State.modHub_fuses : (s.modHub h f).fuses = s.fuses := rfl
@[simp] theorem State.modHub_fuseCopy : (s.modHub h f).fuseCopy = s.fuseCopy := rfl
@[simp] theorem State.modHub_tmpSeed : (s.modHub h f).tmpSeed = s.tmpSeed := rfl
@[simp] theorem State.modHub_idPub : (s.modHub h f).idPub = s.idPub := rfl
@[simp] theorem State.modHub_kaPub : (s.modHub h f).kaPub = s.kaPub := rfl
@[simp] theorem State.modHub_auth : (s.modHub h f).auth = s.auth := rfl
@[simp] theorem State.modHub_secQ : (s.modHub h f).secQ = s.secQ := rfl
@[simp] theorem State.modHub_devNum : (s.modHub h f).devNum = s.devNum := rfl
@[simp] theorem State.modHub_minEp : (s.modHub h f).minEp = s.minEp := rfl
@[simp] theorem State.modHub_cert : (s.modHub h f).cert = s.cert := rfl
@[simp] theorem State.modHub_routes : (s.modHub h f).routes = s.routes := rfl
@[simp] theorem State.modHub_capOff : (s.modHub h f).capOff = s.capOff := rfl
@[simp] theorem State.modHub_capCode : (s.modHub h f).capCode = s.capCode := rfl
@[simp] theorem State.modHub_capState : (s.modHub h f).capState = s.capState := rfl
@[simp] theorem State.modHub_capMask : (s.modHub h f).capMask = s.capMask := rfl
@[simp] theorem State.modHub_capSince : (s.modHub h f).capSince = s.capSince := rfl
@[simp] theorem State.modHub_capHeld : (s.modHub h f).capHeld = s.capHeld := rfl
@[simp] theorem State.modHub_capWait : (s.modHub h f).capWait = s.capWait := rfl
@[simp] theorem State.modHub_secNow : (s.modHub h f).secNow = s.secNow := rfl
@[simp] theorem State.modHub_tap : (s.modHub h f).tap = s.tap := rfl
@[simp] theorem State.modHub_drbg : (s.modHub h f).drbg = s.drbg := rfl
@[simp] theorem State.modHub_free : (s.modHub h f).free = s.free := rfl
@[simp] theorem State.modHub_answer : (s.modHub h f).answer = s.answer := rfl

end

section
variable (n : Fin 16) (f : Link → Link) (s : State)

@[simp] theorem State.modLink_pending : (s.modLink n f).pending = s.pending := rfl
@[simp] theorem State.modLink_parts : (s.modLink n f).parts = s.parts := rfl
@[simp] theorem State.modLink_hubs : (s.modLink n f).hubs = s.hubs := rfl
@[simp] theorem State.modLink_stackPorts : (s.modLink n f).stackPorts = s.stackPorts := rfl
@[simp] theorem State.modLink_regions : (s.modLink n f).regions = s.regions := rfl
@[simp] theorem State.modLink_hbm : (s.modLink n f).hbm = s.hbm := rfl
@[simp] theorem State.modLink_dieTime : (s.modLink n f).dieTime = s.dieTime := rfl
@[simp] theorem State.modLink_half : (s.modLink n f).half = s.half := rfl
@[simp] theorem State.modLink_phase : (s.modLink n f).phase = s.phase := rfl
@[simp] theorem State.modLink_pwrOk : (s.modLink n f).pwrOk = s.pwrOk := rfl
@[simp] theorem State.modLink_rstN : (s.modLink n f).rstN = s.rstN := rfl
@[simp] theorem State.modLink_warm : (s.modLink n f).warm = s.warm := rfl
@[simp] theorem State.modLink_rampMax : (s.modLink n f).rampMax = s.rampMax := rfl
@[simp] theorem State.modLink_pll : (s.modLink n f).pll = s.pll := rfl
@[simp] theorem State.modLink_straps : (s.modLink n f).straps = s.straps := rfl
@[simp] theorem State.modLink_bridges : (s.modLink n f).bridges = s.bridges := rfl
@[simp] theorem State.modLink_hubBridges : (s.modLink n f).hubBridges = s.hubBridges := rfl
@[simp] theorem State.modLink_grade : (s.modLink n f).grade = s.grade := rfl
@[simp] theorem State.modLink_plive : (s.modLink n f).plive = s.plive := rfl
@[simp] theorem State.modLink_build : (s.modLink n f).build = s.build := rfl
@[simp] theorem State.modLink_fuses : (s.modLink n f).fuses = s.fuses := rfl
@[simp] theorem State.modLink_fuseCopy : (s.modLink n f).fuseCopy = s.fuseCopy := rfl
@[simp] theorem State.modLink_tmpSeed : (s.modLink n f).tmpSeed = s.tmpSeed := rfl
@[simp] theorem State.modLink_idPub : (s.modLink n f).idPub = s.idPub := rfl
@[simp] theorem State.modLink_kaPub : (s.modLink n f).kaPub = s.kaPub := rfl
@[simp] theorem State.modLink_auth : (s.modLink n f).auth = s.auth := rfl
@[simp] theorem State.modLink_secQ : (s.modLink n f).secQ = s.secQ := rfl
@[simp] theorem State.modLink_devNum : (s.modLink n f).devNum = s.devNum := rfl
@[simp] theorem State.modLink_minEp : (s.modLink n f).minEp = s.minEp := rfl
@[simp] theorem State.modLink_cert : (s.modLink n f).cert = s.cert := rfl
@[simp] theorem State.modLink_routes : (s.modLink n f).routes = s.routes := rfl
@[simp] theorem State.modLink_capOff : (s.modLink n f).capOff = s.capOff := rfl
@[simp] theorem State.modLink_capCode : (s.modLink n f).capCode = s.capCode := rfl
@[simp] theorem State.modLink_capState : (s.modLink n f).capState = s.capState := rfl
@[simp] theorem State.modLink_capMask : (s.modLink n f).capMask = s.capMask := rfl
@[simp] theorem State.modLink_capSince : (s.modLink n f).capSince = s.capSince := rfl
@[simp] theorem State.modLink_capHeld : (s.modLink n f).capHeld = s.capHeld := rfl
@[simp] theorem State.modLink_capWait : (s.modLink n f).capWait = s.capWait := rfl
@[simp] theorem State.modLink_secNow : (s.modLink n f).secNow = s.secNow := rfl
@[simp] theorem State.modLink_tap : (s.modLink n f).tap = s.tap := rfl
@[simp] theorem State.modLink_drbg : (s.modLink n f).drbg = s.drbg := rfl
@[simp] theorem State.modLink_free : (s.modLink n f).free = s.free := rfl
@[simp] theorem State.modLink_answer : (s.modLink n f).answer = s.answer := rfl

end

section
variable (d : Fin 24) (f : Stack → Stack) (s : State)

@[simp] theorem State.modStack_pending : (s.modStack d f).pending = s.pending := rfl
@[simp] theorem State.modStack_parts : (s.modStack d f).parts = s.parts := rfl
@[simp] theorem State.modStack_hubs : (s.modStack d f).hubs = s.hubs := rfl
@[simp] theorem State.modStack_links : (s.modStack d f).links = s.links := rfl
@[simp] theorem State.modStack_regions : (s.modStack d f).regions = s.regions := rfl
@[simp] theorem State.modStack_hbm : (s.modStack d f).hbm = s.hbm := rfl
@[simp] theorem State.modStack_dieTime : (s.modStack d f).dieTime = s.dieTime := rfl
@[simp] theorem State.modStack_half : (s.modStack d f).half = s.half := rfl
@[simp] theorem State.modStack_phase : (s.modStack d f).phase = s.phase := rfl
@[simp] theorem State.modStack_pwrOk : (s.modStack d f).pwrOk = s.pwrOk := rfl
@[simp] theorem State.modStack_rstN : (s.modStack d f).rstN = s.rstN := rfl
@[simp] theorem State.modStack_warm : (s.modStack d f).warm = s.warm := rfl
@[simp] theorem State.modStack_rampMax : (s.modStack d f).rampMax = s.rampMax := rfl
@[simp] theorem State.modStack_pll : (s.modStack d f).pll = s.pll := rfl
@[simp] theorem State.modStack_straps : (s.modStack d f).straps = s.straps := rfl
@[simp] theorem State.modStack_bridges : (s.modStack d f).bridges = s.bridges := rfl
@[simp] theorem State.modStack_hubBridges : (s.modStack d f).hubBridges = s.hubBridges := rfl
@[simp] theorem State.modStack_grade : (s.modStack d f).grade = s.grade := rfl
@[simp] theorem State.modStack_plive : (s.modStack d f).plive = s.plive := rfl
@[simp] theorem State.modStack_build : (s.modStack d f).build = s.build := rfl
@[simp] theorem State.modStack_fuses : (s.modStack d f).fuses = s.fuses := rfl
@[simp] theorem State.modStack_fuseCopy : (s.modStack d f).fuseCopy = s.fuseCopy := rfl
@[simp] theorem State.modStack_tmpSeed : (s.modStack d f).tmpSeed = s.tmpSeed := rfl
@[simp] theorem State.modStack_idPub : (s.modStack d f).idPub = s.idPub := rfl
@[simp] theorem State.modStack_kaPub : (s.modStack d f).kaPub = s.kaPub := rfl
@[simp] theorem State.modStack_auth : (s.modStack d f).auth = s.auth := rfl
@[simp] theorem State.modStack_secQ : (s.modStack d f).secQ = s.secQ := rfl
@[simp] theorem State.modStack_devNum : (s.modStack d f).devNum = s.devNum := rfl
@[simp] theorem State.modStack_minEp : (s.modStack d f).minEp = s.minEp := rfl
@[simp] theorem State.modStack_cert : (s.modStack d f).cert = s.cert := rfl
@[simp] theorem State.modStack_routes : (s.modStack d f).routes = s.routes := rfl
@[simp] theorem State.modStack_capOff : (s.modStack d f).capOff = s.capOff := rfl
@[simp] theorem State.modStack_capCode : (s.modStack d f).capCode = s.capCode := rfl
@[simp] theorem State.modStack_capState : (s.modStack d f).capState = s.capState := rfl
@[simp] theorem State.modStack_capMask : (s.modStack d f).capMask = s.capMask := rfl
@[simp] theorem State.modStack_capSince : (s.modStack d f).capSince = s.capSince := rfl
@[simp] theorem State.modStack_capHeld : (s.modStack d f).capHeld = s.capHeld := rfl
@[simp] theorem State.modStack_capWait : (s.modStack d f).capWait = s.capWait := rfl
@[simp] theorem State.modStack_secNow : (s.modStack d f).secNow = s.secNow := rfl
@[simp] theorem State.modStack_tap : (s.modStack d f).tap = s.tap := rfl
@[simp] theorem State.modStack_drbg : (s.modStack d f).drbg = s.drbg := rfl
@[simp] theorem State.modStack_free : (s.modStack d f).free = s.free := rfl
@[simp] theorem State.modStack_answer : (s.modStack d f).answer = s.answer := rfl

end

section
variable (r : Fin 1536) (f : Region → Region) (s : State)

@[simp] theorem State.modRegion_pending : (s.modRegion r f).pending = s.pending := rfl
@[simp] theorem State.modRegion_parts : (s.modRegion r f).parts = s.parts := rfl
@[simp] theorem State.modRegion_hubs : (s.modRegion r f).hubs = s.hubs := rfl
@[simp] theorem State.modRegion_links : (s.modRegion r f).links = s.links := rfl
@[simp] theorem State.modRegion_stackPorts : (s.modRegion r f).stackPorts = s.stackPorts := rfl
@[simp] theorem State.modRegion_hbm : (s.modRegion r f).hbm = s.hbm := rfl
@[simp] theorem State.modRegion_dieTime : (s.modRegion r f).dieTime = s.dieTime := rfl
@[simp] theorem State.modRegion_half : (s.modRegion r f).half = s.half := rfl
@[simp] theorem State.modRegion_phase : (s.modRegion r f).phase = s.phase := rfl
@[simp] theorem State.modRegion_pwrOk : (s.modRegion r f).pwrOk = s.pwrOk := rfl
@[simp] theorem State.modRegion_rstN : (s.modRegion r f).rstN = s.rstN := rfl
@[simp] theorem State.modRegion_warm : (s.modRegion r f).warm = s.warm := rfl
@[simp] theorem State.modRegion_rampMax : (s.modRegion r f).rampMax = s.rampMax := rfl
@[simp] theorem State.modRegion_pll : (s.modRegion r f).pll = s.pll := rfl
@[simp] theorem State.modRegion_straps : (s.modRegion r f).straps = s.straps := rfl
@[simp] theorem State.modRegion_bridges : (s.modRegion r f).bridges = s.bridges := rfl
@[simp] theorem State.modRegion_hubBridges : (s.modRegion r f).hubBridges = s.hubBridges := rfl
@[simp] theorem State.modRegion_grade : (s.modRegion r f).grade = s.grade := rfl
@[simp] theorem State.modRegion_plive : (s.modRegion r f).plive = s.plive := rfl
@[simp] theorem State.modRegion_build : (s.modRegion r f).build = s.build := rfl
@[simp] theorem State.modRegion_fuses : (s.modRegion r f).fuses = s.fuses := rfl
@[simp] theorem State.modRegion_fuseCopy : (s.modRegion r f).fuseCopy = s.fuseCopy := rfl
@[simp] theorem State.modRegion_tmpSeed : (s.modRegion r f).tmpSeed = s.tmpSeed := rfl
@[simp] theorem State.modRegion_idPub : (s.modRegion r f).idPub = s.idPub := rfl
@[simp] theorem State.modRegion_kaPub : (s.modRegion r f).kaPub = s.kaPub := rfl
@[simp] theorem State.modRegion_auth : (s.modRegion r f).auth = s.auth := rfl
@[simp] theorem State.modRegion_secQ : (s.modRegion r f).secQ = s.secQ := rfl
@[simp] theorem State.modRegion_devNum : (s.modRegion r f).devNum = s.devNum := rfl
@[simp] theorem State.modRegion_minEp : (s.modRegion r f).minEp = s.minEp := rfl
@[simp] theorem State.modRegion_cert : (s.modRegion r f).cert = s.cert := rfl
@[simp] theorem State.modRegion_routes : (s.modRegion r f).routes = s.routes := rfl
@[simp] theorem State.modRegion_capOff : (s.modRegion r f).capOff = s.capOff := rfl
@[simp] theorem State.modRegion_capCode : (s.modRegion r f).capCode = s.capCode := rfl
@[simp] theorem State.modRegion_capState : (s.modRegion r f).capState = s.capState := rfl
@[simp] theorem State.modRegion_capMask : (s.modRegion r f).capMask = s.capMask := rfl
@[simp] theorem State.modRegion_capSince : (s.modRegion r f).capSince = s.capSince := rfl
@[simp] theorem State.modRegion_capHeld : (s.modRegion r f).capHeld = s.capHeld := rfl
@[simp] theorem State.modRegion_capWait : (s.modRegion r f).capWait = s.capWait := rfl
@[simp] theorem State.modRegion_secNow : (s.modRegion r f).secNow = s.secNow := rfl
@[simp] theorem State.modRegion_tap : (s.modRegion r f).tap = s.tap := rfl
@[simp] theorem State.modRegion_drbg : (s.modRegion r f).drbg = s.drbg := rfl
@[simp] theorem State.modRegion_free : (s.modRegion r f).free = s.free := rfl
@[simp] theorem State.modRegion_answer : (s.modRegion r f).answer = s.answer := rfl

end

section
variable (s : State)

@[simp] theorem State.drawn_pending : s.drawn.pending = s.pending := rfl
@[simp] theorem State.drawn_parts : s.drawn.parts = s.parts := rfl
@[simp] theorem State.drawn_hubs : s.drawn.hubs = s.hubs := rfl
@[simp] theorem State.drawn_links : s.drawn.links = s.links := rfl
@[simp] theorem State.drawn_stackPorts : s.drawn.stackPorts = s.stackPorts := rfl
@[simp] theorem State.drawn_regions : s.drawn.regions = s.regions := rfl
@[simp] theorem State.drawn_hbm : s.drawn.hbm = s.hbm := rfl
@[simp] theorem State.drawn_dieTime : s.drawn.dieTime = s.dieTime := rfl
@[simp] theorem State.drawn_half : s.drawn.half = s.half := rfl
@[simp] theorem State.drawn_phase : s.drawn.phase = s.phase := rfl
@[simp] theorem State.drawn_pwrOk : s.drawn.pwrOk = s.pwrOk := rfl
@[simp] theorem State.drawn_rstN : s.drawn.rstN = s.rstN := rfl
@[simp] theorem State.drawn_warm : s.drawn.warm = s.warm := rfl
@[simp] theorem State.drawn_rampMax : s.drawn.rampMax = s.rampMax := rfl
@[simp] theorem State.drawn_pll : s.drawn.pll = s.pll := rfl
@[simp] theorem State.drawn_straps : s.drawn.straps = s.straps := rfl
@[simp] theorem State.drawn_bridges : s.drawn.bridges = s.bridges := rfl
@[simp] theorem State.drawn_hubBridges : s.drawn.hubBridges = s.hubBridges := rfl
@[simp] theorem State.drawn_grade : s.drawn.grade = s.grade := rfl
@[simp] theorem State.drawn_plive : s.drawn.plive = s.plive := rfl
@[simp] theorem State.drawn_build : s.drawn.build = s.build := rfl
@[simp] theorem State.drawn_fuses : s.drawn.fuses = s.fuses := rfl
@[simp] theorem State.drawn_fuseCopy : s.drawn.fuseCopy = s.fuseCopy := rfl
@[simp] theorem State.drawn_tmpSeed : s.drawn.tmpSeed = s.tmpSeed := rfl
@[simp] theorem State.drawn_idPub : s.drawn.idPub = s.idPub := rfl
@[simp] theorem State.drawn_kaPub : s.drawn.kaPub = s.kaPub := rfl
@[simp] theorem State.drawn_auth : s.drawn.auth = s.auth := rfl
@[simp] theorem State.drawn_secQ : s.drawn.secQ = s.secQ := rfl
@[simp] theorem State.drawn_devNum : s.drawn.devNum = s.devNum := rfl
@[simp] theorem State.drawn_minEp : s.drawn.minEp = s.minEp := rfl
@[simp] theorem State.drawn_cert : s.drawn.cert = s.cert := rfl
@[simp] theorem State.drawn_routes : s.drawn.routes = s.routes := rfl
@[simp] theorem State.drawn_capOff : s.drawn.capOff = s.capOff := rfl
@[simp] theorem State.drawn_capCode : s.drawn.capCode = s.capCode := rfl
@[simp] theorem State.drawn_capState : s.drawn.capState = s.capState := rfl
@[simp] theorem State.drawn_capMask : s.drawn.capMask = s.capMask := rfl
@[simp] theorem State.drawn_capSince : s.drawn.capSince = s.capSince := rfl
@[simp] theorem State.drawn_capHeld : s.drawn.capHeld = s.capHeld := rfl
@[simp] theorem State.drawn_capWait : s.drawn.capWait = s.capWait := rfl
@[simp] theorem State.drawn_secNow : s.drawn.secNow = s.secNow := rfl
@[simp] theorem State.drawn_tap : s.drawn.tap = s.tap := rfl
@[simp] theorem State.drawn_drbg : s.drawn.drbg = s.drbg := rfl
@[simp] theorem State.drawn_answer : s.drawn.answer = s.answer := rfl

end

section
variable (st : Code) (d : W32) (s : State)

@[simp] theorem State.answered_pending : (s.answered st d).pending = s.pending := rfl
@[simp] theorem State.answered_parts : (s.answered st d).parts = s.parts := rfl
@[simp] theorem State.answered_hubs : (s.answered st d).hubs = s.hubs := rfl
@[simp] theorem State.answered_links : (s.answered st d).links = s.links := rfl
@[simp] theorem State.answered_stackPorts : (s.answered st d).stackPorts = s.stackPorts := rfl
@[simp] theorem State.answered_regions : (s.answered st d).regions = s.regions := rfl
@[simp] theorem State.answered_hbm : (s.answered st d).hbm = s.hbm := rfl
@[simp] theorem State.answered_dieTime : (s.answered st d).dieTime = s.dieTime := rfl
@[simp] theorem State.answered_half : (s.answered st d).half = s.half := rfl
@[simp] theorem State.answered_phase : (s.answered st d).phase = s.phase := rfl
@[simp] theorem State.answered_pwrOk : (s.answered st d).pwrOk = s.pwrOk := rfl
@[simp] theorem State.answered_rstN : (s.answered st d).rstN = s.rstN := rfl
@[simp] theorem State.answered_warm : (s.answered st d).warm = s.warm := rfl
@[simp] theorem State.answered_rampMax : (s.answered st d).rampMax = s.rampMax := rfl
@[simp] theorem State.answered_pll : (s.answered st d).pll = s.pll := rfl
@[simp] theorem State.answered_straps : (s.answered st d).straps = s.straps := rfl
@[simp] theorem State.answered_bridges : (s.answered st d).bridges = s.bridges := rfl
@[simp] theorem State.answered_hubBridges : (s.answered st d).hubBridges = s.hubBridges := rfl
@[simp] theorem State.answered_grade : (s.answered st d).grade = s.grade := rfl
@[simp] theorem State.answered_plive : (s.answered st d).plive = s.plive := rfl
@[simp] theorem State.answered_build : (s.answered st d).build = s.build := rfl
@[simp] theorem State.answered_fuses : (s.answered st d).fuses = s.fuses := rfl
@[simp] theorem State.answered_fuseCopy : (s.answered st d).fuseCopy = s.fuseCopy := rfl
@[simp] theorem State.answered_tmpSeed : (s.answered st d).tmpSeed = s.tmpSeed := rfl
@[simp] theorem State.answered_idPub : (s.answered st d).idPub = s.idPub := rfl
@[simp] theorem State.answered_kaPub : (s.answered st d).kaPub = s.kaPub := rfl
@[simp] theorem State.answered_auth : (s.answered st d).auth = s.auth := rfl
@[simp] theorem State.answered_secQ : (s.answered st d).secQ = s.secQ := rfl
@[simp] theorem State.answered_devNum : (s.answered st d).devNum = s.devNum := rfl
@[simp] theorem State.answered_minEp : (s.answered st d).minEp = s.minEp := rfl
@[simp] theorem State.answered_cert : (s.answered st d).cert = s.cert := rfl
@[simp] theorem State.answered_routes : (s.answered st d).routes = s.routes := rfl
@[simp] theorem State.answered_capOff : (s.answered st d).capOff = s.capOff := rfl
@[simp] theorem State.answered_capCode : (s.answered st d).capCode = s.capCode := rfl
@[simp] theorem State.answered_capState : (s.answered st d).capState = s.capState := rfl
@[simp] theorem State.answered_capMask : (s.answered st d).capMask = s.capMask := rfl
@[simp] theorem State.answered_capSince : (s.answered st d).capSince = s.capSince := rfl
@[simp] theorem State.answered_capHeld : (s.answered st d).capHeld = s.capHeld := rfl
@[simp] theorem State.answered_capWait : (s.answered st d).capWait = s.capWait := rfl
@[simp] theorem State.answered_secNow : (s.answered st d).secNow = s.secNow := rfl
@[simp] theorem State.answered_tap : (s.answered st d).tap = s.tap := rfl
@[simp] theorem State.answered_drbg : (s.answered st d).drbg = s.drbg := rfl
@[simp] theorem State.answered_free : (s.answered st d).free = s.free := rfl

end


@[simp] theorem State.part_modPart (p : Fin 12) (f : Part → Part) (s : State) :
    (s.modPart p f).part p = f (s.part p) := by
  simp [State.part, State.modPart]

theorem State.part_modPart_ne (p q : Fin 12) (f : Part → Part) (s : State) (h : p ≠ q) :
    (s.modPart p f).part q = s.part q := by
  have : p.val ≠ q.val := fun e => h (Fin.ext e)
  simp [State.part, State.modPart, Vector.getElem_set_ne, this]

@[simp] theorem State.core_modCore (p : Fin 12) (l : Fin 32) (f : Core → Core) (s : State) :
    (s.modCore p l f).core p l = f (s.core p l) := by
  simp [State.core, State.modCore, State.modPart]

theorem State.core_modCore_ne (p q : Fin 12) (l k : Fin 32) (f : Core → Core) (s : State) (h : ¬(p = q ∧ l = k)) :
    (s.modCore p l f).core q k = s.core q k := by
  by_cases e : p = q
  · subst e
    have : l.val ≠ k.val := fun e => h ⟨rfl, Fin.ext e⟩
    simp [State.core, State.modCore, State.modPart, Vector.getElem_set_ne, this]
  · have : p.val ≠ q.val := fun e' => e (Fin.ext e')
    simp [State.core, State.modCore, State.modPart, Vector.getElem_set_ne, this]

@[simp] theorem State.hub_modHub (h : Fin 4) (f : Hub → Hub) (s : State) :
    (s.modHub h f).hub h = f (s.hub h) := by
  simp [State.hub, State.modHub]

theorem State.hub_modHub_ne (h g : Fin 4) (f : Hub → Hub) (s : State) (n : h ≠ g) :
    (s.modHub h f).hub g = s.hub g := by
  have : h.val ≠ g.val := fun e => n (Fin.ext e)
  simp [State.hub, State.modHub, Vector.getElem_set_ne, this]

@[simp] theorem State.link_modLink (n : Fin 16) (f : Link → Link) (s : State) :
    (s.modLink n f).links[n] = f s.links[n] := by
  simp [State.modLink]

@[simp] theorem State.stack_modStack (d : Fin 24) (f : Stack → Stack) (s : State) :
    (s.modStack d f).stackPorts[d] = f s.stackPorts[d] := by
  simp [State.modStack]

@[simp] theorem State.region_modRegion (r : Fin 1536) (f : Region → Region) (s : State) :
    (s.modRegion r f).regions[r] = f s.regions[r] := by
  simp [State.modRegion]

/-- A draw moves the counter of free values and nothing else. -/
@[simp] theorem State.drawn_free (s : State) : s.drawn.free = s.free + 1 := rfl

@[simp] theorem State.core_drawn (s : State) (p : Fin 12) (l : Fin 32) : s.drawn.core p l = s.core p l := rfl
@[simp] theorem State.part_drawn (s : State) (p : Fin 12) : s.drawn.part p = s.part p := rfl
@[simp] theorem State.hub_drawn (s : State) (h : Fin 4) : s.drawn.hub h = s.hub h := rfl

end Sys2Proof.Machine
end

