-- ==== Sys2Proof/Laws/Log.lean ====
section
/-! SUPPORT. Events, the trouble log and the sticky flags: what each of these operations can change. -/

namespace Sys2Proof.Machine

/-- An event changes hubs only. -/
theorem State.sendEvent_frame (h : Fin 4) (kind : Nat) (code : Code) (part lop : Nat) (arg : W64) (s : State) :
    s.sendEvent h kind code part lop arg = { s with hubs := (s.sendEvent h kind code part lop arg).hubs } := by
  unfold State.sendEvent
  simp only
  split
  · rfl
  · split <;> rfl

/-- A trouble-log entry changes hubs only. -/
theorem State.logStamp_frame (h : Fin 4) (time : W64) (code : Code) (part core flags : Nat) (arg0 arg1 : W64) (s : State) :
    s.logStamp h time code part core flags arg0 arg1
      = { s with hubs := (s.logStamp h time code part core flags arg0 arg1).hubs } := by
  unfold State.logStamp
  simp only
  split
  · rw [State.sendEvent_frame]; rfl
  · rfl

/-- An entry of a core changes hubs only. -/
theorem State.logCore_frame (p : Fin 12) (l : Fin 32) (code : Code) (arg1 : W64) (s : State) :
    s.logCore p l code arg1 = { s with hubs := (s.logCore p l code arg1).hubs } :=
  State.logStamp_frame ..

@[simp] theorem State.logCore_parts (p : Fin 12) (l : Fin 32) (code : Code) (arg1 : W64) (s : State) :
    (s.logCore p l code arg1).parts = s.parts := by rw [State.logCore_frame]
@[simp] theorem State.logCore_free (p : Fin 12) (l : Fin 32) (code : Code) (arg1 : W64) (s : State) :
    (s.logCore p l code arg1).free = s.free := by rw [State.logCore_frame]
@[simp] theorem State.logCore_dieTime (p : Fin 12) (l : Fin 32) (code : Code) (arg1 : W64) (s : State) :
    (s.logCore p l code arg1).dieTime = s.dieTime := by rw [State.logCore_frame]
@[simp] theorem State.logCore_core (p q : Fin 12) (l k : Fin 32) (code : Code) (arg1 : W64) (s : State) :
    (s.logCore p l code arg1).core q k = s.core q k := by simp [State.core]
@[simp] theorem State.logCore_part (p q : Fin 12) (l : Fin 32) (code : Code) (arg1 : W64) (s : State) :
    (s.logCore p l code arg1).part q = s.part q := by simp [State.part]

theorem State.modCore_modCore (p : Fin 12) (l : Fin 32) (f g : Core → Core) (s : State) :
    (s.modCore p l f).modCore p l g = s.modCore p l fun c => g (f c) := by
  simp [State.modCore, State.modPart]

theorem State.modCore_congr (p : Fin 12) (l : Fin 32) (f g : Core → Core) (s : State) (h : f (s.core p l) = g (s.core p l)) :
    s.modCore p l f = s.modCore p l g := by
  have h' : f s.parts[p].cores[l] = g s.parts[p].cores[l] := h
  simp only [State.modCore, State.modPart, h']

theorem State.modCore_id (p : Fin 12) (l : Fin 32) (s : State) : (s.modCore p l fun c => c) = s := by
  have h : s.parts[p].cores.set l s.parts[p].cores[l] = s.parts[p].cores := Vector.set_getElem_self _
  have k : s.parts.set p s.parts[p] = s.parts := Vector.set_getElem_self _
  unfold State.modCore State.modPart
  simp only [h]
  show ({ s with parts := s.parts.set p s.parts[p] } : State) = s
  rw [k]

theorem State.CoreAndHubs.trans {p : Fin 12} {l : Fin 32} {f g : Core → Core} {s t u : State}
    (h : State.CoreAndHubs p l f s t) (k : State.CoreAndHubs p l g t u) :
    State.CoreAndHubs p l (fun c => g (f c)) s u := by
  unfold State.CoreAndHubs at *
  rw [k, h]
  simp [State.modCore, State.modPart]

theorem State.CoreAndHubs.core {p : Fin 12} {l : Fin 32} {f : Core → Core} {s t : State}
    (h : State.CoreAndHubs p l f s t) : t.core p l = f (s.core p l) := by
  unfold State.CoreAndHubs at h
  rw [h]
  exact State.core_modCore p l f s

theorem State.CoreAndHubs.rfl' (p : Fin 12) (l : Fin 32) (s : State) : State.CoreAndHubs p l (fun c => c) s s := by
  unfold State.CoreAndHubs
  rw [State.modCore_id]

/-- GRID_FLAGS (R67): one bit sets, with a trouble-log entry when it was 0. -/
theorem State.setGridFlag_spec (p : Fin 12) (l : Fin 32) (i : Nat) (code : Code) (s : State) :
    State.CoreAndHubs p l (fun c => { c with gridFlags := c.gridFlags ||| BitVec.ofNat 7 (2 ^ i) }) s
      (s.setGridFlag p l i code) := by
  unfold State.setGridFlag State.CoreAndHubs
  simp only
  split
  · rfl
  · rw [State.logCore_frame]

/-- FINF (R151). -/
theorem State.setFinf_spec (p : Fin 12) (l : Fin 32) (s : State) :
    State.CoreAndHubs p l (fun c => { c with vecFlags := c.vecFlags ||| 2 }) s (s.setFinf p l) := by
  unfold State.setFinf State.CoreAndHubs
  simp only
  split
  · rfl
  · rw [State.logCore_frame]

theorem State.gridFlagIf_spec (p : Fin 12) (l : Fin 32) (on : Bool) (i : Nat) (code : Code) (s : State) :
    State.CoreAndHubs p l (Core.gridFlag on i) s (if on then s.setGridFlag p l i code else s) := by
  cases on
  · exact State.CoreAndHubs.rfl' p l s
  · exact State.setGridFlag_spec p l i code s

theorem State.convAdd_spec (p : Fin 12) (l : Fin 32) (fx : ConvFx) (s : State) :
    State.CoreAndHubs p l (Core.convAdd fx) s
      (if fx.cnt = 0 then s else s.modCore p l fun c => { c with convCnt := satAdd c.convCnt fx.cnt }) := by
  by_cases h : fx.cnt = 0
  · simp only [h, if_true]
    have : Core.convAdd fx = fun c => c := by funext c; simp [Core.convAdd, h]
    rw [this]; exact State.CoreAndHubs.rfl' p l s
  · simp only [h, if_false]
    have : Core.convAdd fx = fun c => { c with convCnt := satAdd c.convCnt fx.cnt } := by
      funext c; simp [Core.convAdd, h]
    rw [this]; rfl

/-- Conversions count and flag (R53, R54, R66, R67). -/
theorem State.convCount_spec (p : Fin 12) (l : Fin 32) (sc nc : Code) (fx : ConvFx) (s : State) :
    State.CoreAndHubs p l (Core.convFlags fx) s (s.convCount p l sc nc fx) :=
  ((State.convAdd_spec p l fx s).trans (State.gridFlagIf_spec p l fx.sat 4 sc _)).trans
    (State.gridFlagIf_spec p l fx.nan 5 nc _)

theorem State.finfIf_spec (p : Fin 12) (l : Fin 32) (on : Bool) (s : State) :
    State.CoreAndHubs p l (Core.finfFlag on) s (if on then s.setFinf p l else s) := by
  cases on
  · exact State.CoreAndHubs.rfl' p l s
  · exact State.setFinf_spec p l s

/-- The active lanes of a float instruction count conversions and raise FINF; nothing else of the block
changes but the hubs' logs and events. -/
theorem State.laneEffects_spec (p : Fin 12) (l : Fin 32) (outs : List LaneOut) (s : State) :
    State.CoreAndHubs p l (Core.laneFlags outs) s (s.laneEffects p l outs) :=
  (State.convCount_spec p l 0x1302 0x1303 _ s).trans (State.finfIf_spec p l _ _)

end Sys2Proof.Machine
end

