-- ==== Sys2Proof/Laws/Issue.lean ====
section
/-! SUPPORT. What the issue of an engine slot can do (R230 to R232, R446), and what the operations that
every vector instruction ends with leave as they were. -/

namespace Sys2Proof.Machine

/-- Everything `ready` says: the core takes part in its partition's task, its context may issue, and the
entry is the head, an engine slot that waits for nothing. -/
theorem State.ready_some {p : Fin 12} {l : Fin 32} {e : Engine} {x : Duet} {s : State} {en : Entry}
    (h : s.ready p l e x = some en) :
    s.alive p l = true ∧ ((s.core p l).ctx e x).head = some en ∧ en.sync = false := by
  unfold State.ready at h
  simp only at h
  split at h
  · rename_i hr
    simp only [State.engRuns, State.runs, Bool.and_eq_true, Bool.or_eq_true] at hr
    split at h
    · rename_i en' he
      split at h
      · cases h
      · rename_i hs
        simp only [Option.some.injEq] at h
        subst h
        simp only [Bool.or_eq_true, not_or, Bool.not_eq_true] at hs
        exact ⟨hr.1.1.elim And.left fun h => h.1.1, he, hs.1⟩
    · cases h
  · cases h

/-- A core that takes part in a task is not in a partition that aborts. -/
theorem State.alive_abort {s : State} {p : Fin 12} {l : Fin 32} (h : s.alive p l = true) :
    (s.part p).abort = none := by
  unfold State.alive at h
  simp only [Bool.and_eq_true] at h
  simpa using h.1.1.2

/-- With nothing found, the account of cycles changes nothing else of a core. -/
theorem Core.account_clean (e : Engine) (x : Duet) (w : Slot) (stays : Bool) (c probe c' : Core) :
    Core.account e x w .clean stays c probe c' = { c' with timing := (Core.account e x w .clean stays c probe c').timing } := rfl

/-- With nothing found, the audit reports nothing. -/
theorem State.hazard_clean (p : Fin 12) (l : Fin 32) (e : Engine) (s : State) : s.hazard p l e .clean = s := rfl

/-- The issue of the instruction wanted, with nothing found: `tm` is the account of cycles it leaves. -/
theorem State.issueBy_done {p : Fin 12} {l : Fin 32} {e : Engine} {x : Duet} {code : Code} {want : Slot → Bool}
    {run : Entry → State → State → Issued} {s s' : State} {en : Entry} (hr : s.ready p l e x = some en)
    (hw : want en.word = true) (hf : run en s s = .done s') :
    ∃ tm : Timing, s.issueBy p l e x .clean code want run
      = (s'.modCore p l fun c => { c with timing := tm }).advance p l e x := by
  refine ⟨(Core.account e x en.word .clean false (s.core p l)
    ((run en s (s.modCore p l Core.inverted)).state.core p l) (s'.core p l)).timing, ?_⟩
  unfold State.issueBy
  simp only [hr, hw, if_true, reduceCtorEq, if_false, State.hazard_clean, foundEarly, State.seen, hf]
  exact congrArg (State.advance p l e x) (State.modCore_congr p l _ _ s' (Core.account_clean ..))

/-- An instruction that stays at the head of its context. -/
theorem State.issueBy_stay {p : Fin 12} {l : Fin 32} {e : Engine} {x : Duet} {code : Code} {want : Slot → Bool}
    {run : Entry → State → State → Issued} {s s' : State} {en : Entry} (hr : s.ready p l e x = some en)
    (hw : want en.word = true) (hf : run en s s = .stay s') :
    ∃ tm : Timing, s.issueBy p l e x .clean code want run = s'.modCore p l fun c => { c with timing := tm } := by
  refine ⟨(Core.account e x en.word .clean true (s.core p l)
    ((run en s (s.modCore p l Core.inverted)).state.core p l) (s'.core p l)).timing, ?_⟩
  unfold State.issueBy
  simp only [hr, hw, if_true, reduceCtorEq, if_false, State.hazard_clean, foundEarly, State.seen, hf]
  exact State.modCore_congr p l _ _ s' (Core.account_clean ..)

/-- `issueBy_done` for the instructions that read and write one state. -/
theorem State.issue_done {p : Fin 12} {l : Fin 32} {e : Engine} {x : Duet} {code : Code} {want : Slot → Bool}
    {f : Entry → State → Issued} {s s' : State} {en : Entry} (hr : s.ready p l e x = some en)
    (hw : want en.word = true) (hf : f en s = .done s') :
    ∃ tm : Timing, s.issue p l e x .clean code want f
      = (s'.modCore p l fun c => { c with timing := tm }).advance p l e x :=
  State.issueBy_done hr hw (by simp [State.borrow, foundEarly, hf])

/-- `issueBy_stay` for the instructions that read and write one state. -/
theorem State.issue_stay {p : Fin 12} {l : Fin 32} {e : Engine} {x : Duet} {code : Code} {want : Slot → Bool}
    {f : Entry → State → Issued} {s s' : State} {en : Entry} (hr : s.ready p l e x = some en)
    (hw : want en.word = true) (hf : f en s = .stay s') :
    ∃ tm : Timing, s.issue p l e x .clean code want f = s'.modCore p l fun c => { c with timing := tm } :=
  State.issueBy_stay hr hw (by simp [State.borrow, foundEarly, hf])

/-- An engine that finds another entry, or none, at the head spins (R232). -/
theorem State.issue_spins {p : Fin 12} {l : Fin 32} {e : Engine} {x : Duet} {found : Found} {code : Code}
    {want : Slot → Bool} {f : Entry → State → Issued} {s : State} (h : s.ready p l e x = none) :
    s.issue p l e x found code want f = s := by
  simp [State.issue, State.issueBy, h]

/-- The head entry leaves its context, which becomes the current one. -/
theorem State.advance_eq {p : Fin 12} {l : Fin 32} {e : Engine} {x : Duet} {s : State} {en : Entry}
    (ha : (s.part p).abort = none) (hh : ((s.core p l).ctx e x).head = some en) :
    s.advance p l e x = s.modCore p l fun c =>
      { c.modCtx e x (fun k => k.pop s.now en) with current := vset c.current (engNo e) x } := by
  simp [State.advance, ha, hh]

/-- A change of a core does not see the hubs or the counter of free values. -/
theorem State.modCore_beside (p : Fin 12) (l : Fin 32) (f : Core → Core) (hs : Vector Hub 4) (n : Nat) (s : State) :
    State.modCore p l f { s with hubs := hs, free := n } = { s.modCore p l f with hubs := hs, free := n } := rfl

/-- The end of an issue, after a run that changed the core by g and, beside it, only the hubs and the counter of free
values: the core is as after the issue. -/
theorem State.issue_end {p : Fin 12} {l : Fin 32} {e : Engine} {x : Duet} {s : State} {en : Entry} {g : Core → Core} {tm : Timing}
    {hs : Vector Hub 4} {n : Nat} (hr : s.ready p l e x = some en) (hg : ((g (s.core p l)).ctx e x).head = ((s.core p l).ctx e x).head) :
    (State.modCore p l (fun c => { c with timing := tm }) { s.modCore p l g with hubs := hs, free := n }).advance p l e x
      = { (s.modCore p l fun c => Core.issued e x s.now en tm (g c)) with hubs := hs, free := n } := by
  obtain ⟨hruns, hhead, -⟩ := State.ready_some hr
  have ha := State.alive_abort hruns
  have hm := State.modCore_modCore p l g (fun c => { c with timing := tm }) s
  rw [State.modCore_beside, hm, State.advance_eq (en := en)]
  · rw [State.modCore_beside, State.modCore_modCore]
    have hn : State.now { (s.modCore p l fun c => { g c with timing := tm }) with hubs := hs, free := n } = s.now := rfl
    rw [hn, State.modCore_congr p l _ (fun c => Core.issued e x s.now en tm (g c))]
    generalize g (s.core p l) = c
    simp only [Core.issued, Core.modCtx, Core.ctx]
  · show ((s.modCore p l fun c => { g c with timing := tm }).part p).abort = none
    simpa [State.modCore, State.modPart, State.part] using ha
  · show (((s.modCore p l fun c => { g c with timing := tm }).core p l).ctx e x).head = some en
    rw [State.core_modCore]
    show ((g (s.core p l)).ctx e x).head = some en
    exact hg.trans hhead

/-- An instruction that changes its core by g, and beside it only the hubs and the counter of free values. -/
theorem State.issue_core {p : Fin 12} {l : Fin 32} {e : Engine} {x : Duet} {code : Code} {want : Slot → Bool}
    {f : Entry → State → Issued} {g : Core → Core} {s : State} {en : Entry} {hs : Vector Hub 4} {n : Nat}
    (hr : s.ready p l e x = some en) (hw : want en.word = true)
    (hf : f en s = .done { s.modCore p l g with hubs := hs, free := n }) (hg : ((g (s.core p l)).ctx e x).head = ((s.core p l).ctx e x).head) :
    ∃ tm : Timing, s.issue p l e x .clean code want f
      = { (s.modCore p l fun c => Core.issued e x s.now en tm (g c)) with hubs := hs, free := n } := by
  obtain ⟨tm, h⟩ := State.issue_done (code := code) hr hw hf
  exact ⟨tm, h.trans (State.issue_end hr hg)⟩

/-- Lines that the array held back change only the queues between the engines, and the array's account of cycles. -/
theorem Core.refill_frame (n : Nat) (c : Core) :
    Core.refill n c = { c with drainQ := (Core.refill n c).drainQ, storeQ := (Core.refill n c).storeQ,
                               draining := (Core.refill n c).draining, timing := (Core.refill n c).timing } := by
  induction n generalizing c with
  | zero => rfl
  | succ n ih =>
    unfold Core.refill
    split
    · rfl
    · simp only
      split
      · split
        · rw [ih]
        · rfl
      · split
        · rw [ih]
        · rfl

@[simp] theorem Core.refill_eng (n : Nat) (c : Core) : (Core.refill n c).eng = c.eng := by rw [Core.refill_frame]
@[simp] theorem Core.refill_vctx (n : Nat) (c : Core) : (Core.refill n c).vctx = c.vctx := by rw [Core.refill_frame]
@[simp] theorem Core.refill_ocache (n : Nat) (c : Core) : (Core.refill n c).ocache = c.ocache := by
  rw [Core.refill_frame]

/-- An instruction that no fault ends loses nothing. -/
theorem State.lostIf_same {p : Fin 12} {l : Fin 32} {f : (Nat → W32) → Core → Core} {s s' : State} (h : (s'.part p).abort = (s.part p).abort) :
    s.lostIf p l f s' = s' := by
  unfold State.lostIf
  rw [h]
  cases (s.part p).abort <;> rfl

theorem State.abort_modCore (p : Fin 12) (l : Fin 32) (f : Core → Core) (s : State) : ((s.modCore p l f).part p).abort = (s.part p).abort := by
  simp [State.modCore, State.modPart, State.part]

end Sys2Proof.Machine
end

