-- ==== Sys2Proof/Laws/Memory.lean ====
section
/-! SUPPORT. Sparse tables and memories: reading after a write, and that every operation keeps the
canonical form. -/

namespace Sys2Proof.Machine

section
variable {α : Type}

theorem Sparse.get_insert (d : α) (k : Nat) (v : α) (m : Sparse α) (j : Nat) :
    Sparse.get d (Sparse.insert k v m) j = if j = k then v else Sparse.get d m j := by
  induction m with
  | nil => simp [Sparse.insert, Sparse.get, eq_comm]
  | cons e t ih =>
    obtain ⟨k', v'⟩ := e
    simp only [Sparse.insert]
    split
    · subst k'
      by_cases h : j = k
      · simp [Sparse.get, h]
      · have h' : k ≠ j := fun e => h e.symm
        simp [Sparse.get, h, h']
    · split
      · by_cases h : j = k
        · simp [Sparse.get, h]
        · have h' : k ≠ j := fun e => h e.symm
          simp [Sparse.get, h, h']
      · by_cases h : k' = j
        · subst h; simp [Sparse.get, *]
        · simp [Sparse.get, h, ih]

theorem Sparse.get_drop (d : α) (k : Nat) (m : Sparse α) (j : Nat) :
    Sparse.get d (Sparse.drop k m) j = if j = k then d else Sparse.get d m j := by
  induction m with
  | nil => simp [Sparse.drop, Sparse.get]
  | cons e t ih =>
    obtain ⟨k', v'⟩ := e
    simp only [Sparse.drop]
    split
    · subst k'; rw [ih]; by_cases h : j = k
      · simp [h]
      · have h' : k ≠ j := fun e => h e.symm
        simp [h, h', Sparse.get]
    · by_cases h : k' = j
      · subst h; simp [Sparse.get, *]
      · simp [Sparse.get, h, ih]

/-- A read after a write. -/
theorem Sparse.get_put [DecidableEq α] (d : α) (k : Nat) (v : α) (m : Sparse α) (j : Nat) :
    Sparse.get d (Sparse.put d k v m) j = if j = k then v else Sparse.get d m j := by
  unfold Sparse.put
  split
  · subst v; exact Sparse.get_drop d k m j
  · exact Sparse.get_insert d k v m j

theorem Sparse.wfAbove_mono [DecidableEq α] (d : α) {a b : Nat} (h : a ≤ b) (m : Sparse α)
    (w : Sparse.wfAbove d b m = true) : Sparse.wfAbove d a m = true := by
  cases m with
  | nil => rfl
  | cons e t =>
    simp only [Sparse.wfAbove, Bool.and_eq_true, decide_eq_true_eq] at w ⊢
    exact ⟨⟨le_trans h w.1.1, w.1.2⟩, w.2⟩

theorem Sparse.wfAbove_insert [DecidableEq α] (d : α) (k : Nat) (v : α) (hv : v ≠ d) (m : Sparse α) (b : Nat)
    (hb : b ≤ k) (w : Sparse.wfAbove d b m = true) : Sparse.wfAbove d b (Sparse.insert k v m) = true := by
  induction m generalizing b with
  | nil => simp [Sparse.insert, Sparse.wfAbove, hb, hv]
  | cons e t ih =>
    obtain ⟨k', v'⟩ := e
    simp only [Sparse.wfAbove, Bool.and_eq_true, decide_eq_true_eq] at w
    simp only [Sparse.insert]
    split
    · subst k'; simp [Sparse.wfAbove, hb, hv, w.2]
    · split
      · have : Sparse.wfAbove d (k + 1) ((k', v') :: t) = true := by
          simp only [Sparse.wfAbove, Bool.and_eq_true, decide_eq_true_eq]; exact ⟨⟨by omega, w.1.2⟩, w.2⟩
        simp [Sparse.wfAbove, hb, hv] at this ⊢; exact this
      · simp only [Sparse.wfAbove, Bool.and_eq_true, decide_eq_true_eq]
        exact ⟨w.1, ih (k' + 1) (by omega) w.2⟩

theorem Sparse.wfAbove_drop [DecidableEq α] (d : α) (k : Nat) (m : Sparse α) (b : Nat)
    (w : Sparse.wfAbove d b m = true) : Sparse.wfAbove d b (Sparse.drop k m) = true := by
  induction m generalizing b with
  | nil => rfl
  | cons e t ih =>
    obtain ⟨k', v'⟩ := e
    simp only [Sparse.wfAbove, Bool.and_eq_true, decide_eq_true_eq] at w
    simp only [Sparse.drop]
    split
    · exact ih b (Sparse.wfAbove_mono d (by omega) t w.2)
    · simp only [Sparse.wfAbove, Bool.and_eq_true, decide_eq_true_eq]
      exact ⟨w.1, ih (k' + 1) w.2⟩

/-- A write keeps the canonical form. -/
theorem Sparse.wf_put [DecidableEq α] (d : α) (k : Nat) (v : α) (m : Sparse α) (w : Sparse.wf d m = true) :
    Sparse.wf d (Sparse.put d k v m) = true := by
  unfold Sparse.put
  split
  · exact Sparse.wfAbove_drop d k m 0 w
  · rename_i h; exact Sparse.wfAbove_insert d k v h m 0 (Nat.zero_le k) w

/-- Dropping the keys that fail a test keeps the canonical form. -/
theorem Sparse.wfAbove_filter [DecidableEq α] (d : α) (f : Nat × α → Bool) (m : Sparse α) (b : Nat)
    (w : Sparse.wfAbove d b m = true) : Sparse.wfAbove d b (m.filter f) = true := by
  induction m generalizing b with
  | nil => rfl
  | cons e t ih =>
    obtain ⟨k', v'⟩ := e
    simp only [Sparse.wfAbove, Bool.and_eq_true, decide_eq_true_eq] at w
    by_cases h : f (k', v') = true
    · simp only [List.filter_cons, h, if_true, Sparse.wfAbove, Bool.and_eq_true, decide_eq_true_eq]
      exact ⟨w.1, ih (k' + 1) w.2⟩
    · simp only [List.filter_cons, h, if_false, Bool.false_eq_true]
      exact ih b (Sparse.wfAbove_mono d (by omega) t w.2)

/-- A write puts only the value written into the table. -/
theorem Sparse.mem_put [DecidableEq α] (d : α) (k : Nat) (v : α) (m : Sparse α) (e : Nat × α)
    (h : e ∈ Sparse.put d k v m) : e = (k, v) ∨ e ∈ m := by
  unfold Sparse.put at h
  split at h
  · right
    induction m with
    | nil => exact h
    | cons a t ih =>
      obtain ⟨k', v'⟩ := a
      simp only [Sparse.drop] at h
      split at h
      · exact List.mem_cons_of_mem _ (ih h)
      · rcases List.mem_cons.1 h with h | h
        · exact h ▸ List.mem_cons_self
        · exact List.mem_cons_of_mem _ (ih h)
  · induction m with
    | nil => simp [Sparse.insert] at h; exact .inl h
    | cons a t ih =>
      obtain ⟨k', v'⟩ := a
      simp only [Sparse.insert] at h
      split at h
      · rcases List.mem_cons.1 h with h | h
        · exact .inl h
        · exact .inr (List.mem_cons_of_mem _ h)
      · split at h
        · rcases List.mem_cons.1 h with h | h
          · exact .inl h
          · exact .inr h
        · rcases List.mem_cons.1 h with h | h
          · exact .inr (h ▸ List.mem_cons_self)
          · rcases ih h with h | h
            · exact .inl h
            · exact .inr (List.mem_cons_of_mem _ h)

end

/-- The keys of a memory rise strictly. -/
theorem rising_insert (a : Nat) (b : Byte) (m : Memory) (h : (m.map Prod.fst).Pairwise (· < ·)) :
    ((Sparse.insert a b m).map Prod.fst).Pairwise (· < ·) := by
  induction m with
  | nil => simp [Sparse.insert]
  | cons e t ih =>
    obtain ⟨k, v⟩ := e
    simp only [List.map_cons, List.pairwise_cons] at h
    simp only [Sparse.insert]
    split
    · subst k; simpa using h
    · split
      · rename_i hk
        simp only [List.map_cons, List.pairwise_cons, List.mem_cons]
        exact ⟨fun x hx => hx.elim (fun e => e ▸ hk) (fun hx => hk.trans (h.1 x hx)), h⟩
      · simp only [List.map_cons, List.pairwise_cons]
        refine ⟨fun x hx => ?_, ih h.2⟩
        obtain ⟨y, hy, rfl⟩ := List.mem_map.1 hx
        clear ih hx
        have : y.1 = a ∨ y.1 ∈ t.map Prod.fst := by
          clear h
          induction t with
          | nil => simp [Sparse.insert] at hy; simp [hy]
          | cons e t ih =>
            obtain ⟨k2, v2⟩ := e
            simp only [Sparse.insert] at hy
            split at hy
            · rcases List.mem_cons.1 hy with h | h
              · simp [h]
              · exact .inr (List.mem_map.2 ⟨y, List.mem_cons_of_mem _ h, rfl⟩)
            · split at hy
              · rcases List.mem_cons.1 hy with h | h
                · simp [h]
                · exact .inr (List.mem_map.2 ⟨y, h, rfl⟩)
              · rcases List.mem_cons.1 hy with h | h
                · simp [h]
                · rcases ih h with h | h
                  · exact .inl h
                  · exact .inr (List.mem_cons_of_mem _ h)
        rcases this with h' | h'
        · omega
        · exact h.1 _ h'

/-- Writing bytes into the HBM list keeps its keys rising. -/
theorem rising_memList (m : Memory) (a : Nat) (l : List Byte) (h : (m.map Prod.fst).Pairwise (· < ·)) :
    ((memList m a l).map Prod.fst).Pairwise (· < ·) := by
  induction l generalizing m a with
  | nil => exact h
  | cons b t ih => exact ih _ _ (rising_insert a b m h)

/-- Dropping a key leaves part of the list. -/
theorem Sparse.drop_sublist {α : Type} (k : Nat) (m : Sparse α) : List.Sublist (Sparse.drop k m) m := by
  induction m with
  | nil => exact List.Sublist.refl _
  | cons e t ih =>
    obtain ⟨k', v'⟩ := e
    simp only [Sparse.drop]
    split
    · exact ih.trans (List.sublist_cons_self _ _)
    · exact ih.cons_cons _

/-- Part of a list whose keys rise has keys that rise. -/
theorem rising_sublist {m n : Memory} (s : List.Sublist n m) (h : (m.map Prod.fst).Pairwise (· < ·)) :
    (n.map Prod.fst).Pairwise (· < ·) := h.sublist (s.map _)

/-- Writing bytes into a zero-filled region keeps the keys of the HBM list rising. -/
theorem rising_memWrite (m : Memory) (a : Nat) (l : List Byte) (h : (m.map Prod.fst).Pairwise (· < ·)) :
    ((memWrite m a l).map Prod.fst).Pairwise (· < ·) := by
  induction l generalizing m a with
  | nil => exact h
  | cons b t ih =>
    refine ih _ _ ?_
    unfold Sparse.put
    split
    · exact rising_sublist (Sparse.drop_sublist a m) h
    · exact rising_insert a b m h

/-- Writing bytes into a scratchpad keeps its canonical form. -/
theorem wf_memWrite (m : Memory) (a : Nat) (l : List Byte) (h : Sparse.wf 0 m = true) :
    Sparse.wf 0 (memWrite m a l) = true := by
  induction l generalizing m a with
  | nil => exact h
  | cons b t ih => exact ih _ _ (Sparse.wf_put 0 a b m h)

/-- The byte at an address after a write of bytes: the byte written there, or what was there. -/
theorem get_memWrite (m : Memory) (a : Nat) (l : List Byte) (j : Nat) :
    Sparse.get 0 (memWrite m a l) j = if a ≤ j ∧ j < a + l.length then nth 0 l (j - a) else Sparse.get 0 m j := by
  induction l generalizing m a with
  | nil => simp only [memWrite, List.length_nil]; split <;> [omega; rfl]
  | cons b t ih =>
    simp only [memWrite, ih, Sparse.get_put, List.length_cons]
    by_cases h : j = a
    · subst h; simp [nth]
    · by_cases h2 : a + 1 ≤ j ∧ j < a + 1 + t.length
      · have h3 : a ≤ j ∧ j < a + (t.length + 1) := by omega
        simp only [h2, h3, and_self, if_true, nth]
        have : j - a = (j - (a + 1)) + 1 := by omega
        rw [this, List.getElem?_cons_succ]
      · have h3 : ¬(a ≤ j ∧ j < a + (t.length + 1)) := by omega
        simp only [h2, h3, if_false, h]

/-- A byte string read from a memory, byte by byte. -/
theorem memRead_zero (m : Memory) (a n : Nat) :
    memRead (fun _ => 0) m a n = (List.range n).map fun i => Sparse.get 0 m (a + i) := by
  unfold memRead
  refine List.map_congr_left fun i _ => ?_
  induction m with
  | nil => rfl
  | cons e t ih =>
    obtain ⟨k, v⟩ := e
    by_cases h : k = a + i
    · simp [Sparse.get, h]
    · simp only [List.find?_cons, Sparse.get, h, if_false]
      have : ((k, v).1 == a + i) = false := by simpa using h
      rw [this]; exact ih

end Sys2Proof.Machine
end

