-- ==== Sys2Proof/Laws/PerInstr.lean ====
section
/-! SUPPORT. What well-formedness gives of a command, constructor by constructor: the words that a message
from a host die carries are at most 64 (R404). -/

namespace Sys2Proof.Laws.Fields

/-- The words that a control-port message carries; no other command carries a message. -/
def payload : Instr → List W32
  | .controlRead _ _ data => data
  | .controlWrite _ _ data => data
  | .doorbell _ _ data => data
  | .stream _ _ data => data
  | _ => []

/-- A well-formed command carries at most 64 words of message data (R404). -/
def Statement (i : Instr) : Prop := i.wellFormed = true → (payload i).length ≤ 64

theorem noPayload (i : Instr) (h : payload i = []) : Statement i := by
  intro _
  rw [h]
  exact Nat.zero_le _

theorem coldReset (env : BootEnv) : Statement (.coldReset env) := noPayload _ rfl

theorem pwrOkFall : Statement .pwrOkFall := noPayload _ rfl

theorem warmReset (h : Fin 4) (v : W32) : Statement (.warmReset h v) := noPayload _ rfl

theorem stackTrainingDone (d : Fin 24) (ok : Bool) : Statement (.stackTrainingDone d ok) := noPayload _ rfl

theorem timingMessage : Statement .timingMessage := noPayload _ rfl

theorem controlRead (h : Fin 4) (hdr : BitVec 128) (data : List W32) : Statement (.controlRead h hdr data) := by
  intro w
  have e : data = [] := List.isEmpty_iff.mp w
  subst e
  exact Nat.zero_le _

theorem controlWrite (h : Fin 4) (hdr : BitVec 128) (data : List W32) : Statement (.controlWrite h hdr data) :=
  fun w => of_decide_eq_true w

theorem doorbell (h : Fin 4) (hdr : BitVec 128) (data : List W32) : Statement (.doorbell h hdr data) :=
  fun w => Nat.le_trans (of_decide_eq_true w) (by decide)

theorem stream (h : Fin 4) (hdr : BitVec 128) (data : List W32) : Statement (.stream h hdr data) :=
  fun w => of_decide_eq_true w

theorem registerWrite (src : Source) (a : BitVec 56) (v : W32) (clash : W32) : Statement (.registerWrite src a v clash) := noPayload _ rfl

theorem readClear (src : Source) (a : BitVec 56) : Statement (.readClear src a) := noPayload _ rfl

theorem latchingRead (src : Source) (a : BitVec 56) : Statement (.latchingRead src a) := noPayload _ rfl

theorem gridEntWrite (src : Source) (p : Fin 12) (l : Fin 32) (e : Fin 128) (v : W32) : Statement (.gridEntWrite src p l e v) := noPayload _ rfl

theorem gridCsrWrite (src : Source) (p : Fin 12) (l : Fin 32) (n : Fin 4096) (v : W32) : Statement (.gridCsrWrite src p l n v) := noPayload _ rfl

theorem steerSlotWrite (src : Source) (p : Fin 12) (l : Fin 32) (k : Fin 64) (w : Fin 8) (v : W32) : Statement (.steerSlotWrite src p l k w v) := noPayload _ rfl

theorem gmaskUpdate (p : Fin 12) (l : Fin 32) : Statement (.gmaskUpdate p l) := noPayload _ rfl

theorem descriptorEntryWrite (src : Source) (p : Fin 12) (hd : BitVec 17) (ent : BitVec 512) : Statement (.descriptorEntryWrite src p hd ent) := noPayload _ rfl

theorem ringCommit (src : Source) (c : ChanId) (v : W32) : Statement (.ringCommit src c v) := noPayload _ rfl

theorem tailWrite (src : Source) (c : ChanId) (v : W32) : Statement (.tailWrite src c v) := noPayload _ rfl

theorem trunkCtailBc (src : Source) (p : Fin 12) (v : W32) : Statement (.trunkCtailBc src p v) := noPayload _ rfl

theorem trunkDepotInv (src : Source) (p : Fin 12) (v : W32) : Statement (.trunkDepotInv src p v) := noPayload _ rfl

theorem relayPush (src : Source) (p : Fin 12) (q : Fin 64) (v : W32) : Statement (.relayPush src p q v) := noPayload _ rfl

theorem relayPop (src : Source) (p : Fin 12) (q : Fin 64) : Statement (.relayPop src p q) := noPayload _ rfl

theorem claimRead (src : Source) (p : Fin 12) (n : Fin 32) : Statement (.claimRead src p n) := noPayload _ rfl

theorem claimRelease (src : Source) (p : Fin 12) (n : Fin 32) (v : W32) : Statement (.claimRelease src p n v) := noPayload _ rfl

theorem semaphoreSet (src : Source) (sp : SemSpace) (i : BitVec 12) (v : W32) : Statement (.semaphoreSet src sp i v) := noPayload _ rfl

theorem addAlias (src : Source) (sp : SemSpace) (i : BitVec 12) (v : W32) : Statement (.addAlias src sp i v) := noPayload _ rfl

theorem subAlias (src : Source) (sp : SemSpace) (i : BitVec 12) (v : W32) : Statement (.subAlias src sp i v) := noPayload _ rfl

theorem counterSet (src : Source) (sp : SemSpace) (i : BitVec 12) (v : W32) : Statement (.counterSet src sp i v) := noPayload _ rfl

theorem incAlias (src : Source) (sp : SemSpace) (i : BitVec 12) (v : W32) : Statement (.incAlias src sp i v) := noPayload _ rfl

theorem globalOwnerWrite (src : Source) (hub : Fin 4) (w : Fin 4) (v : W32) : Statement (.globalOwnerWrite src hub w v) := noPayload _ rfl

theorem taskRingCommit (src : Source) (h : Fin 4) (v : W32) : Statement (.taskRingCommit src h v) := noPayload _ rfl

theorem taskTailWrite (src : Source) (h : Fin 4) (v : W32) : Statement (.taskTailWrite src h v) := noPayload _ rfl

theorem linkCertWrite (src : Source) (w : Fin 64) (v : W32) : Statement (.linkCertWrite src w v) := noPayload _ rfl

theorem linkDisable (src : Source) (n : Fin 16) (v : W32) : Statement (.linkDisable src n v) := noPayload _ rfl

theorem rearm (src : Source) (n : Fin 16) (v : W32) : Statement (.rearm src n v) := noPayload _ rfl

theorem rekey (src : Source) (n : Fin 16) (v : W32) : Statement (.rekey src n v) := noPayload _ rfl

theorem pctlClr (src : Source) (p : Fin 12) (v : W32) : Statement (.pctlClr src p v) := noPayload _ rfl

theorem traceEnable (src : Source) (p : Fin 12) (v : W32) : Statement (.traceEnable src p v) := noPayload _ rfl

theorem bundleIssue (p : Fin 12) (parity : Bool) : Statement (.bundleIssue p parity) := noPayload _ rfl

theorem bundleCacheFill (p : Fin 12) : Statement (.bundleCacheFill p) := noPayload _ rfl

theorem scalarLoadReturn (p : Fin 12) : Statement (.scalarLoadReturn p) := noPayload _ rfl

theorem slotDispatch (p : Fin 12) (l : Fin 32) : Statement (.slotDispatch p l) := noPayload _ rfl

theorem opa (p : Fin 12) (l : Fin 32) (x : Duet) (found : Found) : Statement (.opa p l x found) := noPayload _ rfl

theorem stripe (p : Fin 12) (l : Fin 32) (x : Duet) (found : Found) : Statement (.stripe p l x found) := noPayload _ rfl

theorem drain (p : Fin 12) (l : Fin 32) (x : Duet) (found : Found) : Statement (.drain p l x found) := noPayload _ rfl

theorem clear (p : Fin 12) (l : Fin 32) (x : Duet) (found : Found) : Statement (.clear p l x found) := noPayload _ rfl

theorem stage (p : Fin 12) (l : Fin 32) (x : Duet) (found : Found) : Statement (.stage p l x found) := noPayload _ rfl

theorem slot (p : Fin 12) (l : Fin 32) (x : Duet) (found : Found) : Statement (.slot p l x found) := noPayload _ rfl

theorem csr (p : Fin 12) (l : Fin 32) (x : Duet) (found : Found) : Statement (.csr p l x found) := noPayload _ rfl

theorem grid (p : Fin 12) (l : Fin 32) (x : Duet) (found : Found) : Statement (.grid p l x found) := noPayload _ rfl

theorem wslot (p : Fin 12) (l : Fin 32) (x : Duet) (found : Found) : Statement (.wslot p l x found) := noPayload _ rfl

theorem wdrain (p : Fin 12) (l : Fin 32) (x : Duet) (found : Found) : Statement (.wdrain p l x found) := noPayload _ rfl

theorem wsets (p : Fin 12) (l : Fin 32) (x : Duet) (found : Found) : Statement (.wsets p l x found) := noPayload _ rfl

theorem setr (p : Fin 12) (l : Fin 32) (e : Engine) (x : Duet) : Statement (.setr p l e x) := noPayload _ rfl

theorem addr (p : Fin 12) (l : Fin 32) (e : Engine) (x : Duet) : Statement (.addr p l e x) := noPayload _ rfl

theorem rankadd (p : Fin 12) (l : Fin 32) (e : Engine) (x : Duet) : Statement (.rankadd p l e x) := noPayload _ rfl

theorem loop (p : Fin 12) (l : Fin 32) (e : Engine) (x : Duet) : Statement (.loop p l e x) := noPayload _ rfl

theorem bind (p : Fin 12) (l : Fin 32) (e : Engine) (x : Duet) : Statement (.bind p l e x) := noPayload _ rfl

theorem descriptorCacheFill (u : CacheId) : Statement (.descriptorCacheFill u) := noPayload _ rfl

theorem vadd (p : Fin 12) (l : Fin 32) (x : Duet) (found : Found) : Statement (.vadd p l x found) := noPayload _ rfl

theorem vsub (p : Fin 12) (l : Fin 32) (x : Duet) (found : Found) : Statement (.vsub p l x found) := noPayload _ rfl

theorem vmul (p : Fin 12) (l : Fin 32) (x : Duet) (found : Found) : Statement (.vmul p l x found) := noPayload _ rfl

theorem vfma (p : Fin 12) (l : Fin 32) (x : Duet) (found : Found) : Statement (.vfma p l x found) := noPayload _ rfl

theorem vfms (p : Fin 12) (l : Fin 32) (x : Duet) (found : Found) : Statement (.vfms p l x found) := noPayload _ rfl

theorem vmin (p : Fin 12) (l : Fin 32) (x : Duet) (found : Found) : Statement (.vmin p l x found) := noPayload _ rfl

theorem vmax (p : Fin 12) (l : Fin 32) (x : Duet) (found : Found) : Statement (.vmax p l x found) := noPayload _ rfl

theorem vabs (p : Fin 12) (l : Fin 32) (x : Duet) (found : Found) : Statement (.vabs p l x found) := noPayload _ rfl

theorem vneg (p : Fin 12) (l : Fin 32) (x : Duet) (found : Found) : Statement (.vneg p l x found) := noPayload _ rfl

theorem vdiv (p : Fin 12) (l : Fin 32) (x : Duet) (found : Found) : Statement (.vdiv p l x found) := noPayload _ rfl

theorem vsqrt (p : Fin 12) (l : Fin 32) (x : Duet) (found : Found) : Statement (.vsqrt p l x found) := noPayload _ rfl

theorem vaddi (p : Fin 12) (l : Fin 32) (x : Duet) (found : Found) : Statement (.vaddi p l x found) := noPayload _ rfl

theorem vsubi (p : Fin 12) (l : Fin 32) (x : Duet) (found : Found) : Statement (.vsubi p l x found) := noPayload _ rfl

theorem vmuli (p : Fin 12) (l : Fin 32) (x : Duet) (found : Found) : Statement (.vmuli p l x found) := noPayload _ rfl

theorem vmini (p : Fin 12) (l : Fin 32) (x : Duet) (found : Found) : Statement (.vmini p l x found) := noPayload _ rfl

theorem vmaxi (p : Fin 12) (l : Fin 32) (x : Duet) (found : Found) : Statement (.vmaxi p l x found) := noPayload _ rfl

theorem vand (p : Fin 12) (l : Fin 32) (x : Duet) (found : Found) : Statement (.vand p l x found) := noPayload _ rfl

theorem vor (p : Fin 12) (l : Fin 32) (x : Duet) (found : Found) : Statement (.vor p l x found) := noPayload _ rfl

theorem vxor (p : Fin 12) (l : Fin 32) (x : Duet) (found : Found) : Statement (.vxor p l x found) := noPayload _ rfl

theorem vnot (p : Fin 12) (l : Fin 32) (x : Duet) (found : Found) : Statement (.vnot p l x found) := noPayload _ rfl

theorem vshl (p : Fin 12) (l : Fin 32) (x : Duet) (found : Found) : Statement (.vshl p l x found) := noPayload _ rfl

theorem vshrl (p : Fin 12) (l : Fin 32) (x : Duet) (found : Found) : Statement (.vshrl p l x found) := noPayload _ rfl

theorem vshra (p : Fin 12) (l : Fin 32) (x : Duet) (found : Found) : Statement (.vshra p l x found) := noPayload _ rfl

theorem vcmpEq (p : Fin 12) (l : Fin 32) (x : Duet) (found : Found) : Statement (.vcmpEq p l x found) := noPayload _ rfl

theorem vcmpNe (p : Fin 12) (l : Fin 32) (x : Duet) (found : Found) : Statement (.vcmpNe p l x found) := noPayload _ rfl

theorem vcmpLt (p : Fin 12) (l : Fin 32) (x : Duet) (found : Found) : Statement (.vcmpLt p l x found) := noPayload _ rfl

theorem vcmpLe (p : Fin 12) (l : Fin 32) (x : Duet) (found : Found) : Statement (.vcmpLe p l x found) := noPayload _ rfl

theorem vcmpGt (p : Fin 12) (l : Fin 32) (x : Duet) (found : Found) : Statement (.vcmpGt p l x found) := noPayload _ rfl

theorem vcmpGe (p : Fin 12) (l : Fin 32) (x : Duet) (found : Found) : Statement (.vcmpGe p l x found) := noPayload _ rfl

theorem vsel (p : Fin 12) (l : Fin 32) (x : Duet) (found : Found) : Statement (.vsel p l x found) := noPayload _ rfl

theorem vmov (p : Fin 12) (l : Fin 32) (x : Duet) (found : Found) : Statement (.vmov p l x found) := noPayload _ rfl

theorem vbcst (p : Fin 12) (l : Fin 32) (x : Duet) (found : Found) : Statement (.vbcst p l x found) := noPayload _ rfl

theorem viota (p : Fin 12) (l : Fin 32) (x : Duet) (found : Found) : Statement (.viota p l x found) := noPayload _ rfl

theorem vslide (p : Fin 12) (l : Fin 32) (x : Duet) (found : Found) : Statement (.vslide p l x found) := noPayload _ rfl

theorem vcvt (p : Fin 12) (l : Fin 32) (x : Duet) (found : Found) : Statement (.vcvt p l x found) := noPayload _ rfl

theorem vexp2 (p : Fin 12) (l : Fin 32) (x : Duet) (found : Found) : Statement (.vexp2 p l x found) := noPayload _ rfl

theorem vexp (p : Fin 12) (l : Fin 32) (x : Duet) (found : Found) : Statement (.vexp p l x found) := noPayload _ rfl

theorem vlog2 (p : Fin 12) (l : Fin 32) (x : Duet) (found : Found) : Statement (.vlog2 p l x found) := noPayload _ rfl

theorem vln (p : Fin 12) (l : Fin 32) (x : Duet) (found : Found) : Statement (.vln p l x found) := noPayload _ rfl

theorem vrcp (p : Fin 12) (l : Fin 32) (x : Duet) (found : Found) : Statement (.vrcp p l x found) := noPayload _ rfl

theorem vrsqrt (p : Fin 12) (l : Fin 32) (x : Duet) (found : Found) : Statement (.vrsqrt p l x found) := noPayload _ rfl

theorem vtanh (p : Fin 12) (l : Fin 32) (x : Duet) (found : Found) : Statement (.vtanh p l x found) := noPayload _ rfl

theorem vsigm (p : Fin 12) (l : Fin 32) (x : Duet) (found : Found) : Statement (.vsigm p l x found) := noPayload _ rfl

theorem verf (p : Fin 12) (l : Fin 32) (x : Duet) (found : Found) : Statement (.verf p l x found) := noPayload _ rfl

theorem vcmpr (p : Fin 12) (l : Fin 32) (x : Duet) (found : Found) : Statement (.vcmpr p l x found) := noPayload _ rfl

theorem vexpd (p : Fin 12) (l : Fin 32) (x : Duet) (found : Found) : Statement (.vexpd p l x found) := noPayload _ rfl

theorem vscanSum (p : Fin 12) (l : Fin 32) (x : Duet) (found : Found) : Statement (.vscanSum p l x found) := noPayload _ rfl

theorem vscanMax (p : Fin 12) (l : Fin 32) (x : Duet) (found : Found) : Statement (.vscanMax p l x found) := noPayload _ rfl

theorem vscanMin (p : Fin 12) (l : Fin 32) (x : Duet) (found : Found) : Statement (.vscanMin p l x found) := noPayload _ rfl

theorem vredSum (p : Fin 12) (l : Fin 32) (x : Duet) (found : Found) : Statement (.vredSum p l x found) := noPayload _ rfl

theorem vredMax (p : Fin 12) (l : Fin 32) (x : Duet) (found : Found) : Statement (.vredMax p l x found) := noPayload _ rfl

theorem vredMin (p : Fin 12) (l : Fin 32) (x : Duet) (found : Found) : Statement (.vredMin p l x found) := noPayload _ rfl

theorem vredArgmax (p : Fin 12) (l : Fin 32) (x : Duet) (found : Found) : Statement (.vredArgmax p l x found) := noPayload _ rfl

theorem vredArgmin (p : Fin 12) (l : Fin 32) (x : Duet) (found : Found) : Statement (.vredArgmin p l x found) := noPayload _ rfl

theorem vredAnd (p : Fin 12) (l : Fin 32) (x : Duet) (found : Found) : Statement (.vredAnd p l x found) := noPayload _ rfl

theorem vredOr (p : Fin 12) (l : Fin 32) (x : Duet) (found : Found) : Statement (.vredOr p l x found) := noPayload _ rfl

theorem vredXor (p : Fin 12) (l : Fin 32) (x : Duet) (found : Found) : Statement (.vredXor p l x found) := noPayload _ rfl

theorem vmlogAnd (p : Fin 12) (l : Fin 32) (x : Duet) (found : Found) : Statement (.vmlogAnd p l x found) := noPayload _ rfl

theorem vmlogOr (p : Fin 12) (l : Fin 32) (x : Duet) (found : Found) : Statement (.vmlogOr p l x found) := noPayload _ rfl

theorem vmlogXor (p : Fin 12) (l : Fin 32) (x : Duet) (found : Found) : Statement (.vmlogXor p l x found) := noPayload _ rfl

theorem vmlogAndn (p : Fin 12) (l : Fin 32) (x : Duet) (found : Found) : Statement (.vmlogAndn p l x found) := noPayload _ rfl

theorem vmnot (p : Fin 12) (l : Fin 32) (x : Duet) (found : Found) : Statement (.vmnot p l x found) := noPayload _ rfl

theorem vmfirst (p : Fin 12) (l : Fin 32) (x : Duet) (found : Found) : Statement (.vmfirst p l x found) := noPayload _ rfl

theorem vmfrom (p : Fin 12) (l : Fin 32) (x : Duet) (found : Found) : Statement (.vmfrom p l x found) := noPayload _ rfl

theorem vmto (p : Fin 12) (l : Fin 32) (x : Duet) (found : Found) : Statement (.vmto p l x found) := noPayload _ rfl

theorem vmpol (p : Fin 12) (l : Fin 32) (x : Duet) (found : Found) : Statement (.vmpol p l x found) := noPayload _ rfl

theorem setvl (p : Fin 12) (l : Fin 32) (x : Duet) (found : Found) : Statement (.setvl p l x found) := noPayload _ rfl

theorem quant (p : Fin 12) (l : Fin 32) (x : Duet) (found : Found) : Statement (.quant p l x found) := noPayload _ rfl

theorem steer (p : Fin 12) (l : Fin 32) (x : Duet) (found : Found) : Statement (.steer p l x found) := noPayload _ rfl

theorem steerCal (p : Fin 12) (l : Fin 32) (x : Duet) (found : Found) : Statement (.steerCal p l x found) := noPayload _ rfl

theorem steerDecision (p : Fin 12) (k : Fin 64) : Statement (.steerDecision p k) := noPayload _ rfl

theorem vcustS (p : Fin 12) (l : Fin 32) (x : Duet) (found : Found) : Statement (.vcustS p l x found) := noPayload _ rfl

theorem vcustR (p : Fin 12) (l : Fin 32) (x : Duet) (found : Found) : Statement (.vcustR p l x found) := noPayload _ rfl

theorem copResponse (p : Fin 12) (l : Fin 32) (beat : BitVec 1024) (more : List (BitVec 1024)) : Statement (.copResponse p l beat more) := noPayload _ rfl

theorem customOpTimeout (p : Fin 12) (l : Fin 32) : Statement (.customOpTimeout p l) := noPayload _ rfl

theorem copRequestStall (p : Fin 12) (l : Fin 32) : Statement (.copRequestStall p l) := noPayload _ rfl

theorem waitGe (u : WaitUnit) : Statement (.waitGe u) := noPayload _ rfl

theorem waitSub (u : WaitUnit) (meet : List WaitUnit) : Statement (.waitSub u meet) := noPayload _ rfl

theorem waitReach (u : WaitUnit) : Statement (.waitReach u) := noPayload _ rfl

theorem semAdd (p : Fin 12) (l : Fin 32) (e : Engine) (x : Duet) (meet : List WaitUnit) : Statement (.semAdd p l e x meet) := noPayload _ rfl

theorem semSub (p : Fin 12) (l : Fin 32) (e : Engine) (x : Duet) (meet : List WaitUnit) : Statement (.semSub p l e x meet) := noPayload _ rfl

theorem inc (p : Fin 12) (l : Fin 32) (e : Engine) (x : Duet) (meet : List WaitUnit) : Statement (.inc p l e x meet) := noPayload _ rfl

theorem watchdogExpiry (u : WaitUnit) : Statement (.watchdogExpiry u) := noPayload _ rfl

theorem taskDescriptorCheck (h : Fin 4) : Statement (.taskDescriptorCheck h) := noPayload _ rfl

theorem taskDelivery (h : Fin 4) : Statement (.taskDelivery h) := noPayload _ rfl

theorem taskStart (p : Fin 12) (parity : Bool) : Statement (.taskStart p parity) := noPayload _ rfl

theorem taskFinish (p : Fin 12) : Statement (.taskFinish p) := noPayload _ rfl

theorem endRecord (h : Fin 4) : Statement (.endRecord h) := noPayload _ rfl

theorem abortPropagate (h : Fin 4) : Statement (.abortPropagate h) := noPayload _ rfl

theorem channelFlushTimeout (c : ChanId) : Statement (.channelFlushTimeout c) := noPayload _ rfl

theorem abortDump (p : Fin 12) : Statement (.abortDump p) := noPayload _ rfl

theorem baleFetch (c : ChanId) (parity : Bool) : Statement (.baleFetch c parity) := noPayload _ rfl

theorem baleRelayPop (c : ChanId) : Statement (.baleRelayPop c) := noPayload _ rfl

theorem baleStart (c : ChanId) (parity : Bool) (more : Nat) : Statement (.baleStart c parity more) := noPayload _ rfl

theorem baleComplete (c : ChanId) : Statement (.baleComplete c) := noPayload _ rfl

theorem baleRelayPush (c : ChanId) : Statement (.baleRelayPush c) := noPayload _ rfl

theorem deadlineMiss (p : Fin 12) (n : Fin 16) : Statement (.deadlineMiss p n) := noPayload _ rfl

theorem scratchpadDmaAccess (p : Fin 12) (l : Fin 32) (cls : TollClass) (flips : List (Nat × Ecc)) (parity : Bool) : Statement (.scratchpadDmaAccess p l cls flips parity) := noPayload _ rfl

theorem eccWriteBack (p : Fin 12) (l : Fin 32) : Statement (.eccWriteBack p l) := noPayload _ rfl

theorem stackPortAccess (d : Fin 24) (cls : TollClass) (sel : Nat) (bad : Nat) (ca : Nat) : Statement (.stackPortAccess d cls sel bad ca) := noPayload _ rfl

theorem readDataReturn (c : ChanId) : Statement (.readDataReturn c) := noPayload _ rfl

theorem depotLineFill (d : Fin 24) : Statement (.depotLineFill d) := noPayload _ rfl

theorem patrolScrub (d : Fin 24) (unit : BitVec 30) (bad : Nat) (ca : Nat) : Statement (.patrolScrub d unit bad ca) := noPayload _ rfl

theorem temperatureRead (d : Fin 24) (t : Byte) : Statement (.temperatureRead d t) := noPayload _ rfl

theorem refresh (d : Fin 24) (rfm : Bool) : Statement (.refresh d rfm) := noPayload _ rfl

theorem regionKeySwap (r : Fin 1536) : Statement (.regionKeySwap r) := noPayload _ rfl

theorem zeroFillDone (r : Fin 1536) : Statement (.zeroFillDone r) := noPayload _ rfl

theorem streamHeader (h : Fin 4) : Statement (.streamHeader h) := noPayload _ rfl

theorem borderDrainTimeout (h : Fin 4) : Statement (.borderDrainTimeout h) := noPayload _ rfl

theorem segment (h : Fin 4) : Statement (.segment h) := noPayload _ rfl

theorem personalityRelease (h : Fin 4) : Statement (.personalityRelease h) := noPayload _ rfl

theorem fabricPllLockTimeout (h : Fin 4) : Statement (.fabricPllLockTimeout h) := noPayload _ rfl

theorem streamTimeout (h : Fin 4) : Statement (.streamTimeout h) := noPayload _ rfl

theorem linkTrainStart (h : Fin 4) : Statement (.linkTrainStart h) := noPayload _ rfl

theorem linkTrainDone (n : Fin 16) (rev : Bool) : Statement (.linkTrainDone n rev) := noPayload _ rfl

theorem linkTrainTimeout (n : Fin 16) : Statement (.linkTrainTimeout n) := noPayload _ rfl

theorem linkAuthTimeout (n : Fin 16) : Statement (.linkAuthTimeout n) := noPayload _ rfl

theorem linkRetrain (n : Fin 16) : Statement (.linkRetrain n) := noPayload _ rfl

theorem flitTransmit (n : Fin 16) : Statement (.flitTransmit n) := noPayload _ rfl

theorem flitReceive (n : Fin 16) (fecOk : Bool) (flit : List Byte) : Statement (.flitReceive n fecOk flit) := noPayload _ rfl

theorem ackInterval (n : Fin 16) : Statement (.ackInterval n) := noPayload _ rfl

theorem heartbeatSend (n : Fin 16) : Statement (.heartbeatSend n) := noPayload _ rfl

theorem hubAliasForward (h : Fin 4) : Statement (.hubAliasForward h) := noPayload _ rfl

theorem flitSilence (n : Fin 16) : Statement (.flitSilence n) := noPayload _ rfl

theorem creditStarvation (n : Fin 16) : Statement (.creditStarvation n) := noPayload _ rfl

theorem remoteRequestTimeout (n : Fin 16) (tag : Option (BitVec 16)) : Statement (.remoteRequestTimeout n tag) := noPayload _ rfl

theorem eventQueueRoom (h : Fin 4) (room : Nat) : Statement (.eventQueueRoom h room) := noPayload _ rfl

theorem tenantSet (h : Fin 4) (v : W32) : Statement (.tenantSet h v) := noPayload _ rfl

theorem regionSet (h : Fin 4) (v : W32) : Statement (.regionSet h v) := noPayload _ rfl

theorem attest (h : Fin 4) (v : W32) : Statement (.attest h v) := noPayload _ rfl

theorem lcAdvance (h : Fin 4) (v : W32) : Statement (.lcAdvance h v) := noPayload _ rfl

theorem fence (src : Source) (p : Fin 12) (l : Fin 32) (v : W32) : Statement (.fence src p l v) := noPayload _ rfl

theorem unfence (src : Source) (p : Fin 12) (l : Fin 32) (v : W32) : Statement (.unfence src p l v) := noPayload _ rfl

theorem bypassOctet (src : Source) (p : Fin 12) (l : Fin 32) (v : W32) : Statement (.bypassOctet src p l v) := noPayload _ rfl

theorem partitionReset (src : Source) (p : Fin 12) (v : W32) : Statement (.partitionReset src p v) := noPayload _ rfl

theorem capture (h : Fin 4) (v : W32) : Statement (.capture h v) := noPayload _ rfl

theorem captureQuiesced : Statement .captureQuiesced := noPayload _ rfl

theorem captureQuiesceTimeout : Statement .captureQuiesceTimeout := noPayload _ rfl

theorem captureWriteDone (status : Code) : Statement (.captureWriteDone status) := noPayload _ rfl

theorem rampStart (p : Fin 12) : Statement (.rampStart p) := noPayload _ rfl

theorem rampStep (p : Fin 12) : Statement (.rampStep p) := noPayload _ rfl

theorem tapReset : Statement .tapReset := noPayload _ rfl

theorem bypass (d : Fin 28) : Statement (.bypass d) := noPayload _ rfl

theorem idcode (d : Fin 28) : Statement (.idcode d) := noPayload _ rfl

theorem samplePreload (d : Fin 28) : Statement (.samplePreload d) := noPayload _ rfl

theorem extest (d : Fin 28) : Statement (.extest d) := noPayload _ rfl

theorem clamp (d : Fin 28) : Statement (.clamp d) := noPayload _ rfl

theorem highz (d : Fin 28) : Statement (.highz d) := noPayload _ rfl

theorem wspSelect (d : Fin 28) : Statement (.wspSelect d) := noPayload _ rfl

theorem wsBypass (d : Fin 28) (t : BitVec 5) (data : W32) : Statement (.wsBypass d t data) := noPayload _ rfl

theorem wsExtest (d : Fin 28) (t : BitVec 5) (data : W32) : Statement (.wsExtest d t data) := noPayload _ rfl

theorem wsIntest (d : Fin 28) (t : BitVec 5) (data : W32) : Statement (.wsIntest d t data) := noPayload _ rfl

theorem mbist (d : Fin 28) (t : BitVec 5) (data : W32) : Statement (.mbist d t data) := noPayload _ rfl

theorem mbistStatus (d : Fin 28) (t : BitVec 5) (data : W32) : Statement (.mbistStatus d t data) := noPayload _ rfl

theorem stack1500 (d : Fin 28) : Statement (.stack1500 d) := noPayload _ rfl

theorem probesel (d : Fin 28) (sel : BitVec 256) : Statement (.probesel d sel) := noPayload _ rfl

theorem secscan (d : Fin 28) : Statement (.secscan d) := noPayload _ rfl

theorem blkRstNLow : Statement .blkRstNLow := noPayload _ rfl

theorem copRequestAccepted (p : Fin 12) (l : Fin 32) (n : Nat) : Statement (.copRequestAccepted p l n) := noPayload _ rfl

theorem mbistComplete (d : Fin 28) (t : BitVec 5) (pass : Bool) : Statement (.mbistComplete d t pass) := noPayload _ rfl

end Sys2Proof.Laws.Fields
end

