-- ==== Sys2Proof/Tests/Slice0.lean ====
section
/-! SUPPORT. The model's own tests. First the commands that are not well formed, one for each check; then the
manual's own worked examples; then, for each obligation that has hypotheses, concrete states and operands that meet them
(the witness of a clause is named after its obligation). -/

namespace Sys2Proof.Tests

set_option Elab.async false

open Sys2Proof Sys2Proof.Machine

/-! Well-formedness: each check refuses a term, and the same command passes with what the check asks for. -/

theorem test_read_with_data_is_ill_formed : (Instr.controlRead 0 0 [0]).wellFormed = false := by decide
theorem test_write_of_65_words_is_ill_formed :
    (Instr.controlWrite 0 0 (List.replicate 65 0)).wellFormed = false ∧ (Instr.controlWrite 0 0 (List.replicate 64 0)).wellFormed = true := by decide
theorem test_doorbell_of_2_words_is_ill_formed : (Instr.doorbell 0 0 [0, 0]).wellFormed = false ∧ (Instr.doorbell 0 0 [0]).wellFormed = true := by decide
theorem test_stream_of_65_words_is_ill_formed :
    (Instr.stream 0 0 (List.replicate 65 0)).wellFormed = false ∧ (Instr.stream 0 0 (List.replicate 64 0)).wellFormed = true := by decide
theorem test_hub_semaphore_2048_is_ill_formed :
    (Instr.semaphoreSet (.port 0) (.hub 0) 2048 0).wellFormed = false ∧ (Instr.semaphoreSet (.port 0) (.hub 0) 2047 0).wellFormed = true := by decide
theorem test_add_2048_is_ill_formed : (Instr.addAlias (.port 0) (.hub 0) 2048 0).wellFormed = false := by decide
theorem test_sub_2048_is_ill_formed : (Instr.subAlias (.port 0) (.hub 0) 2048 0).wellFormed = false := by decide
theorem test_hub_counter_512_is_ill_formed :
    (Instr.counterSet (.port 0) (.hub 0) 512 0).wellFormed = false ∧ (Instr.counterSet (.port 0) (.part 0) 1023 0).wellFormed = true := by decide
theorem test_inc_1024_is_ill_formed : (Instr.incAlias (.port 0) (.part 0) 1024 0).wellFormed = false := by decide
theorem test_flit_of_255_bytes_is_ill_formed :
    (Instr.flitReceive 0 true (List.replicate 255 0)).wellFormed = false ∧ (Instr.flitReceive 0 true (List.replicate 256 0)).wellFormed = true := by decide +kernel
theorem test_257_event_places_are_ill_formed : (Instr.eventQueueRoom 0 257).wellFormed = false ∧ (Instr.eventQueueRoom 0 256).wellFormed = true := by decide
theorem test_flip_beyond_the_scratchpad_is_ill_formed :
    (Instr.scratchpadDmaAccess 0 0 .read [(6291456, .corrected)] false).wellFormed = false
      ∧ (Instr.scratchpadDmaAccess 0 0 .read [(6291455, .corrected)] false).wellFormed = true := by decide

/-! The manual's worked examples. -/

/-- 01_organisation.md, placing core 301: its scratchpad, its home hub and its partition space. -/
theorem test_core_301_scratchpad : place 0x02025A000000 = .spad 9 13 0 := by decide
theorem test_core_301_partition_space : partBase 9 = 0x021009000000 ∧ homeHub 9 = 3 := by decide
/-- 13_hbm.md, one address through both windows. -/
theorem test_interleaved_address : place 0x04012C4E5A40 = .hbm 5 0x0C834A40 ∧ place 0x00500C834A40 = .hbm 5 0x0C834A40 := by decide
/-- The same address in its stack: column, pseudo-channel, channel, bank and row, and the parts of the bank. -/
theorem test_stack_address :
    stackDecode 0x00C834A40 = { column := 320, pseudo := 0, channel := 5, bank := 49, row := 50 } ∧ bankParts 49 = (3, 0, 1) := by decide +kernel
/-- Its region and data unit. -/
theorem test_data_unit : regionNo 5 0x00C834A40 = 320 ∧ dataUnit 5 0x00C834A40 = 0x280641A5 ∧ 0x00C834A40 % 512 / 16 = 4 := by decide +kernel
/-- 01_organisation.md, the hub-to-hub routes, as the bridges they cross. -/
theorem test_hub_routes :
    meshRoute (.hub 0) (.hub 1) = [(dieAt 0 1, .w), (dieAt 0 1, .s), (dieAt 0 2, .w)]
      ∧ meshRoute (.hub 0) (.hub 2) = [(dieAt 0 0, .w), (dieAt 0 0, .e), (dieAt 1 0, .e), (dieAt 2 0, .e), (dieAt 3 0, .e), (dieAt 4 0, .e), (dieAt 5 0, .e)]
      ∧ meshRoute (.hub 0) (.hub 3) = [(dieAt 0 1, .w), (dieAt 0 1, .e), (dieAt 1 1, .e), (dieAt 2 1, .e), (dieAt 3 1, .e), (dieAt 4 1, .e),
          (dieAt 5 1, .s), (dieAt 5 2, .e)] := by decide +kernel
/-- 02_arithmetic.md, codes 13 and 4 of BG4: levels +56 and −20. -/
theorem test_bg4_levels : Grid.level 0x36C0 = 56 ∧ Grid.level 0x6680 = -20 := by decide
/-- 22_address_map.md, the registers of core 301: channel 2's TAIL. -/
theorem test_core_301_tail : chanBase (.core 9 13 2) + 0xC = 0x02100950D28C := by decide

/-- The bytes of words, and a bundle cache that holds them from offset 0. -/
def tCache (l : List W32) : List Host.Cell := (bytesOfWords l).zipIdx.map fun e => (e.2, e.1)

/-- The bundle that 08_sequencer.md encodes. -/
def tBundle : List W32 := [0x00000025, 0x00012950, 0x0D102A80, 0x00000229, 0x00000000, 0x01014010]

/-- The reset partition with that bundle in its bundle cache. -/
def tFetched : Part := { Part.reset with bcache := tCache tBundle, codeSize := 24 }

/-- 08_sequencer.md, encoding one bundle: 24 bytes, a scalar slot, a matrix slot and a sync slot. -/
theorem test_bundle_slots : tFetched.fetch = .ok
    { len := 24, hdr := 0x25, scalar := some 0x00012950, vector := none, matrix := some 0x00000000000002290D102A80,
      load := none, store := none, sync := some 0x01014010 } := by decide
/-- The fields of its OPA: GRID4 on both sides, tile 1, N from L2, A3 on side a, stage 1 on side b, batch 1. -/
theorem test_bundle_opa_fields :
    let w : Slot := 0x00000000000002290D102A80
    slotOp w = 0 ∧ fld w 20 3 = 1 ∧ fld w 23 2 = 2 ∧ fld w 41 16 = 1 ∧ (opaSide w EngCtx.reset true).isStage = true
      ∧ (opaSide w EngCtx.reset false).isStage = false ∧ (opaSide w EngCtx.reset false).fmt = 5 := by decide
/-- Its sync slot: WAIT_GE in the matrix queue, partition semaphore 40, amount 1. -/
theorem test_bundle_sync_fields :
    let w := syncSlot 0x01014010
    syncOp w = 0 ∧ syncEng w = 2 ∧ syncSpace w = 0 ∧ syncIdx w = 40 ∧ syncVal w = 1 ∧ syncCheck w = 0 := by decide
/-- 10_synchronisation.md, a four-buffer ring: the wait for target 2 holds at 0x0000_0001 and is over at 0x0000_0002. -/
theorem test_four_buffer_ring : reached 0x00000001 0x00000002 = false ∧ reached 0x00000002 0x00000002 = true := by decide

/-- 07_descriptors.md: the descriptor of handle 900, and window 0 exactly over one user's key cache. -/
def tView : BitVec 512 := 0x100000000000000000000000000030000000000000000008000008002FF040000000000
def tRange : Window := { bl := 0x40000000, bh := 0x80000FF0, ll := 0x400002FF, lh := 0xFF0 }
def tWin : Part := { Part.reset with wins := vset Part.reset.wins 0 tRange }
/-- Block 31 of head 5 passes check 3, and block 32 does not. -/
theorem test_view_of_key_cache :
    descSpan tView = 97663 ∧ descFits tWin tView 3048064 = true ∧ descFits tWin tView 3146368 = false := by decide +kernel

/-! Witnesses of the hypotheses of the obligations. -/

/-- A task for partition 0. -/
def tTask : TaskDesc :=
  { id := 7, code := 0x1000, shape := 0, pmask := 1, evt := false, sbase := 0, scount := 0, gbase := 0, gcount := 0, ghub := 0,
    args := Vector.replicate 4 0, endAddr := 0, hub := 0, ridx := 0, serial := 1 }

/-- Partition 0 changed. -/
def tPart (f : Part → Part) : State := State.reset.modPart 0 f

/-- Partition 0 runs the task. -/
def tRun : State := tPart fun q => { q with task := some tTask, seqState := 1, power := .running }

/-- Core 0 of the running partition changed. -/
def tCore (f : Core → Core) : State := tRun.modCore 0 0 f

/-- A queue entry, and core 0 with it at the head of a context. -/
def tEntry (sync : Bool) (w : Slot) : Entry := { sync := sync, word := w, sval := 0 }
def tHeadOf (e : Engine) (sync : Bool) (w : Slot) (k : EngCtx) (f : Core → Core) : State :=
  tCore fun c => f (c.modCtx e .a fun _ => { k with queue := [tEntry sync w] })
def tHead (e : Engine) (sync : Bool) (w : Slot) : State := tHeadOf e sync w EngCtx.reset id
/-- Two instructions wait in the context. -/
def tTwo : Entry := tEntry false 0x29

/-- The head of a context may issue. -/
def tReady (s : State) (e : Engine) (w : Slot) : Bool := decide (s.ready 0 0 e .a = some (tEntry false w))

theorem witness_VectorFloatArithmetic :
    ∀ op ∈ [0, 1, 2, 3, 4, 5, 6, 7, 8], tReady (tHead .vector false (BitVec.ofNat 96 op)) .vector (BitVec.ofNat 96 op) = true
      ∧ slotOp (BitVec.ofNat 96 op) = op := by decide +kernel
theorem witness_VectorBoundedFunctions :
    ∀ op ∈ [0x09, 0x0A, 0x30, 0x31, 0x32, 0x33, 0x34, 0x35, 0x36, 0x37, 0x38],
      tReady (tHead .vector false (BitVec.ofNat 96 op)) .vector (BitVec.ofNat 96 op) = true ∧ slotOp (BitVec.ofNat 96 op) = op := by decide +kernel
theorem witness_VectorIntegerAndBitwise :
    ∀ op ∈ [0x10, 0x11, 0x12, 0x13, 0x14, 0x15, 0x16, 0x17, 0x18, 0x19, 0x1A, 0x1B],
      tReady (tHead .vector false (BitVec.ofNat 96 op)) .vector (BitVec.ofNat 96 op) = true ∧ slotOp (BitVec.ofNat 96 op) = op := by decide +kernel
theorem witness_VectorMoves :
    ∀ op ∈ [0x28, 0x29, 0x2A, 0x2B, 0x2C, 0x57],
      tReady (tHead .vector false (BitVec.ofNat 96 op)) .vector (BitVec.ofNat 96 op) = true ∧ slotOp (BitVec.ofNat 96 op) = op := by decide +kernel
theorem witness_VectorMaskResults :
    ∀ op ∈ [0x20, 0x21, 0x22, 0x23, 0x24, 0x25, 0x50, 0x51, 0x52, 0x53, 0x54, 0x55, 0x56],
      tReady (tHead .vector false (BitVec.ofNat 96 op)) .vector (BitVec.ofNat 96 op) = true ∧ slotOp (BitVec.ofNat 96 op) = op := by decide +kernel
theorem witness_CompressScanReducePolicyAndLength :
    ∀ op ∈ [0x3C, 0x3D, 0x40, 0x41, 0x42, 0x44, 0x45, 0x46, 0x47, 0x48, 0x49, 0x4A, 0x4B, 0x58, 0x5C],
      tReady (tHead .vector false (BitVec.ofNat 96 op)) .vector (BitVec.ofNat 96 op) = true ∧ slotOp (BitVec.ofNat 96 op) = op := by decide +kernel
def tCvt (aux : Nat) : Slot := BitVec.ofNat 96 (0x2D + aux * 2 ^ 52)
/-- VCVT to FP32, from a part of a BF16 line, and into one. -/
theorem witness_VectorConversions :
    (∀ aux ∈ [0x08, 0x10, 0x00], tReady (tHead .vector false (tCvt aux)) .vector (tCvt aux) = true ∧ slotOp (tCvt aux) = 0x2D ∧ vAux (tCvt aux) = aux)
      ∧ fmtBits 8 = 32 ∧ fmtBits 0 = 16 := by decide +kernel

/-- A core whose steer slot 0 has all 128 channels. -/
def tSlot (c : Core) : Core := c.setSlot 0 { Steer.reset with setCount := 128 }
theorem witness_QuantOfLanes :
    tReady (tHeadOf .vector false 0x60 EngCtx.reset tSlot) .vector 0x60 = true
      ∧ (∀ z ∈ quantZs ((tHeadOf .vector false 0x60 EngCtx.reset tSlot).core 0 0) .a 0x60,
          z.chan < (((tHeadOf .vector false 0x60 EngCtx.reset tSlot).core 0 0).slot z.k).setCount.toNat)
      ∧ (quantZs ((tHeadOf .vector false 0x60 EngCtx.reset tSlot).core 0 0) .a 0x60).length = 128 := by decide +kernel
/-- The normal form, the CAL form, and either in re-run state. -/
theorem witness_SteerTakesAndCalibrates :
    tReady (tHead .vector false 0x61) .vector 0x61 = true ∧ tReady (tHead .vector false 0x2061) .vector 0x2061 = true
      ∧ bit (0x61 : Slot) 13 = false ∧ bit (0x2061 : Slot) 13 = true
      ∧ (((tHead .vector false 0x61).core 0 0).profile 0).valid = true ∧ ((tHead .vector false 0x61).part 0).rerun = 0
      ∧ tReady ((tHead .vector false 0x61).modPart 0 fun q => { q with rerun := 1 }) .vector 0x61 = true := by decide +kernel
/-- A share above the band moves Q up, one below it moves Q down. -/
theorem witness_SteeringKeepsWithinLimits :
    (steerRule { Steer.reset with upc := 0 } { Profile.reset with step := 0x00300800 } 100 0 100).slot.q.toInt = 1
      ∧ (steerRule { Steer.reset with dnc := 15 } { Profile.reset with step := 0xF0300800 } 0 0 100).slot.q.toInt ≤ 0
      ∧ Steer.reset.qmin.toInt ≤ Steer.reset.q.toInt ∧ Steer.reset.q.toInt ≤ Steer.reset.qmax.toInt := by decide +kernel

def tTake : SteerTake := { clip := 1, van := 0, nan := 0, tot := 4, cands := [3] }
def tTaken : State := tRun.modPart 0 fun q => { q with cores := q.cores.map fun c => { c with takes := [(0, tTake)] } }
theorem witness_SteerDecisionLands :
    (tTaken.part 0).steerTakes 0 = some (List.replicate 32 tTake) ∧ (tTaken.part 0).live = 0 :: (List.finRange 32).tail
      ∧ (tTaken.part 0).task.isSome = true ∧ (tTaken.part 0).abort = none := by decide +kernel

/-- The first fault, a later one, and one without a task. -/
def tAbort : AbortInfo := { code := 0x4904, arg := 0, time := 0, core := 0, waits := [], dump := none, dumpBad := false }
def tAborting : State := tRun.modPart 0 fun q => { q with abort := some tAbort }
theorem witness_AbortStopsThePartition :
    (tRun.part 0).task = some tTask ∧ (tRun.part 0).abort = none ∧ (tAborting.part 0).task = some tTask
      ∧ (tAborting.part 0).abort = some tAbort ∧ (State.reset.part 0).task = none := by decide +kernel

/-- A claimed port. -/
def tCop (f : Core → Core) : State := (tCore f).modPart 0 fun q => { q with copClaims := 1 }
def tReq : CopReq := { func := 1, tag := 2, fmt := 8, vl := 128, mask := 0, lines := [Line.zero], sent := 0, since := 0 }
/-- Partition 0's fabric is loaded, with a claimed tree 0 whose source is FCLK 0 and whose divider runs. -/
def tClocked (s : State) : State := (State.putFrame 0 250 1 [8] (State.putFrame 0 250 0 [1] s)).modPart 0 fun q =>
  { q with pers := .loaded, featClaims := [(4, 0, 0, 0)] }
def tLate (s : State) : State := { s with dieTime := Vector.replicate 28 200000000000 }
theorem witness_CustomOperationPort_requests :
    (let s := tCop fun c => c.modCtx .vector .a fun k => { k with queue := [tEntry false 0x68] };
      tReady s .vector 0x68 = true ∧ (s.part 0).copClaimed 0 = true ∧ (s.core 0 0).copOut.length < 4)
    ∧ (let s := tCop fun c => { c.modCtx .vector .a (fun k => { k with queue := [tEntry false 0x69] }) with copRsp := [Line.zero] };
      tReady s .vector 0x69 = true ∧ (s.part 0).copClaimed 0 = true ∧ (s.core 0 0).copRsp = Line.zero :: []) := by decide +kernel
theorem witness_CustomOperationPort_responses :
    (let s := tClocked (tCop fun c => { c with copOut := [tReq] });
      (s.part 0).copHeld 0 = false ∧ s.pclkRuns 0 0 = true ∧ (s.core 0 0).copOut = tReq :: [] ∧ tReq.sent = 0
        ∧ tReq.sent + 4 < 1 + 4 * tReq.lines.length ∧ 1 + 4 * tReq.lines.length ≤ tReq.sent + 5 ∧ copLimit ≤ ((tLate s).now - tReq.since).toNat)
    ∧ (let s := tClocked (tCop fun c => { c with copWait := [(2, 0)] });
      (s.part 0).copHeld 0 = false ∧ s.pclkRuns 0 0 = true ∧ (s.core 0 0).copIn = none ∧ (s.core 0 0).copWait = (2, 0) :: []
        ∧ (s.core 0 0).copRsp.length < 4 ∧ fld (0x200 : BitVec 1024) 0 8 = 0 ∧ fld (0x200 : BitVec 1024) 8 4 = (2 : BitVec 4).toNat
        ∧ copLimit ≤ ((tLate s).now - 0).toNat)
    ∧ State.reset.pclkRuns 0 0 = false := by decide +kernel
/-- The beats of a line carry it (R146): lane 37 comes back. -/
theorem test_beats_carry_a_line : (let v := Line.zero.set 37 0x89ABCDEF; beatLine ((List.range 4).map (dataBeat v)) = v) := by decide +kernel
/-- A frame of tile 0 in column 2 of die B: cell 3's control byte sets INIT, so its flip-flop starts at 1 (R340, R360). -/
theorem test_initial_values : initFlops 250 [(2 ^ 17 + 512, List.replicate 67 0 ++ [2])] = [200000 + 1600 + 3] := by decide +kernel

/-- An OPA and a STRIPE from two stages: no step (N = 0), and one step (N = 1, BATCH = 1). -/
def tOpa (op n : Nat) : Slot := BitVec.ofNat 96 (op + 0x280 + 0x2800 + 2 ^ 25 + 2 ^ 32 + n * 2 ^ 41)
def tL0 (n : Nat) : EngCtx := { EngCtx.reset with lr := vset EngCtx.reset.lr 0 (BitVec.ofNat 24 n) }
theorem witness_OuterProductSteps :
    (∀ op ∈ [0, 3], ∀ n ∈ [0, 1], tReady (tHeadOf .matrix false (tOpa op n) (tL0 1) id) .matrix (tOpa op n) = true ∧ slotOp (tOpa op n) = op
      ∧ fld (tOpa op n) 20 3 = 0 ∧ (tL0 1).rl (fld (tOpa op n) 23 2) * fld (tOpa op n) 41 16 = n
      ∧ (opaSide (tOpa op n) (tL0 1) false).isStage = true ∧ (opaSide (tOpa op n) (tL0 1) true).isStage = true)
    ∧ vget TileTag.empty ((tHead .matrix false 0).core 0 0).tileTag 0 = .empty ∧ ((tHead .matrix false 0).core 0 0).guardEn = false
    ∧ ((tHead .matrix false 0).core 0 0).bad = [] := by decide +kernel
/-- Sides that read the scratchpad from address 0 stay inside it. -/
theorem witness_OuterProductSteps_inside :
    ∀ m < 4, ((opaSide (0x280 + 0x2800) (tL0 1) false).addr + BitVec.ofNat 32 0 * (opaSide (0x280 + 0x2800) (tL0 1) false).batch
      + BitVec.ofNat 32 m * (opaSide (0x280 + 0x2800) (tL0 1) false).step).toNat < spadSize := by decide +kernel
/-- DRAIN of 128 columns, of 128 rows at width 128, and CLEAR. -/
theorem witness_DrainAndClear :
    (∀ n ∈ [0x01, 0x80000001], let w : Slot := BitVec.ofNat 96 n
        tReady (tHeadOf .matrix false w (tL0 128) id) .matrix w = true ∧ slotOp w = 1 ∧ bit w 33 = false)
      ∧ (tL0 128).rl 0 = 128 ∧ (tRun.part 0).width = 128 ∧ tReady (tHead .matrix false 0x02) .matrix 0x02 = true := by decide +kernel

/-- The two checks of a DRAIN, each failed alone, both failed and neither: 129 columns, and an INT32 stripe tile. -/
theorem witness_DrainAndClear_checks :
    ∀ n ∈ [128, 129], ∀ stripe ∈ [TileTag.empty, .int32], let w : Slot := 0x200000001
      let s := tHeadOf .matrix false w (tL0 n) fun c => { c with tileTag := c.tileTag.set 0 stripe }
      tReady s .matrix w = true ∧ slotOp w = 1 ∧ bit w 31 = false ∧ bit w 33 = true ∧ fld w 34 3 = 0
        ∧ vget TileTag.empty (s.core 0 0).tileTag 0 = stripe ∧ ((s.core 0 0).ctx .matrix .a).rl (fld w 23 2) = n := by decide +kernel

/-- STAGE of no row, of all 128 half-rows at spread 1, and at spread 2; SLOT of 64 rows. -/
theorem witness_StageAndSlotLoads :
    (∀ n ∈ [0, 128], ∀ m ∈ [0, 0x40000], let w : Slot := BitVec.ofNat 96 m
        tReady (tHeadOf .load false w (tL0 n) id) .load w = true ∧ slotOp w = 0 ∧ (tL0 n).rl 0 = n ∧ n % 2 = 0 ∧ n ≤ 128)
    ∧ (∀ j < 128, ((0 : W32) + BitVec.ofNat 32 512 * BitVec.ofNat 32 (j / 2)).toNat < spadSize)
    ∧ tReady (tHeadOf .load false 0x01 (tL0 64) id) .load 0x01 = true ∧ slotOp (0x01 : Slot) = 1 := by decide +kernel
theorem witness_ScaleAndGridLoads :
    tReady (tHead .load false 0x02) .load 0x02 = true ∧ tReady (tHead .load false 0x03) .load 0x03 = true ∧ (0 : W32).toNat < spadSize
      ∧ csrRejects 0 = true ∧ csrRejects 0x80000000 = false := by decide +kernel
theorem witness_StoreEngineWrites :
    (∀ op ∈ [0, 2], tReady (tHeadOf .store false (BitVec.ofNat 96 op) (tL0 2) id) .store (BitVec.ofNat 96 op) = true)
    ∧ (∀ e ∈ wslotWrites Core.reset (tL0 2) 0, e.1 < spadSize) ∧ (wslotWrites Core.reset (tL0 2) 0).length = 2
    ∧ (∀ e ∈ wsetsWrites Core.reset (tL0 2) 2, e.1 < spadSize) ∧ (wsetsWrites Core.reset (tL0 2) 2).length = 2 := by decide +kernel
theorem witness_StoreEngineWrites_drain :
    let s := tHeadOf .store false 0x400001 (tL0 1) fun c => { c with storeQ := [{ line := Line.zero, row := true }] }
    tReady s .store 0x400001 = true ∧ slotOp (0x400001 : Slot) = 1 ∧ ((s.core 0 0).ctx .store .a).prog = 0
      ∧ ((s.core 0 0).ctx .store .a).rl (fld (0x400001 : Slot) 17 2) ≤ (s.core 0 0).storeQ.length ∧ (s.core 0 0).draining = []
      ∧ wdrainAddr (tL0 1) 0x400001 0 < spadSize := by decide +kernel

/-- A control form: opcode, class and index. -/
def tCtl (op cls idx imm : Nat) : Slot := BitVec.ofNat 96 (op + cls * 2 ^ 7 + idx * 2 ^ 10 + imm * 2 ^ 32)
/-- SETR, ADDR and RANKADD in each engine; an L register at both ends of its range, and beyond each. -/
theorem witness_EngineRegisterSlots :
    (∀ op ∈ [0x70, 0x71, 0x72], (∀ e ∈ [Engine.load, .matrix, .vector, .store], tReady (tHead e false (tCtl op 0 15 1)) e (tCtl op 0 15 1) = true)
        ∧ slotOp (tCtl op 0 15 1) = op ∧ fld (tCtl op 0 15 1) 7 3 = 0 ∧ fld (tCtl op 0 15 1) 10 4 = 15)
    ∧ (∀ v ∈ [0, 0xFFFFFF, 0x1000000], (ctlValue (tEntry false (tCtl 0x70 4 3 v))).toNat = v ∧ fld (tCtl 0x70 4 3 v) 7 3 = 4)
    ∧ (ctlValue (tEntry false (tCtl 0x71 4 3 0xFFFFFFFF))).toInt = -1 ∧ (EngCtx.reset.reg 4 3).toNat = 0 := by decide +kernel

def tLoop (nl nb : Nat) : Slot := BitVec.ofNat 96 (0x73 + nl * 2 ^ 7 + nb * 2 ^ 9)
def tFrame (nb pos left : Nat) : Frame := { body := [], nb := nb, pos := pos, left := left, amask := 1 }
def tLooped (fs : List Frame) : EngCtx := { EngCtx.reset with loops := fs }
/-- Bodies of 1 and of 64 entries; bodies of 0 and of 65; a fourth loop; a body longer than what is left of the outer one;
a repeat that another follows. -/
theorem witness_HardwareLoops :
    (∀ nb ∈ [0, 1, 64, 65], tReady (tHead .vector false (tLoop 0 nb)) .vector (tLoop 0 nb) = true ∧ slotOp (tLoop 0 nb) = 0x73 ∧ fld (tLoop 0 nb) 9 7 = nb)
    ∧ (let fs := [tFrame 4 1 2, tFrame 8 1 1, tFrame 16 1 1];
        tReady (tHeadOf .vector false (tLoop 0 2) (tLooped fs) id) .vector (tLoop 0 2) = true ∧ 3 ≤ (tLooped fs).loops.length)
    ∧ (let k : EngCtx := { tLooped [tFrame 4 1 2] with queue := [tEntry false (tLoop 0 3)] };
        (k.take (tEntry false (tLoop 0 3))).loops.map (fun f => f.pos + 3) = [5] ∧ k.head = some (tEntry false (tLoop 0 3)))
    ∧ (tLooped [tFrame 4 4 2]).loops = [tFrame 4 4 2] := by decide +kernel

def tBind (hd : Nat) : Slot := BitVec.ofNat 96 (0x74 + hd * 2 ^ 11)
/-- A local tensor of 128 INT8 values at 0, valid, of tenant 0 and epoch 0. -/
def tLocal : BitVec 512 := BitVec.ofNat 512 (4 * 2 ^ 56 + 128 * 2 ^ 64 + 2 ^ 292 + 2 ^ 293)
def tBound (d : BitVec 512) : State := tHeadOf .load false (tBind 9) EngCtx.reset fun c => { c with dcache := [(9, d)] }
theorem witness_DescriptorBinding :
    tReady (tHead .load false (tBind 0)) .load (tBind 0) = true ∧ slotOp (tBind 0) = 0x74
    ∧ (∀ n ∈ [0, 1, 2], tReady (tBound (if n = 0 then tLocal else if n = 1 then 0 else tLocal + 2 ^ 296)) .load (tBind 9) = true)
    ∧ lruFind 9 ((tBound tLocal).core 0 0).dcache = some tLocal ∧ descVld tLocal = true ∧ descTenant tLocal = 0 ∧ descEpoch tLocal = 0
    ∧ descFits ((tBound tLocal).part 0) tLocal 0 = true ∧ (tBound tLocal).bindAddr 0 0 tLocal 0 = some 0 ∧ descVld (0 : DescRec) = false
    ∧ descVld (tLocal + 2 ^ 296) = true ∧ descTenant (tLocal + 2 ^ 296) = 1
    ∧ ((tPart fun q => { q with misses := [(some 0, 9), (none, 9)] }).part 0).misses = (some 0, 9) :: [(none, 9)]
    ∧ ((tPart fun q => { q with misses := [(none, 9)] }).part 0).misses = (none, 9) :: [] := by decide +kernel

/-- Each case of each operation, at the limits. -/
theorem witness_WordOperations :
    (65535 < 65536) ∧ semCount 0x00040002 + 2 ≤ 4 ∧ 4 < semCount 0x00040002 + 3 ∧ 2 ≤ semCount 0x00040002 ∧ semCount 0x00040002 < 3
      ∧ fld (0x00040002 : W32) 16 16 = 4 ∧ fld (5 : W32) 16 16 = 0 ∧ (2 ^ 31 - 1 : Nat) < 2 ^ 31 := by decide +kernel

/-- The first and the last word of each view, from a control port; a SET beyond its limit. -/
theorem witness_SemaphoreViews_reached :
    ∀ e ∈ [(0x400000, 4095), (0x410000, 4095), (0x420000, 4095), (0x430000, 1023), (0x431000, 1023)],
      State.reset.reaches (.port 0) (spaceBase (.part 0) + (e.1 - 0x400000) + 4 * 0) true
        ∧ State.reset.reaches (.port 0) (spaceBase (.part 0) + (e.1 - 0x400000) + 4 * e.2) true := by
  unfold State.reaches; decide +kernel
theorem witness_SemaphoreViews :
    (∀ o ∈ [SemOp.set, .add, .sub, .cset, .inc], State.reset.semClosed (.port 0) (.part 0) o.ctr 4095 = false)
      ∧ (4095 < semLimit (.part 0) false ∧ 1023 < semLimit (.part 0) true ∧ 2047 < semLimit (.hub 0) false ∧ 511 < semLimit (.hub 0) true)
      ∧ SemOp.set.apply 0 0x00010001 = (0x00010001, 0) ∧ SemOp.add.apply 0 1 = (1, 0) ∧ SemOp.sub.apply 1 1 = (0, 0)
      ∧ SemOp.cset.apply 0 5 = (5, 0) ∧ SemOp.inc.apply 0xFFFFFFFF 1 = (0, 0) ∧ (SemOp.set.apply 0 0x00010002).2 = 0x2A05 := by decide +kernel

/-- A sync slot: OP, ENG, SPACE, ONE, IDX and VAL. -/
def tSync (op eng space one idx val : Nat) : Slot :=
  BitVec.ofNat 96 (op + eng * 8 + space * 64 + one * 2 ^ 10 + idx * 2 ^ 11 + val * 2 ^ 24)
def tHeld (w : Slot) : State := tHead .vector true w
/-- A context that holds a signal of amount 1, and nothing in its queue. -/
def tSig (w : Slot) : Signal := { word := w, amount := 1, after := 0 }
def tSigned (e : Engine) (w : Slot) : State := tCore fun c => c.modCtx e .a fun k => { k with signals := tSig w :: [] }
theorem witness_SyncSlotSignals :
    (∀ op ∈ [1, 2, 4], let w := tSync op 3 0 0 5 1; let s := tSigned .vector w
      s.alive 0 0 = true ∧ (s.core 0 0).engFrozen ((s.part 0).copClaimed 0) .vector = false
        ∧ ((s.core 0 0).ctx .vector .a).signals = tSig w :: [] ∧ syncOp (tSig w).word = op
        ∧ (s.core 0 0).atRelease .vector .a (tSig w) = true
        ∧ syncOne w = false ∧ s.mayUse (syncPlace 0 w) (decide (op = 4)) (syncIdx w) (s.part 0).tenant = true)
    ∧ SemOp.add.apply 0 1 = (1, 0) ∧ SemOp.sub.apply 0 1 = (0, 0x2A01)
    ∧ (let w := tSync 1 3 0 1 5 1; syncOne w = true ∧ ((tRun.fenceWrite (.port 0) 0 0 1 none).2.part 0).rank 1 = 1)
    ∧ (let w := tSync 1 3 1 0 5 1; (tHeld w).mayUse (syncPlace 0 w) false (syncIdx w) 0 = true
        ∧ ((tHeld w).modPart 0 fun q => { q with tenant := 1 }).mayUse (syncPlace 0 w) false (syncIdx w) 1 = false) := by decide +kernel
/-- A second unit whose next operation in its semaphore memory is a SUB, an ADD or a WAIT_SUB. -/
theorem witness_SyncSlotSignals_meet :
    (∀ e ∈ [(2, 2), (1, 1)], (tSigned .store (tSync e.1 3 0 0 5 1)).semNext (.eng 0 0 .store .a) = e.2)
      ∧ (tHeld (tSync 3 3 0 0 5 1)).semNext (.eng 0 0 .vector .a) = 3 := by decide +kernel

/-- WAIT_GE, WAIT_SUB and WAIT_REACH of amount 0 and 1 on a partition word, and an arrival counter. -/
theorem witness_WaitsAndWatchdog_heads :
    (∀ op ∈ [0, 3, 5], ∀ v ∈ [0, 1, 255], let w := tSync op 3 0 0 5 v; let s := tHeld w
      s.unitRuns (.eng 0 0 .vector .a) = true
        ∧ s.headWait (.eng 0 0 .vector .a) = some { op := op, space := 0, hub := 0, idx := 5, value := v, since := 0 })
    ∧ (let w := tSync 5 3 2 0 15 1; (tHeld w).headWait (.eng 0 0 .vector .a) = some { op := 5, space := 2, hub := 0, idx := 15, value := 1, since := 0 })
    ∧ State.reset.mayUse (.part 0) false 5 0 = true ∧ State.reset.subs (.part 0) = [] ∧ (State.reset.subs (.part 0)).length < subRoom (.part 0)
    ∧ ((tPart fun q => { q with subQ := [{ who := .seq 0, idx := 5, n := 1 }, { who := .eng 0 0 .vector .a, idx := 5, n := 1 }] }).subs (.part 0)).filter
        (fun r => r.idx == 5) = [{ who := .seq 0, idx := 5, n := 1 }, { who := .eng 0 0 .vector .a, idx := 5, n := 1 }] := by decide +kernel
theorem witness_WaitsAndWatchdog_timer :
    (let s := tLate (tHeld (tSync 0 3 0 0 5 1)); s.watched (.eng 0 0 .vector .a) = true ∧ s.headWait (.eng 0 0 .vector .a) =
        some { op := 0, space := 0, hub := 0, idx := 5, value := 1, since := 0 } ∧ (s.part 0).wdog.toNat = 100000
      ∧ 100000 * 1000 < (s.now - 0).toNat - (s.part 0).heldSince 0)
    ∧ (let s := tHeld (tSync 0 3 0 0 5 1); s.waitSince (.eng 0 0 .vector .a) = some 0 ∧ (s.now - 0).toNat - (s.part 0).heldSince 0 ≤ 100000 * 1000)
    ∧ ((tPart fun q => { q with wdog := 0 }).part 0).wdog.toNat = 0 := by decide +kernel

/-- Requests that a WAIT_SUB stands behind. -/
theorem witness_WaitsAndWatchdog_behind :
    let s := (tHeld (tSync 3 3 0 0 5 1)).setSubs (.part 0) [{ who := .seq 0, idx := 5, n := 1 }, { who := .eng 0 0 .vector .a, idx := 5, n := 1 }]
    (s.subs (.part 0)).filter (fun r => r.idx == 5) = { who := .seq 0, idx := 5, n := 1 } :: [{ who := .eng 0 0 .vector .a, idx := 5, n := 1 }]
      ∧ (s.subs (.part 0)).any (fun r => decide (r.who = .eng 0 0 .vector .a)) = true := by decide +kernel

/-- The first and the last register of each group of core 31 of partition 11. -/
theorem witness_GridAndSteerRegisters :
    (State.reset.reaches (.port 0) (partBase 11 + 0x20000 * 31 + 4 * 0) true ∧ State.reset.reaches (.port 0) (partBase 11 + 0x20000 * 31 + 4 * 127) true)
      ∧ (State.reset.reaches (.port 0) (partBase 11 + 0x20000 * 31 + 0x4000 + 4 * 0) true
        ∧ State.reset.reaches (.port 0) (partBase 11 + 0x20000 * 31 + 0x4000 + 4 * 4095) true)
      ∧ (State.reset.reaches (.port 0) (partBase 11 + 0x20000 * 31 + 0x1000 + 32 * 0 + 4 * 0) true
        ∧ State.reset.reaches (.port 0) (partBase 11 + 0x20000 * 31 + 0x1000 + 32 * 63 + 4 * 7) true)
      ∧ (Steer.reset.put 0 0x1F0).isSome = true ∧ Steer.reset.put 0 0x1F1 = none ∧ Steer.reset.put 1 0x01F10E10 = none
      ∧ (Steer.reset.put 1 0x01F00E10).isSome = true ∧ Steer.reset.put 2 0x00100001 = none := by
  unfold State.reaches; decide +kernel
theorem witness_RegisterAccessCodes :
    State.reset.local (BitVec.ofNat 56 (0xFF000000000000 + partBase 0 + 0x204)) = true
      ∧ fld (BitVec.ofNat 56 (0xFF000000000000 + partBase 0 + 0x204)) 0 48 = partBase 0 + 0x204
      ∧ State.reset.reaches (.port 0) (partBase 0 + 0x20000 * 31 + 0x204) true ∧ State.reset.reaches (.port 0) (partBase 11 + 0x454000) true
      ∧ State.reset.reaches (.port 0) (partBase 0 + 0x20000 * 31 + 0x208) false ∧ State.reset.reaches (.port 0) (partBase 0 + 0x455310 + 8 * 7) false
      ∧ State.reset.reaches (.port 3) (blkBase + 0x7000) false
      ∧ (∀ k ∈ [0, 4095], State.reset.reaches (.port 0) (partBase 0 + 0x20000 * 31 + 0x4000 + 4 * k) true)
      ∧ (let new := ((0x3F800000 : W32) &&& ~~~0x0000FFFF) ||| ((0x3F81ABCD : W32) &&& 0x0000FFFF);
          ¬((bit new 31 = true ∧ fld new 0 31 ≠ 0) ∨ (bit new 31 = false ∧ (fld new 23 8 = 0 ∨ fld new 23 8 = 255)))) := by
  unfold State.reaches; decide +kernel
/-- An entry that is accepted, one with each cause that needs no window, and the null handle. -/
theorem witness_DescriptorEntries :
    State.reset.reaches (.port 0) (partBase 0 + 0x800000 + 64 * 131071) true ∧ entrySource 0 (.port 0) = true
      ∧ descCause (State.reset.part 0) State.reset.full 131071 0 = 0 ∧ descCause (State.reset.part 0) State.reset.full 5 tView = 0xA
      ∧ descCause (tWin) State.reset.full 5 tView = 0 ∧ descCause (State.reset.part 0) State.reset.full 0 tView = 1 := by
  unfold State.reaches; decide +kernel
/-- A ring of 16 bales in an enabled window; one outside; a TAIL at and beyond the ring's size. -/
def tRinged : State := State.reset.modPart 0 fun q => { q with
  wins := vset q.wins 0 tRange, trunk := vset q.trunk 0 { Chan.reset with stagedLo := 4 } }
theorem witness_RingRegisters :
    State.reset.reaches (.port 0) (chanBase (.core 11 31 3) + 4) true ∧ State.reset.reaches (.port 0) (chanBase (.core 11 31 3) + 0xC) true
      ∧ State.reset.reaches (.port 0) (partBase 0 + 0x453400) true
      ∧ (tRinged.chan (.trunk 0 0)).stateCode = 0 ∧ fld (tRinged.chan (.trunk 0 0)).stagedLo 0 5 = 4
      ∧ (tRinged.part 0).inWindows (fld (0xFF0400 : W32) 0 24 * 2 ^ 32) (fld (0xFF0400 : W32) 0 24 * 2 ^ 32 + 64 * 2 ^ 4 - 1) = true
      ∧ (State.reset.part 0).inWindows 0 (64 * 2 ^ 4 - 1) = false
      ∧ ((16 : W32) - 0).toNat ≤ 2 ^ fld Chan.reset.ringLo 0 5 ∧ 2 ^ fld Chan.reset.ringLo 0 5 < ((17 : W32) - 0).toNat
      ∧ (∀ l ∈ (State.reset.part 0).live, ((State.reset.core 0 l).chans[3].tail + BitVec.ofNat 32 (fld (0x00100003 : W32) 16 16)
          - (State.reset.core 0 l).chans[3].head).toNat ≤ 2 ^ fld (State.reset.core 0 l).chans[3].ringLo 0 5) := by
  unfold State.reaches; decide +kernel
theorem witness_RelayQueuesAndClaims :
    State.reset.reaches (.port 0) (partBase 0 + 0x452000 + 8 * 63) true ∧ State.reset.reaches (.port 0) (partBase 0 + 0x452004 + 8 * 63) false
      ∧ State.reset.reaches (.port 0) (partBase 0 + 0x456800 + 8 * 31) false ∧ State.reset.reaches (.port 0) (partBase 0 + 0x456804 + 8 * 31) true
      ∧ tRun.reaches (.seq 0) (partBase 0 + 0x456800) false
      ∧ ((tPart fun q => { q with relay := vset q.relay 0 (List.replicate 16 9), claims := vset q.claims 0 { bound := true, owner := 0, free := true } }).part
          0).relay[0].length = 16
      ∧ ((tPart fun q => { q with claims := vset q.claims 0 { bound := true, owner := 1, free := false } }).part 0).claims[0].bound = true
      ∧ (State.reset.part 0).claims[0].bound = false ∧ (State.reset.part 0).relay[0] = [] ∧ isPort (.seq 1) = false := by
  unfold State.reaches; decide +kernel
theorem witness_DepotCountersAndTrace :
    State.reset.reaches (.port 0) (partBase 0 + 0x453420) true ∧ State.reset.reaches (.port 0) (partBase 0 + 0x455304) true
      ∧ State.reset.reaches (.port 0) (partBase 0 + 0x455388) true ∧ isPort (.port 0) = true
      ∧ tRun.reaches (.seq 0) (partBase 0 + 0x455304) true ∧ tRun.reaches (.seq 0) (partBase 0 + 0x455388) true
      ∧ isPort (.seq 0) = false ∧ bit (1 : W32) 0 = true ∧ bit (2 : W32) 1 = true
      ∧ (let q := (tRinged.modPart 0 fun q => { q with trcHi := 0xFF0400 }).part 0
         q.inWindows (q.trcHi.toNat * 2 ^ 32 + fld q.trcLo 12 20 * 4096) (q.trcHi.toNat * 2 ^ 32 + fld q.trcLo 12 20 * 4096 + 2 ^ (fld q.trcLo 0 4 + 12) - 1) = true)
      ∧ (State.reset.part 0).inWindows 0 4095 = false ∧ (State.reset.part 0).trcEn = false := by
  unfold State.reaches; decide +kernel

/-- An issue in a partition whose audit is off, on with entries left, and on with none left. -/
theorem witness_DepotCountersAndTrace_audit :
    tReady (tHead .matrix false 0x02) .matrix 0x02 = true ∧ ((tHead .matrix false 0x02).part 0).auditEn = false
      ∧ (∀ k ∈ ([0, 2] : List Nat), let q := (tPart fun q => { q with auditEn := true, auditLimit := BitVec.ofNat 15 k }).part 0
          q.auditEn = true ∧ (k = 0 ∨ q.audit.toNat < q.auditLimit.toNat)) := by decide +kernel

/-- A core with a write of slot 5 that may not have landed, and an instruction that finds it so. -/
def tLanding : Landing := { eng := .vector, left := 3, what := .slot 5 Line.zero Line.zero Line.zero }
theorem witness_DepotCountersAndTrace_hazard :
    (let s := (tHead .matrix false 0x02).modCore 0 0 fun c => { c with timing := { Timing.reset with past := tLanding :: [] } };
      (s.core 0 0).timing.past = tLanding :: [] ∧ tReady s .matrix 0x02 = true) := by decide +kernel

/-- A ring of 16 task descriptors open to the host at 0; a reserved size; a TAIL at and beyond the ring's size. -/
theorem witness_TaskRings :
    State.reset.reaches (.port 0) (blkBase + 0x2004) true ∧ State.reset.reaches (.port 0) (blkBase + 0x200C) true
      ∧ State.reset.reaches (.port 1) (blkBase + 0x2004) true
      ∧ (let b := State.reset.hub 0; b.head = b.tail ∧ fld b.stagedLo 0 4 = 4
          ∧ State.reset.hostOpen (fld (0xFF0000 : W32) 0 24 * 2 ^ 32 + fld b.stagedLo 7 25 * 128) (128 * 2 ^ fld b.stagedLo 0 4) = true
          ∧ ((16 : W32) - b.head).toNat ≤ 2 ^ fld b.ringLo 0 4 ∧ 2 ^ fld b.ringLo 0 4 < ((17 : W32) - b.head).toNat)
      ∧ State.reset.hostOpen (fld (0xFF0180 : W32) 0 24 * 2 ^ 32) 2048 = false := by
  unfold State.reaches; decide +kernel
/-- Block 0 may change to tenant 3; it may not while its owner, tenant 0, runs a task. -/
theorem witness_GlobalBlockOwners :
    State.reset.reaches (.port 0) (blkBase + 0x8400 + 16 * 3 + 4 * 3) true ∧ tRun.reaches (.port 0) (blkBase + 0x8400) true
      ∧ (BitVec.ofNat 4 (fld (3 : W32) 0 4)).toNat < 13 ∧ BitVec.ofNat 4 (fld (3 : W32) 0 4) ≠ vget 0 (State.reset.hub 0).gown 0
      ∧ (tRun.part 0).tenant = vget 0 (tRun.hub 0).gown 0 ∧ (tRun.part 0).task.isSome = true
      ∧ State.reset.life ≠ 2 ∧ 1 ≤ (BitVec.ofNat 4 (fld (3 : W32) (4 * (0 % 8)) 4)).toNat ∧ (BitVec.ofNat 4 (fld (3 : W32) (4 * (0 % 8)) 4)).toNat ≤ 12
      ∧ ({ State.reset with fuses := { Fuses.reset with prov := true, svc0 := true } } : State).life = 2 := by
  unfold State.reaches; decide +kernel
theorem witness_LinkControlRegisters :
    State.reset.reaches (.port 0) (linkCtlAddr 0) true ∧ State.reset.reaches (.port 3) (linkCtlAddr 15) true
      ∧ (let s := State.reset.modLink 0 fun k => { k with state := .quar }; s.links[0].state = .quar)
      ∧ (let s := State.reset.modLink 0 fun k => { k with state := .active }; s.links[0].state = .active)
      ∧ (∀ m : Fin 16, State.reset.links[m].waits = [])
      ∧ bit (4 : W32) 2 = true ∧ bit (4 : W32) 0 = false ∧ bit (2 : W32) 1 = true ∧ bit (2 : W32) 2 = false
      ∧ State.reset.reaches (.port 2) (hubBase 2 + 0x450300 + 4 * 63) true := by
  unfold State.reaches; decide +kernel

/-- READ and WRITE of one word: of a register, and of HBM. -/
def tMsg (type a : Nat) : BitVec 128 := BitVec.ofNat 128 (type + 9 * 2 ^ 8 + 2 ^ 16 + (0xFF000000000000 + a) * 2 ^ 32)
def tBusy : State := State.reset.modHub 0 fun b => { b with busy := some { lop := 1, prog := 0 }, loader := { Loader.idle with started := true } }
theorem witness_ControlPortMessages :
    State.reset.phase = .ready ∧ (State.reset.hub 0).portUp = true ∧ (State.reset.hub 0).busy = none
      ∧ (∀ t ∈ [1, 2], ∀ a ∈ [partBase 0 + 0x204, 0], State.reset.msgValid 0 t (tMsg t a) = true ∧ fld (tMsg t a) 16 7 = 1
        ∧ State.reset.portWaits 0 (fld (tMsg t a) 32 56 % 2 ^ 48) (decide (t = 2)) = [])
      ∧ addrQueue (fld (tMsg 1 (partBase 0 + 0x204)) 32 56 % 2 ^ 48) = none ∧ (addrQueue (fld (tMsg 1 0) 32 56 % 2 ^ 48)).isSome = true
      ∧ State.reset.msgValid 0 1 (tMsg 1 1) = false ∧ State.reset.msgValid 0 2 (tMsg 2 1) = false
      ∧ (tBusy.hub 0).busy = some { lop := 1, prog := 0 } ∧ (tBusy.hub 0).loader.started = true := by decide +kernel
theorem witness_ControlPortMessages_bells :
    (let h : BitVec 128 := BitVec.ofNat 128 (3 + 9 * 2 ^ 8 + 2 ^ 16);
      msgType h = 3 ∧ msgZero h = true ∧ fld h 16 7 = 1 ∧ fld h 32 56 % 4 = (0 : Fin 4).val ∧ (State.reset.hub 0).tagsOut.contains 9 = false)
    ∧ ((16 : W32) - (State.reset.hub 0).head).toNat ≤ 2 ^ fld (State.reset.hub 0).ringLo 0 4
    ∧ 2 ^ fld (State.reset.hub 0).ringLo 0 4 < ((17 : W32) - (State.reset.hub 0).head).toNat
    ∧ (let h : BitVec 128 := BitVec.ofNat 128 (4 + 9 * 2 ^ 8 + 2 ^ 16);
      msgType h = 4 ∧ fld h 4 4 = 0 ∧ fld h 23 9 = 0 ∧ fld h 32 56 = 0 ∧ fld h 88 40 = 0 ∧ fld h 16 7 = 1
        ∧ (State.reset.hub 0).tagsOut.contains (BitVec.ofNat 8 (fld h 8 8)) = false)
    ∧ msgType (5 : BitVec 128) ≠ 4
    ∧ ((State.reset.modHub 0 fun b => { b with busy := some { lop := 3, prog := 0 } }).hub 0).busy = some { lop := 3, prog := 0 } := by decide +kernel

/-- Partition 0 runs a code object of `size` bytes at 0xFF_0000_0000_1000 with these words in its bundle cache. -/
def tProg (size : Nat) (l : List W32) : State := tRun.modPart 0 fun q =>
  { q with task := some { tTask with code := 0xFF000000001000 }, bcache := tCache l, codeSize := BitVec.ofNat 32 size }
/-- The bundle that the cache holds at offset 0, when it holds one. -/
def tNext (s : State) : Option Bundle := match (s.part 0).fetch with
  | .ok b => some b
  | _ => none
/-- The bundle passes its checks and no stall holds. -/
def tIssues (s : State) : Bool := match tNext s with
  | some b => !(s.part 0).interlock b && (s.part 0).room b && (s.part 0).seqWait.isNone && decide (b.check = 0) && decide ((s.seqSignal 0 b).1 = 0)
  | none => false
/-- What the scalar slot does. -/
def tKind (s : State) (w : W32) : Nat := match s.scalar 0 w 0 8 with
  | .next _ => 0
  | .jump _ _ => 1
  | .fault _ _ _ => 2

/-- A miss; offset 0 beyond SIZE; a bundle with an empty header; with a scalar ADDI; with EOG; one whose scalar slot has a
reserved opcode; a taken branch; a TRAP; a signal that underflows. -/
theorem witness_SequencerIssue :
    (let s := tProg 24 []; s.seqRuns 0 = true ∧ (s.part 0).skip = 0 ∧ (s.part 0).storeBusy = false ∧ (s.part 0).bmiss = false
      ∧ (s.part 0).fetch = .miss ∧ (s.part 0).missing = some 0
      ∧ s.thisDevice (((s.part 0).codeBase + ((s.part 0).fillLine 0).1) / 2 ^ 48 % 256) = true)
    ∧ ((tProg 3 []).part 0).fetch = .fault 0x490B
    ∧ tIssues (tProg 4 [0]) = true ∧ tIssues (tProg 8 [1, 0x00012950]) = true ∧ tIssues (tProg 4 [0x80]) = true
    ∧ (tNext (tProg 4 [0x80])).map Bundle.eog = some true ∧ (tNext (tProg 4 [0])).map Bundle.eog = some false
    ∧ (tNext (tProg 8 [1, 0x3F])).map (fun b => decide (b.check ≠ 0)) = some true
    ∧ tKind (tProg 8 [1, 0x00010020]) 0x00010020 = 1 ∧ tIssues (tProg 8 [1, 0x00010020]) = true
    ∧ tKind (tProg 8 [1, 0x2C]) 0x2C = 2 ∧ tIssues (tProg 8 [1, 0x2C]) = true
    ∧ (tNext (tProg 8 [0x20, 0x01000002])).map (fun b => decide (((tProg 8 [0x20, 0x01000002]).seqSignal 0 b).1 ≠ 0)) = some true := by decide +kernel
/-- A stall: a wait that is not consumed. An EOG bundle with a fallback pending, and one at which a capture stops. -/
theorem witness_SequencerIssue_stall_and_eog :
    ((tProg 8 [0x20, 0x01002800]).part 0).seqWait.isSome = true
    ∧ (let s := (tProg 4 [0x80]).modPart 0 fun q => { q with fbPend := 2, fallbacks := [{ slot := 1, bkt := 0xFF, entry := 0x40 }] };
        s.capState ≠ .quiescing ∧ (s.part 0).seqState = 1 ∧ (s.part 0).rerun = 0
        ∧ ((List.range 64).find? fun i => (s.part 0).fbPend.getLsbD i) = some 1
        ∧ (s.part 0).fallbackOf 1 = some { slot := 1, bkt := 0xFF, entry := 0x40 } ∧ (s.part 0).trcEn = false ∧ tIssues s = true)
    ∧ (let s : State := { tProg 4 [0x80] with capState := .quiescing, capMask := 1 };
        s.capState = .quiescing ∧ s.capMask.getLsbD (0 : Fin 12).val = true ∧ (s.part 0).fbPend = 0 ∧ (s.part 0).seqState = 1 ∧ tIssues s = true) := by
  decide +kernel
/-- A jump to the last address below 2³², and to 2³². -/
theorem witness_SequencerIssue_jump :
    (let s := (tProg 8 [1, 0x826]).modPart 0 fun q => q.putS 1 0xFFFFFFFF; (s.part 0).s 1 < 2 ^ 32 ∧ tKind s 0x826 = 1 ∧ tIssues s = true)
    ∧ (let s := (tProg 8 [1, 0x826]).modPart 0 fun q => q.putS 1 0x100000000; 2 ^ 32 ≤ ((s.part 0).s 1).toNat ∧ tKind s 0x826 = 1) := by decide +kernel

/-- A full and an empty branch stack, re-run state, a fallback that is due, and a scalar access to the partition's own space. -/
theorem witness_ScalarOperations :
    (∀ op ∈ [1, 2, 3, 4, 5, 6, 7, 8, 9, 0xA, 0xB, 0xC, 0xD, 0x10, 0x11, 0x12, 0x13, 0x14, 0x15, 0x16, 0x17, 0x1C, 0x1D, 0x20, 0x28, 0x2C],
      fld (BitVec.ofNat 32 op) 0 6 = op)
    ∧ ((tPart fun q => { q with calls := List.replicate 8 0 }).part 0).calls.length = 8 ∧ (State.reset.part 0).calls = []
    ∧ ((tPart fun q => { q with rerun := 1 }).part 0).rerun ≠ 0
    ∧ (let s := (tRun.modPart 0 fun q => { q with fallbacks := [{ slot := 1, bkt := 0xFF, entry := 0x40 }] }).setNext 0 1 true;
        (s.part 0).rerun = 0 ∧ (s.part 0).fbNext 1 = true ∧ (s.part 0).fallbackOf 1 = some { slot := 1, bkt := 0xFF, entry := 0x40 })
    ∧ tRun.scalarOk 0 0xFF021000400000 4 = true ∧ tRun.thisDevice (0xFF021000400000 / 2 ^ 48) = true ∧ tRun.scalarOk 0 0xFF021000400001 4 = false
    ∧ tRun.isReg 0xFF021000400000 = true ∧ tRun.isReg 0xFF040000000000 = false
    ∧ (tRun.modPart 0 fun q => { q with wins := vset q.wins 0 tRange }).scalarOk 0 0xFF040000000000 8 = true
    := by decide +kernel
/-- What a write answered, as a number. -/
def tAnswered : RegAns → Nat
  | .now st _ => st.toNat
  | .later _ => 0x10000
  | .busy _ _ => 0x10001
theorem witness_ScalarOperations_store :
    tAnswered (tRun.regWriteN (.seq 0) (0xFF021000400000 % 2 ^ 48) 4 (wordsOf (bytesOf 4 0)) none) = 0 := by decide +kernel

def tLoad (answer : Option (Code × List Byte)) : Load := { rd := 3, addr := 0, size := 8, answer := answer }
def tCast : Broadcast := { ctx := .a, vector := some 0x29, matrix := none, load := none, store := none, sync := none, svals := [] }
theorem witness_SequencerReturns :
    (let s := (tProg 24 []).modPart 0 fun q => { q with bmiss := true, fetchRet := some (0, List.replicate 24 1) };
      (s.part 0).bmiss = true ∧ (s.part 0).abort = none ∧ s.phase = .ready ∧ (s.part 0).missing = some 0
      ∧ (s.part 0).fetchRet = some (0, List.replicate 24 1))
    ∧ (let s := tPart fun q => { q with loads := [tLoad none] ++ tLoad (some (0, [])) :: [tLoad none] };
        (s.part 0).loads = [tLoad none] ++ tLoad (some (0, [])) :: [tLoad none] ∧ tLoad (some (0, [])) ∉ [tLoad none] ∧ (tLoad none).answer = none)
    ∧ (let s := tCore fun c => { c with promenade := [tCast] }; (s.core 0 0).promenade = tCast :: [] ∧ (s.core 0 0).fenced = false
        ∧ tCast.check s.full = 0 ∧ ({ tCast with vector := some 0x7F } : Broadcast).check s.full ≠ 0) := by decide +kernel

/-- A descriptor of zeros is fetched and its end address lies in HBM open to the host; then one that fails each check. -/
def tDesc : TaskDesc := { tTask with endAddr := 0xFF000000002000 }
def tRing : State := State.reset.modHub 0 fun b => { b with tail := 1, ringHi := 0xFF0000 }
theorem witness_TaskSubmission_fetch :
    (tRing.phase = .ready ∧ (tRing.hub 0).checked = none ∧ (tRing.hub 0).head ≠ (tRing.hub 0).tail ∧ (tRing.hub 0).descRead = none
      ∧ (tRing.hub 0).bellWaits = [])
    ∧ (let s := tRing.modHub 0 fun b => { b with descRead := some (some (0, List.replicate 128 0)) };
        (s.hub 0).descRead = some (some (0, List.replicate 128 0)) ∧ (s.taskBytes 0 (List.replicate 128 0)).1 = 0
        ∧ s.taskChecks (taskOf 0 0 (s.hub 0).head (s.hub 0).nextTask) (taskZero 0) ≠ 0) := by decide +kernel
theorem witness_TaskSubmission_checks :
    (tDesc.parts = [0] ∧ tDesc.endAddr.toNat % 64 = 0 ∧ State.reset.hostOpen tDesc.endAddr.toNat 64 = true ∧ State.reset.fused 0 = false)
      ∧ State.reset.taskChecks tDesc true = 0 ∧ State.reset.taskChecks { tDesc with endAddr := 1 } true = 0x3F03
      ∧ State.reset.taskChecks tDesc false = 0x4F01 ∧ ({ State.reset with plive := 0xFFE } : State).taskChecks tDesc true = 0x4F02
      ∧ State.reset.taskChecks { tDesc with scount := 257 } true = 0x4F03 ∧ State.reset.taskChecks { tDesc with scount := 256, sbase := 3840 } true = 0
      ∧ (tPart fun q => { q with tenant := 1 }).taskChecks { tDesc with pmask := 3 } true = 0x8F01 := by decide +kernel
def tChecked (n : Nat) : State := (State.reset.modHub 0 fun b => { b with checked := some tDesc }).modPart 0 fun q => { q with delivery := List.replicate n tTask }
theorem witness_TaskSubmission_delivery :
    ((tChecked 8).hub 0).checked = some tDesc ∧ 8 ≤ ((tChecked 8).part 0).delivery.length
      ∧ ((tChecked 7).part 0).delivery.length < 8 ∧ ((tChecked 7).part 0).unavail = false := by decide +kernel

/-- A delivered task at a running partition. -/
def tWaiting : State := tPart fun q => { q with delivery := [tTask], power := .running }
/-- A code object of 96 bytes with one bucket, at stack 0's local address 0x1000. -/
def tHeader : Nat := 0x4A5A4342 + 2 ^ 32 + 2 ^ 64 + 96 * 2 ^ 80 + 64 * 2 ^ 112
def tCoder : TaskDesc := { tTask with code := 0xFF000000001000 }
def tBuckets : List Byte := bytesOf 16 (80 * 2 ^ 64)
/-- Partition 0 opens the code object, its header there, and its tables asked for or there. -/
def tOpening (reads : List (Nat × Option (Code × List Byte))) : State := tPart fun q =>
  { q with task := some tCoder, opening := true, power := .running, codeReads := (0, some (0, bytesOf 64 tHeader)) :: reads }
def tEnded : State := tRun.modPart 0 fun q => { q with seqState := 2 }
theorem witness_TaskLife :
    ((tWaiting.part 0).delivery = tTask :: [] ∧ tWaiting.phase = .ready ∧ (tWaiting.part 0).task = none ∧ (tWaiting.part 0).unavail = false
      ∧ (tWaiting.part 0).power = .running ∧ tWaiting.frozen 0 = false ∧ (tWaiting.part 0).opening = false)
    ∧ (let s := tOpening []; s.phase = .ready ∧ (s.part 0).opening = true ∧ (s.part 0).task = some tCoder
        ∧ (s.part 0).codeGot 0 = some (0, bytesOf 64 tHeader) ∧ (s.part 0).codeReads.length = 1
        ∧ headerOk tCoder.code.toNat (ofBytes (bytesOf 64 tHeader)) = true ∧ headerOk 0x1001 (ofBytes (bytesOf 64 tHeader)) = false)
    ∧ (let s := tOpening [(1, some (0, tBuckets))];
        (s.part 0).codeReads.length ≠ 1 ∧ (s.part 0).codeGot 1 = some (0, tBuckets) ∧ (s.part 0).codeGot 2 = some (0, [])
        ∧ s.openCode 0 0 (ofBytes (bytesOf 64 tHeader)) (0, tBuckets) (0, []) = .inr (0, { maxShape := 0, width := 0, minLive := 0, entry := 80 }, [])
        ∧ s.openCode 0 9 (ofBytes (bytesOf 64 tHeader)) (0, tBuckets) (0, []) = .inl 0x4907)
    ∧ (tEnded.part 0).task = some tTask ∧ (tEnded.part 0).abort = none ∧ (tEnded.part 0).seqState = 2 ∧ (tEnded.part 0).finished = true
    ∧ tEnded.frozen 0 = false ∧ (tEnded.part 0).snap = tEnded.counts (.part 0) 0 0
    ∧ firstDiff [(0 : BitVec 16)] ((tEnded.putWord (.part 0) false 0 1).counts (.part 0) 0 1) = some 0 := by decide +kernel
/-- An end record that is due, with room for its event and without. -/
def tDue (n : Nat) : State := State.reset.modHub 0 fun b =>
  { b with tasks := [{ RunTask.new tDesc with ran := 1 }],
           evq := List.replicate n { kind := 2, code := 0, part := 0, lop := 0, coal := false, arg := 0, time := 0, seq := 0 } }
theorem witness_TaskLife_end_record :
    ((tDue 256).hub 0).tasks[0]? = some { RunTask.new tDesc with ran := 1 } ∧ (RunTask.new tDesc).left = 0 ∧ ((tDue 256).hub 0).reports = []
      ∧ 256 ≤ ((tDue 256).hub 0).evq.length ∧ ((tDue 255).hub 0).evq.length < 256
      ∧ ((tDue 255).hub 0).evLate = [] ∧ ((tDue 255).hub 0).records = []
      ∧ (RunTask.new tDesc).gsnap = (tDue 255).counts (.hub 0) 0 0
      ∧ (let s := State.reset.modHub 0 fun b => { b with records := [RunTask.new tDesc] }; (s.hub 0).records = RunTask.new tDesc :: [])
      ∧ (RunTask.new tDesc).status = 0 ∧ (RunTask.new tDesc).notrun = false := by decide +kernel
/-- The first bucket that fits. -/
theorem witness_TaskLife_bucket :
    Part.reset.chooseBucket 8 [{ maxShape := 4, width := 0, minLive := 0, entry := 0 }, { maxShape := 8, width := 128, minLive := 32, entry := 64 }]
      = some (1, { maxShape := 8, width := 128, minLive := 32, entry := 64 }) := by decide +kernel

def tReport : State := tRun.modHub 0 fun b => { b with reports := [(0, 1, 0x4904)], tasks := [RunTask.new tTask] }
def tFlushing : State := tRun.modPart 0 fun q => { q with trunk := vset q.trunk 0 { Chan.reset with flush := some 0 } }
def tOut : Outst := { tag := 5, who := .chan (.trunk 0 0) 0 0, read := false, len := 0, since := 0 }
def tDumping (lo : W32) (d : Option Nat) : State := tRun.modPart 0 fun q =>
  { q with abort := some { tAbort with dump := d }, dumpLo := lo, dumpHi := 0xFF0400, wins := vset q.wins 0 tRange }
/-- A trunk channel with a write outstanding. -/
def tWriting : State := tRun.modPart 0 fun q => { q with trunk := vset q.trunk 0 { Chan.reset with runs := [
  { no := 0, idx := 0, bales := [0], descs := [(0, 0, 0)], phase := .write, todo := [], reads := 0, got := [], lines := [], writes := 1, regs := [], ieee := false }] } }
theorem witness_AbortPath :
    ((tReport.hub 0).reports = (0, 1, 0x4904) :: [] ∧ (tReport.hub 0).tasks.find? (fun t => t.desc.serial == 1) = some (RunTask.new tTask))
    ∧ tTask ∈ (tWaiting.part 0).delivery ∧ tTask ∉ (tRun.part 0).delivery ∧ (tRun.part 0).task = some tTask ∧ (tRun.part 0).abort = none
    ∧ (State.reset.part 0).task ≠ some tTask
    ∧ (State.reset.chan (.trunk 0 0)).flush = none ∧ (tFlushing.chan (.trunk 0 0)).flush = some 0 ∧ (tFlushing.now - 0).toNat < 50000
    ∧ 50000 ≤ ((tLate tFlushing).now - 0).toNat
    ∧ State.reset.links[0].chanWrites (.trunk 0 0) = []
    ∧ (State.reset.modLink 0 fun k => { k with outst := [tOut] }).links[0].chanWrites (.trunk 0 0) = [tOut] := by decide +kernel
theorem witness_AbortPath_dump :
    (∀ d ∈ [none, some 0, some 1], ((tDumping 1 d).part 0).abort = some { tAbort with dump := d })
    ∧ ((tDumping 1 none).part 0).flushed = true
    ∧ (let q := (tDumping 1 none).part 0; let a := q.dumpHi.toNat * 2 ^ 32 + fld q.dumpLo 15 17 * 2 ^ 15;
        q.inWindows a (a + 0x7FFF) = true ∧ (tDumping 1 none).thisDevice (a / 2 ^ 48) = true ∧ bit q.dumpLo 0 = true)
    ∧ (let q := { (tDumping 1 none).part 0 with wins := Part.reset.wins }; let a := q.dumpHi.toNat * 2 ^ 32 + fld q.dumpLo 15 17 * 2 ^ 15;
        q.inWindows a (a + 0x7FFF) = false) ∧ bit ((tDumping 0 none).part 0).dumpLo 0 = false
    ∧ (tWriting.part 0).flushed = false := by decide +kernel

/-- The only trunk channel that has work: a ring of 16 bales in HBM with one bale made available. -/
def tChan (k : Chan) (f : Part → Part) : State := tRun.modPart 0 fun q => f { q with trunk := vset q.trunk 0 k }
def tAvail : Chan := { Chan.reset with ringHi := 0xFF0000, tail := 1 }
def tCur (b : Bale) : Cur := { bale := b, popped := none, popOk := false, w0 := false, w1 := false, since := 0 }
def tRunOf (b : Bale) (writes : Nat) : BaleRun :=
  { no := 0, idx := 0, bales := [b], descs := [(0, 0, 0)], phase := .write, todo := [], reads := 0, got := [], lines := [], writes := writes, regs := [], ieee := false }
def tQuiet : BitVec 512 → State := fun b => tChan { Chan.reset with cur := some (tCur b) } id
theorem witness_BaleStarts_fetch :
    (let s := tChan tAvail id;
      s.chanRuns (.trunk 0 0) = true ∧ (s.chan (.trunk 0 0)).cur = none ∧ (s.chan (.trunk 0 0)).nextBale ≠ (s.chan (.trunk 0 0)).tail
      ∧ (s.chan (.trunk 0 0)).ringGot 0 = none ∧ (s.chan (.trunk 0 0)).nextBale = 0)
    ∧ (∀ r ∈ [none, some (0, List.replicate 64 0), some (0x5D02, [])],
        ((tChan { tAvail with ring := [(0, 0, r)] } id).chan (.trunk 0 0)).ringGot 0 = some r)
    ∧ baleCheck false 0 = 0 ∧ baleCheck false 9 = 0x4B01 ∧ baleCheck false 0x800 = 0x4B02 := by decide +kernel
/-- A COPY of one dimension without MRG. -/
def tFlat : DescRec := BitVec.ofNat 512 (0xFF0400 * 2 ^ 32 + 4 * 2 ^ 56 + 128 * 2 ^ 64 + 2 ^ 293)
theorem witness_BaleStarts_copy :
    (let b : Bale := BitVec.ofNat 512 (1 + 5 * 2 ^ 64 + 5 * 2 ^ 128 + 5 * 2 ^ 192);
      let s := (tQuiet b).modPart 0 fun q => { q with wins := vset q.wins 0 tRange, tcache := [(5, tFlat)] };
      (tCur b).resolved = b ∧ s.missingDescs (.trunk 0 0) b = [] ∧ baleOp b = 1 ∧ baleIdle b = false ∧ baleMrg b = false
      ∧ (s.baleRefs (.trunk 0 0) b).isRight = true ∧ descDims tFlat = 0 ∧ descEmpty tFlat = false ∧ (s.mergeNext (.trunk 0 0) 0 b tFlat tFlat).1 = some [])
    := by decide +kernel
/-- A pop of relay queue 63 from an empty queue and from one with a handle. -/
theorem witness_BaleStarts_pop :
    (let s := tQuiet (BitVec.ofNat 512 (1 + 63 * 2 ^ 18 + 2 ^ 24));
      s.chanRuns (.trunk 0 0) = true ∧ (s.chan (.trunk 0 0)).popWait = some (63, 0) ∧ vget [] (s.part 0).relay 63 = [])
    ∧ vget [] ((tPart fun q => { q with relay := vset q.relay 63 [7] }).part 0).relay 63 = 7 :: [] := by decide +kernel
/-- A bale that starts; one whose descriptor is not cached; one whose handle's entry is not valid. -/
theorem witness_BaleStarts_start :
    (let s := tQuiet 1; let u := tCur 1;
      s.chanRuns (.trunk 0 0) = true ∧ (s.chan (.trunk 0 0)).cur = some u ∧ (s.chan (.trunk 0 0)).popWait = none ∧ (s.chan (.trunk 0 0)).waitWord = none
      ∧ (s.chan (.trunk 0 0)).runs.length < 4 ∧ s.missingDescs (.trunk 0 0) u.resolved = [] ∧ (s.baleRefs (.trunk 0 0) u.resolved).isRight = true)
    ∧ (let b : Bale := BitVec.ofNat 512 (8 + 5 * 2 ^ 64); let s := tQuiet b; s.missingDescs (.trunk 0 0) (tCur b).resolved = [5]
        ∧ (let t := s.modPart 0 fun q => { q with tcache := [(5, 0)] };
            t.missingDescs (.trunk 0 0) (tCur b).resolved = [] ∧ t.baleRefs (.trunk 0 0) (tCur b).resolved = .inl 0x3803)) := by decide +kernel
theorem witness_BaleStarts_run :
    (∀ op ∈ [1, 4, 5, 6, 2, 3], let b : Bale := BitVec.ofNat 512 (op + 5 * 2 ^ 64 + 5 * 2 ^ 128 + 5 * 2 ^ 192); baleOp b = op ∧ baleIdle b = false)
      ∧ (∀ op ∈ [0, 1, 8], baleIdle (BitVec.ofNat 512 op) = true ∧ baleOp (BitVec.ofNat 512 op) = op) ∧ baleOp 7 = 7 ∧ baleIdle 7 = false := by decide +kernel

/-- A bale whose writes are done, with nothing to push, with a push onto a queue with room, and onto a full one. -/
def tDoneBale (b : Bale) (n : Nat) : State :=
  tChan { Chan.reset with runs := [tRunOf b 0], tail := 1 } fun q => { q with relay := vset q.relay 0 (List.replicate n 9) }
theorem witness_BaleCompletes :
    (let s := tDoneBale 0 0; let r := tRunOf 0 0;
      (s.chan (.trunk 0 0)).runs = r :: [] ∧ s.chanOpen (.trunk 0 0) = true ∧ (s.chan (.trunk 0 0)).pushHeld = [] ∧ r.phase = .write ∧ r.todo = []
      ∧ r.reads = 0 ∧ r.writes = 0 ∧ (((s.modRun (.trunk 0 0) 0 fun r => { r with regs := [] }).regWrites (.trunk 0 0) 0 []).chanOpen (.trunk 0 0) = true
        ∧ ((((s.modRun (.trunk 0 0) 0 fun r => { r with regs := [] }).regWrites (.trunk 0 0) 0 []).chan (.trunk 0 0)).runs.head?.any fun r => decide (r.writes = 0)) = true))
    ∧ balePush 0 = none ∧ balePush (BitVec.ofNat 512 (3 * 2 ^ 24)) = some (0, 0)
    ∧ ((tDoneBale 0 16).part 0).relayFull 0 = true ∧ ((tDoneBale 0 15).part 0).relayFull 0 = false
    ∧ ((tDoneBale 0 0).part 0).abort = none ∧ ((tDoneBale 0 0).part 0).trcEn = false
    ∧ bit (0 : BitVec 64) 0 = false ∧ bit (3 : BitVec 64) 0 = true := by decide +kernel
/-- A register write that aborts the task, when it is done before its bale's completion. -/
theorem witness_BaleCompletes_fault :
    ((tDoneBale 0 0).regWrites (.trunk 0 0) 0 [(0xFF021000400001, [0, 0, 0, 0])]).chanOpen (.trunk 0 0) = false := by decide +kernel
theorem witness_BaleCompletes_push :
    let s := (tDoneBale (BitVec.ofNat 512 (3 * 2 ^ 24)) 16).modChan (.trunk 0 0) fun k => { k with pushHeld := [(0, 0)] }
    (s.chan (.trunk 0 0)).pushHeld = (0, 0) :: [] ∧ (s.chan (.trunk 0 0)).runs = tRunOf (BitVec.ofNat 512 (3 * 2 ^ 24)) 0 :: []
      ∧ s.chanOpen (.trunk 0 0) = true := by decide +kernel

def tRet (status : Code) (bale : W32) : Ret := { bale := bale, piece := 0, status := status, data := [] }
/-- Data for a bale that is there, without and with an error, and for one that is gone. -/
theorem witness_BaleReturns_data :
    (let s := tChan { Chan.reset with runs := [{ tRunOf 1 0 with phase := .source, reads := 1 }], ret := [tRet 0 0], tail := 1 } id;
      (s.chan (.trunk 0 0)).ret = tRet 0 0 :: [] ∧ s.chanOpen (.trunk 0 0) = true ∧ ∃ r ∈ (s.chan (.trunk 0 0)).runs, r.no = 0)
    ∧ (tRet 0 0).status = 0 ∧ (tRet 0x5D02 0).status ≠ 0
    ∧ ¬ ∃ r ∈ ((tChan { Chan.reset with ret := [tRet 0 9] } id).chan (.trunk 0 0)).runs, r.no = 9 := by decide +kernel
def tFill (done : Option (Code × List Byte)) : Fill := { base := 0, alloc := true, done := done, upd := [], wait := [] }
def tFills : State := State.reset.modDepot 0 fun t => { t with fills := [tFill none] ++ tFill (some (0, [])) :: [] }
theorem witness_BaleReturns_fill :
    (tFills.depot 0).fills = [tFill none] ++ tFill (some (0, [])) :: [] ∧ tFill (some (0, [])) ∉ [tFill none] ∧ (tFill none).done = none := by
  decide +kernel
/-- A timer of 1 µs before, at and after its limit. -/
def tArmed : State := tPart fun q => { q with tmrArm := q.tmrArm.set 0 (some 0), tmrLim := q.tmrLim.set 0 1, rtEn := true }
theorem witness_BaleReturns_timer :
    (tArmed.part 0).tmrArm[0] = some 0 ∧ (tArmed.part 0).rtEn = true ∧ (tArmed.part 0).tmrLim[0].toNat ≠ 0 ∧ tArmed.phase = .ready
      ∧ tArmed.timersRun 0 = true ∧ ¬ (1 * 1000 + (tArmed.part 0).heldSince 0 ≤ (tArmed.now - 0).toNat)
      ∧ (let s : State := { tArmed with dieTime := Vector.replicate 28 1000 }; 1 * 1000 + (s.part 0).heldSince 0 ≤ (s.now - 0).toNat)
      ∧ (State.reset.part 0).tmrArm[0] = none := by decide +kernel

/-- A request of a control port: n bytes at an address. -/
def tAsk (kind : ReqKind) (a n : Nat) (d : List Byte) : MemReq :=
  { who := .port 0 9, src := .port 0, kind := kind, addr := a, len := n, data := d, got := [], arrive := none, last := true, tail := true, consume := false }
def tDma (m : MemReq) : State := State.reset.modCore 0 0 fun c => { c with dmaRead := [m] }
/-- A read inside one row, one that crosses into a second row, and one in the hole. -/
theorem witness_MemoryPorts_dma :
    (∀ e ∈ [(0, 512), (256, 512)], let m := tAsk .read (0x020000000000 + e.1) e.2 []; let s := tDma m;
      s.phase = .ready ∧ (s.core 0 0).dmaQueue .read = m :: [] ∧ s.spadStatus m.src 0 0 (m.addr % 0x2000000) m.len false = 0
      ∧ (s.dmaPiece m 0 0 (m.addr % 0x2000000) (min m.len (512 - m.addr % 0x2000000 % 512))).1 = 0)
    ∧ (let m := tAsk .read (0x020000000000 + 0x1800000) 64 []; (tDma m).spadStatus m.src 0 0 (m.addr % 0x2000000) m.len false = 0x3701) := by
  decide +kernel
/-- A guarded row that is not filled, and one that is; a row outside the guard. -/
theorem witness_MemoryPorts_guard :
    (let c := { Core.reset with guardEn := true }; c.checked 0 = true ∧ c.rowValid 0 = false ∧ (c.setRow 0 true).rowValid 0 = true
      ∧ c.checked 0xBFFF = true) ∧ Core.reset.checked 0 = false ∧ (∀ w ∈ wordRange 0 512, Sparse.get none Core.reset.bad w = none)
    ∧ partWords 0 512 = [] ∧ partWords 0 3 = [0] ∧ (0 : Nat) + 512 ≤ spadSize := by decide +kernel
theorem witness_MemoryPorts_write_back :
    (State.reset.core 0 0).writeBack = [] ∧ ((State.reset.modCore 0 0 fun c => { c with writeBack := [5] }).core 0 0).writeBack = 5 :: [] := by decide +kernel
/-- A stack port's requests: the oldest of the source chosen; a region closed to the host; a bad unit. -/
def tStack (m : MemReq) : State := State.reset.modStack 0 fun k => { k with qRead := [m] }
theorem witness_MemoryPorts_stack :
    (let m := tAsk .read 64 64 []; let s := tStack m; let l := s.stackPorts[0].queue .read;
      s.phase = .ready ∧ s.stackPorts[0].hold = false ∧ s.stackPorts[0].training = false
      ∧ (l.map fun m => m.src).eraseDups[5 % (l.map fun m => m.src).eraseDups.length]? = some m.src ∧ l[0]? = some m
      ∧ place m.addr = .hbm 0 64 ∧ s.regions[regionNo 0 64].swap = none ∧ s.hbmStatus m.src 0 64 = 0
      ∧ s.stackPorts[0].badUnits.contains (64 / 64) = false ∧ s.stackPorts[0].up = true)
    ∧ (State.reset.modRegion 0 fun r => { r with host := false }).hbmStatus (.port 0) 0 64 = 0x8D01
    ∧ (State.reset.modStack 0 fun k => { k with badUnits := [1] }).stackPorts[0].badUnits.contains (64 / 64) = true
    ∧ State.reset.stackPorts[0].up = true ∧ State.reset.stackPorts[0].hours ≠ 0 ∧ (State.reset.hbmFixed 0).stackPorts[0].badUnits.contains 1 = false := by
  decide +kernel
/-- A rotation that is due, a fill that ends, a stack in training; temperatures at every threshold. -/
theorem witness_StackUpkeep :
    State.reset.phase = .ready ∧ State.reset.fused (stackPart 0) = false ∧ State.reset.warm = false
      ∧ (State.reset.modRegion 5 fun r => { r with swap := some true }).regions[5].swap = some true ∧ State.reset.regions[5].swap = none
      ∧ (State.reset.modRegion 5 fun r => { r with fill := true }).regions[5].fill = true ∧ State.reset.regions[5].fill = false
      ∧ (State.reset.modStack 3 fun k => { k with training := true }).stackPorts[3].training = true
      ∧ (let s : State := { State.reset.modStack 3 fun k => { k with training := true } with warm := true };
          s.stackPorts[3].training = true ∧ s.warm = true ∧ (∀ e : Fin 24, e ≠ 3 → s.stackPorts[e].training = false)
          ∧ (s.modStack 4 fun k => { k with training := true }).stackPorts[4].training = true)
      ∧ State.reset.secNow = none ∧ State.reset.secQ = []
      ∧ (State.reset.modStack 3 fun k => { k with throt := true }).stackPorts[3].throt = true
      ∧ (89 < 90) ∧ (90 ≤ (94 : Byte).toNat ∧ (94 : Byte).toNat < 95) ∧ (95 ≤ (99 : Byte).toNat ∧ (99 : Byte).toNat < 100)
      ∧ (100 ≤ (104 : Byte).toNat ∧ (104 : Byte).toNat < 105) ∧ 105 ≤ (105 : Byte).toNat := by decide +kernel

/-- The base point of P-384. -/
def tPoint : List Byte :=
  (bytesOf 48 0xAA87CA22BE8B05378EB1C71EF320AD746E1D3B628BA79B9859F741E082542A385502F25DBF55296C3A545E3872760AB7).reverse
    ++ (bytesOf 48 0x3617DE4A96262C6F5D9E98BF9292DC29F8F41DBD289A147CE9DA3113B5F0B8C00A60B1CE1D7E819D7A431D7C90EA0E5F).reverse
theorem test_p384_base_point : pointOk tPoint = true ∧ pointOk (bytesOf 96 0) = false := by decide +kernel

/-- A stream header: ident, build, hub, targets, the digest of the agreement key, the rest fixed: one segment of 8 bytes. -/
def tHdrOf (ident build hub tgt : Nat) (digest : List Byte) : List Byte :=
  bytesOf 32 (0x44414E4F + 2 ^ 32 + ident * 2 ^ 48 + build * 2 ^ 64 + hub * 2 ^ 80 + tgt * 2 ^ 96 + 2 ^ 128 + 8 * 2 ^ 160)
    ++ digest ++ tPoint ++ bytesOf 96 0 ++ bytesOf 48 0 ++ bytesOf 96 0 ++ bytesOf 96 0
def tDigest : List Byte := bytesOf 48 (Config.sha384 (pointBytes State.reset.kaPub)).toNat
def tLoading (hdr : List Byte) : State := State.reset.modHub 0 fun b => { b with loader := { Loader.idle with started := true, buf := hdr } }
/-- One header that fails each of the first four checks, and only it. -/
theorem witness_PersonalityStreams_rejected :
    (let l := ((tLoading (tHdrOf 0x5A12 1 0 1 (bytesOf 48 0))).hub 0).loader; l.started = true ∧ l.state = .idle ∧ 512 ≤ l.buf.length)
    ∧ streamForm (tHdrOf 0x5A12 1 0 0 (bytesOf 48 0)) = false
    ∧ (let h := tHdrOf 0x5A12 1 0 0x800 (bytesOf 48 0); streamForm h = true ∧ ∃ p ∈ targets h, homeHub p ≠ 0)
    ∧ (let h := tHdrOf 0x5A13 1 0 1 (bytesOf 48 0); streamForm h = true ∧ hfield h 0xA 1 = 0 ∧ (∀ p ∈ targets h, homeHub p = 0 ∧ State.reset.fused p = false)
        ∧ hfield h 6 2 ≠ 0x5A12)
    ∧ (let h := tHdrOf 0x5A12 2 0 1 (bytesOf 48 0); hfield h 6 2 = 0x5A12 ∧ hfield h 8 2 ≠ State.reset.build.toNat) := by decide +kernel
/-- A header that passes every check but the signature's, whose result is opaque: true, it is accepted; false, 0x7E06. -/
theorem witness_PersonalityStreams_accepted :
    (let h := tHdrOf 0x5A12 1 0 1 tDigest; streamForm h = true ∧ hfield h 0xA 1 = 0 ∧ targets h = [0] ∧ hfield h 6 2 = 0x5A12
      ∧ hfield h 8 2 = State.reset.build.toNat) ∧ State.reset.secTakes 0 = false ∧ State.reset.life = 0 ∧ (State.reset.part 0).task = none := by decide +kernel
theorem witness_PersonalityStreams_digest :
    ((tHdrOf 0x5A12 1 0 1 tDigest).drop 0x20).take 48 = bytesOf 48 (Config.sha384 (pointBytes State.reset.kaPub)).toNat := by rfl
def tLoad0 (st : LoadState) (f : Loader → Loader) : State := State.reset.modHub 0 fun b =>
  { b with loader := f { Loader.idle with started := true, state := st, hdr := tHdrOf 0x5A12 1 0 1 (bytesOf 48 0), buf := bytesOf 32 (8 * 2 ^ 32) } }
/-- A load with a whole segment, before and after the commit point, with requests drained; the times at and before each limit. -/
theorem witness_PersonalityStreams_segments :
    (∀ st ∈ [LoadState.header, .committed], let s := tLoad0 st id; let l := (s.hub 0).loader;
      l.state = st ∧ tgtHub l.hdr = false ∧ l.ended = false ∧ 24 + segLen l.hdr l.done ≤ l.buf.length ∧ s.drained 0 = true ∧ hfield (l.buf.take 8) 0 4 = l.done)
    ∧ hfield (bytesOf 8 1) 0 4 ≠ 0
    ∧ 100000000 ≤ ((tLate State.reset).now - 0).toNat ∧ (State.reset.now - 0).toNat < 50000
    ∧ (let s := (tLoad0 .releasing fun l => { l with ended := true, pllFrom := some 0 }).putFrame 0 250 1 [8];
        (s.hub 0).loader.pllFrom = some 0 ∧ (s.hub 0).loader.ended = true ∧ ∃ d ∈ streamDies 0 (s.hub 0).loader.hdr, s.pllRuns d = true)
    ∧ (let s := tLoad0 .header fun l => { l with buf := [] }; let l := (s.hub 0).loader;
        l.state = .header ∧ l.drained = false ∧ l.whole = 0 ∧ l.ended = false
        ∧ (((targets l.hdr).foldl (fun s p => s.abandon p) s).modLoader 0 fun l => { l with drained := true }).secNow = none) := by decide +kernel
/-- Plaintext of less than a command, of a NOP, of one with bits where a NOP has none, and of an END. -/
theorem witness_PersonalityStreams_commands :
    (tLoad0 .committed id).command 0 = .wait ∧ (tLoad0 .committed fun l => { l with plain := bytesOf 8 0 }).command 0 = .ok 8 (tLoad0 .committed fun l => { l with plain := bytesOf 8 0 })
      ∧ (tLoad0 .committed fun l => { l with plain := bytesOf 8 0x100 }).command 0 = .bad 0x7E09 := by
  refine ⟨?_, ?_, ?_⟩ <;> rfl

/-! Links, security, faults, power and test. -/

def tLink (f : Link → Link) : State := State.reset.modLink 0 f
/-- A claimed link in its hub's slot; the same hub in a slot that it has used; a group of a link in TRAIN. -/
theorem witness_LinkTraining_start :
    (let s := tLink fun k => { k with claimed := true };
      s.phase = .ready ∧ s.now.toNat / 250000 % 4 = (0 : Fin 4).val ∧ (s.hub 0).lastSlot ≠ some (s.now.toNat / 250000) ∧ linkHub 0 = 0
      ∧ s.links[0].claimed = true ∧ s.links[0].disable = false ∧ s.links[0].state = .idle)
    ∧ (let s := tLink fun k => { k with claimed := true, state := .train, groups := 1 }; s.links[0].state = .train ∧ s.links[0].groups = 1)
    ∧ State.reset.now.toNat / 250000 % 4 ≠ (1 : Fin 4).val
    ∧ ((State.reset.modHub 0 fun b => { b with lastSlot := some 0 }).hub 0).lastSlot = some (State.reset.now.toNat / 250000) := by decide +kernel
/-- A HELLO that came before the own, and a packet that waits for the link. -/
def tPack (req : Option (Requester × Bool × Nat)) : Waiting := { hdr := 1, data := [], src := .port 0, req := req, back := none, since := 0 }
theorem witness_LinkTraining_states :
    (let s := (tLink fun k => { k with state := .auth, helloRx := [1] }).modHub 0 fun b => { b with certv := true };
      s.links[0].state = .auth ∧ s.links[0].helloRx ≠ [] ∧ s.links[0].helloTx = [] ∧ (s.hub (linkHub 0)).certv = true)
    ∧ (tLink fun k => { k with waits := [tPack none] }).links[0].waits ≠ [] ∧
    (let s := tLink fun k => { k with state := .train, groups := 2 }; s.links[0].state = .train ∧ s.links[0].groups = 2
      ∧ 100000000 ≤ ((tLate s).now - (tLate s).links[0].since).toNat ∧ (s.now - s.links[0].since).toNat < 100000000)
    ∧ (let s := tLink fun k => { k with state := .auth }; s.links[0].state = .auth ∧ (s.hub (linkHub 0)).certv = false ∧ s.links[0].helloTx = []
        ∧ ((s.modHub 0 fun b => { b with certv := true }).hub (linkHub 0)).certv = true)
    ∧ (tLink fun k => { k with state := .auth, helloTx := [1] }).links[0].helloTx ≠ []
    ∧ (let s := tLate (tLink fun k => { k with state := .down }); s.links[0].state = .down ∧ 1000000000 ≤ (s.now - s.links[0].since).toNat)
    ∧ State.reset.links[0].state ≠ .down := by decide +kernel

/-- A packet of 24 header bytes that may start on a VC. -/
def tPacket (vc : BitVec 2) (ptype : Nat) : OutPacket := { vc := vc, hdr := BitVec.ofNat 192 ptype, data := [] }
def tSends (l : List OutPacket) (f : Link → Link) : Link := f { Link.reset with state := .active, egress := l }
/-- Nothing to send, 511 and 512 unacknowledged flits, flits to resend, quarantine, and each VC chosen. -/
theorem witness_LinkFlits_slots :
    (tSends [] id).pickVc = none ∧ (tSends [] fun k => { k with replay := List.replicate 511 (0, []) }).replay.length < 512
      ∧ 512 ≤ (tSends [] fun k => { k with replay := List.replicate 512 (0, []) }).replay.length
      ∧ (tSends [] fun k => { k with resend := [(3, [1])] }).resend = (3, [1]) :: [] ∧ (tSends [] fun k => { k with state := .quar }).state = .quar
      ∧ (tSends [tPacket 3 9] id).hasData 3 = true ∧ (tSends [tPacket 3 9] id).resend = []
      ∧ (tSends [tPacket 2 6] id).hasData 3 = false ∧ (tSends [tPacket 2 6] id).hasData 2 = true
      ∧ (let k := tSends [tPacket 0 1, tPacket 1 3] id;
          k.hasData 3 = false ∧ k.hasData 2 = false ∧ k.rest 0 = [] ∧ k.rest 1 = [] ∧ k.hasData 0 = true ∧ k.hasData 1 = true) := by decide +kernel
theorem witness_LinkFlits_states :
    ((tLink fun k => { k with state := .auth }).links[0].state = .auth) ∧ (tLink fun k => { k with state := .active, ackOwed := 1 }).links[0].state = .active
      ∧ 0 < (tLink fun k => { k with state := .active, ackOwed := 1 }).links[0].ackOwed
      ∧ (let s := tLink fun k => { k with state := .active, ackOwed := 1 };
          100 ≤ ((tLate s).now - (tLate s).links[0].ackSince).toNat ∧ (s.now - s.links[0].ackSince).toNat < 100)
      ∧ (let s := tLink fun k => { k with state := .active, waits := [] ++ tPack none :: [] };
          s.links[0].waits = [] ++ tPack none :: [] ∧ s.links[0].space (tPack none).cls = true)
      ∧ (let s := tLate (tLink fun k => { k with state := .active }); 10000 ≤ (s.now - s.links[0].lastBeat).toNat)
      ∧ (Header.ofBits (tPacket 3 9).hdr).ptype = 9 ∧ (Header.ofBits (tPacket 2 6).hdr).ptype = 6 := by decide +kernel
/-- A good flit and a bad one; an idle flit, a data flit in and out of sequence, a NAK, and a header with a field that is not 0. -/
theorem witness_LinkFlits_received :
    (flitOf 0 []).length = 256 ∧ flitCrc ((flitOf 0 []).take 252) = hfield (flitOf 0 []) 252 4
      ∧ ¬ (flitCrc ((List.replicate 256 (1 : Byte)).take 252) = hfield (List.replicate 256 (1 : Byte)) 252 4)
      ∧ (List.replicate 256 (1 : Byte)).length = 256
      ∧ (∀ h ∈ [0, 1, 1 + 5 * 4, 2 ^ 26], let x := hfield (flitOf h []) 0 8;
          x = h ∧ ¬ (2 ≤ fieldN x 0 2 ∨ fieldN x 43 6 = 61 ∨ fieldN x 43 6 = 62 ∨ fieldN x 49 15 ≠ 0))
      ∧ fieldN 1 2 12 = Link.reset.rxSeq.toNat ∧ fieldN (1 + 5 * 4) 2 12 ≠ Link.reset.rxSeq.toNat ∧ fieldN (2 ^ 26) 26 1 = 1
      ∧ fieldN 1 0 2 = 1 ∧ 2 ≤ fieldN 2 0 2 ∧ fieldN (2 ^ 49) 49 15 ≠ 0 := by decide +kernel
/-- The eighth NAK for one flit. -/
theorem witness_LinkFlits_naks :
    let s := tLink fun k => { k with state := .active, nakRun := 8, nakSeq := 0 }
    8 ≤ (s.modLink 0 fun k => ((k.acked 0).credited 0 0).naked 0).links[0].nakRun := by decide +kernel

theorem witness_LinkTimersAndEvents_links :
    (let s := tLink fun k => { k with state := .active };
      s.links[0].state = .active ∧ 1000000 ≤ ((tLate s).now - (tLate s).links[0].lastRx).toNat ∧ (s.now - s.links[0].lastRx).toNat < 1000000
      ∧ s.links[0].credWait = none)
    ∧ (let s := tLink fun k => { k with state := .active, credWait := some 0 };
        s.links[0].credWait = some 0 ∧ 10000000 ≤ ((tLate s).now - 0).toNat ∧ (s.now - 0).toNat < 10000000)
    ∧ (let s := tLink fun k => { k with outst := [tOut] };
        s.links[0].outst.find? (fun o => decide (o.tag = 5)) = some tOut
        ∧ max (s.hub (linkHub 0)).tmo.toNat 1 * 1000 ≤ ((tLate s).now - tOut.since).toNat
        ∧ (s.now - tOut.since).toNat < max (s.hub (linkHub 0)).tmo.toNat 1 * 1000)
    ∧ (let w := tPack (some (.port 0 9, false, 4)); let s := tLink fun k => { k with waits := [tPack none] ++ w :: [] };
        s.links[0].waits = [tPack none] ++ w :: [] ∧ (tPack none).req = none ∧ w.req = some (.port 0 9, false, 4) ∧ w ∉ [tPack none]
        ∧ max (s.hub (linkHub 0)).tmo.toNat 1 * 1000 ≤ ((tLate s).now - w.since).toNat)
    ∧ (∀ o ∈ State.reset.links[0].outst, o.tag ≠ 5) := by decide +kernel
def tHubReq (waits : List (BitVec 16 × Byte)) : HubReq :=
  { src := .port 0, addr := partBase 0 + 0x204, len := 0, data := [0], who := .port 0 9, waits := waits }
def tEvent : Event := { kind := 5, code := 0, part := 0xFF, lop := 1, coal := false, arg := 0, time := 0, seq := 1 }
theorem witness_LinkTimersAndEvents_hubs :
    (let s := State.reset.modHub 0 fun b => { b with aliases := [tHubReq [(5, 1)]] ++ tHubReq [] :: [] };
      (s.hub 0).aliases = [tHubReq [(5, 1)]] ++ tHubReq [] :: [] ∧ (tHubReq []).waits = [] ∧ (∀ x ∈ [tHubReq [(5, 1)]], x.waits ≠ []))
    ∧ (∀ x ∈ (State.reset.hub 0).aliases, x.waits ≠ []) ∧ (State.reset.hub 0).portUp = true
    ∧ (State.reset.hub 0).evPend.getLsbD 0 = false
    ∧ (let s := State.reset.modHub 0 fun b => { b with evPend := 1 }; (s.hub 0).evPend.getLsbD 0 = true ∧ (s.hub 0).evq.length < 256)
    ∧ (tBusy.hub 0).busy = some { lop := 1, prog := 0 } ∧ tEvent.kind = 5 ∧ tEvent.lop.toNat = (1 : BitVec 4).toNat := by decide +kernel

/-- SEC_CMD values: OP, and a wrong form of each kind. -/
theorem witness_SecurityCommands_forms :
    State.reset.phase = .ready ∧ (State.reset.hub 0).busy = none ∧ (tBusy.hub 0).busy.isSome = true
      ∧ (∀ op ∈ [1, 2, 3, 4], ∃ v ∈ (List.range 65536).take 8192, secOp (BitVec.ofNat 32 v) = op) ∧ State.reset.secQ = [] := by decide +kernel
/-- Commands that wait and that do not. -/
theorem witness_SecurityCommands_waits :
    (let c : SecCmd := { hub := 0, v := 3 }; let s : State := { State.reset with secQ := [c] };
      s.secNow = none ∧ s.secQ = c :: [] ∧ s.secWaits c = false)
    ∧ (let s : State := { State.reset with capState := .writing }; s.secWaits { hub := 0, v := 1 } = true ∧ secOp (1 : W32) = 1) := by decide +kernel
theorem witness_SecurityCommands_tenants :
    (let s := State.reset.modHub 0 fun b => { b with arg1 := 1 }; (s.hub 0).arg1.getLsbD (0 : Fin 12).val = true ∧ (∀ p : Fin 12, (s.part p).task = none))
    ∧ (let s := tRun.modHub 0 fun b => { b with arg1 := 1 }; (s.hub 0).arg1.getLsbD (0 : Fin 12).val = true ∧ (s.part 0).task.isSome = true) := by decide +kernel
/-- A range of no region, the whole block, one region beyond it, a region that is being filled, and one whose rotation is due. -/
theorem witness_SecurityCommands_regions :
    fld (0 : W32) 16 11 = 0 ∧ fld (0x06000000 : W32) 16 11 = 1536 ∧ ¬ (1536 < fld (0x06000000 : W32) 0 11 + 1536)
      ∧ 1536 < fld (0x06000001 : W32) 0 11 + fld (0x06000001 : W32) 16 11
      ∧ (State.reset.modRegion 0 fun r => { r with fill := true }).regions[0].fill = true
      ∧ State.reset.regions[0].fill = false ∧ State.reset.regions[0].swap ≠ some true
      ∧ (State.reset.modRegion 0 fun r => { r with swap := some true }).regions[0].swap = some true := by decide +kernel
/-- Each life-cycle state, and spent fuse banks. -/
def tFuse (f : Fuses) : State := { State.reset with fuses := f }
def tLife (n : Nat) : State :=
  if n = 0 then State.reset else if n = 1 then tFuse { Fuses.reset with prov := true } else if n = 2 then tFuse { Fuses.reset with prov := true, svc0 := true }
  else if n = 3 then tFuse { Fuses.reset with prov := true, svc0 := true, ret := 1 } else tFuse { Fuses.reset with scrap := true }
/-- A bit burned in one copy alone is burned (R421). -/
theorem test_either_copy : ({ State.reset with fuseCopy := { Fuses.reset with prov := true } } : State).life = 1 := by decide +kernel
theorem witness_SecurityCommands_life :
    (∀ n ∈ [0, 1, 2, 3, 4], (tLife n).life = n)
      ∧ (let s := tFuse { Fuses.reset with prov := true, svc0 := true, ret := 0xFFFF, svc := 0xFFFF };
          s.life = 2 ∧ s.fuseBits.ret = BitVec.allOnes 16)
      ∧ (tLife 2).fuseBits.ret ≠ BitVec.allOnes 16 ∧ (tLife 3).fuseBits.svc ≠ BitVec.allOnes 16
      ∧ (let s := tFuse { Fuses.reset with prov := true, svc0 := true, ret := 0x1FFFF, svc := 0xFFFF }; s.fuseBits.svc = BitVec.allOnes 16)
      ∧ (tLife 2).hostOpen (((tLife 2).hub 0).arg3.toNat * 2 ^ 32) 2048 = false
      ∧ (((tLife 2).modHub 0 fun b => { b with arg3 := 0xFF0000 })).hostOpen (0xFF0000 * 2 ^ 32) 2048 = true := by decide +kernel
/-- A tenant change that drains, one that rotates, and a report, each at work and done. -/
def tSec (v : W32) (phase : SecPhase) (regs : List (Fin 1536)) (ended : Option Code) (f : State → State) : State :=
  { f (State.reset.modHub 0 fun b => { b with arg1 := 1 }) with
    secNow := some { cmd := { hub := 0, v := v }, since := 0, phase := phase, regs := regs, ended := ended } }
theorem witness_SecurityCommands_phases :
    (let s := tSec 1 .drain [] none id; s.secParts 0 = [0] ∧ s.partReqs 0 = [] ∧ s.secTakes 0 = true)
    ∧ (let s := tSec 1 .drain [] none fun s => s.modPart 0 fun q => { q with storeBusy := true, loads := [tLoad none] };
        s.secParts 0 = [0] ∧ (s.now - 0).toNat < 50000 ∧ 50000 ≤ ((tLate s).now - 0).toNat ∧ (s.hub 0).loader.state ≠ .header)
    ∧ (let s := tSec 1 .rotate [5] none fun s => s.modRegion 5 fun r => { r with swap := some true }; s.regions[5].swap.isSome = true)
    ∧ (tSec 1 .rotate [5] none id).regions[5].swap = none
    ∧ secOp (2 : W32) = 2 ∧ (tSec 3 .report [] (some 0) id).secNow.isSome = true := by decide +kernel

/-- Requests of CORE_FENCE: FENCE, UNFENCE and BYPASS_OCTET, with each cause of a rejection. -/
theorem witness_FencingAndReset_requests :
    State.reset.reaches (.port 0) (partBase 11 + 0x500100 + 0x1000 * 31) true ∧ State.reset.reaches (.port 0) (partBase 0 + 0x454004) true
      ∧ (∀ r ∈ [1, 2, 3], fenceReq (BitVec.ofNat 32 (r * 2 ^ 18)) = r) := by
  unfold State.reaches; decide +kernel
theorem witness_FencingAndReset_causes :
    (State.reset.part 0).abort = none ∧ (tAborting.part 0).abort.isSome = true ∧ (tRun.part 0).task.isSome = true
      ∧ ({ State.reset with plive := 0xFFE } : State).fused 0 = true
      ∧ (let s := tPart fun q => { q with cores := Vector.ofFn fun l : Fin 32 => { q.cores[l] with fenced := decide (l ≠ 0) } };
          (s.core 0 0).fenced = false ∧ (s.part 0).liveCount ≤ 1)
      ∧ (let s := State.reset.modCore 0 0 fun c => { c with bypass := some 3 }; (s.core 0 0).bypass = some 3)
      ∧ (State.reset.part 0).liveCount = 32 ∧ (State.reset.part 0).task = none
      ∧ ((tPart fun q => { q with cores := q.cores.map fun c => { c with bypass := some 3 } }).part 0).width ≠ (State.reset.part 0).width := by decide +kernel

/-- LOG_CAP_CTL with GO; a request that may begin, one behind another port, and captures in each state. -/
def tCap (st : CapState) : State := { State.reset with capState := st, capMask := 1 }
theorem witness_Captures_request :
    State.reset.reaches (.port 0) (blkBase + 0x6200) true ∧ bit (0x1001 : W32) 12 = true := by
  unfold State.reaches; decide +kernel
theorem witness_Captures_wait :
    (let s : State := { State.reset with capWait := [(0, 0x1001)] }; s.capWait = (0, 0x1001) :: [] ∧ s.anyLoad = false ∧ s.secNow = none
      ∧ s.capState = .idle ∧ (∀ p : Fin 12, (s.part p).abort = none) ∧ (State.busyAll 3 { s with capWait := [] }).capCheck 1 = 0
      ∧ (State.busyAll 3 { s with capWait := [] }).capCheck 0 = 0x3003)
    ∧ tBusy.anyLoad = true
    ∧ ({ State.reset with capOff := 0xFFFF } : State).capOff.toNat * 2 ^ 20 + 411107328 ≤ 2 ^ 36 + 411107328
    ∧ 2 ^ 36 < ({ State.reset with capOff := 0xFFFF } : State).capOff.toNat * 2 ^ 20 + 411107328 := by decide +kernel
theorem witness_Captures_states :
    (tCap .quiescing).capState = .quiescing ∧ (∀ p : Fin 12, (tCap .quiescing).capMask.getLsbD p.val = true → (tCap .quiescing).quiesced p = true)
      ∧ (let s := (tCap .quiescing).modPart 0 fun q => { q with seqState := 1 }; s.quiesced 0 = false ∧ s.capMask.getLsbD (0 : Fin 12).val = true)
      ∧ 12000 ≤ ((tLate (tCap .quiescing)).now - 0).toNat ∧ ((tCap .quiescing).now - (tCap .quiescing).capSince).toNat < 12000
      ∧ (tCap .writing).capState = .writing := by decide +kernel

/-- A cold reset that succeeds and ones that fail; a block that is on; a warm-reset key. -/
theorem witness_PowerAndResets :
    State.reset.phase ≠ .off ∧ ({ State.reset with phase := .off } : State).phase = .off ∧ meshAgrees rightStraps = true
      ∧ strapPlace (rightStraps.set 3 6)[3] = none ∧ meshAgrees (rightStraps.set 3 6) = false
      ∧ State.reset.reaches (.port 0) (blkBase + 0x7010) true ∧ fld (0x57520001 : W32) 16 16 = 0x5752 ∧ bit (0x57520001 : W32) 0 = true
      ∧ (∀ g : Fin 4, (State.reset.hub g).busy = none) ∧ fld (0x57530001 : W32) 16 16 ≠ 0x5752
      ∧ (∀ d ∈ State.reset.liveStacks, State.reset.stackPorts[d].up = true)
      ∧ (let s : State := { State.reset with phase := .stuck }; s.phase = .stuck ∧ (s.hub 0).portUp = true ∧ 1 ≤ msgType 1 ∧ msgType 1 ≤ 3) := by
  unfold State.reaches; decide +kernel
/-- A ramp that may start, with two running; one that waits; the first and the last step of a ramp each way. -/
def tRamp (n : Nat) (w : Power) (at' : Nat) : State :=
  { State.reset with parts := Vector.ofFn fun p : Fin 12 =>
      { Part.reset with delivery := [tTask], power := if p.val < n then .rampUp else w, rampAt := at' } }
theorem witness_PowerAndResets_ramps :
    (let s := tRamp 2 .gated 0; s.rampDue 2 = true ∧ (s.parts.toList.filter Part.ramping).length ≤ s.rampMax.toNat ∧ ∀ q : Fin 12, q < 2 → s.rampDue q = false)
      ∧ (let s := tRamp 3 .gated 0; s.rampMax.toNat < (s.parts.toList.filter Part.ramping).length) ∧ State.reset.rampDue 0 = false
      ∧ ((tRamp 12 .gated 15).part 0).power = .rampUp ∧ 15 ≤ ((tRamp 12 .gated 15).part 0).rampAt ∧ ¬ 15 ≤ ((tRamp 12 .gated 14).part 0).rampAt
      ∧ ((tRamp 0 .rampDown 1).part 0).power = .rampDown ∧ ((tRamp 0 .rampDown 1).part 0).rampAt ≤ 1
      ∧ (State.reset.part 0).power = .gated ∧ (tRun.part 0).power = .running := by decide +kernel

def tTap (i : Byte) : State := { State.reset with tap := Vector.replicate 28 i }
/-- Gates open in BLANK and closed in SERVICE; a fenced core's wrapper, one of a core that is not, a gated die's; a wrapper that names nothing. -/
theorem witness_TestAccess :
    State.reset.pwrOk = true ∧ (∀ r ∈ [1, 2, 3, 4, 5], State.reset.gate r = true) ∧ (∀ r ∈ [2, 4, 5], (tLife 2).gate r = false)
      ∧ (tTap 0x10).tap[0] = 0x10 ∧ (tTap 3).tap[0] = 3 ∧ wrapAt 0 17 = none ∧ wrapAt 23 15 = some (.core 11 31) ∧ wrapAt 0 16 = some (.die 0 0)
      ∧ (tTap 0x10).wrapOpen (.core 0 0) = false ∧ (tTap 0x10).wrapOpen (.die 0 0) = true
      ∧ ((tTap 0x10).modCore 0 0 fun c => { c with fenced := true }).wrapOpen (.core 0 0) = true
      ∧ (let s := (tTap 0x10).modCore 0 0 fun c => { c with wrap := { wir := 3, status := 2, data := 0, tested := true } };
          isTest (s.core 0 0).wrap.wir = true ∧ (s.wrapper (.core 0 0)).status = 2)
      ∧ isTest (State.reset.core 0 0).wrap.wir = false := by decide +kernel

/-- The invariant's premise has the reset state as its witness, and a block returned once. -/
theorem test_reset_inv : State.reset.Inv := by
  refine ⟨by decide +kernel, ⟨⟨0, 0, by decide +kernel⟩, by decide +kernel⟩, fun d => ?_⟩
  have e : State.reset.tap[d] = 1 := by
    show (Vector.replicate 28 (1 : Byte))[d] = 1
    simp
  exact Or.inl (by rw [e]; decide)
theorem witness_InvariantKept : State.reset.Inv ∧ step State.reset = .next State.reset.tick := ⟨test_reset_inv, rfl⟩
theorem witness_StepRunsTheCommand : State.reset.pending = [] ∧ State.reset.phase ≠ .off ∧ ({ State.reset with phase := .off } : State).phase = .off := by
  decide +kernel

end Sys2Proof.Tests
end

section
/-! Register accesses by commands: which space an address lies in (R490, R495), and what a command answers whose source
reaches the register (R12, R493). -/

namespace Sys2Proof.Machine

/-! Elements of vectors and fields of words -/

theorem vget_of_lt {α : Type} {n : Nat} (d : α) (v : Vector α n) (i : Nat) (h : i < n) : vget d v i = v[i] := by
  simp [vget, h]

@[simp] theorem vget_fin {α : Type} {n : Nat} (d : α) (v : Vector α n) (i : Fin n) : vget d v i.val = v[i] :=
  vget_of_lt d v i.val i.isLt

/-! Addresses -/

theorem place_partBase (p : Fin 12) (off : Nat) (h : off < 2 ^ 24) : place (partBase p + off) = .part p off := by
  have hp := p.isLt
  unfold place partBase partNo
  simp only
  rw [if_neg (by omega), if_neg (by omega), if_pos (by omega)]
  congr 1
  · apply Fin.ext
    simp only
    omega
  · omega

theorem place_blkBase (off : Nat) (h : off < 2 ^ 16) : place (blkBase + off) = .blk off := by
  unfold place blkBase
  simp only
  rw [if_neg (by omega), if_neg (by omega), if_neg (by omega), if_neg (by omega), if_pos (by omega)]
  congr 1
  omega

theorem coreNo_gridBlock (l : Fin 32) (off : Nat) (h : off < 0x20000) : coreNo ((0x20000 * l.val + off) / 0x20000) = l := by
  apply Fin.ext
  simp only [coreNo]
  omega

/-! Accesses that reach the register -/

theorem State.punish_zero (src : Source) (s : State) : s.punish src 0 = s := rfl

theorem State.regCommand_of_reaches {src : Source} {a : Nat} {s : State} (f : State → Code × State) (h : s.reaches src a true) :
    s.regCommand src a f = ((f s).2.punish src (f s).1).answered (f s).1 0 := by
  obtain ⟨hready, hnamed, hst⟩ := h
  simp [State.regCommand, hready, hnamed, hst]

theorem State.regReadCommand_of_reaches {src : Source} {a : Nat} {s : State} (f : State → Code × W32 × State)
    (h : s.reaches src a false) :
    s.regReadCommand src a f = ((f s).2.2.punish src (f s).1).answered (f s).1 (f s).2.1 := by
  obtain ⟨hready, hnamed, hst⟩ := h
  simp [State.regReadCommand, hready, hnamed, hst]

/-- A write of one word, aligned and outside the descriptor store, is the write of the register at its address. -/
theorem State.writeCommand_of_regWrite {src : Source} {a : Nat} {v : W32} {s t : State} (h : s.reaches src a true)
    (ha : a % 4 = 0) (hstore : ∀ p off, place a = .part p off → off < 0x800000) (hw : s.regWrite src a v none = .now 0 t) :
    s.writeCommand src a v = t.answered 0 0 := by
  have hst : s.regStatus src a true = 0 := h.2.2
  have hword : s.writeWords src none [v] a = .now 0 t := by simp [State.writeWords, hst, hw]
  have hn : s.regWriteN src a 4 [v] none = .now 0 t := by
    unfold State.regWriteN
    simp only [hst, ne_eq, not_true_eq_false, if_false, ha, hword]
    split
    · next p off hp =>
      have := hstore p off hp
      rw [if_neg (by omega)]
      simp
    · simp
  unfold State.writeCommand
  rw [State.regCommand_of_reaches _ h, hn]
  rfl

/-- A read of one aligned word is the read of the register at its address. -/
theorem State.readCommand_of_regRead {src : Source} {a : Nat} {d : W32} {s t : State} (h : s.reaches src a false)
    (ha : a % 4 = 0) (hr : s.regRead src a = (0, d, t)) : s.readCommand src a = t.answered 0 d := by
  have hst : s.regStatus src a false = 0 := h.2.2
  have hn : s.regReadN src a 4 = (0, [d], t) := by simp [State.regReadN, ha, State.readWords, hst, hr]
  unfold State.readCommand
  rw [State.regReadCommand_of_reaches _ h, hn]
  rfl

/-! The commands REGISTER_WRITE, READ_CLEAR and LATCHING_READ at an address of this device (R12, R478, R491) -/

theorem exec_registerWrite_local {src : Source} {a : BitVec 56} {v clash : W32} {s : State} (h : s.local a = true) :
    exec (.registerWrite src a v clash) s = .next (s.writeCommand src (fld a 0 48) (s.survives src (fld a 0 48) v clash)) := by
  show execRegisterWrite src a v s clash = _
  simp [execRegisterWrite, h]

theorem exec_readClear_local {src : Source} {a : BitVec 56} {s : State} (h : s.local a = true) :
    exec (.readClear src a) s = .next (s.readCommand src (fld a 0 48)) := by
  show execReadClear src a s = _
  simp [execReadClear, h]

theorem exec_latchingRead_local {src : Source} {a : BitVec 56} {s : State} (h : s.local a = true) :
    exec (.latchingRead src a) s = .next (s.readCommand src (fld a 0 48)) := by
  show execLatchingRead src a s = _
  simp [execLatchingRead, h]

/-! What hardware's updates of the same cycle leave of a write (R15) -/

theorem State.survives_of_no_hardwareBits {src : Source} {a : Nat} (v clash : W32) (s : State) (h : hardwareBits a = 0) :
    s.survives src a v clash = v := by
  have hm : clash &&& hardwareBits a = 0#32 := by rw [h]; exact BitVec.and_zero
  simp only [State.survives, hm, BitVec.not_zero, BitVec.and_allOnes, BitVec.and_zero, BitVec.or_zero]

theorem State.survives_of_all_hardwareBits {src : Source} {a : Nat} (v clash : W32) (s : State) (h : hardwareBits a = 0xFFFFFFFF) :
    s.survives src a v clash = (v &&& ~~~clash) ||| ((s.regRead src a).2.1 &&& clash) := by
  have hm : clash &&& (0xFFFFFFFF : W32) = clash := BitVec.and_allOnes
  simp only [State.survives, h, hm]

/-! The GRID block of a core (R495) -/

theorem place_gridBlock (p : Fin 12) (l : Fin 32) (off : Nat) (h : off < 0x20000) :
    place (partBase p + 0x20000 * l.val + off) = .part p (0x20000 * l.val + off) := by
  rw [Nat.add_assoc]
  exact place_partBase p _ (by omega)

theorem State.regRead_grid {src : Source} {a : Nat} {p : Fin 12} {l : Fin 32} {off : Nat} {s : State} (h : off < 0x20000)
    (ha : place a = .part p (0x20000 * l.val + off)) : s.regRead src a = (0, s.gridRead p l off) := by
  unfold State.regRead
  rw [ha]
  simp only [State.partRead]
  rw [if_pos (by omega), coreNo_gridBlock l off h, show (0x20000 * l.val + off) % 0x20000 = off by omega]

theorem State.regWrite_grid {src : Source} {a : Nat} {p : Fin 12} {l : Fin 32} {off : Nat} {v : W32} {who : Option (Fin 4 × Byte)}
    {s : State} (h : off < 0x20000) (ha : place a = .part p (0x20000 * l.val + off)) :
    s.regWrite src a v who = .now 0 (s.gridWrite p l off v) := by
  unfold State.regWrite
  rw [ha]
  simp only [State.partWrite]
  rw [if_pos (by omega), coreNo_gridBlock l off h, show (0x20000 * l.val + off) % 0x20000 = off by omega]

/-- A write command to the GRID block writes the register of that block. -/
theorem State.writeCommand_grid {src : Source} {a : Nat} {p : Fin 12} {l : Fin 32} {off : Nat} {v : W32} {s : State}
    (h : s.reaches src a true) (h4 : a % 4 = 0) (hoff : off < 0x20000) (ha : place a = .part p (0x20000 * l.val + off)) :
    s.writeCommand src a v = (s.gridWrite p l off v).answered 0 0 := by
  refine State.writeCommand_of_regWrite h h4 (fun q o hq => ?_) (State.regWrite_grid hoff ha)
  rw [ha] at hq
  cases hq
  omega

theorem hardwareBits_grid {a : Nat} {p : Fin 12} {l : Fin 32} {off : Nat} (h : off < 0x20000)
    (ha : place a = .part p (0x20000 * l.val + off)) :
    hardwareBits a =
      if off < 0x200 ∨ 0x2000 ≤ off ∧ off < 0x10000 then 0xFFFFFFFF
      else if 0x1000 ≤ off ∧ off < 0x1800 then
        (if off / 4 % 8 = 0 then 0xFFF else if off / 4 % 8 = 2 then 0xFE00000 else if 4 ≤ off / 4 % 8 then 0xFFFFFFFF else 0)
      else 0 := by
  unfold hardwareBits
  rw [ha]
  simp only
  rw [if_pos (by omega), show (0x20000 * l.val + off) % 0x20000 = off by omega]

theorem State.gridWrite_flags (p : Fin 12) (l : Fin 32) (v : W32) (s : State) :
    s.gridWrite p l 0x204 v = s.modCore p l fun c => { c with gridFlags := c.gridFlags &&& ~~~(BitVec.ofNat 7 (fld v 0 7)) } := rfl

theorem State.gridRead_convCnt (p : Fin 12) (l : Fin 32) (s : State) :
    s.gridRead p l 0x208 = ((s.core p l).convCnt, s.modCore p l fun c => { c with convCnt := 0 }) := rfl

/-- The channel scales: word k of 0x4000 and on (R93, R94). -/
theorem State.gridRead_csr (p : Fin 12) (l : Fin 32) (k : Fin 4096) (s : State) :
    (s.gridRead p l (0x4000 + 4 * k.val)).1 = (s.core p l).csr[k] := by
  have hk := k.isLt
  unfold State.gridRead Core.gridWord
  simp only
  rw [if_neg (by omega), if_neg (by omega), if_neg (by omega), if_neg (by omega), if_neg (by omega), if_neg (by omega),
    if_neg (by omega), if_neg (by omega), if_pos (by omega), show (0x4000 + 4 * k.val - 0x4000) / 4 = k.val by omega, vget_fin]

theorem State.gridWrite_csr (p : Fin 12) (l : Fin 32) (k : Fin 4096) (v : W32) (s : State) :
    s.gridWrite p l (0x4000 + 4 * k.val) v = s.csrPut p l k.val v := by
  have hk := k.isLt
  unfold State.gridWrite
  simp only
  rw [if_neg (by omega), if_neg (by omega), if_neg (by omega), if_neg (by omega), if_neg (by omega), if_neg (by omega),
    if_neg (by omega), if_pos (by omega), show (0x4000 + 4 * k.val - 0x4000) / 4 = k.val by omega]

theorem csrRejects_iff (v : W32) :
    csrRejects v = true ↔ (bit v 31 = true ∧ fld v 0 31 ≠ 0) ∨ (bit v 31 = false ∧ (fld v 23 8 = 0 ∨ fld v 23 8 = 255)) := by
  unfold csrRejects bit
  cases v.getLsbD 31 <;> simp

theorem State.csrPut_accepted {p : Fin 12} {l : Fin 32} {k : Nat} {v : W32} {s : State}
    (h : ¬((bit v 31 = true ∧ fld v 0 31 ≠ 0) ∨ (bit v 31 = false ∧ (fld v 23 8 = 0 ∨ fld v 23 8 = 255)))) :
    s.csrPut p l k v = s.modCore p l fun c => { c with csr := vset c.csr k v } := by
  rw [← csrRejects_iff] at h
  simp [State.csrPut, h]

/-! FENCE_LIVE, the performance counters and the timebase (R452, R478, R488) -/

/-- FENCE_LIVE takes no write (R452). -/
theorem State.regWrite_fenceLive {src : Source} {a : Nat} {p : Fin 12} {v : W32} {who : Option (Fin 4 × Byte)} {s : State}
    (ha : place a = .part p 0x454000) : s.regWrite src a v who = .now 0 s := by
  unfold State.regWrite
  rw [ha]
  rfl

theorem hardwareBits_fenceLive {a : Nat} {p : Fin 12} (ha : place a = .part p 0x454000) : hardwareBits a = 0 := by
  unfold hardwareBits
  rw [ha]
  rfl

theorem State.regRead_stat {src : Source} {a : Nat} {p : Fin 12} {off : Nat} {s : State} (h : off < 0x1000)
    (ha : place a = .part p (0x455000 + off)) : s.regRead src a = (0, s.statRead p off) := by
  have hsem : isSemArea (0x455000 + off) = false := by simp [isSemArea]; omega
  unfold State.regRead
  rw [ha]
  simp only [State.partRead, hsem, Bool.false_eq_true, if_false]
  rw [if_neg (by omega), if_neg (by omega), if_neg (by omega), if_neg (by omega), if_neg (by omega), if_neg (by omega),
    if_neg (by omega), if_pos (by omega), show (0x455000 + off) % 0x1000 = off by omega]

/-- A read of the LO word of a performance counter latches its HI word (R488). -/
theorem State.statRead_pcntLo (p : Fin 12) (k : Fin 8) (s : State) :
    s.statRead p (0x310 + 8 * k.val) = (word32 (s.part p).pcnt[k].toNat,
      s.modPart p fun q => { q with pcntHi := vset q.pcntHi k.val (word32 (q.pcnt[k].toNat / 2 ^ 32)) }) := by
  have hk := k.isLt
  unfold State.statRead
  simp only
  rw [if_neg (by omega), if_neg (by omega), if_neg (by omega), if_neg (by omega), if_neg (by omega), if_pos (by omega),
    if_pos (by omega), show (0x310 + 8 * k.val - 0x310) / 8 = k.val by omega]
  simp only [vget_fin]

theorem State.regRead_timeNowLo {a : Nat} {h : Fin 4} {s : State} (ha : place a = .blk 0x7000) :
    s.regRead (.port h) a = (0, word32 (s.dieTime[24 + h.val]).toNat,
      s.modHub h fun b => { b with nowHi := word32 ((s.dieTime[24 + h.val]).toNat / 2 ^ 32) }) := by
  unfold State.regRead
  rw [ha]
  show (_, s.timeRead h 0) = _
  simp only [State.timeRead, vget_of_lt 0 s.dieTime (24 + h.val) (by omega), if_true]

end Sys2Proof.Machine
end

section
/-! O29: the access codes of R12, the latches of R478 and R488, and the writes that R15 speaks of. -/

namespace Sys2Proof.Machine

section
variable {src : Source} {a : BitVec 56} {v clash : W32} {s : State} {p : Fin 12} {l : Fin 32}

/-- W1C: a one clears the flag of GRID_FLAGS, whatever hardware updates in that cycle (R12, R15, R65). -/
theorem exec_registerWrite_gridFlags (hloc : s.local a = true) (ha : fld a 0 48 = partBase p + 0x20000 * l.val + 0x204)
    (h : s.reaches src (fld a 0 48) true) :
    exec (.registerWrite src a v clash) s = .next (State.answered 0 0 (s.modCore p l fun c =>
      { c with gridFlags := c.gridFlags &&& ~~~(BitVec.ofNat 7 (fld v 0 7)) })) := by
  have hp : place (fld a 0 48) = .part p (0x20000 * l.val + 0x204) := ha ▸ place_gridBlock p l 0x204 (by omega)
  have hbits : hardwareBits (fld a 0 48) = 0 := hardwareBits_grid (by omega) hp
  rw [exec_registerWrite_local hloc, State.survives_of_no_hardwareBits _ _ _ hbits,
    State.writeCommand_grid h (by rw [ha]; unfold partBase; omega) (by omega) hp, State.gridWrite_flags]

/-- RO: FENCE_LIVE keeps what it shows (R12, R452). -/
theorem exec_registerWrite_fenceLive (hloc : s.local a = true) (ha : fld a 0 48 = partBase p + 0x454000)
    (h : s.reaches src (fld a 0 48) true) : exec (.registerWrite src a v clash) s = .next (State.answered 0 0 s) := by
  have hp : place (fld a 0 48) = .part p 0x454000 := ha ▸ place_partBase p 0x454000 (by omega)
  have hstore : ∀ q off, place (fld a 0 48) = .part q off → off < 0x800000 := by
    intro q off hq
    rw [hp] at hq
    cases hq
    omega
  rw [exec_registerWrite_local hloc, State.survives_of_no_hardwareBits _ _ _ (hardwareBits_fenceLive hp),
    State.writeCommand_of_regWrite h (by rw [ha]; unfold partBase; omega) hstore (State.regWrite_fenceLive hp)]

/-- A CSR word takes the bits that hardware does not update in that cycle, and keeps the others, as long as the
outcome is a valid scale (R15, R94). -/
theorem exec_registerWrite_csr {k : Fin 4096} (hloc : s.local a = true)
    (ha : fld a 0 48 = partBase p + 0x20000 * l.val + 0x4000 + 4 * k.val) (h : s.reaches src (fld a 0 48) true)
    (hok : let new := (v &&& ~~~clash) ||| ((s.core p l).csr[k] &&& clash)
      ¬((bit new 31 = true ∧ fld new 0 31 ≠ 0) ∨ (bit new 31 = false ∧ (fld new 23 8 = 0 ∨ fld new 23 8 = 255)))) :
    exec (.registerWrite src a v clash) s = .next (State.answered 0 0 (s.modCore p l fun c =>
      { c with csr := vset c.csr k.val ((v &&& ~~~clash) ||| ((s.core p l).csr[k] &&& clash)) })) := by
  have hk := k.isLt
  have hp : place (fld a 0 48) = .part p (0x20000 * l.val + (0x4000 + 4 * k.val)) := by
    rw [ha, Nat.add_assoc (partBase p + _)]
    exact place_gridBlock p l _ (by omega)
  have hbits : hardwareBits (fld a 0 48) = 0xFFFFFFFF := by
    rw [hardwareBits_grid (by omega) hp, if_pos (by omega)]
  rw [exec_registerWrite_local hloc, State.survives_of_all_hardwareBits _ _ _ hbits, State.regRead_grid (by omega) hp,
    State.gridRead_csr, State.writeCommand_grid h (by rw [ha]; unfold partBase; omega) (by omega) hp, State.gridWrite_csr,
    State.csrPut_accepted hok]

/-- RC: a read of GRID_CONV_CNT returns the count and clears it (R12, R66). -/
theorem exec_readClear_convCnt (hloc : s.local a = true) (ha : fld a 0 48 = partBase p + 0x20000 * l.val + 0x208)
    (h : s.reaches src (fld a 0 48) false) :
    exec (.readClear src a) s
      = .next (State.answered 0 (s.core p l).convCnt (s.modCore p l fun c => { c with convCnt := 0 })) := by
  have hp : place (fld a 0 48) = .part p (0x20000 * l.val + 0x208) := ha ▸ place_gridBlock p l 0x208 (by omega)
  have hr := State.regRead_grid (src := src) (s := s) (by omega) hp
  rw [State.gridRead_convCnt] at hr
  rw [exec_readClear_local hloc, State.readCommand_of_regRead h (by rw [ha]; unfold partBase; omega) hr]

/-- A read of a performance counter's LO word latches its HI word (R488). -/
theorem exec_latchingRead_pcnt {k : Fin 8} (hloc : s.local a = true) (ha : fld a 0 48 = partBase p + 0x455310 + 8 * k.val)
    (h : s.reaches src (fld a 0 48) false) :
    exec (.latchingRead src a) s = .next (State.answered 0 (BitVec.ofNat 32 (s.part p).pcnt[k].toNat)
      (s.modPart p fun q => { q with pcntHi := vset q.pcntHi k.val (BitVec.ofNat 32 ((s.part p).pcnt[k].toNat / 2 ^ 32)) })) := by
  have hk := k.isLt
  have hp : place (fld a 0 48) = .part p (0x455000 + (0x310 + 8 * k.val)) := by
    rw [ha, Nat.add_assoc (partBase p)]
    exact (place_partBase p _ (by omega)).trans (by congr 1; omega)
  have hr := State.regRead_stat (src := src) (s := s) (by omega) hp
  rw [State.statRead_pcntLo] at hr
  rw [exec_latchingRead_local hloc, State.readCommand_of_regRead h (by rw [ha]; unfold partBase; omega) hr]
  rfl

/-- A read of TIME_NOW_LO by a control port returns the low word of its die's timebase and latches the high one (R478). -/
theorem exec_latchingRead_timeNowLo {h : Fin 4} (hloc : s.local a = true) (ha : fld a 0 48 = blkBase + 0x7000)
    (hr : s.reaches (.port h) (fld a 0 48) false) :
    exec (.latchingRead (.port h) a) s = .next (State.answered 0 (BitVec.ofNat 32 (s.dieTime[24 + h.val]).toNat)
      (s.modHub h fun b => { b with nowHi := BitVec.ofNat 32 ((s.dieTime[24 + h.val]).toNat / 2 ^ 32) })) := by
  have hp : place (fld a 0 48) = .blk 0x7000 := ha ▸ place_blkBase 0x7000 (by omega)
  rw [exec_latchingRead_local hloc,
    State.readCommand_of_regRead hr (by rw [ha]; unfold blkBase; omega) (State.regRead_timeNowLo hp)]
  rfl

end

/-- Settles O29: each clause is the access of one register, found by its address. -/
theorem registerAccessCodes : Obligations.RegisterAccessCodes := by
  unfold Obligations.RegisterAccessCodes
  intro src a v s hloc
  refine ⟨fun p l => ⟨?flags, ?live, ?csr, ?convCnt, ?pcnt⟩, ?time⟩
  case flags => exact fun _ ha h => exec_registerWrite_gridFlags hloc ha h
  case live => exact fun _ ha h => exec_registerWrite_fenceLive hloc ha h
  case csr => exact fun _ _ ha h hok => exec_registerWrite_csr hloc ha h hok
  case convCnt => exact fun ha h => exec_readClear_convCnt hloc ha h
  case pcnt => exact fun _ ha h => exec_latchingRead_pcnt hloc ha h
  case time =>
    rintro h rfl ha hr
    exact exec_latchingRead_timeNowLo hloc ha hr

end Sys2Proof.Machine
end

section
/-! O54: fencing and partition reset. The causes of a rejection in the order the model checks them (R447, R452; log entry 53),
what a fence, a change of the array width and a wipe do (R90, R432, R448), and what ends the tasks of a wiped partition. -/

namespace Sys2Proof.Machine

/-! Why a fence request is rejected -/

/-- Cause 1: the partition runs a task, is unavailable, is being captured, is held or is being loaded (R447). -/
def State.fenceBusy (s : State) (p : Fin 12) : Prop :=
  (s.part p).task.isSome = true ∨ (s.part p).unavail = true ∨ (s.capState ≠ .idle ∧ s.capMask.getLsbD p.val = true)
    ∨ (s.part p).pers = .held ∨ (s.part p).pers = .loading

/-- Cause 2: a fence of the last live core (R447). -/
def State.fenceLast (s : State) (p : Fin 12) (l : Fin 32) (v : W32) : Prop :=
  fenceReq v = 1 ∧ (s.core p l).fenced = false ∧ (s.part p).liveCount ≤ 1

/-- Cause 3: a bypass of a second octet (R447). -/
def State.fenceSecond (s : State) (p : Fin 12) (l : Fin 32) (v : W32) : Prop :=
  ∃ o, (s.core p l).bypass = some o ∧ fenceReq v = 3 ∧ o ≠ fenceOct v

section
variable {s : State} {p : Fin 12} {l : Fin 32} {v : W32}

theorem State.fenceBusy_iff : ((s.part p).task.isSome || (s.part p).unavail || (s.capState != .idle && s.capMask.getLsbD p.val)
      || decide ((s.part p).pers = .held) || decide ((s.part p).pers = .loading)) = true ↔ s.fenceBusy p := by
  simp [State.fenceBusy, or_assoc]

theorem State.fenceCause_of_busy (h : s.fenceBusy p) : s.fenceCause p l v = 1 :=
  if_pos (State.fenceBusy_iff.mpr h)

theorem State.fenceCause_of_fused (h : ¬s.fenceBusy p) (hf : s.fused p = true) : s.fenceCause p l v = 4 := by
  unfold State.fenceCause
  rw [if_neg (mt State.fenceBusy_iff.mp h), if_pos hf]

theorem State.fenceCause_of_last (h : ¬s.fenceBusy p) (hf : s.fused p = false) (hl : s.fenceLast p l v) : s.fenceCause p l v = 2 := by
  unfold State.fenceLast at hl
  unfold State.fenceCause
  rw [if_neg (mt State.fenceBusy_iff.mp h), if_neg (by simp [hf]), if_pos hl]

theorem State.fenceCause_of_second (h : ¬s.fenceBusy p) (hf : s.fused p = false) (hl : ¬s.fenceLast p l v)
    (hs : s.fenceSecond p l v) : s.fenceCause p l v = 3 := by
  obtain ⟨o, ho, hreq⟩ := hs
  unfold State.fenceLast at hl
  unfold State.fenceCause
  rw [if_neg (mt State.fenceBusy_iff.mp h), if_neg (by simp [hf]), if_neg hl, ho]
  exact if_pos hreq

theorem State.fenceCause_of_none (h : ¬s.fenceBusy p) (hf : s.fused p = false) (hl : ¬s.fenceLast p l v)
    (hs : ¬s.fenceSecond p l v) : s.fenceCause p l v = 0 := by
  unfold State.fenceLast at hl
  unfold State.fenceCause
  rw [if_neg (mt State.fenceBusy_iff.mp h), if_neg (by simp [hf]), if_neg hl]
  split
  · next o ho => exact if_neg fun hreq => hs ⟨o, ho, hreq⟩
  · rfl

/-! Requests (R445, R448 to R450) -/

/-- What an accepted request does to its core; `g` holds the personality's values of tables 6 and 7. -/
def Core.fenceEffect (v : W32) (g : Vector (BitVec 16) 32) (c : Core) : Core :=
  if fenceReq v = 1 then (if c.fenced then c else c.fence)
  else if fenceReq v = 2 then (if c.fenced then { c.wipe false g with fenced := false, fcause := 0 } else c)
  else { c with bypass := some (fenceOct v) }

theorem State.fenceDo_rejected (h : s.fenceCause p l v ≠ 0) : s.fenceDo p l v =
    (0x3F05, (s.modCore p l fun c => { c with fcause := s.fenceCause p l v }).logCore p l 0x3F05 0) := by
  unfold State.fenceDo
  exact if_pos h

theorem State.fenceDo_accepted (h : s.fenceCause p l v = 0) : s.fenceDo p l v =
    (0, s.modPart p fun q => q.reshape fun q =>
      { q with cores := q.cores.set l (q.cores[l].fenceEffect v (s.part p).grid67) }) := by
  unfold State.fenceDo Core.fenceEffect
  simp only [h, ne_eq, not_true_eq_false, if_false]
  by_cases h1 : fenceReq v = 1
  · simp only [h1, if_true]
  · by_cases h2 : fenceReq v = 2
    · simp only [h2, if_true]; rfl
    · simp only [h1, h2, if_false]

theorem State.fenceWrite_port {h : Fin 4} {who : Option (Fin 4 × Byte)} (hreq : fenceReq v ≠ 0) (ha : (s.part p).abort = none) :
    s.fenceWrite (.port h) p l v who = (some (s.fenceDo p l v).1,
      if (s.fenceDo p l v).1 = 0 then
        (if bit v 1 then (s.fenceDo p l v).2.modCore p l fun c => { c with cand := false } else (s.fenceDo p l v).2)
      else (s.fenceDo p l v).2) := by
  simp [State.fenceWrite, hreq, isPort, ha]

theorem State.fenceWrite_port_aborting {h : Fin 4} {who : Option (Fin 4 × Byte)} (hreq : fenceReq v ≠ 0)
    (ha : (s.part p).abort.isSome = true) : s.fenceWrite (.port h) p l v who =
      (none, s.modPart p fun q => { q with held := q.held ++ [{ core := some l, v := v, who := who }] }) := by
  simp [State.fenceWrite, hreq, isPort, ha]

theorem State.fenceWrite_rejected {h : Fin 4} {who : Option (Fin 4 × Byte)} {cause : BitVec 4} (hreq : fenceReq v ≠ 0)
    (ha : (s.part p).abort = none) (hc : s.fenceCause p l v = cause) (hne : cause ≠ 0) :
    s.fenceWrite (.port h) p l v who
      = (some 0x3F05, (s.modCore p l fun c => { c with fcause := cause }).logCore p l 0x3F05 0) := by
  subst hc
  rw [State.fenceWrite_port hreq ha, State.fenceDo_rejected hne]
  rfl

theorem State.fenceWrite_accepted {h : Fin 4} {who : Option (Fin 4 × Byte)} (hreq : fenceReq v ≠ 0)
    (ha : (s.part p).abort = none) (hc : s.fenceCause p l v = 0) :
    s.fenceWrite (.port h) p l v who = (some 0,
      let t := s.modPart p fun q => q.reshape fun q =>
        { q with cores := q.cores.set l (q.cores[l].fenceEffect v (s.part p).grid67) }
      if bit v 1 then t.modCore p l fun c => { c with cand := false } else t) := by
  rw [State.fenceWrite_port hreq ha, State.fenceDo_accepted hc]
  rfl

theorem State.fenceCommand_of_reaches {src : Source} {req : Nat} (h : s.reaches src (partBase p + 0x500100 + 0x1000 * l.val) true)
    (hreq : fenceReq v = req) : s.fenceCommand src p l v req =
      ((s.fenceWrite src p l v none).2.punish src ((s.fenceWrite src p l v none).1.getD 0)).answered
        ((s.fenceWrite src p l v none).1.getD 0) 0 := by
  unfold State.fenceCommand
  rw [if_pos hreq, State.regCommand_of_reaches _ h]

end

/-! A fenced core (R448) -/

theorem Core.fence_queue (c : Core) (e : Fin 8) : c.fence.eng[e].queue = [] := by
  simp [Core.fence, Core.discard, EngCtx.discard]

theorem Core.fence_chan (c : Core) (i : Fin 4) : c.fence.chans[i] = c.chans[i].fence := by
  simp [Core.fence]

/-! The array width (R90) -/

/-- The live cores and their bypasses alone give the width. -/
theorem Part.width_congr {q r : Part} (h : ∀ l : Fin 32, q.cores[l].fenced = r.cores[l].fenced ∧ q.cores[l].bypass = r.cores[l].bypass) :
    q.width = r.width := by
  have hl : q.live = r.live := by
    unfold Part.live
    simp only [h]
  unfold Part.width
  simp only [hl, h]

theorem Part.width_clearTiles (q : Part) : { q with cores := q.cores.map Core.clearTiles : Part }.width = q.width :=
  Part.width_congr fun l => by simp [Core.clearTiles]

theorem Part.reshape_of_width_eq {f : Part → Part} {q : Part} (h : (f q).width = q.width) : q.reshape f = f q :=
  if_pos h

theorem Part.reshape_of_width_ne {f : Part → Part} {q : Part} (h : (f q).width ≠ q.width) :
    q.reshape f = { f q with cores := (f q).cores.map Core.clearTiles } :=
  if_neg h

theorem Part.reshape_width (f : Part → Part) (q : Part) : (q.reshape f).width = (f q).width := by
  by_cases h : (f q).width = q.width
  · rw [Part.reshape_of_width_eq h]
  · rw [Part.reshape_of_width_ne h, Part.width_clearTiles]

/-! The wipe of a partition that runs no task (R432, R451) -/

/-- A task that ends without running changes hubs only. -/
theorem State.unrun_frame (p : Fin 12) (d : TaskDesc) (s : State) : s.unrun p d = { s with hubs := (s.unrun p d).hubs } := by
  unfold State.unrun State.modTask State.logAt
  rw [State.logStamp_frame]
  rfl

@[simp] theorem State.unrun_parts (p : Fin 12) (d : TaskDesc) (s : State) : (s.unrun p d).parts = s.parts := by
  rw [State.unrun_frame]
@[simp] theorem State.unrun_stackPorts (p : Fin 12) (d : TaskDesc) (s : State) : (s.unrun p d).stackPorts = s.stackPorts := by
  rw [State.unrun_frame]

/-- Tasks that end without running change neither a partition nor a stack port. -/
theorem State.foldl_unrun_frame (p : Fin 12) (l : List TaskDesc) (s : State) :
    (l.foldl (fun s d => s.unrun p d) s).parts = s.parts ∧ (l.foldl (fun s d => s.unrun p d) s).stackPorts = s.stackPorts := by
  induction l generalizing s with
  | nil => exact ⟨rfl, rfl⟩
  | cons d l ih => simpa using ih (s.unrun p d)

theorem State.stack_modStack_ne (d e : Fin 24) (f : Stack → Stack) (s : State) (h : d ≠ e) :
    (s.modStack d f).stackPorts[e] = s.stackPorts[e] := by
  have : d.val ≠ e.val := fun k => h (Fin.ext k)
  simp [State.modStack, Vector.getElem_set_ne, this]

theorem stackPart_eq_iff (d : Fin 24) (p : Fin 12) :
    stackPart d = p ↔ d = ⟨2 * p.val, by omega⟩ ∨ d = ⟨2 * p.val + 1, by omega⟩ := by
  simp only [Fin.ext_iff, stackPart]
  omega

/-- A change of the two stacks of a partition changes no other stack. -/
theorem State.stackPorts_modStack_pair (p : Fin 12) (f : Stack → Stack) (s : State) (d : Fin 24) :
    ((s.modStack ⟨2 * p.val, by omega⟩ f).modStack ⟨2 * p.val + 1, by omega⟩ f).stackPorts[d]
      = if stackPart d = p then f s.stackPorts[d] else s.stackPorts[d] := by
  by_cases h : stackPart d = p
  · rw [if_pos h]
    rcases (stackPart_eq_iff d p).mp h with rfl | rfl
    · rw [State.stack_modStack_ne _ _ _ _ (by simp), State.stack_modStack]
    · rw [State.stack_modStack, State.stack_modStack_ne _ _ _ _ (by simp)]
  · rw [if_neg h]
    obtain ⟨h0, h1⟩ := not_or.mp (mt (stackPart_eq_iff d p).mpr h)
    rw [State.stack_modStack_ne _ _ _ _ (Ne.symm h1), State.stack_modStack_ne _ _ _ _ (Ne.symm h0)]

/-- A partition reset wipes the partition and the registers of its stacks, and no other partition or stack (R14, R451). -/
theorem State.partReset_spec (p : Fin 12) (s : State) :
    (s.partReset p).part p = Part.wipe .reset (s.part p) ∧ (∀ q, q ≠ p → (s.partReset p).part q = s.part q)
      ∧ ∀ d : Fin 24, (s.partReset p).stackPorts[d] = if stackPart d = p then (s.stackPorts[d]).wipe else s.stackPorts[d] := by
  obtain ⟨hparts, hstacks⟩ := State.foldl_unrun_frame p (s.part p).delivery s
  generalize ht : (s.part p).delivery.foldl (fun s d => s.unrun p d) s = t at hparts hstacks
  have hreset : s.partReset p = ((t.modPart p (Part.wipe .reset)).modStack ⟨2 * p.val, by omega⟩ Stack.wipe).modStack
      ⟨2 * p.val + 1, by omega⟩ Stack.wipe := by rw [← ht]; rfl
  have hpart : ∀ q, t.part q = s.part q := fun q => by simp only [State.part, hparts]
  rw [hreset]
  refine ⟨?_, fun q hq => ?_, fun d => ?_⟩
  · exact (State.part_modPart p _ t).trans (congrArg _ (hpart p))
  · exact (State.part_modPart_ne p q _ t (Ne.symm hq)).trans (hpart q)
  · rw [State.stackPorts_modStack_pair, State.modPart_stackPorts, hstacks]

section
variable {h : Fin 4} {p : Fin 12} {v : W32} {s : State}

theorem State.resetWrite_idle {who : Option (Fin 4 × Byte)} (hv : bit v 0 = true) (ht : (s.part p).task = none) :
    s.resetWrite (.port h) p v who = (some 0, s.partReset p) := by
  simp [State.resetWrite, hv, isPort, ht]

theorem State.resetWrite_running {who : Option (Fin 4 × Byte)} (hv : bit v 0 = true) (ht : (s.part p).task.isSome = true) :
    s.resetWrite (.port h) p v who = (none, (s.abort p 0x4F05 0).modPart p fun q =>
      { q with held := q.held ++ [{ core := none, v := v, who := who }] }) := by
  obtain ⟨d, hd⟩ := Option.isSome_iff_exists.mp ht
  simp [State.resetWrite, hv, isPort, hd]

theorem exec_partitionReset_port (hr : s.reaches (.port h) (partBase p + 0x454004) true) :
    exec (.partitionReset (.port h) p v) s = .next (((s.resetWrite (.port h) p v none).2.punish (.port h)
      ((s.resetWrite (.port h) p v none).1.getD 0)).answered ((s.resetWrite (.port h) p v none).1.getD 0) 0) := by
  show execPartitionReset (.port h) p v s = _
  unfold execPartitionReset
  rw [State.regCommand_of_reaches _ hr]

end

/-- Settles O54: the causes are told apart by `fenceCause`, the rest by what each operation does. -/
theorem fencingAndReset : Obligations.FencingAndReset := by
  unfold Obligations.FencingAndReset
  refine ⟨?commands, ?requests, ?fence, ?width, ?reset, ?wipe, ?stack⟩
  case commands =>
    intro h p l v s hr
    have hcmd := fun req (hreq : fenceReq v = req) => State.fenceCommand_of_reaches hr hreq
    exact ⟨fun e => congrArg _ (hcmd 1 e), fun e => congrArg _ (hcmd 2 e), fun e => congrArg _ (hcmd 3 e)⟩
  case requests =>
    intro h p l v who s hreq
    refine ⟨State.fenceWrite_port_aborting hreq, fun ha => ⟨?rejected, ?accepted⟩⟩
    case rejected =>
      rintro cause (⟨hb, rfl⟩ | ⟨hb, hf, rfl⟩ | ⟨hb, hf, hl, rfl⟩ | ⟨hb, hf, hl, hs, rfl⟩)
      · exact State.fenceWrite_rejected hreq ha (State.fenceCause_of_busy hb) (by decide)
      · exact State.fenceWrite_rejected hreq ha (State.fenceCause_of_fused hb hf) (by decide)
      · exact State.fenceWrite_rejected hreq ha (State.fenceCause_of_last hb hf hl) (by decide)
      · exact State.fenceWrite_rejected hreq ha (State.fenceCause_of_second hb hf hl hs) (by decide)
    case accepted =>
      intro hb hf hl hs
      refine ⟨Core.fenceEffect v (s.part p).grid67,
        State.fenceWrite_accepted hreq ha (State.fenceCause_of_none hb hf hl hs), fun e => ?_, fun e => ?_, fun e => ?_⟩
      · simp [Core.fenceEffect, e]
      · simp [Core.fenceEffect, e]
      · simp [Core.fenceEffect, e]
  case fence =>
    intro c
    refine ⟨rfl, rfl, rfl, rfl, c.fence_queue, fun i => ?_⟩
    rw [Core.fence_chan]
    exact ⟨rfl, rfl, rfl⟩
  case width =>
    intro f q
    refine ⟨q.reshape_width f, Part.reshape_of_width_eq, fun hne l => ?_⟩
    rw [Part.reshape_of_width_ne hne]
    simp [Core.clearTiles]
  case reset =>
    intro h p v s hr hv
    refine ⟨fun ht => ⟨s.partReset p, ?_, State.partReset_spec p s⟩, fun ht => ?_⟩
    · rw [exec_partitionReset_port hr, State.resetWrite_idle hv ht]
      rfl
    · rw [exec_partitionReset_port hr, State.resetWrite_running hv ht]
      rfl
  case wipe =>
    intro q l
    simp [Part.wipe, Core.wipe, Part.reset]
  case stack =>
    intro k
    simp [Stack.wipe, Stack.reset]

end Sys2Proof.Machine
end

section
/-! O59: the state after reset. Each unit holds its reset value; the only facts that take a computation are the mesh
bridges of a package tied right (R20), the grid levels (R42), and the canonical zero values of the invariant. -/

namespace Sys2Proof.Machine

@[simp] theorem State.part_reset (p : Fin 12) : State.reset.part p = Part.reset := Vector.getElem_replicate p.isLt
@[simp] theorem State.hub_reset (h : Fin 4) : State.reset.hub h = Hub.reset := Vector.getElem_replicate h.isLt
@[simp] theorem State.links_reset (n : Fin 16) : State.reset.links[n] = Link.reset := Vector.getElem_replicate n.isLt
@[simp] theorem State.regions_reset (r : Fin 1536) : State.reset.regions[r] = Region.reset := Vector.getElem_replicate r.isLt
@[simp] theorem State.tap_reset (d : Fin 28) : State.reset.tap[d] = 1 := Vector.getElem_replicate d.isLt
@[simp] theorem Part.cores_reset {i : Nat} (h : i < 32) : Part.reset.cores[i] = Core.reset := Vector.getElem_replicate h

@[simp] theorem State.core_reset (p : Fin 12) (l : Fin 32) : State.reset.core p l = Core.reset := by
  show (State.reset.part p).cores[l] = _
  rw [State.part_reset]
  exact Part.cores_reset l.isLt

theorem Core.fenced_reset : Core.reset.fenced = false := rfl
theorem Core.bypass_reset : Core.reset.bypass = none := rfl

/-- No core of a partition at reset is fenced (R449). -/
theorem Part.live_reset : Part.reset.live = List.finRange 32 := by
  simp [Part.live, Core.fenced_reset]

/-- At reset no live core has a bypass (R90). -/
theorem Part.width_reset : Part.reset.width = 128 := by
  simp [Part.width, Core.bypass_reset]

theorem Part.liveMask_reset : Part.reset.liveMask = 0xFFFFFFFF := by
  unfold Part.liveMask
  rw [Part.live_reset]
  decide

/-- Tables 6 and 7 hold no levels at reset (R42). -/
theorem Grid.resetEnt_of_le {n : Nat} (h : 96 ≤ n) : Grid.resetEnt n = 0x8000 := by
  have : Grid.defaults.length ≤ n / 16 := by
    show 6 ≤ n / 16
    omega
  simp [Grid.resetEnt, List.getElem?_eq_none this]

theorem Core.gridEnt_reset (n : Fin 128) : Core.reset.gridEnt[n] = BitVec.ofNat 32 (Grid.resetEnt n.val) := by
  simp [Core.reset]

/-- A bridge of a package tied right comes up exactly when a die stands at its other end (R19, R20, R25). -/
theorem bridgeComesUp_rightStraps (d : Fin 24) (sd : Side) : bridgeComesUp rightStraps d sd = (bridgeEnd d sd).isSome := by
  revert d
  cases sd <;> decide +kernel

theorem vget_bridgesUp (t : Straps) (d : Fin 24) (sd : Side) : vget false (bridgesUp t)[d] sd.no.val = bridgeComesUp t d sd := by
  rw [vget_fin]
  cases sd <;> simp [bridgesUp, sideOf, Side.no]

theorem State.bridgeValid_reset (d : Fin 24) (sd : Side) : State.reset.bridgeValid d sd = (bridgeEnd d sd).isSome :=
  (vget_bridgesUp rightStraps d sd).trans (bridgeComesUp_rightStraps d sd)

/-- No fuse is burned and every TAP controller holds IDCODE. -/
theorem State.inv_reset : State.reset.Inv := by
  refine ⟨rfl, ⟨⟨0, 0, rfl, rfl, le_refl _, by decide, fun h => absurd h (by decide)⟩, fun h => ?_⟩, fun d => Or.inl ?_⟩
  · cases h
  · rw [State.tap_reset]
    decide

/-- Settles O59: each unit of the block holds its own reset value. -/
theorem resetState : Obligations.ResetState := by
  unfold Obligations.ResetState
  refine ⟨rfl, rfl, rfl, rfl, rfl, rfl, rfl, State.bridgeValid_reset, fun p => ?part, fun p l => ?core, fun h => ?hub,
    fun n => ?link, fun r => ?region, State.inv_reset⟩
  case part =>
    rw [State.part_reset]
    exact ⟨rfl, rfl, rfl, rfl, Part.liveMask_reset, rfl, rfl, rfl, Part.width_reset⟩
  case core =>
    rw [State.core_reset]
    refine ⟨rfl, rfl, rfl, rfl, fun i => Vector.getElem_replicate i.isLt, fun n hn => ?_⟩
    rw [Core.gridEnt_reset, Grid.resetEnt_of_le hn]
    rfl
  case hub =>
    rw [State.hub_reset]
    exact ⟨rfl, rfl, rfl, rfl, rfl, rfl, _, rfl, rfl, rfl, rfl⟩
  case link =>
    rw [State.links_reset]
    exact ⟨rfl, rfl⟩
  case region =>
    rw [State.regions_reset]
    exact ⟨rfl, rfl, rfl⟩

end Sys2Proof.Machine
end

section
/-! O42: the life of a task. Its code object is asked for and checked (R188, R189), its balance is compared (R260), and its end
record is laid out and answered (R415, R418). -/

namespace Sys2Proof.Machine

/-! Lists and bytes -/

/-- The first element that meets a test, by its index. -/
theorem findIdx?_eq_some_iff_getElem? {α : Type} {l : List α} {f : α → Bool} {i : Nat} :
    l.findIdx? f = some i ↔ ∃ x, l[i]? = some x ∧ f x = true ∧ ∀ j < i, ∀ y, l[j]? = some y → f y = false := by
  rw [List.findIdx?_eq_some_iff_getElem]
  constructor
  · rintro ⟨hi, hx, hj⟩
    refine ⟨l[i], List.getElem?_eq_getElem hi, hx, fun j hji y hy => ?_⟩
    obtain ⟨hjl, rfl⟩ := List.getElem?_eq_some_iff.mp hy
    simpa using hj j hji
  · rintro ⟨x, hx, hfx, hj⟩
    obtain ⟨hi, rfl⟩ := List.getElem?_eq_some_iff.mp hx
    refine ⟨hi, hfx, fun j hji => ?_⟩
    simp [hj j hji _ (List.getElem?_eq_getElem (hji.trans hi))]

theorem vget_replicate {α : Type} (n i : Nat) (d : α) : vget d (Vector.replicate n d) i = d := by
  by_cases h : i < n
  · rw [vget_of_lt _ _ _ h, Vector.getElem_replicate]
  · simp [vget, Nat.le_of_not_lt h]

theorem firstDiff_self {α : Type} [DecidableEq α] (l : List α) : firstDiff l l = none := by
  induction l with
  | nil => rfl
  | cons a t ih => simp [firstDiff, ih]

@[simp] theorem length_bytesOf (n x : Nat) : (bytesOf n x).length = n := by
  induction n generalizing x with
  | zero => rfl
  | succ n ih => simp [bytesOf, ih]

theorem ofBytes_bytesOf (n x : Nat) : ofBytes (bytesOf n x) = x % 256 ^ n := by
  induction n generalizing x with
  | zero => simp [bytesOf, ofBytes, Nat.mod_one]
  | succ n ih =>
    rw [bytesOf, ofBytes, ih, BitVec.toNat_ofNat, Nat.pow_succ' (m := 256), Nat.mod_mul (a := 256)]

/-- A word of 8 n bits is read back from its n bytes. -/
theorem ofBytes_bytesOf_toNat {w : Nat} (n : Nat) (hw : w = 8 * n) (v : BitVec w) : ofBytes (bytesOf n v.toNat) = v.toNat := by
  subst hw
  rw [ofBytes_bytesOf, Nat.mod_eq_of_lt]
  have : (256 : Nat) ^ n = 2 ^ (8 * n) := by rw [Nat.pow_mul]
  rw [this]
  exact v.isLt

theorem ofBytes_take_bytesOf {w : Nat} (n : Nat) (hw : w = 8 * n) (v : BitVec w) (l : List Byte) :
    ofBytes ((bytesOf n v.toNat ++ l).take n) = v.toNat := by
  rw [List.take_left' (length_bytesOf ..), ofBytes_bytesOf_toNat n hw]

theorem drop_bytesOf_append {n k : Nat} (h : n ≤ k) (x : Nat) (l : List Byte) : (bytesOf n x ++ l).drop k = l.drop (k - n) := by
  rw [List.drop_append, List.drop_of_length_le (by simpa using h), length_bytesOf, List.nil_append]

/-! The state's parts -/

theorem State.modHub_congr {h : Fin 4} {f g : Hub → Hub} {s : State} (hfg : f (s.hub h) = g (s.hub h)) : s.modHub h f = s.modHub h g := by
  have hfg' : f s.hubs[h] = g s.hubs[h] := hfg
  simp only [State.modHub, hfg']

/-- A change of a task at its hub changes no partition. -/
theorem State.part_modTask (d : TaskDesc) (f : RunTask → RunTask) (s : State) (p : Fin 12) : (s.modTask d f).part p = s.part p := rfl

/-! The start of a task (R31, R188, R189) -/

section
variable {p : Fin 12} {s : State} {d : TaskDesc}

section
variable {rest : List TaskDesc} (hq : (s.part p).delivery = d :: rest) (hr : s.phase = .ready) (ho : (s.part p).opening = false)
  (ht : (s.part p).task = none) (hu : (s.part p).unavail = false) (hp : (s.part p).power = .running) (hf : s.frozen p = false)
include hq hr ho ht hu hp hf

theorem exec_taskStart_free : exec (.taskStart p false) s = .next ((s.takeTask p d).codeAsk p 0 0 64) := by
  show execTaskStart p false s = _
  simp [execTaskStart, hq, hr, ho, ht, hu, hp, hf]

theorem exec_taskStart_parity : exec (.taskStart p true) s = .next ((s.takeTask p d).abort p 0xF901 0) := by
  show execTaskStart p true s = _
  simp [execTaskStart, hq, hr, ho, ht, hu, hp, hf]

end

theorem exec_taskStart_opening (hr : s.phase = .ready) (ho : (s.part p).opening = true) :
    exec (.taskStart p false) s = .next (s.openStep p) := by
  show execTaskStart p false s = _
  simp [execTaskStart, hr, ho]

theorem Part.s_of_zero {q : Part} (h : q.sreg = Vector.replicate 32 0) (n : Nat) : q.s n = 0 := by
  unfold Part.s
  split
  · rfl
  · rw [h]
    exact vget_replicate 32 n 0

theorem State.codeAsk_of_task {i off n : Nat} (ht : (s.part p).task = some d) (hn : 0 < n) :
    s.codeAsk p i off n = (s.modPart p fun q => { q with codeReads := q.codeReads ++ [(i, none)] }).request
      (.code p (s.part p).taskNo i) (.seq p) .read (d.code.toNat + off) n [] := by
  simp [State.codeAsk, ht, Nat.ne_of_gt hn]

/-- A bucket fits a task of a shape at a partition (R189). -/
def Part.fits (q : Part) (shape : W32) (b : Bucket) : Prop :=
  shape.toNat ≤ b.maxShape.toNat ∧ (b.width = 0 ∨ b.width.toNat = q.width) ∧ b.minLive ≤ q.liveCount

/-- The test of `Part.chooseBucket` decides whether a bucket fits. -/
theorem Part.fits_iff (q : Part) (shape : W32) (b : Bucket) :
    (decide (shape.toNat ≤ b.maxShape.toNat) && (decide (b.width = 0) || decide (b.width.toNat = q.width))
      && decide (b.minLive ≤ q.liveCount)) = true ↔ q.fits shape b := by
  simp [Part.fits, and_assoc]

theorem Part.chooseBucket_iff (q : Part) (shape : W32) (l : List Bucket) (i : Nat) (b : Bucket) :
    q.chooseBucket shape l = some (i, b) ↔ l[i]? = some b ∧ q.fits shape b ∧ ∀ j < i, ∀ x, l[j]? = some x → ¬q.fits shape x := by
  simp only [← Part.fits_iff, Bool.not_eq_true]
  unfold Part.chooseBucket
  split
  · next k hk =>
    obtain ⟨x, hx, hfx, hj⟩ := findIdx?_eq_some_iff_getElem?.mp hk
    constructor
    · intro h
      rw [hx] at h
      cases h
      exact ⟨hx, hfx, hj⟩
    · intro h
      have hki := Option.some.inj (hk.symm.trans (findIdx?_eq_some_iff_getElem?.mpr ⟨b, h⟩))
      rw [hki, h.1]
      rfl
  · next hk =>
    refine ⟨fun h => absurd h (by simp), fun h => ?_⟩
    exact absurd (hk.symm.trans (findIdx?_eq_some_iff_getElem?.mpr ⟨b, h⟩)) (by simp)

/-! The start of a task goes on as its code object comes (R188, R189) -/

section
variable {st : Code} {hd : List Byte}

theorem State.openStep_of_failed_read (ht : (s.part p).task = some d) (hc : (s.part p).codeGot 0 = some (st, hd)) (hst : st ≠ 0) :
    s.openStep p = s.abort p st 0 := by
  unfold State.openStep
  simp only [ht, hc]
  exact if_pos hst

theorem State.openStep_of_bad_header (ht : (s.part p).task = some d) (hc : (s.part p).codeGot 0 = some (0, hd))
    (hh : headerOk d.code.toNat (ofBytes hd) = false) : s.openStep p = s.abort p 0x4906 0 := by
  simp [State.openStep, ht, hc, hh]

theorem State.openStep_of_header (ht : (s.part p).task = some d) (hc : (s.part p).codeGot 0 = some (0, hd))
    (hh : headerOk d.code.toNat (ofBytes hd) = true) (hl : (s.part p).codeReads.length = 1) :
    s.openStep p = (s.codeAsk p 1 (fieldN (ofBytes hd) 112 32) (16 * fieldN (ofBytes hd) 64 8)).codeAsk p 2
      (fieldN (ofBytes hd) 144 32) (8 * fieldN (ofBytes hd) 72 8) := by
  simp [State.openStep, ht, hc, hh, hl]

section
variable {bt ft : Code × List Byte} (ht : (s.part p).task = some d) (hc : (s.part p).codeGot 0 = some (0, hd))
  (hh : headerOk d.code.toNat (ofBytes hd) = true) (hl : (s.part p).codeReads.length ≠ 1) (h1 : (s.part p).codeGot 1 = some bt)
  (h2 : (s.part p).codeGot 2 = some ft)
include ht hc hh hl h1 h2

theorem State.openStep_of_bucket {i : Nat} {b : Bucket} {fs : List Fallback}
    (ho : s.openCode p d.shape (ofBytes hd) bt ft = .inr (i, b, fs)) : s.openStep p = s.modPart p fun q =>
      { q with opening := false, codeReads := [], next := b.entry, bucket := BitVec.ofNat 4 i,
               codeSize := BitVec.ofNat 32 (fieldN (ofBytes hd) 80 32), fallbacks := fs } := by
  simp [State.openStep, ht, hc, hh, hl, h1, h2, ho]

theorem State.openStep_of_bad_tables {code : Code} (ho : s.openCode p d.shape (ofBytes hd) bt ft = .inl code) :
    s.openStep p = s.abort p code 0 := by
  simp [State.openStep, ht, hc, hh, hl, h1, h2, ho]

end

end

end

/-! The finish of a task (R204, R206, R260) -/

section
variable {p : Fin 12} {s : State} {d : TaskDesc}

theorem exec_taskFinish_of_finished (ht : (s.part p).task = some d) (ha : (s.part p).abort = none) (hs : (s.part p).seqState = 2)
    (hf : (s.part p).finished = true) (hz : s.frozen p = false) :
    exec (.taskFinish p) s = .next ((s.balance p d).closeTask p d) := by
  show execTaskFinish p s = _
  simp [execTaskFinish, ht, ha, hs, hf, hz]

theorem State.balance_of_eq (h : (s.part p).snap = s.counts (.part p) d.sbase d.scount) : s.balance p d = s := by
  unfold State.balance
  rw [h, firstDiff_self]

theorem State.balance_of_diff {i : Nat} (h : firstDiff (s.part p).snap (s.counts (.part p) d.sbase d.scount) = some i) :
    s.balance p d = ((((s.semFlag (.part p) 2).semErrAt (.part p) false (d.sbase + i) 0x2A10).logPart p 0x2A10
      (BitVec.ofNat 64 (d.sbase + i))).modTask d fun t =>
        { t with unbal := t.unbal.orElse fun _ => some (d.sbase + i, 0, BitVec.ofNat 8 p.val) }) := by
  unfold State.balance
  rw [h]

end

/-! End records (R415, R418) -/

section
variable {h : Fin 4} {s : State} {t : RunTask}

/-- A task is due for its end record: no partition has work left, and no report of it is on its way. -/
def Hub.due (b : Hub) (t : RunTask) : Bool := decide (t.left = 0) && !b.reports.any fun r => r.2.1 == t.desc.serial

theorem exec_endRecord_of_due {i : Nat} (hi : (s.hub h).tasks[i]? = some t) (ht : (s.hub h).due t = true)
    (hj : ∀ j < i, ∀ x, (s.hub h).tasks[j]? = some x → (s.hub h).due x = false) :
    exec (.endRecord h) s = .next (
      let s' := s.modHub h fun b => { b with tasks := b.tasks.eraseIdx i }
      if (s.hub h).evFull then s'.modHub h fun b => { b with evHeld := b.evHeld ++ [t] } else s'.closeRecord h t) := by
  have hfind : (s.hub h).tasks.findIdx? (s.hub h).due = some i := findIdx?_eq_some_iff_getElem?.mpr ⟨t, hi, ht, hj⟩
  show execEndRecord h s = _
  unfold Hub.due at hfind
  simp only [execEndRecord, hfind, hi]

theorem State.globalBalance_of_aborted (ha : t.aborted = true) : s.globalBalance h t = (t, s) := by
  simp [State.globalBalance, ha]

theorem State.globalBalance_of_no_snapshot (hl : t.gsnap.length ≠ t.desc.gcount) : s.globalBalance h t = (t, s) := by
  simp [State.globalBalance, hl]

theorem State.globalBalance_of_eq (hg : t.gsnap = s.counts (.hub t.desc.ghub) t.desc.gbase t.desc.gcount) :
    s.globalBalance h t = (t, s) := by
  unfold State.globalBalance
  rw [← hg, firstDiff_self]
  split <;> rfl

theorem State.closeRecord_of_balanced (hb : s.globalBalance h { t with notrun := t.notrun || decide (t.ran = 0) }
      = ({ t with notrun := t.notrun || decide (t.ran = 0) }, s)) :
    s.closeRecord h t = (s.modHub h fun b => { b with records := b.records ++ [{ t with notrun := t.notrun || decide (t.ran = 0) }] }).requestHere
      (.record h t.desc.serial) (.port h) .write t.desc.endAddr.toNat 64
      ({ t with notrun := t.notrun || decide (t.ran = 0) : RunTask }.record s.now) := by
  unfold State.closeRecord
  rw [hb]

/-- The oldest record of a hub has landed, and none behind it has its number. -/
theorem State.recordDone_oldest {rest : List RunTask} (hr : (s.hub h).records = t :: rest)
    (hn : ∀ x ∈ rest, x.desc.serial ≠ t.desc.serial) :
    s.recordDone h t.desc.serial =
      if t.status ≠ 0 ∨ t.notrun = true ∨ t.unbal.isSome = true ∨ t.desc.evt = true then
        (s.modHub h fun b => { b with records := rest }).sendEvent h 1 t.status t.fpart.toNat 0 t.desc.id
      else s.modHub h fun b => { b with records := rest } := by
  have hfind : (s.hub h).records.find? (fun t' => t'.desc.serial == t.desc.serial) = some t := by simp [hr]
  have hrest : (s.hub h).records.filter (fun t' => t'.desc.serial != t.desc.serial) = rest := by
    rw [hr, List.filter_cons_of_neg (by simp), List.filter_eq_self]
    simpa using hn
  have hmod := State.modHub_congr (s := s) (h := h) (f := fun b => { b with records := b.records.filter fun t' => t'.desc.serial != t.desc.serial })
    (g := fun b => { b with records := rest }) (congrArg (fun r => { s.hub h with records := r }) hrest)
  unfold State.recordDone
  rw [hfind]
  simp only [hmod]

/-- The layout of an end record (R415). -/
theorem RunTask.record_layout (t : RunTask) (now : W64) : ∃ tail : List Byte, tail.length = 38 ∧
    t.record now = bytesOf 8 t.desc.id.toNat ++ (bytesOf 8 t.tstart.toNat ++ (bytesOf 8 now.toNat ++ (bytesOf 2 t.status.toNat ++ tail))) := by
  unfold RunTask.record
  simp only [List.append_assoc]
  exact ⟨_, by simp, rfl⟩

end

/-- Settles O42: each clause is one operation of the task's life, run on a state that meets its conditions. -/
theorem taskLife : Obligations.TaskLife := by
  unfold Obligations.TaskLife
  refine ⟨?start, ?ask, ?opening, fun q shape l i b => q.chooseBucket_iff shape l i b, ?finish, ?endRecord, ?landed, ?layout⟩
  case start =>
    intro p s d rest q hq hr ho ht hu hp hf
    refine ⟨exec_taskStart_free hq hr ho ht hu hp hf, exec_taskStart_parity hq hr ho ht hu hp hf, ?_⟩
    intro t
    have htaken : t = _ := (State.part_modTask ..).trans (State.part_modPart ..)
    rw [htaken]
    refine ⟨rfl, rfl, rfl, ?_, rfl, rfl, rfl, rfl, rfl, rfl, rfl, Part.s_of_zero rfl, rfl, rfl, rfl, rfl, rfl, rfl, fun l => ?_⟩
    · exact congrArg (List.drop 1) hq
    · exact Vector.getElem_map ..
  case ask => exact fun p s d i off n ht hn => State.codeAsk_of_task ht hn
  case opening =>
    intro p s d st hd q n hr ho ht hc
    rw [exec_taskStart_opening hr ho]
    refine ⟨fun hst => ?failed, ?badHeader, ?good⟩
    case failed => rw [State.openStep_of_failed_read ht hc hst]
    case badHeader =>
      rintro rfl hh
      rw [State.openStep_of_bad_header ht hc hh]
    case good =>
      rintro rfl hh
      refine ⟨fun hl => ?_, fun hl bt ft h1 h2 => ⟨fun i b fs hopen => ?_, fun code hopen => ?_⟩⟩
      · rw [State.openStep_of_header ht hc hh hl]
      · rw [State.openStep_of_bucket ht hc hh hl h1 h2 hopen]
      · rw [State.openStep_of_bad_tables ht hc hh hl h1 h2 hopen]
  case finish =>
    intro p s d q ended ht ha hs hf hz
    rw [exec_taskFinish_of_finished ht ha hs hf hz]
    refine ⟨fun h => ?_, fun i h => ?_⟩
    · rw [State.balance_of_eq h]
      rfl
    · rw [State.balance_of_diff h]
      rfl
  case endRecord =>
    intro h s i t b due s' hi ht hj full
    rw [exec_endRecord_of_due hi ht hj]
    refine ⟨fun hfull => congrArg _ (if_pos (decide_eq_true hfull)), ?_⟩
    intro hfull t' hb
    have hbal : s'.globalBalance h t' = (t', s') := by
      rcases hb with ha | hl | hg
      · exact State.globalBalance_of_aborted ha
      · exact State.globalBalance_of_no_snapshot hl
      · exact State.globalBalance_of_eq hg
    refine congrArg _ ((if_neg fun h => hfull (of_decide_eq_true h)).trans ?_)
    exact State.closeRecord_of_balanced hbal
  case landed => exact fun h s t rest st hr hn => State.recordDone_oldest hr hn
  case layout =>
    intro t now
    obtain ⟨tail, htail, hrec⟩ := t.record_layout now
    rw [hrec]
    refine ⟨by simp [htail], ofBytes_take_bytesOf 8 rfl .., ?_, ?_, ?_⟩
    · rw [drop_bytesOf_append (by decide)]
      exact ofBytes_take_bytesOf 8 rfl ..
    · rw [drop_bytesOf_append (by decide), drop_bytesOf_append (by decide)]
      exact ofBytes_take_bytesOf 8 rfl ..
    · rw [drop_bytesOf_append (by decide), drop_bytesOf_append (by decide), drop_bytesOf_append (by decide)]
      exact ofBytes_take_bytesOf 2 rfl ..

end Sys2Proof.Machine
end

section
/-! O56: cold reset, loss of power, warm reset and ramps. Each operation is cut into its steps; for each step stands what it
leaves as it was. -/

namespace Sys2Proof.Machine

/-! Steps that change hubs only -/

/-- Beside its hubs, t is s. -/
def State.HubsOnly (s t : State) : Prop := t = { s with hubs := t.hubs }

theorem State.HubsOnly.trans {s t u : State} (h : s.HubsOnly t) (k : t.HubsOnly u) : s.HubsOnly u := by
  unfold State.HubsOnly at *
  rw [k, h]

/-- What does not look at the hubs is as it was. -/
theorem State.HubsOnly.eq {β : Type} {s t : State} (h : s.HubsOnly t) (f : State → β) : f t = f { s with hubs := t.hubs } := congrArg f h

theorem State.HubsOnly.foldl {α : Type} {f : State → α → State} (l : List α) (s : State) (h : ∀ t : State, ∀ a ∈ l, t.HubsOnly (f t a)) :
    s.HubsOnly (l.foldl f s) :=
  List.foldlRecOn l f rfl fun t ht a ha => ht.trans (h t a ha)

theorem State.busyAll_hubsOnly (lop : Nat) (s : State) : s.HubsOnly (s.busyAll lop) :=
  State.HubsOnly.foldl _ s fun _ _ _ => rfl

theorem State.eventAll_hubsOnly (lop : Nat) (code : Code) (s : State) : s.HubsOnly (s.eventAll lop code) :=
  State.HubsOnly.foldl _ s fun t h _ => t.sendEvent_frame h ..

theorem State.logPart_hubsOnly (p : Fin 12) (code : Code) (arg : W64) (s : State) : s.HubsOnly (s.logPart p code arg) :=
  State.logStamp_frame ..

/-! Events at a hub (R416, R418) -/

/-- Beside what events write, hub c is b. -/
def Hub.EventsOnly (b c : Hub) : Prop :=
  c = { b with evSeq := c.evSeq, alert := c.alert, evq := c.evq, evLate := c.evLate, evPend := c.evPend }

theorem Hub.EventsOnly.trans {b c d : Hub} (h : b.EventsOnly c) (k : c.EventsOnly d) : b.EventsOnly d := by
  unfold Hub.EventsOnly at *
  rw [k, h]

theorem State.modHub_eventsOnly {h : Fin 4} {f : Hub → Hub} {s : State} (hf : (s.hub h).EventsOnly (f (s.hub h))) (g : Fin 4) :
    (s.hub g).EventsOnly ((s.modHub h f).hub g) := by
  by_cases e : h = g
  · subst e
    rw [State.hub_modHub]
    exact hf
  · rw [State.hub_modHub_ne _ _ _ _ e]
    rfl

theorem State.sendEvent_eventsOnly (h : Fin 4) (kind : Nat) (code : Code) (part lop : Nat) (arg : W64) (s : State) (g : Fin 4) :
    (s.hub g).EventsOnly ((s.sendEvent h kind code part lop arg).hub g) := by
  unfold State.sendEvent
  simp only
  split
  · rfl
  · split
    · refine State.modHub_eventsOnly ?_ g
      rfl
    · refine State.modHub_eventsOnly ?_ g
      split <;> rfl

theorem State.eventAll_eventsOnly (lop : Nat) (code : Code) (s : State) (g : Fin 4) :
    (s.hub g).EventsOnly ((s.eventAll lop code).hub g) :=
  List.foldlRecOn (motive := fun t => (s.hub g).EventsOnly (State.hub t g)) (List.finRange 4) _ rfl
    fun t ht h _ => ht.trans (t.sendEvent_eventsOnly h 5 code 0xFF lop 0 g)

/-! Cold reset (R471) -/

/-- The life-cycle state is read from the fuses alone (R433). -/
theorem State.life_congr {s t : State} (h : t.fuses = s.fuses) (k : t.fuseCopy = s.fuseCopy) : t.life = s.life := by
  have hbits : t.fuseBits = s.fuseBits := by simp only [State.fuseBits, h, k]
  simp only [State.life, hbits]

/-- The block after the wipe of a cold reset, its straps sampled, its bridges still down. -/
def State.sampled (env : BootEnv) (s : State) : State :=
  { s.coldWipe false with
    hubs := (s.coldWipe false).hubs.map Hub.boot, half := false, pwrOk := true, rstN := true, phase := .stuck, pll := env.pll,
    straps := env.straps, bridges := Vector.replicate 24 (Vector.replicate 4 false)
    hubBridges := Vector.replicate 4 (Vector.replicate 2 false), dieTime := Vector.replicate 28 0 }

/-- The ports that train come up. -/
def State.portsUp (env : BootEnv) (s : State) : State :=
  (List.finRange 4).foldl (fun (s : State) h => s.modHub h fun b => { b with portUp := env.ports.getLsbD h.val }) s

theorem State.portsUp_hubsOnly (env : BootEnv) (s : State) : s.HubsOnly (s.portsUp env) :=
  State.HubsOnly.foldl _ s fun _ _ _ => rfl

theorem exec_coldReset_off (env : BootEnv) {s : State} (h : s.phase = .off) : exec (.coldReset env) s = .next
    (if env.pll ≠ BitVec.allOnes 28 then (s.sampled env).alertAll
    else
      let u := ((s.sampled env).trainMesh env.straps).portsUp env
      if meshAgrees env.straps = false then (u.logHub 0 0xF001 0).alertAll
      else if env.ports ≠ BitVec.allOnes 4 then u.alertAll
      else u.bootEnd env) :=
  congrArg _ (if_pos h)

theorem exec_coldReset_on (env : BootEnv) {s : State} (h : s.phase ≠ .off) : exec (.coldReset env) s = .next s :=
  congrArg _ (if_neg h)

/-- The hubs' bridges and the dies', as they stand once the mesh has trained or its clocks have failed. -/
def State.meshed (env : BootEnv) (s : State) : State :=
  if env.pll = BitVec.allOnes 28 then (s.sampled env).trainMesh env.straps else s.sampled env

/-- What the last steps of a power-up leave as it was: all but hubs, stack ports and keys. -/
def State.Booted (s t : State) : Prop :=
  t = { s with phase := t.phase, hubs := t.hubs, stackPorts := t.stackPorts, drbg := t.drbg, tmpSeed := t.tmpSeed
               idPub := t.idPub, kaPub := t.kaPub }

theorem State.Booted.eq {β : Type} {s t : State} (h : s.Booted t) (f : State → β) : f t = f { s with
    phase := t.phase, hubs := t.hubs, stackPorts := t.stackPorts, drbg := t.drbg, tmpSeed := t.tmpSeed
    idPub := t.idPub, kaPub := t.kaPub } :=
  congrArg f h

theorem State.Booted.trans {s t u : State} (h : s.Booted t) (k : t.Booted u) : s.Booted u := by
  unfold State.Booted at *
  rw [k, h]

theorem State.HubsOnly.booted {s t : State} (h : s.HubsOnly t) : s.Booted t := by
  unfold State.HubsOnly at h
  unfold State.Booted
  rw [h]

theorem State.alertAll_hubsOnly (s : State) : s.HubsOnly s.alertAll := rfl

theorem State.alertAll_alert (s : State) (h : Fin 4) : (s.alertAll.hub h).alert = true := by
  simp [State.alertAll, State.hub]

theorem State.deriveKeys_booted (s : State) : s.Booted s.deriveKeys := by
  unfold State.deriveKeys
  split
  · rfl
  · split <;> rfl

section
variable (ok : BitVec 24) (s : State)

theorem State.bootStack_booted (d : Fin 24) : s.Booted (s.bootStack ok d) := by
  unfold State.bootStack
  simp only
  split
  · rfl
  · exact State.Booted.trans (t := s.modStack d _) rfl (State.logPart_hubsOnly ..).booted

theorem State.bootStack_stackPorts (d : Fin 24) : (s.bootStack ok d).stackPorts
    = (s.modStack d fun k => { k with up := ok.getLsbD d.val && !s.fused (stackPart d), training := false }).stackPorts := by
  unfold State.bootStack
  simp only
  split
  · rfl
  · exact (State.logPart_hubsOnly ..).eq State.stackPorts

/-- A stack that trains is up (R307), unless it is fused off (R23). -/
theorem State.bootStack_up (d e : Fin 24) : ((s.bootStack ok d).stackPorts[e]).up
    = if e = d then ok.getLsbD e.val && !s.fused (stackPart e) else s.stackPorts[e].up := by
  simp only [State.bootStack_stackPorts]
  by_cases h : e = d
  · subst h
    rw [State.stack_modStack, if_pos rfl]
  · rw [State.stack_modStack_ne _ _ _ _ (Ne.symm h), if_neg h]

theorem State.Booted.fused {s t : State} (h : s.Booted t) (p : Fin 12) : t.fused p = s.fused p :=
  h.eq fun s => s.fused p

theorem State.foldl_bootStack_booted (l : List (Fin 24)) : s.Booted (l.foldl (State.bootStack ok) s) :=
  List.foldlRecOn l _ rfl fun t ht d _ => ht.trans (t.bootStack_booted ok d)

theorem State.foldl_bootStack_up (l : List (Fin 24)) (e : Fin 24) : ((l.foldl (State.bootStack ok) s).stackPorts[e]).up
    = if e ∈ l then ok.getLsbD e.val && !s.fused (stackPart e) else s.stackPorts[e].up := by
  induction l generalizing s with
  | nil => simp
  | cons d l ih =>
    rw [List.foldl_cons, ih, (s.bootStack_booted ok d).fused, State.bootStack_up]
    by_cases hl : e ∈ l <;> by_cases hd : e = d <;> simp [hl, hd]

end

/-- The last steps of a power-up (R471) reach READY. -/
theorem State.bootEnd_spec (env : BootEnv) (s : State) : s.Booted (s.bootEnd env) ∧ (s.bootEnd env).phase = .ready
    ∧ ∀ d : Fin 24, ((s.bootEnd env).stackPorts[d]).up = (env.stack.getLsbD d.val && !s.fused (stackPart d)) := by
  have hkeys : s.Booted ({ s with drbg := s.drbg + 1 } : State).deriveKeys :=
    State.Booted.trans (t := { s with drbg := s.drbg + 1 }) rfl (State.deriveKeys_booted _)
  generalize hk : ({ s with drbg := s.drbg + 1 } : State).deriveKeys = k at hkeys
  have hstacks := k.foldl_bootStack_booted env.stack (List.finRange 24)
  have hup := k.foldl_bootStack_up env.stack (List.finRange 24)
  generalize hv : (List.finRange 24).foldl (State.bootStack env.stack) k = v at hstacks hup
  have hend : ({ v with phase := .ready } : State).HubsOnly (s.bootEnd env) := by
    unfold State.bootEnd
    simp only [hk, hv]
    exact (State.busyAll_hubsOnly ..).trans (State.eventAll_hubsOnly ..)
  refine ⟨(hkeys.trans hstacks).trans (State.Booted.trans (t := { v with phase := .ready }) rfl hend.booted),
    hend.eq State.phase, fun d => ?_⟩
  have hports : (s.bootEnd env).stackPorts = v.stackPorts := hend.eq State.stackPorts
  simp only [hports]
  rw [hup, if_pos (List.mem_finRange d), hkeys.fused]

/-- What a cold reset ends in (R471). -/
theorem State.coldReset_spec (env : BootEnv) {s : State} (h : s.phase = .off) :
    let good := env.pll = BitVec.allOnes 28 ∧ meshAgrees env.straps = true ∧ env.ports = BitVec.allOnes 4
    ∃ t : State, exec (.coldReset env) s = .next t ∧ (s.meshed env).Booted t
      ∧ (¬good → t.phase = .stuck ∧ ∀ h, (t.hub h).alert = true)
      ∧ (good → t.phase = .ready
        ∧ ∀ d : Fin 24, (t.stackPorts[d]).up = (env.stack.getLsbD d.val && !s.fused (stackPart d))) := by
  intro good
  rw [exec_coldReset_off env h]
  refine ⟨_, rfl, ?_⟩
  by_cases hpll : env.pll = BitVec.allOnes 28
  case neg =>
    rw [if_pos hpll, State.meshed, if_neg hpll]
    exact ⟨(State.alertAll_hubsOnly _).booted, fun _ => ⟨rfl, State.alertAll_alert _⟩, fun hg => absurd hg.1 hpll⟩
  rw [if_neg (not_not_intro hpll), State.meshed, if_pos hpll]
  have hports := ((s.sampled env).trainMesh env.straps).portsUp_hubsOnly env
  have hstuck : (((s.sampled env).trainMesh env.straps).portsUp env).phase = .stuck := hports.eq State.phase
  have hfused : ∀ p, (((s.sampled env).trainMesh env.straps).portsUp env).fused p = s.fused p := hports.booted.fused
  generalize ((s.sampled env).trainMesh env.straps).portsUp env = u at hports hstuck hfused
  by_cases hmesh : meshAgrees env.straps = true
  case neg =>
    rw [if_pos (Bool.not_eq_true _ ▸ hmesh)]
    have hlog : u.HubsOnly (u.logHub 0 0xF001 0) := State.logStamp_frame ..
    exact ⟨((hports.trans hlog).trans (State.alertAll_hubsOnly _)).booted,
      fun _ => ⟨(hlog.eq State.phase).trans hstuck, State.alertAll_alert _⟩, fun hg => absurd hg.2.1 hmesh⟩
  rw [if_neg (by simp [hmesh])]
  by_cases hup : env.ports = BitVec.allOnes 4
  case neg =>
    rw [if_pos hup]
    exact ⟨(hports.trans (State.alertAll_hubsOnly _)).booted, fun _ => ⟨hstuck, State.alertAll_alert _⟩,
      fun hg => absurd hg.2.2 hup⟩
  rw [if_neg (not_not_intro hup)]
  obtain ⟨hboot, hready, hstack⟩ := u.bootEnd_spec env
  exact ⟨hports.booted.trans hboot, fun hg => absurd ⟨hpll, hmesh, hup⟩ hg,
    fun _ => ⟨hready, fun d => by rw [hstack, hfused]⟩⟩

/-! Valid signals (R20, R25) -/

theorem State.bridgeValid_of_replicate {s : State} (h : s.bridges = Vector.replicate 24 (Vector.replicate 4 false)) (d : Fin 24)
    (sd : Side) : s.bridgeValid d sd = false := by
  unfold State.bridgeValid
  rw [vget_fin, h]
  simp

theorem State.meshed_bridgeValid (env : BootEnv) (s : State) (d : Fin 24) (sd : Side) :
    (s.meshed env).bridgeValid d sd = (decide (env.pll = BitVec.allOnes 28) && bridgeComesUp env.straps d sd) := by
  unfold State.meshed
  split
  · next h =>
    rw [decide_eq_true h, Bool.true_and]
    exact vget_bridgesUp env.straps d sd
  · next h =>
    rw [decide_eq_false h, Bool.false_and]
    exact State.bridgeValid_of_replicate rfl d sd

theorem State.meshed_hubBridgeValid (env : BootEnv) (s : State) (h : Fin 4) (i : Fin 2) :
    (s.meshed env).hubBridgeValid h i = (decide (env.pll = BitVec.allOnes 28) && hubBridgeComesUp env.straps h i) := by
  unfold State.meshed State.hubBridgeValid
  split
  · next e => simp [State.trainMesh, hubBridgesUp, e]
  · next e =>
    rw [decide_eq_false e]
    simp [State.sampled]

/-- What no step of the power-up writes is as the sampling left it. -/
theorem State.Booted.eq_sampled {β : Type} {env : BootEnv} {s t : State} (h : (s.meshed env).Booted t) (f : State → β)
    (hf : ∀ u v : State, f { v with
      phase := u.phase, hubs := u.hubs, stackPorts := u.stackPorts, drbg := u.drbg, tmpSeed := u.tmpSeed, idPub := u.idPub
      kaPub := u.kaPub, bridges := u.bridges, hubBridges := u.hubBridges } = f v) : f t = f (s.sampled env) := by
  have ht : t = { s.sampled env with
      phase := t.phase, hubs := t.hubs, stackPorts := t.stackPorts, drbg := t.drbg, tmpSeed := t.tmpSeed, idPub := t.idPub
      kaPub := t.kaPub, bridges := t.bridges, hubBridges := t.hubBridges } := by
    unfold State.Booted State.meshed at h
    rw [h]
    split <;> rfl
  exact (congrArg f ht).trans (hf t _)

theorem meshAgrees_rightStraps : meshAgrees rightStraps = true := by decide +kernel

theorem bridgeEnd_east (d : Fin 24) : (bridgeEnd d .e).isNone = false := by
  unfold bridgeEnd endOf
  simp only
  split <;> rfl

/-- A die whose straps name no place finds a mismatch at its east bridge, which every die has. -/
theorem meshAgrees_of_invalid {x : Straps} {d : Fin 24} (h : strapPlace x[d.val] = none) : meshAgrees x = false := by
  have he : bridgeComesUp x d .e = false := by
    unfold bridgeComesUp
    rw [h]
    cases bridgeEnd d .e <;> rfl
  rw [← Bool.not_eq_true]
  intro hm
  have hd := List.all_eq_true.mp (Bool.and_eq_true_iff.mp hm).1 d (List.mem_finRange d)
  have hside := List.all_eq_true.mp hd .e (by simp)
  rw [bridgeEnd_east, he] at hside
  cases hside

theorem bridgeEnd_places : ∀ d : Fin 24, (bridgeEnd d .n = none ↔ dieRow d = 0) ∧ (bridgeEnd d .s = none ↔ dieRow d = 3)
      ∧ (∀ e, (bridgeEnd d .n = some (.die e) ↔ bridgeEnd e .s = some (.die d)) ∧ (bridgeEnd d .e = some (.die e) ↔ bridgeEnd e .w = some (.die d)))
      ∧ ∀ h, (bridgeEnd d .w = some (.hub h) ∨ bridgeEnd d .e = some (.hub h)) ↔ ∃ i, hubBridgeEnd h i = d := by
  decide +kernel

/-! Warm reset (R432, R473) -/

/-- A partition that a warm reset has stopped and wiped: it has no tenant and nothing of its task, and it stays unavailable. -/
structure Part.Warmed (pers : PersState) (q : Part) : Prop where
  tenant : q.tenant = 0
  sems : q.sems = []
  store : q.store = []
  task : q.task = none
  pers : q.pers = pers
  spad : ∀ l : Fin 32, q.cores[l].spad = []
  unavail : q.unavail = true

theorem Part.wipe_warmed {pers : PersState} {q : Part} (h : q.Warmed pers) : (Part.wipe .reset q).Warmed pers where
  tenant := h.tenant
  sems := rfl
  store := h.store
  task := rfl
  pers := h.pers
  spad l := by simpa [Part.wipe, Core.wipe] using h.spad l
  unavail := h.unavail

theorem State.warmPart_regions (s : State) (p : Fin 12) : (s.warmPart p).regions = s.regions := rfl

theorem State.warmPart_part (s : State) (p : Fin 12) : ((s.warmPart p).part p).Warmed (s.part p).pers := by
  have hwipe : (s.wipePart .warm p).part p = Part.wipe .warm (s.part p) := State.part_modPart ..
  have hq : (s.warmPart p).part p = _ := State.part_modPart p _ (s.wipePart .warm p)
  rw [hq, hwipe]
  exact { tenant := rfl, sems := rfl, store := rfl, task := rfl, pers := rfl, unavail := rfl,
          spad := fun l => by simp [Part.wipe, Core.wipe] }

theorem State.warmPart_part_ne {p q : Fin 12} (s : State) (h : p ≠ q) : (s.warmPart p).part q = s.part q :=
  (State.part_modPart_ne p q _ _ h).trans (State.part_modPart_ne p q _ _ h)

theorem State.foldl_warmPart (l : List (Fin 12)) {q : Fin 12} {pers : PersState} (s : State) (hp : (s.part q).pers = pers)
    (h : q ∈ l ∨ (s.part q).Warmed pers) : ((l.foldl State.warmPart s).part q).Warmed pers := by
  induction l generalizing s with
  | nil => exact h.resolve_left (by simp)
  | cons p l ih =>
    by_cases e : p = q
    · subst e
      have hw := s.warmPart_part p
      rw [hp] at hw
      exact ih _ hw.pers (Or.inr hw)
    · rw [← s.warmPart_part_ne e] at hp h
      refine ih _ hp (h.imp_left fun hm => ?_)
      exact (List.mem_cons.mp hm).resolve_left (Ne.symm e)

/-- Every partition of t has been wiped by a warm reset of s; the regions still hold their keys. -/
structure State.WarmedFrom (s t : State) : Prop where
  regions : t.regions = s.regions
  part : ∀ p, (t.part p).Warmed (s.part p).pers

theorem State.WarmedFrom.congr {s t u : State} (h : s.WarmedFrom t) (hp : u.parts = t.parts) (hr : u.regions = t.regions) :
    s.WarmedFrom u where
  regions := hr.trans h.regions
  part p := by
    have : u.part p = t.part p := congrArg (fun v : Vector Part 12 => v[p]) hp
    rw [this]
    exact h.part p

theorem State.WarmedFrom.modPart {s t : State} (h : s.WarmedFrom t) {p : Fin 12} {f : Part → Part}
    (hf : (f (t.part p)).Warmed (s.part p).pers) : s.WarmedFrom (t.modPart p f) where
  regions := h.regions
  part q := by
    by_cases e : p = q
    · subst e
      rw [State.part_modPart]
      exact hf
    · rw [State.part_modPart_ne _ _ _ _ e]
      exact h.part q

theorem State.foldl_warmPart_regions (l : List (Fin 12)) (s : State) : (l.foldl State.warmPart s).regions = s.regions := by
  induction l generalizing s with
  | nil => rfl
  | cons p l ih => exact (ih (s.warmPart p)).trans (s.warmPart_regions p)

theorem State.WarmedFrom.foldl_warmPart {s t : State} (h : s.HubsOnly t) :
    s.WarmedFrom ((List.finRange 12).foldl State.warmPart t) := by
  refine ⟨(t.foldl_warmPart_regions _).trans (h.eq State.regions), fun p => ?_⟩
  exact State.foldl_warmPart _ t (h.eq fun s => (s.part p).pers) (Or.inl (List.mem_finRange p))

/-- A fence request of a partition that is unavailable is refused (R447): only its cause changes. -/
theorem State.WarmedFrom.fenceDo {s t : State} (h : s.WarmedFrom t) (p : Fin 12) (l : Fin 32) (v : W32) :
    s.WarmedFrom (t.fenceDo p l v).2 := by
  have hcause : t.fenceCause p l v = 1 := State.fenceCause_of_busy (Or.inr (Or.inl (h.part p).unavail))
  rw [State.fenceDo_rejected (by rw [hcause]; decide), hcause]
  refine State.WarmedFrom.congr (t := t.modCore p l fun c => { c with fcause := 1 }) (h.modPart ?_) ?_ ?_
  · obtain ⟨ht, hs, hst, hta, hp, hsp, hu⟩ := h.part p
    refine ⟨ht, hs, hst, hta, hp, fun k => ?_, hu⟩
    by_cases e : l = k
    · subst e
      simpa using hsp l
    · simpa [Vector.getElem_set_ne, Fin.val_ne_of_ne e] using hsp k
  · exact State.logCore_parts ..
  · rw [State.logCore_frame]

theorem State.partReset_regions (p : Fin 12) (s : State) : (s.partReset p).regions = s.regions :=
  (State.HubsOnly.foldl (s.part p).delivery s fun t d _ => t.unrun_frame p d).eq State.regions

theorem State.WarmedFrom.partReset {s t : State} (h : s.WarmedFrom t) (p : Fin 12) : s.WarmedFrom (t.partReset p) where
  regions := (t.partReset_regions p).trans h.regions
  part q := by
    obtain ⟨hp, hne, -⟩ := State.partReset_spec p t
    by_cases e : q = p
    · subst e
      rw [hp]
      exact Part.wipe_warmed (h.part q)
    · rw [hne q e]
      exact h.part q

theorem State.WarmedFrom.heldDo {s t : State} (h : s.WarmedFrom t) (p : Fin 12) (r : HeldReq) : s.WarmedFrom (t.heldDo p r) := by
  unfold State.heldDo
  cases r.core with
  | some l =>
    have hdone := h.fenceDo p l r.v
    dsimp only
    generalize t.fenceDo p l r.v = a at hdone ⊢
    cases r.who <;> exact hdone.congr rfl rfl
  | none =>
    have hdone := h.partReset p
    dsimp only
    generalize t.partReset p = u at hdone ⊢
    cases r.who <;> exact hdone.congr rfl rfl

/-- What a control port has asked of the scratchpads is a request of a control port. -/
theorem State.portDma_port {s : State} {e : Requester × Bool} (h : e ∈ s.portDma) : ∃ g tag, e.1 = .port g tag := by
  unfold State.portDma at h
  obtain ⟨q, -, hq⟩ := List.mem_flatMap.mp h
  obtain ⟨c, -, hc⟩ := List.mem_flatMap.mp hq
  obtain ⟨r, hr, rfl⟩ := List.mem_map.mp hc
  obtain ⟨-, hport⟩ := List.mem_filter.mp hr
  cases hw : r.who with
  | port g tag => exact ⟨g, tag, rfl⟩
  | _ => simp [hw] at hport

theorem State.complete_port_hubsOnly (g : Fin 4) (tag : Byte) (read : Bool) (st : Code) (d : List Byte) (s : State) :
    s.HubsOnly (s.complete (.port g tag) read st d) := rfl

/-- The requests that waited at a scratchpad or behind an abort are answered, and every partition stays wiped. -/
theorem State.WarmedFrom.answers {s t : State} (h : s.WarmedFrom t) (held : List (Fin 12 × HeldReq)) :
    s.WarmedFrom (held.foldl (fun s e => s.heldDo e.1 e.2) (s.portDma.foldl (fun s e => s.complete e.1 e.2 0x7E10 []) t)) := by
  have hdma : t.HubsOnly (s.portDma.foldl (fun s e => s.complete e.1 e.2 0x7E10 []) t) := by
    refine State.HubsOnly.foldl _ t fun u e he => ?_
    obtain ⟨g, tag, hport⟩ := State.portDma_port he
    rw [hport]
    exact u.complete_port_hubsOnly g tag ..
  exact List.foldlRecOn _ _ (h.congr (hdma.eq State.parts) (hdma.eq State.regions)) fun u hu e _ => hu.heldDo e.1 e.2

/-- What the retraining of stacks leaves as it was: all but the stack ports. -/
theorem State.foldl_modStack_frame (f : Stack → Stack) (l : List (Fin 24)) (s : State) :
    l.foldl (fun s d => s.modStack d f) s = { s with stackPorts := (l.foldl (fun s d => s.modStack d f) s).stackPorts } := by
  induction l generalizing s with
  | nil => rfl
  | cons d l ih =>
    rw [List.foldl_cons, ih]
    rfl

/-- The steps of a warm reset (R473): the partitions are wiped, then links, hubs, stacks and regions; it ends at once unless a
stack retrains. -/
theorem State.warmReset_steps (s : State) : ∃ u w : State, s.WarmedFrom u ∧ w.parts = u.parts ∧ w.hbm = []
    ∧ w.regions = u.regions.map (fun r => { Region.reset with keyGen := r.keyGen + 1 }) ∧ w.links = u.links.map Link.warm
    ∧ w.hubs = u.hubs.map (Hub.warm u.now)
    ∧ s.warmReset = if (s.liveStacks.filter fun d => !s.stackPorts[d].up) = [] then w.warmEnd else w := by
  have hu := (State.WarmedFrom.foldl_warmPart (s.busyAll_hubsOnly 2)).answers
    ((List.finRange 12).flatMap fun p => (s.part p).held.map fun r => (p, r))
  refine ⟨_, _, hu, ?_, ?_, ?_, ?_, ?_, rfl⟩
  all_goals rw [State.foldl_modStack_frame]

/-- The block once a warm reset has ended, before its events. -/
def State.released (w : State) : State :=
  { w with
    warm := false
    parts := w.parts.map fun (q : Part) => { q with isolated := decide (q.pers = .held), unavail := decide (q.pers = .held) } }

theorem State.warmEnd_eq (w : State) : w.warmEnd = w.released.eventAll 2 0 := rfl

/-- The end of a warm reset (R473 step 5) sends events and ends the isolation of partitions. -/
theorem State.warmEnd_spec (w : State) : w.warmEnd.warm = false ∧ w.warmEnd.hbm = w.hbm ∧ w.warmEnd.regions = w.regions
    ∧ w.warmEnd.links = w.links ∧ (∀ h, (w.hub h).EventsOnly (w.warmEnd.hub h))
    ∧ ∀ p, ∃ iso un, w.warmEnd.part p = { w.part p with isolated := iso, unavail := un } := by
  rw [State.warmEnd_eq]
  have hev := State.eventAll_hubsOnly 2 0 w.released
  have hhub := State.eventAll_eventsOnly 2 0 w.released
  generalize State.eventAll 2 0 w.released = t at hev hhub
  exact ⟨hev.eq State.warm, hev.eq State.hbm, hev.eq State.regions, hev.eq State.links, hhub,
    fun p => ⟨_, _, (hev.eq fun t => t.part p).trans (Vector.getElem_map ..)⟩⟩

/-- A warm reset that no stack holds up has ended (R473). -/
theorem State.warmReset_spec (s : State) : ∃ u w : State, s.WarmedFrom u ∧ s.warmReset.hbm = []
    ∧ s.warmReset.regions = s.regions.map (fun r => { Region.reset with keyGen := r.keyGen + 1 })
    ∧ s.warmReset.links = u.links.map Link.warm ∧ w.hubs = u.hubs.map (Hub.warm u.now)
    ∧ (∀ h, (w.hub h).EventsOnly (s.warmReset.hub h))
    ∧ (∀ p, ∃ iso un, s.warmReset.part p = { u.part p with isolated := iso, unavail := un })
    ∧ ((∀ d, d ∈ s.liveStacks → s.stackPorts[d].up = true) → s.warmReset.warm = false) := by
  obtain ⟨u, w, hu, hparts, hhbm, hregs, hlinks, hhubs, hreset⟩ := s.warmReset_steps
  rw [hu.regions] at hregs
  refine ⟨u, w, hu, ?_⟩
  have hpart : ∀ p, w.part p = u.part p := fun p => congrArg (fun v : Vector Part 12 => v[p]) hparts
  rw [hreset]
  split
  · obtain ⟨ewarm, ehbm, eregs, elinks, ehubs, eparts⟩ := w.warmEnd_spec
    refine ⟨ehbm.trans hhbm, eregs.trans hregs, elinks.trans hlinks, hhubs, ehubs, fun p => ?_, fun _ => ewarm⟩
    rw [← hpart]
    exact eparts p
  · next hdown =>
    refine ⟨hhbm, hregs, hlinks, hhubs, fun _ => rfl, fun p => ⟨_, _, hpart p⟩, fun hup => absurd ?_ hdown⟩
    rw [List.filter_eq_nil_iff]
    intro d hd
    simpa using hup d hd

theorem Hub.EventsOnly.cleared {b c d : Hub} {now : W64} (h : b.EventsOnly d) (hb : b = Hub.warm now c) :
    d.gsems = [] ∧ d.gctrs = [] ∧ d.gown = Vector.replicate 32 0 ∧ d.tasks = [] := by
  subst hb
  unfold Hub.EventsOnly at h
  rw [h]
  exact ⟨rfl, rfl, rfl, rfl⟩

/-! The write of TIME_RST (R472) -/

section
variable {h : Fin 4} {v : W32} {s : State}

theorem State.busy_filterMap_eq_nil : s.hubs.toList.filterMap (fun b => b.busy) = [] ↔ ∀ g, (s.hub g).busy = none := by
  rw [List.filterMap_eq_nil_iff]
  constructor
  · exact fun hall g => hall _ (Vector.mem_toList_iff.mpr (Vector.getElem_mem g.isLt))
  · intro hall b hb
    obtain ⟨i, hi, rfl⟩ := Vector.getElem_of_mem (Vector.mem_toList_iff.mp hb)
    exact hall ⟨i, hi⟩

theorem exec_warmReset_of_reaches (hr : s.reaches (.port h) (blkBase + 0x7010) true) :
    exec (.warmReset h v) s = .next ((s.warmWrite (.port h) v).2.answered 0 0) := by
  show execWarmReset h v s = _
  unfold execWarmReset
  rw [State.regCommand_of_reaches _ hr]
  rfl

theorem State.warmWrite_performed (hk : fld v 16 16 = 0x5752) (hb : bit v 0 = true) (hi : ∀ g, (s.hub g).busy = none) :
    (s.warmWrite (.port h) v).2 = s.warmReset := by
  unfold State.warmWrite
  rw [State.busy_filterMap_eq_nil.mpr hi, hk, hb]
  rfl

theorem State.warmWrite_ignored (hn : fld v 16 16 ≠ 0x5752 ∨ bit v 0 = false ∨ ∃ g, (s.hub g).busy.isSome = true) :
    (s.warmWrite (.port h) v).2 = s := by
  unfold State.warmWrite
  split
  · next hgo =>
    simp only [Bool.and_eq_true, decide_eq_true_eq] at hgo
    obtain ⟨g, hg⟩ := (hn.resolve_left (not_not_intro hgo.1.2)).resolve_left (by simp [hgo.2])
    split
    · next hnil =>
      rw [State.busy_filterMap_eq_nil.mp hnil g] at hg
      cases hg
    · rfl
  · rfl

end

/-! Ramps (R475, R476) and the timing message (R466) -/

section
variable {p : Fin 12} {s : State}

theorem State.rampFirst_iff : ((List.finRange 12).all fun q => decide (p ≤ q) || !s.rampDue q) = true
    ↔ ∀ q, q < p → s.rampDue q = false := by
  simp only [List.all_eq_true, List.mem_finRange, forall_const, Bool.or_eq_true, decide_eq_true_eq, Bool.not_eq_true']
  exact forall_congr' fun q => by rw [← not_le, imp_iff_not_or, not_not]

theorem exec_rampStart_due (hr : s.phase = .ready) (hd : s.rampDue p = true)
    (hn : (s.parts.toList.filter Part.ramping).length ≤ s.rampMax.toNat) (hq : ∀ q, q < p → s.rampDue q = false) :
    exec (.rampStart p) s = .next (s.modPart p fun q =>
      if q.power = .gated then { q with power := .rampUp, rampAt := 0 } else { q with power := .rampDown, rampAt := 16 }) :=
  congrArg _ (if_pos ⟨hr, hd, Nat.lt_succ_of_le hn, State.rampFirst_iff.mpr hq⟩)

theorem exec_rampStart_waits (hw : s.rampDue p = false ∨ s.rampMax.toNat < (s.parts.toList.filter Part.ramping).length
    ∨ ∃ q, q < p ∧ s.rampDue q = true) : exec (.rampStart p) s = .next s := by
  refine congrArg _ (if_neg ?_)
  rintro ⟨-, hd, hn, hfirst⟩
  rcases hw with h | h | ⟨q, hq, h⟩
  · rw [h] at hd
    cases hd
  · omega
  · rw [State.rampFirst_iff.mp hfirst q hq] at h
    cases h

theorem exec_rampStep_ready (hr : s.phase = .ready) : exec (.rampStep p) s = .next
    (if (s.part p).power = .rampUp then
      s.modPart p fun q => if 15 ≤ q.rampAt then { q with power := .running, rampAt := 16 } else { q with rampAt := q.rampAt + 1 }
    else if (s.part p).power = .rampDown then
      s.modPart p fun q => if q.rampAt ≤ 1 then { q with power := .gated, rampAt := 0 } else { q with rampAt := q.rampAt - 1 }
    else s) :=
  congrArg _ (if_neg (not_not_intro hr))

end

/-- The timebase of a die that only rises (R466). -/
theorem toNat_ite_lt_eq_max (t n : W64) : (if t.toNat < n.toNat then n else t).toNat = max t.toNat n.toNat := by
  split <;> omega

/-- Settles O56: each operation is taken by its steps, and what a step leaves as it was is cited. -/
theorem powerAndResets : Obligations.PowerAndResets := by
  unfold Obligations.PowerAndResets
  refine ⟨fun env s => exec_coldReset_on env, ?coldReset, ?busy, meshAgrees_rightStraps, fun x d => meshAgrees_of_invalid,
    bridgeEnd_places, ?pwrOkFall, ?blkRstNLow, ?warmWrite, ?warmReset, ?rampStart, ?rampStep, ?timing⟩
  case coldReset =>
    intro env s hoff good
    obtain ⟨t, hexec, hboot, hbad, hgood⟩ := State.coldReset_spec env hoff
    refine ⟨t, hexec, hbad, hgood, fun p => ?_, fun n => ?_, hboot.eq_sampled State.hbm fun _ _ => rfl,
      hboot.eq_sampled State.dieTime fun _ _ => rfl, ?_, hboot.eq_sampled State.pending fun _ _ => rfl,
      hboot.eq_sampled State.straps fun _ _ => rfl, fun d sd => ?_, fun h i => ?_⟩
    · exact (hboot.eq_sampled (fun t => t.part p) fun _ _ => rfl).trans (Vector.getElem_map ..)
    · exact (hboot.eq_sampled (fun t => t.links[n]) fun _ _ => rfl).trans (Vector.getElem_map ..)
    · exact (hboot.eq_sampled State.life fun _ _ => State.life_congr rfl rfl).trans (State.life_congr rfl rfl)
    · exact (hboot.eq fun t => t.bridgeValid d sd).trans (s.meshed_bridgeValid env d sd)
    · exact (hboot.eq fun t => t.hubBridgeValid h i).trans (s.meshed_hubBridgeValid env h i)
  case busy =>
    intro h hdr f s hs hp h1 h3
    unfold State.portMessage
    simp [hs, hp, h1, h3]
  case pwrOkFall =>
    intro s
    refine ⟨_, rfl, rfl, rfl, rfl, fun r => ?_, fun h => ?_, rfl, State.bridgeValid_of_replicate rfl⟩
    · exact congrArg Region.keyGen (Vector.getElem_map ..)
    · exact congrArg Hub.portUp (Vector.getElem_map ..)
  case blkRstNLow =>
    intro s
    exact ⟨_, rfl, rfl, rfl, rfl, fun h => congrArg Hub.portUp (Vector.getElem_map ..), rfl, rfl⟩
  case warmWrite =>
    intro h v s hr
    rw [exec_warmReset_of_reaches hr]
    refine ⟨fun hk hb hi => ?_, fun hn => ?_⟩
    · rw [State.warmWrite_performed hk hb hi]
    · rw [State.warmWrite_ignored hn]
  case warmReset =>
    intro s
    obtain ⟨u, w, hu, hhbm, hregs, hlinks, hhubs, hevents, hparts, hwarm⟩ := s.warmReset_spec
    generalize s.warmReset = t at *
    refine ⟨hhbm, fun r => ?_, fun n => ?_, fun h => ?_, fun p => ?_, hwarm⟩
    · simp only [hregs, Fin.getElem_fin, Vector.getElem_map]
    · simp [hlinks, Link.warm, Link.toIdle, Link.reset]
    · exact (hevents h).cleared ((congrArg (fun v : Vector Hub 4 => v[h]) hhubs).trans (Vector.getElem_map ..))
    · obtain ⟨iso, un, hp⟩ := hparts p
      rw [hp]
      obtain ⟨ht, hs, hst, hta, hpers, hsp, -⟩ := hu.part p
      exact ⟨ht, hs, hst, hta, hpers, hsp⟩
  case rampStart =>
    exact fun p s => ⟨exec_rampStart_due, exec_rampStart_waits⟩
  case rampStep =>
    intro p s hr
    rw [exec_rampStep_ready hr]
    refine ⟨fun h => ?_, fun h => ?_, fun h => ?_⟩
    · rw [if_pos h]
    · rw [if_neg (by simp [h]), if_pos h]
    · rw [if_neg (by rcases h with h | h <;> simp [h]), if_neg (by rcases h with h | h <;> simp [h])]
  case timing =>
    intro s
    refine ⟨_, rfl, fun d => ?_, rfl⟩
    refine (congrArg BitVec.toNat (Vector.getElem_map ..)).trans ?_
    exact toNat_ite_lt_eq_max ..

end Sys2Proof.Machine
end

section
/-! What the load and store engines share: the issue of an instruction that changes its own core, vectors written element by
element, and accesses to a scratchpad row that neither guard mode nor check bits stop (R156, R166, R502). -/

namespace Sys2Proof.Machine

/-! Vectors written element by element -/

theorem vget_vset {α : Type} {n : Nat} (d : α) (v : Vector α n) (k : Nat) (x : α) (i : Nat) (hk : k < n) :
    vget d (vset v k x) i = if i = k then x else vget d v i := by
  unfold vget vset
  rw [Vector.getElem?_setIfInBounds]
  by_cases h : i = k
  · subst h
    simp [hk]
  · simp [h, Ne.symm h]

theorem vset_vget {α : Type} {n : Nat} (d : α) (v : Vector α n) {k : Nat} (hk : k < n) : vset v k (vget d v k) = v := by
  refine Vector.ext fun i hi => ?_
  rw [vset, Vector.getElem_setIfInBounds, vget_of_lt _ _ _ hk]
  split
  · next h => subst h; rfl
  · rfl

/-- Of the values x 0, x 1 and so on, those that are not rejected are written from element `base` on. -/
def putAccepted {α : Type} {n : Nat} (rej : α → Bool) (base : Nat) (x : Nat → α) (l : List Nat) (v : Vector α n) : Vector α n :=
  l.foldl (fun v j => if rej (x j) then v else vset v (base + j) (x j)) v

@[simp] theorem putAccepted_cons {α : Type} {n : Nat} (rej : α → Bool) (base : Nat) (x : Nat → α) (j : Nat) (l : List Nat)
    (v : Vector α n) : putAccepted rej base x (j :: l) v
      = putAccepted rej base x l (if rej (x j) then v else vset v (base + j) (x j)) := rfl

theorem vget_putAccepted {α : Type} {n : Nat} (d : α) (rej : α → Bool) (base : Nat) (x : Nat → α) (v : Vector α n) (i : Nat)
    {m : Nat} (hm : base + m ≤ n) :
    vget d (putAccepted rej base x (List.range m) v) i =
      if base ≤ i ∧ i < base + m ∧ rej (x (i - base)) = false then x (i - base) else vget d v i := by
  induction m with
  | zero => exact (if_neg (by omega)).symm
  | succ m ih =>
    have hlast : putAccepted rej base x (List.range (m + 1)) v = if rej (x m) then putAccepted rej base x (List.range m) v
        else vset (putAccepted rej base x (List.range m) v) (base + m) (x m) := by
      simp [putAccepted, List.range_succ]
    rw [hlast]
    by_cases hi : i = base + m
    · subst hi
      by_cases hr : rej (x m) = true
      · rw [if_pos hr, ih (by omega), if_neg (by omega), if_neg (by simp [hr])]
      · rw [if_neg hr, vget_vset _ _ _ _ _ (by omega), if_pos rfl, if_pos (by simp_all)]
        simp
    · have hlt : i < base + (m + 1) ↔ i < base + m := by omega
      simp only [hlt]
      by_cases hr : rej (x m) = true
      · rw [if_pos hr, ih (by omega)]
      · rw [if_neg hr, vget_vset _ _ _ _ _ (by omega), if_neg hi, ih (by omega)]

/-! Changes of one core -/

section
variable {p : Fin 12} {l : Fin 32} {s t : State}

theorem State.CoreAndHubs.of_modCore (f : Core → Core) : State.CoreAndHubs p l f s (s.modCore p l f) := rfl

theorem State.CoreAndHubs.congr {f g : Core → Core} (h : State.CoreAndHubs p l f s t) (hfg : f (s.core p l) = g (s.core p l)) :
    State.CoreAndHubs p l g s t := by
  unfold State.CoreAndHubs at *
  rw [← State.modCore_congr p l f g s hfg]
  exact h

theorem State.CoreAndHubs.abort {f : Core → Core} (h : State.CoreAndHubs p l f s t) : (t.part p).abort = (s.part p).abort := by
  unfold State.CoreAndHubs at h
  rw [h]
  exact State.abort_modCore p l f s

theorem State.CoreAndHubs.foldl {α : Type} {f : State → α → State} {g : Core → α → Core}
    (h : ∀ t a, State.CoreAndHubs p l (fun c => g c a) t (f t a)) (xs : List α) (s : State) :
    State.CoreAndHubs p l (fun c => xs.foldl g c) s (xs.foldl f s) := by
  induction xs generalizing s with
  | nil => exact State.CoreAndHubs.rfl' p l s
  | cons a xs ih => exact (h s a).trans (ih (f s a))

/-- QNT_FLAGS (R122): one bit sets, with a trouble-log entry when it was 0. -/
theorem State.setQnt_spec (p : Fin 12) (l : Fin 32) (i : Nat) (code : Code) (s : State) :
    State.CoreAndHubs p l (fun c => { c with qntFlags := c.qntFlags ||| BitVec.ofNat 5 (2 ^ i) }) s (s.setQnt p l i code) := by
  unfold State.setQnt State.CoreAndHubs
  simp only
  split
  · rfl
  · rw [State.logCore_frame]

variable {e : Engine} {x : Duet} {en : Entry} {code : Code} {want : Slot → Bool} {run : Entry → State → Issued} {g : Core → Core}
  {o : Out}

/-- An instruction that changes its core by g, with entries and events at hubs. -/
theorem State.issue_coreAndHubs (ho : o = .next (s.issue p l e x .clean code want run)) (hr : s.ready p l e x = some en)
    (hw : want en.word = true) (hf : run en s = .done t) (ht : State.CoreAndHubs p l g s t)
    (hg : ((g (s.core p l)).ctx e x).head = ((s.core p l).ctx e x).head) :
    ∃ u tm, o = .next u ∧ State.CoreAndHubs p l (fun c => Core.issued e x s.now en tm (g c)) s u := by
  have ht' : t = { s.modCore p l g with hubs := t.hubs, free := s.free } := ht
  obtain ⟨tm, h⟩ := State.issue_core (code := code) hr hw (hf.trans (congrArg Issued.done ht')) hg
  exact ⟨_, tm, ho.trans (congrArg _ h), rfl⟩

/-- An instruction that changes its core by g and nothing else. -/
theorem State.issue_modCore (ho : o = .next (s.issue p l e x .clean code want run)) (hr : s.ready p l e x = some en)
    (hw : want en.word = true) (hf : run en s = .done (s.modCore p l g))
    (hg : ((g (s.core p l)).ctx e x).head = ((s.core p l).ctx e x).head) :
    ∃ tm : Timing, o = .next (s.modCore p l fun c => Core.issued e x s.now en tm (g c)) := by
  obtain ⟨tm, h⟩ := State.issue_core (code := code) (g := g) (hs := s.hubs) (n := s.free) hr hw hf hg
  exact ⟨tm, ho.trans (congrArg _ h)⟩

/-! One row of a scratchpad (R154, R156, R165 to R168) -/

theorem Core.checked_of_unguarded {c : Core} (h : c.guardEn = false) (r : Nat) : c.checked r = false := by
  simp [Core.checked, h]

theorem Core.checkWords_of_good {c : Core} (h : c.bad = []) (ws : List Nat) : c.checkWords ws = (none, []) := by
  simp [Core.checkWords, h, Sparse.get]

/-- A read that consumes its row clears the row's valid bit (R166). -/
def Core.took (consume : Bool) (r : Nat) (c : Core) : Core := if consume then c.setRow r false else c

theorem Core.took_eq (consume : Bool) (r : Nat) (c : Core) : Core.took consume r c = { c with valid := (Core.took consume r c).valid } := by
  cases consume <;> rfl

theorem Core.took_valid_of_kept {consume : Bool} (h : consume = false) (r : Nat) (c : Core) : (c.took consume r).valid = c.valid := by
  subst h
  rfl

theorem State.rowRead_plain {a n : Nat} {consume : Bool} (hg : (s.core p l).guardEn = false) (hb : (s.core p l).bad = []) :
    s.rowRead p l a n consume = (.ok ((s.core p l).bytes a n), s.modCore p l (Core.took consume (a / 512))) := by
  have hck := Core.checked_of_unguarded hg (a / 512)
  have hcw := Core.checkWords_of_good hb (wordRange a n)
  cases consume with
  | true =>
    simp only [State.rowRead, hck, hcw]
    rfl
  | false =>
    simp only [State.rowRead, hck, hcw]
    exact congrArg (Prod.mk _) (State.modCore_id p l s).symm

/-- A load of one row inside the scratchpad takes the row that holds the address. -/
theorem State.rowAt_plain {a : Nat} {consume : Bool} (hg : (s.core p l).guardEn = false) (hb : (s.core p l).bad = [])
    (ha : a < spadSize) : s.rowAt p l a 512 consume
      = (some ((s.core p l).bytes (a / 512 * 512) 512), s.modCore p l (Core.took consume (a / 512))) := by
  have hle : ¬spadSize ≤ a / 512 * 512 := by omega
  unfold State.rowAt State.engRead
  rw [if_neg (by omega), if_neg hle, State.rowRead_plain hg hb, Nat.mul_div_cancel _ (by decide : 0 < 512)]

end

end Sys2Proof.Machine
end

section
/-! O19: CSR and GRID write the registers whose image the check accepts, and flag a rejection (R39, R40, R94, R95). -/

namespace Sys2Proof.Machine

section
variable {p : Fin 12} {l : Fin 32} {x : Duet} {s : State} {en : Entry}

/-- A channel scale written with its check (R94). -/
def Core.csrPut (n : Nat) (v : W32) (c : Core) : Core :=
  if csrRejects v then { c with qntFlags := c.qntFlags ||| 1 } else { c with csr := vset c.csr n v }

/-- A level written with its check (R39). -/
def Core.entPut (n : Nat) (v : W32) (c : Core) : Core :=
  if Grid.rejects v then { c with gridFlags := c.gridFlags ||| 64 } else { c with gridEnt := vset c.gridEnt n v }

theorem State.csrPut_spec (p : Fin 12) (l : Fin 32) (n : Nat) (v : W32) (s : State) :
    State.CoreAndHubs p l (Core.csrPut n v) s (s.csrPut p l n v) := by
  unfold State.csrPut Core.csrPut
  cases csrRejects v
  · exact State.CoreAndHubs.of_modCore _
  · exact State.setQnt_spec ..

theorem State.entPut_spec (p : Fin 12) (l : Fin 32) (n : Nat) (v : W32) (s : State) :
    State.CoreAndHubs p l (Core.entPut n (Grid.stored v)) s (s.entPut p l n v) := by
  unfold State.entPut Core.entPut
  cases Grid.rejects (Grid.stored v)
  · exact State.CoreAndHubs.of_modCore _
  · exact State.setGridFlag_spec ..

theorem flag_or_self {n : Nat} (f b : BitVec n) : f ||| b ||| b = f ||| b := by
  rw [BitVec.or_assoc, BitVec.or_self]

theorem Core.foldl_csrPut (base : Nat) (y : Nat → W32) (js : List Nat) (c : Core) :
    js.foldl (fun c j => c.csrPut (base + j) (y j)) c = { c with
      csr := putAccepted csrRejects base y js c.csr
      qntFlags := if js.any fun j => csrRejects (y j) then c.qntFlags ||| 1 else c.qntFlags } := by
  induction js generalizing c with
  | nil => rfl
  | cons j js ih =>
    rw [List.foldl_cons, ih, putAccepted_cons, List.any_cons]
    unfold Core.csrPut
    cases csrRejects (y j)
    · rfl
    · cases js.any fun j => csrRejects (y j)
      · rfl
      · simp [flag_or_self]

theorem Core.foldl_entPut (y : Nat → W32) (js : List Nat) (c : Core) :
    js.foldl (fun c j => c.entPut j (y j)) c = { c with
      gridEnt := putAccepted Grid.rejects 0 y js c.gridEnt
      gridFlags := if js.any fun j => Grid.rejects (y j) then c.gridFlags ||| 64 else c.gridFlags } := by
  induction js generalizing c with
  | nil => rfl
  | cons j js ih =>
    rw [List.foldl_cons, ih, putAccepted_cons, List.any_cons, Nat.zero_add]
    unfold Core.entPut
    cases Grid.rejects (y j)
    · rfl
    · cases js.any fun j => Grid.rejects (y j)
      · rfl
      · simp [flag_or_self]

/-- What CSR does to its core: registers base, base + 1 and so on take the words y 0, y 1 and so on. -/
def Core.csrLoad (base : Nat) (y : Nat → W32) (c : Core) : Core :=
  { c with csr := putAccepted csrRejects base y (List.range 128) c.csr
           qntFlags := if (List.range 128).any fun j => csrRejects (y j) then c.qntFlags ||| 1 else c.qntFlags }

/-- What GRID does to its core. -/
def Core.entLoad (y : Nat → W32) (c : Core) : Core :=
  { c with gridEnt := putAccepted Grid.rejects 0 y (List.range 128) c.gridEnt
           gridFlags := if (List.range 128).any fun j => Grid.rejects (y j) then c.gridFlags ||| 64 else c.gridFlags }

theorem State.csrPuts_spec (p : Fin 12) (l : Fin 32) (base : Nat) (y : Nat → W32) (s : State) : State.CoreAndHubs p l (Core.csrLoad base y) s
    ((List.range 128).foldl (fun s j => s.csrPut p l (base + j) (y j)) s) :=
  (State.CoreAndHubs.foldl (fun t j => State.csrPut_spec p l (base + j) (y j) t) _ s).congr (Core.foldl_csrPut ..)

theorem State.entPuts_spec (p : Fin 12) (l : Fin 32) (y : Nat → W32) (s : State) : State.CoreAndHubs p l (Core.entLoad fun j => Grid.stored (y j)) s
    ((List.range 128).foldl (fun s j => s.entPut p l j (y j)) s) :=
  (State.CoreAndHubs.foldl (fun t j => State.entPut_spec p l j (y j) t) _ s).congr (Core.foldl_entPut ..)

theorem exec_csr_plain (hr : s.ready p l .load x = some en) (hg : (s.core p l).guardEn = false) (hb : (s.core p l).bad = [])
    (hop : slotOp en.word = 0x02) {a : Nat} (ha : (((s.core p l).ctx .load x).ra (fld en.word 12 4)).toNat = a) (hin : a < spadSize) :
    let new := fun j => BitVec.ofNat 32 (ofBytes ((((s.core p l).bytes (a / 512 * 512) 512).drop (4 * j)).take 4))
    ∃ t tm, exec (.csr p l x .clean) s = .next t
      ∧ State.CoreAndHubs p l (fun c => Core.issued .load x s.now en tm
          ((c.took (bit en.word 16) (a / 512)).csrLoad (128 * fld en.word 7 5) new)) s t := by
  intro new
  have hload := (State.CoreAndHubs.of_modCore (s := s) (Core.took (bit en.word 16) (a / 512))).trans
    (State.csrPuts_spec p l (128 * fld en.word 7 5) new _)
  exact State.issue_coreAndHubs rfl hr (beq_iff_eq.mpr hop) (by simp only [ha, State.rowAt_plain hg hb hin]; rfl) hload
    (by rw [Core.took_eq]; rfl)

theorem exec_grid_plain (hr : s.ready p l .load x = some en) (hg : (s.core p l).guardEn = false) (hb : (s.core p l).bad = [])
    (hop : slotOp en.word = 0x03) {a : Nat} (ha : (((s.core p l).ctx .load x).ra (fld en.word 8 4)).toNat = a) (hin : a < spadSize) :
    let new := fun j => Grid.stored (BitVec.ofNat 32 (ofBytes ((((s.core p l).bytes (a / 512 * 512) 512).drop (2 * j)).take 2)))
    ∃ t tm, exec (.grid p l x .clean) s = .next t
      ∧ State.CoreAndHubs p l (fun c => Core.issued .load x s.now en tm ((c.took (bit en.word 12) (a / 512)).entLoad new)) s t := by
  intro new
  have hload := (State.CoreAndHubs.of_modCore (s := s) (Core.took (bit en.word 12) (a / 512))).trans
    (State.entPuts_spec p l (fun j => BitVec.ofNat 32 (ofBytes ((((s.core p l).bytes (a / 512 * 512) 512).drop (2 * j)).take 2))) _)
  exact State.issue_coreAndHubs rfl hr (beq_iff_eq.mpr hop) (by simp only [ha, State.rowAt_plain hg hb hin]) hload
    (by rw [Core.took_eq]; rfl)

end

/-- Settles O19: a row that can be read is taken, and its 128 images are written one by one, each with its check. -/
theorem scaleAndGridLoads : Obligations.ScaleAndGridLoads := by
  unfold Obligations.ScaleAndGridLoads
  intro p l x s en hr c k w hg hb
  constructor
  · intro hop a new rej ha
    obtain ⟨t, tm, ht, hcore⟩ := exec_csr_plain hr hg hb hop rfl ha
    refine ⟨t, putAccepted csrRejects (128 * fld w 7 5) new (List.range 128) c.csr, (c.took (bit w 16) (a / 512)).valid, tm, ht,
      hcore.congr ?_, fun hkeep => Core.took_valid_of_kept hkeep .., fun n _ => ?_⟩
    · rw [Core.took_eq]
      rfl
    · have hbase : fld w 7 5 < 32 := Nat.mod_lt _ (by decide)
      exact vget_putAccepted 0 csrRejects _ new c.csr n (by omega)
  · intro hop a new rej ha
    obtain ⟨t, tm, ht, hcore⟩ := exec_grid_plain hr hg hb hop rfl ha
    refine ⟨t, putAccepted Grid.rejects 0 new (List.range 128) c.gridEnt, (c.took (bit w 12) (a / 512)).valid, tm, ht,
      hcore.congr ?_, fun hkeep => Core.took_valid_of_kept hkeep .., fun n hn => ?_⟩
    · rw [Core.took_eq]
      rfl
    · rw [vget_putAccepted 0 Grid.rejects 0 new c.gridEnt n (by decide : 0 + 128 ≤ 128)]
      cases Grid.rejects (new n) <;> simp [hn]

end Sys2Proof.Machine
end

section
/-! O20, first part: the writes of the store engine in order, their valid bits and their check bits (R166, R170, R214, R502). -/

namespace Sys2Proof.Machine

/-! Valid bits -/

theorem Core.rowValid_setRow (c : Core) {r : Nat} (hr : r < 49152) (n : Nat) :
    (c.setRow r true).rowValid n = (c.rowValid n || r == n) := by
  show (vget 0 (vset c.valid (r / 32) (vget 0 c.valid (r / 32) ||| BitVec.ofNat 32 (2 ^ (r % 32)))) (n / 32)).getLsbD (n % 32) = _
  rw [vget_vset _ _ _ _ _ (by omega)]
  have hbit : (BitVec.ofNat 32 (2 ^ (r % 32))).getLsbD (n % 32) = decide (r % 32 = n % 32) := by
    rw [BitVec.getLsbD_ofNat, Nat.testBit_two_pow, decide_eq_true (Nat.mod_lt n (by decide)), Bool.true_and]
  by_cases hword : n / 32 = r / 32
  · have hrow : (r % 32 = n % 32) ↔ r = n := by omega
    rw [if_pos hword, BitVec.getLsbD_or, hbit, Core.rowValid, hword, Bool.beq_eq_decide_eq, decide_eq_decide.mpr hrow]
  · have hrow : r ≠ n := by
      rintro rfl
      exact hword rfl
    rw [if_neg hword, beq_false_of_ne hrow, Bool.or_false]
    rfl

/-! One write, and writes in order -/

/-- A write of the store engine: where, what, and whether it is the last one to its row (R166). -/
structure RowWrite where
  addr : Nat
  data : List Byte
  last : Bool

/-- A core after a write. -/
def Core.wrote (c : Core) (e : RowWrite) : Core :=
  if e.last then (c.store e.addr e.data).setRow (e.addr / 512) true else c.store e.addr e.data

/-- Valid bits after a write. -/
def validAfter (v : Vector W32 1536) (e : RowWrite) : Vector W32 1536 :=
  if e.last then vset v (e.addr / 512 / 32) (vget 0 v (e.addr / 512 / 32) ||| BitVec.ofNat 32 (2 ^ (e.addr / 512 % 32))) else v

/-- Bad words after a write (R170). -/
def badAfter (b : Sparse (Option Ecc)) (e : RowWrite) : Sparse (Option Ecc) :=
  if b.isEmpty then [] else b.filter fun x => !(coveredWords e.addr e.data.length).contains x.1

/-- Corrected words that wait to be written back, after a write (R168). -/
def writeBackAfter (r : List Nat) (e : RowWrite) : List Nat :=
  r.filter fun x => !(coveredWords e.addr e.data.length).contains x

theorem Core.wrote_eq (c : Core) (e : RowWrite) : c.wrote e = { c with
    spad := memWrite c.spad e.addr e.data, valid := validAfter c.valid e, bad := badAfter c.bad e
    writeBack := writeBackAfter c.writeBack e } := by
  obtain ⟨a, d, last⟩ := e
  cases last <;> rfl

theorem Core.foldl_wrote (ws : List RowWrite) (c : Core) : ws.foldl Core.wrote c = { c with
    spad := ws.foldl (fun m e => memWrite m e.addr e.data) c.spad, valid := ws.foldl validAfter c.valid
    bad := ws.foldl badAfter c.bad, writeBack := ws.foldl writeBackAfter c.writeBack } := by
  induction ws generalizing c with
  | nil => rfl
  | cons e ws ih =>
    rw [List.foldl_cons, ih, Core.wrote_eq]
    rfl

theorem badAfter_subset (b : Sparse (Option Ecc)) (e : RowWrite) : badAfter b e ⊆ b := by
  unfold badAfter
  split
  · exact List.nil_subset _
  · exact List.filter_subset_self _

theorem foldl_badAfter_subset (ws : List RowWrite) (b : Sparse (Option Ecc)) : ws.foldl badAfter b ⊆ b :=
  List.foldlRecOn (motive := fun t => t ⊆ b) ws _ (List.Subset.refl b) fun t ht e _ => List.Subset.trans (badAfter_subset t e) ht

theorem foldl_writeBackAfter_subset (ws : List RowWrite) (r : List Nat) : ws.foldl writeBackAfter r ⊆ r :=
  List.foldlRecOn (motive := fun t => t ⊆ r) ws _ (List.Subset.refl r) fun _ ht _ _ => List.Subset.trans (List.filter_subset_self _) ht

/-- A write that does not set the valid bit of its row is followed by one to that row (R166). -/
def LastMarked : List RowWrite → Prop
  | [] => True
  | e :: t => (e.last = false → ∃ w ∈ t, w.addr / 512 = e.addr / 512) ∧ LastMarked t

/-- Writes that mark the last one to each row set the valid bits of all their rows. -/
theorem rowValid_foldl_validAfter {ws : List RowWrite} (h : LastMarked ws) (hin : ∀ e ∈ ws, e.addr < spadSize) (v : Vector W32 1536) (n : Nat) :
    (vget 0 (ws.foldl validAfter v) (n / 32)).getLsbD (n % 32)
      = ((vget 0 v (n / 32)).getLsbD (n % 32) || ws.any fun e => e.addr / 512 == n) := by
  induction ws generalizing v with
  | nil => simp
  | cons e ws ih =>
    obtain ⟨hfollowed, hrest⟩ := h
    rw [List.foldl_cons, ih hrest fun e he => hin e (List.mem_cons_of_mem _ he), List.any_cons, ← Bool.or_assoc]
    cases hlast : e.last with
    | true =>
      have hrow : e.addr / 512 < 49152 := by
        have := hin e List.mem_cons_self
        unfold spadSize at this
        omega
      have hset := Core.rowValid_setRow { Core.reset with valid := v } hrow n
      unfold validAfter
      rw [if_pos hlast]
      exact congrArg (· || _) hset
    | false =>
      obtain ⟨w, hw, hsame⟩ := hfollowed hlast
      have hv : validAfter v e = v := by simp [validAfter, hlast]
      rw [hv, Bool.or_assoc, ← hsame]
      congr 1
      cases hn : w.addr / 512 == n with
      | false => simp
      | true => simpa using ⟨w, hw, by simpa using hn⟩

/-- A byte that no write covers is as it was. -/
theorem get_foldl_memWrite (ws : List (Nat × List Byte)) (m : Memory) {a : Nat} (h : ∀ e ∈ ws, ¬(e.1 ≤ a ∧ a < e.1 + e.2.length)) :
    Sparse.get 0 (ws.foldl (fun m e => memWrite m e.1 e.2) m) a = Sparse.get 0 m a := by
  induction ws generalizing m with
  | nil => rfl
  | cons e ws ih =>
    rw [List.foldl_cons, ih _ fun e he => h e (List.mem_cons_of_mem _ he), get_memWrite, if_neg (h e List.mem_cons_self)]

/-! Writes of one instruction (R166, R502) -/

/-- The writes of an instruction, the last one to each row marked. -/
def markRows : List (Nat × List Byte) → List RowWrite
  | [] => []
  | (a, d) :: t => { addr := a, data := d, last := !t.any fun w => w.1 / 512 == a / 512 } :: markRows t

theorem markRows_map (ws : List (Nat × List Byte)) : (markRows ws).map (fun e => (e.addr, e.data)) = ws := by
  induction ws with
  | nil => rfl
  | cons e ws ih => exact congrArg (e :: ·) ih

theorem foldl_markRows {β : Type} (f : β → Nat × List Byte → β) (ws : List (Nat × List Byte)) (b : β) :
    (markRows ws).foldl (fun b e => f b (e.addr, e.data)) b = ws.foldl f b := by
  rw [← List.foldl_map (f := fun e : RowWrite => (e.addr, e.data)), markRows_map]

theorem any_markRows (f : Nat × List Byte → Bool) (ws : List (Nat × List Byte)) :
    (markRows ws).any (fun e => f (e.addr, e.data)) = ws.any f := by
  conv_rhs => rw [← markRows_map ws, List.any_map]
  rfl

theorem mem_markRows {ws : List (Nat × List Byte)} {e : RowWrite} (h : e ∈ markRows ws) : (e.addr, e.data) ∈ ws := by
  rw [← markRows_map ws]
  exact List.mem_map_of_mem h

theorem lastMarked_markRows (ws : List (Nat × List Byte)) : LastMarked (markRows ws) := by
  induction ws with
  | nil => trivial
  | cons e t ih =>
    refine ⟨fun h => ?_, ih⟩
    have hlater : (t.any fun w => w.1 / 512 == e.1 / 512) = true := by simpa using h
    rw [← any_markRows] at hlater
    simpa using hlater

section
variable {p : Fin 12} {l : Fin 32} {s : State}

theorem State.engWrite_plain {a : Nat} {d : List Byte} {last : Bool} (hg : (s.core p l).guardEn = false) (ha : a < spadSize) :
    s.engWrite p l a d last = (true, s.modCore p l fun c => c.wrote { addr := a, data := d, last := last }) := by
  have hck := Core.checked_of_unguarded hg (a / 512)
  unfold State.engWrite State.rowWrite
  rw [if_neg (by omega)]
  simp only [hck]
  rfl

theorem State.engWrites_plain {ws : List (Nat × List Byte)} (hg : (s.core p l).guardEn = false) (hin : ∀ e ∈ ws, e.1 < spadSize) :
    s.engWrites p l ws = s.modCore p l fun c => (markRows ws).foldl Core.wrote c := by
  induction ws generalizing s with
  | nil => exact (State.modCore_id p l s).symm
  | cons e t ih =>
    obtain ⟨a, d⟩ := e
    unfold State.engWrites
    rw [State.engWrite_plain hg (hin _ List.mem_cons_self)]
    simp only
    rw [ih (by rw [State.core_modCore, Core.wrote_eq]; exact hg) fun e he => hin e (List.mem_cons_of_mem _ he), State.modCore_modCore]
    rfl

variable {x : Duet} {en : Entry} {o : Out} {code : Code} {want : Slot → Bool}
  {writes : Entry → State → List (Nat × List Byte)}

/-- WSLOT and WSETS, their addresses inside the scratchpad: the core has made their writes. -/
theorem State.storeLines_plain (ho : o = .next (s.issue p l .store x .clean code want fun en s => .done (s.storeLines p l (writes en s))))
    (hr : s.ready p l .store x = some en) (hw : want en.word = true) (hg : (s.core p l).guardEn = false)
    (hin : ∀ e ∈ writes en s, e.1 < spadSize) :
    ∃ tm : Timing, o = .next (s.modCore p l fun c => Core.issued .store x s.now en tm ((markRows (writes en s)).foldl Core.wrote c)) := by
  refine State.issue_modCore ho hr hw (congrArg Issued.done ?_) (by rw [Core.foldl_wrote]; rfl)
  unfold State.storeLines
  rw [State.engWrites_plain hg hin]
  exact State.lostIf_same (State.abort_modCore ..)

end

end Sys2Proof.Machine
end

section
/-! O20, second part: the lines of a WDRAIN, each converted and written at its record's address (R52 to R55, R64, R166, R214). -/

namespace Sys2Proof.Machine

/-! What conversions add up to (R53, R54, R66) -/

theorem satAdd_zero {n : Nat} (x : BitVec n) : satAdd x 0 = x := by
  have h := x.isLt
  apply BitVec.eq_of_toNat_eq
  rw [satAdd, BitVec.toNat_ofNat, Nat.add_zero, Nat.min_eq_left (by omega), Nat.mod_eq_of_lt h]

theorem satAdd_satAdd {n : Nat} (x : BitVec n) (a b : Nat) : satAdd (satAdd x a) b = satAdd x (a + b) := by
  have hpos := Nat.two_pow_pos n
  have h : (satAdd x a).toNat = min (x.toNat + a) (2 ^ n - 1) := by
    rw [satAdd, BitVec.toNat_ofNat, Nat.mod_eq_of_lt (by omega)]
  unfold satAdd at *
  rw [h]
  congr 1
  omega

/-- The bits of GRID_FLAGS that conversions set (R65). -/
def convMask (sat nan : Bool) : BitVec 7 := (if sat then 16 else 0) ||| (if nan then 32 else 0)

theorem convMask_or : ∀ sat nan sat' nan', convMask (sat || sat') (nan || nan') = convMask sat nan ||| convMask sat' nan' := by
  decide

theorem Core.convFlags_eq (fx : ConvFx) (c : Core) : Core.convFlags fx c = { c with
    convCnt := satAdd c.convCnt fx.cnt, gridFlags := c.gridFlags ||| convMask fx.sat fx.nan } := by
  have hadd : Core.convAdd fx c = { c with convCnt := satAdd c.convCnt fx.cnt } := by
    unfold Core.convAdd
    split
    · next h => rw [h, satAdd_zero]
    · rfl
  obtain ⟨cnt, sat, nan⟩ := fx
  unfold Core.convFlags
  rw [hadd]
  cases sat <;> cases nan <;> simp [Core.gridFlag, convMask, BitVec.or_assoc]

theorem Core.convFlags_convFlags (a b : ConvFx) (c : Core) : Core.convFlags b (Core.convFlags a c) = Core.convFlags (a.and b) c := by
  simp only [Core.convFlags_eq, satAdd_satAdd, BitVec.or_assoc, ← convMask_or]
  rfl

/-! Lines of a WDRAIN -/

/-- What one line of a WDRAIN becomes: its write, and what its conversions did. -/
structure DrainRecord where
  write : RowWrite
  fx : ConvFx

/-- A core after one line of a WDRAIN. -/
def Core.drained (c : Core) (r : DrainRecord) : Core :=
  (Core.convFlags r.fx { c with storeQ := c.storeQ.drop 1 }).wrote r.write

/-- The lines of a WDRAIN, taken together: as many lines leave the queue, the conversions add up, and the writes are made in order. -/
theorem Core.foldl_drained (rs : List DrainRecord) (fx : ConvFx) (c : Core) :
    rs.foldl Core.drained (Core.convFlags fx c) =
      { Core.convFlags (rs.foldl (fun a r => a.and r.fx) fx) ((rs.map DrainRecord.write).foldl Core.wrote c) with
        storeQ := c.storeQ.drop rs.length } := by
  induction rs generalizing fx c with
  | nil => simp [Core.convFlags_eq]
  | cons r rs ih =>
    have hstep : Core.drained (Core.convFlags fx c) r = Core.convFlags (fx.and r.fx) ({ c with storeQ := c.storeQ.drop 1 }.wrote r.write) := by
      rw [← Core.convFlags_convFlags]
      unfold Core.drained
      simp only [Core.wrote_eq, Core.convFlags_eq]
    rw [List.foldl_cons, hstep, ih, List.map_cons, List.foldl_cons, List.foldl_cons]
    simp only [Core.wrote_eq, Core.foldl_wrote, Core.convFlags_eq, List.drop_drop, List.length_cons, Nat.add_comm]

theorem Core.drained_eq (c : Core) (r : DrainRecord) : c.drained r = { c with
    convCnt := (c.drained r).convCnt, gridFlags := (c.drained r).gridFlags, storeQ := c.storeQ.drop 1, spad := (c.drained r).spad
    valid := (c.drained r).valid, bad := (c.drained r).bad, writeBack := (c.drained r).writeBack } := by
  unfold Core.drained
  rw [Core.wrote_eq, Core.convFlags_eq]

theorem Core.refill_of_settled {c : Core} (h : c.draining = []) (n : Nat) : Core.refill n c = c := by
  cases n <;> simp [Core.refill, h]

/-- The record that line e.1 becomes as line e.2 of a WDRAIN of `count` lines (R214). -/
def drainRecord (k : EngCtx) (w : Slot) (count width : Nat) (e : StoreLine × Nat) : DrainRecord :=
  let f := BitVec.ofNat 4 (fld w 19 4)
  let r := recordBytes k.ieee f (recordValues width e.1)
  { write := { addr := wdrainAddr k w e.2 / recordSize f * recordSize f, data := r.1
               last := !(List.range (count - e.2 - 1)).any fun j => wdrainAddr k w (e.2 + 1 + j) / 512 == wdrainAddr k w e.2 / 512 }
    fx := r.2 }

/-- What holds before each line of a WDRAIN whose lines are all in the store drain queue: those left, with others behind them. -/
structure State.DrainReady (p : Fin 12) (l : Fin 32) (x : Duet) (k : EngCtx) (width : Nat) (lines rest : List StoreLine) (s : State) : Prop where
  ctx : (s.core p l).ctx .store x = k
  queue : (s.core p l).storeQ = lines ++ rest
  settled : (s.core p l).draining = []
  unguarded : (s.core p l).guardEn = false
  width : (s.part p).width = width

section
variable {p : Fin 12} {l : Fin 32} {x : Duet} {s t : State} {k : EngCtx} {width count i : Nat} {w : Slot} {sl : StoreLine}
  {lines rest : List StoreLine}

theorem State.CoreAndHubs.part_width {f : Core → Core} (h : State.CoreAndHubs p l f s t) (hf : (f (s.core p l)).fenced = (s.core p l).fenced)
    (hb : (f (s.core p l)).bypass = (s.core p l).bypass) : (t.part p).width = (s.part p).width := by
  have hcore := h.core
  unfold State.CoreAndHubs at h
  refine Part.width_congr fun m => ?_
  by_cases hm : m = l
  · subst hm
    have hm : (t.part p).cores[m] = f (s.core p m) := hcore
    rw [hm]
    exact ⟨hf, hb⟩
  · have hother : t.core p m = s.core p m := by
      rw [h]
      exact State.core_modCore_ne p p l m f s fun e => hm e.2.symm
    exact ⟨congrArg Core.fenced hother, congrArg Core.bypass hother⟩

theorem State.DrainReady.next {r : DrainRecord} (h : s.DrainReady p l x k width (sl :: lines) rest)
    (ht : State.CoreAndHubs p l (fun c => c.drained r) s t) : t.DrainReady p l x k width lines rest := by
  obtain ⟨hctx, hqueue, hsettled, hguard, hwidth⟩ := h
  have hcore := ht.core
  rw [Core.drained_eq] at hcore
  refine ⟨?_, ?_, ?_, ?_, (ht.part_width ?_ ?_).trans hwidth⟩
  · rw [hcore]
    exact hctx
  · rw [hcore]
    show (s.core p l).storeQ.drop 1 = _
    rw [hqueue]
    rfl
  · rw [hcore]
    exact hsettled
  · rw [hcore]
    exact hguard
  · rw [Core.drained_eq]
  · rw [Core.drained_eq]

/-- One line of a WDRAIN. -/
theorem State.wdrainLines_line (h : s.DrainReady p l x k width (sl :: lines) rest) (hi : i < count) (hin : wdrainAddr k w i < spadSize) (n : Nat) :
    ∃ t, State.CoreAndHubs p l (fun c => c.drained (drainRecord k w count width (sl, i))) s t
      ∧ s.wdrainLines p l x w count (n + 1) i = t.wdrainLines p l x w count n (i + 1) := by
  obtain ⟨hctx, hqueue, hsettled, hguard, hwidth⟩ := h
  let f := BitVec.ofNat 4 (fld w 19 4)
  let r := recordBytes k.ieee f (recordValues width sl)
  let u := (s.modCore p l fun c => Core.refill 16 { c with storeQ := lines ++ rest }).convLs p l r.2
  have hfull := Core.refill_of_settled (c := { s.core p l with storeQ := lines ++ rest }) hsettled 16
  have hu : State.CoreAndHubs p l (fun c => Core.convFlags r.2 { c with storeQ := c.storeQ.drop 1 }) s u := by
    refine ((State.CoreAndHubs.of_modCore _).trans (State.convCount_spec p l 0x1502 0x1503 r.2 _)).congr ?_
    rw [hfull, hqueue]
    rfl
  have hgu : (u.core p l).guardEn = false := by
    rw [hu.core, Core.convFlags_eq]
    exact hguard
  have hrec : wdrainAddr k w i / recordSize f * recordSize f < spadSize := (Nat.div_mul_le_self ..).trans_lt hin
  refine ⟨_, hu.trans (State.CoreAndHubs.of_modCore fun c => c.wrote (drainRecord k w count width (sl, i)).write), ?_⟩
  rw [State.wdrainLines, if_neg (by omega)]
  simp only [hqueue, List.cons_append, hctx, hwidth]
  rw [if_neg (by omega), State.engWrite_plain hgu hrec]
  rfl

theorem State.wdrainLines_spec (h : s.DrainReady p l x k width lines rest) (hn : i + lines.length = count)
    (hin : ∀ j < count, wdrainAddr k w j < spadSize) :
    ∃ t, s.wdrainLines p l x w count lines.length i = (true, t) ∧
      State.CoreAndHubs p l (fun c => ((lines.zipIdx i).map (drainRecord k w count width)).foldl Core.drained c) s t := by
  induction lines generalizing s i with
  | nil => exact ⟨s, rfl, State.CoreAndHubs.rfl' p l s⟩
  | cons sl lines ih =>
    rw [List.length_cons] at hn
    obtain ⟨u, hu, hline⟩ := State.wdrainLines_line h (show i < count by omega) (hin i (by omega)) lines.length
    obtain ⟨t, ht, hrest⟩ := ih (h.next hu) (show i + 1 + lines.length = count by omega)
    exact ⟨t, hline.trans ht, hu.trans hrest⟩

/-- Addresses in one row of 512 B have their records in one row: a record's size divides 512 or is 0 (R214). -/
theorem record_row_eq (f : BitVec 4) {a b : Nat} (h : a / 512 = b / 512) :
    a / recordSize f * recordSize f / 512 = b / recordSize f * recordSize f / 512 := by
  have hsize : recordSize f ∈ [0, 32, 64, 128, 256, 512] := by
    revert f
    decide
  simp only [List.mem_cons, List.not_mem_nil, or_false] at hsize
  rcases hsize with hs | hs | hs | hs | hs | hs <;> rw [hs] <;> omega

/-- The writes of a WDRAIN from line i on. -/
def drainWrites (k : EngCtx) (w : Slot) (count width i : Nat) (lines : List StoreLine) : List RowWrite :=
  ((lines.zipIdx i).map (drainRecord k w count width)).map DrainRecord.write

/-- The last record of a WDRAIN in each row is the one that sets its valid bit. -/
theorem lastMarked_drainWrites (k : EngCtx) (w : Slot) (width : Nat) (hn : i + lines.length = count) :
    LastMarked (drainWrites k w count width i lines) := by
  induction lines generalizing i with
  | nil => trivial
  | cons sl lines ih =>
    rw [List.length_cons] at hn
    refine ⟨fun h => ?_, ih (show i + 1 + lines.length = count by omega)⟩
    obtain ⟨j, hj, hrow⟩ : ∃ j < count - i - 1, wdrainAddr k w (i + 1 + j) / 512 = wdrainAddr k w i / 512 := by
      simpa [drainRecord] using h
    have hlt : j < lines.length := by omega
    have hmem : (lines[j], i + 1 + j) ∈ lines.zipIdx (i + 1) := by
      rw [List.mk_mem_zipIdx_iff_le_and_getElem?_sub]
      simp [hlt]
    exact ⟨_, List.mem_map_of_mem (List.mem_map_of_mem hmem), record_row_eq _ hrow⟩

/-! The instruction -/

theorem Core.modCtx_of_same {e : Engine} {f : EngCtx → EngCtx} {c : Core} (h : f (c.ctx e x) = c.ctx e x) : c.modCtx e x f = c := by
  have hlt : ctxNo e x < 8 := by cases e <;> cases x <;> decide
  unfold Core.modCtx
  rw [h, Core.ctx, vset_vget _ _ hlt]

theorem Core.ctx_modCtx (e : Engine) (f : EngCtx → EngCtx) (c : Core) : (c.modCtx e x f).ctx e x = f (c.ctx e x) := by
  have hlt : ctxNo e x < 8 := by cases e <;> cases x <;> decide
  exact (vget_vset _ _ _ _ _ hlt).trans (if_pos rfl)

theorem Core.foldl_drained_ctx (rs : List DrainRecord) (c : Core) (e : Engine) : (rs.foldl Core.drained c).ctx e x = c.ctx e x :=
  List.foldlRecOn (motive := fun d : Core => d.ctx e x = c.ctx e x) rs _ rfl fun d hd r _ => by
    rw [Core.drained_eq]
    exact hd

/-- IEEE_OVF at the issue stays with the context (R64). -/
def Core.drainIssue (x : Duet) (c : Core) : Core := c.modCtx .store x fun k => { k with ieee := c.ieeeOvf }

theorem exec_wdrain_plain {en : Entry} (hr : s.ready p l .store x = some en) (hop : slotOp en.word = 0x01)
    (h : (s.modCore p l (Core.drainIssue x)).DrainReady p l x k width lines rest) (hprog : k.prog = 0)
    (hcount : k.rl (fld en.word 17 2) = count) (hn : lines.length = count) (hin : ∀ j < count, wdrainAddr k en.word j < spadSize) :
    ∃ t tm, exec (.wdrain p l x .clean) s = .next t ∧ State.CoreAndHubs p l (fun c => Core.issued .store x s.now en tm
      ((lines.zipIdx.map (drainRecord k en.word count width)).foldl Core.drained (c.drainIssue x))) s t := by
  obtain ⟨u, hu, hcore⟩ := State.wdrainLines_spec (w := en.word) h ((Nat.zero_add _).trans hn) hin
  rw [hn] at hu
  have hctx : ((s.core p l).ctx .store x).prog = 0 ∧ ((s.core p l).ctx .store x).rl (fld en.word 17 2) = count := by
    have hk := h.ctx
    rw [State.core_modCore, Core.drainIssue, Core.ctx_modCtx] at hk
    subst hk
    exact ⟨hprog, hcount⟩
  have hlast : u.modCore p l (fun c => c.modCtx .store x fun k => { k with prog := 0 }) = u := by
    refine (State.modCore_congr p l _ (fun c => c) u (Core.modCtx_of_same ?_)).trans (State.modCore_id p l u)
    have hk : (u.core p l).ctx .store x = k := by
      rw [hcore.core, Core.foldl_drained_ctx]
      exact h.ctx
    rw [hk, ← hprog]
  refine State.issue_coreAndHubs rfl hr (beq_iff_eq.mpr hop) ?_ ((State.CoreAndHubs.of_modCore _).trans hcore) ?_
  · have hlines : State.wdrainLines p l x en.word count count 0
        (s.modCore p l fun c => c.modCtx .store x fun k => { k with ieee := c.ieeeOvf }) = (true, u) := hu
    simp only [hctx, if_true, hlines]
    exact congrArg Issued.done ((State.lostIf_same (congrArg (fun v : State => (v.part p).abort) hlast |>.trans hcore.abort)).trans hlast)
  · rw [Core.foldl_drained_ctx, Core.drainIssue, Core.ctx_modCtx]
    rfl

end

/-! All lines of a WDRAIN taken together -/

theorem any_zipIdx {α : Type} (f : Nat → Bool) (l : List α) : (l.zipIdx.any fun e => f e.2) = (List.range l.length).any f := by
  rw [List.range_eq_range', ← List.zipIdx_map_snd, List.any_map]
  rfl

theorem foldl_zipIdx {α β : Type} (f : β → α → β) (l : List α) (b : β) : (l.zipIdx.foldl (fun b e => f b e.1) b) = l.foldl f b := by
  conv_rhs => rw [← List.zipIdx_map_fst 0 l, List.foldl_map]

theorem Core.convFlags_none (c : Core) : Core.convFlags .none c = c := rfl

section
variable (k : EngCtx) (w : Slot) (width : Nat) (lines : List StoreLine) {count : Nat}

theorem Core.foldl_drainRecords (hn : lines.length = count) (c : Core) :
    let f := BitVec.ofNat 4 (fld w 19 4)
    let rec' := fun sl => recordBytes k.ieee f (recordValues width sl)
    let ws := drainWrites k w count width 0 lines
    (lines.zipIdx.map (drainRecord k w count width)).foldl Core.drained c =
      { Core.convFlags (lines.foldl (fun a sl => a.and (rec' sl).2) ConvFx.none) c with
        spad := lines.zipIdx.foldl (fun m e => memWrite m (wdrainAddr k w e.2 / recordSize f * recordSize f) (rec' e.1).1) c.spad
        storeQ := c.storeQ.drop count, valid := ws.foldl validAfter c.valid, bad := ws.foldl badAfter c.bad
        writeBack := ws.foldl writeBackAfter c.writeBack } := by
  intro f rec' ws
  have hfx : (lines.zipIdx.map (drainRecord k w count width)).foldl (fun a r => a.and r.fx) ConvFx.none
      = lines.foldl (fun a sl => a.and (rec' sl).2) ConvFx.none :=
    List.foldl_map.trans (foldl_zipIdx (fun a sl => a.and (rec' sl).2) lines ConvFx.none)
  have hspad : ws.foldl (fun m e => memWrite m e.addr e.data) c.spad
      = lines.zipIdx.foldl (fun m e => memWrite m (wdrainAddr k w e.2 / recordSize f * recordSize f) (rec' e.1).1) c.spad :=
    List.foldl_map.trans List.foldl_map
  have hfold := Core.foldl_drained (lines.zipIdx.map (drainRecord k w count width)) ConvFx.none c
  rw [Core.convFlags_none, hfx, List.length_map, List.length_zipIdx, hn, Core.foldl_wrote] at hfold
  rw [hfold, ← hspad, Core.convFlags_eq, Core.convFlags_eq]
  rfl

/-- After a WDRAIN the rows of its records are valid, besides those that were. -/
theorem rowValid_drainWrites (hn : lines.length = count) (hin : ∀ i < count, wdrainAddr k w i < spadSize) (v : Vector W32 1536) (n : Nat) :
    let rs := recordSize (BitVec.ofNat 4 (fld w 19 4))
    (vget 0 ((drainWrites k w count width 0 lines).foldl validAfter v) (n / 32)).getLsbD (n % 32)
      = ((vget 0 v (n / 32)).getLsbD (n % 32) || (List.range count).any fun i => wdrainAddr k w i / rs * rs / 512 == n) := by
  intro rs
  have hin' : ∀ e ∈ drainWrites k w count width 0 lines, e.addr < spadSize := by
    simp only [drainWrites, List.map_map, List.mem_map]
    rintro _ ⟨e, he, rfl⟩
    exact (Nat.div_mul_le_self ..).trans_lt (hin e.2 (hn ▸ List.snd_lt_of_mem_zipIdx he))
  rw [rowValid_foldl_validAfter (lastMarked_drainWrites k w width ((Nat.zero_add _).trans hn)) hin', ← hn,
    ← any_zipIdx fun i => wdrainAddr k w i / rs * rs / 512 == n, drainWrites, List.any_map, List.any_map]
  rfl

end

/-- A WDRAIN that is about to begin with its lines in the store drain queue. -/
theorem State.DrainReady.of_issue {p : Fin 12} {l : Fin 32} {x : Duet} {s : State} {count : Nat} (hsettled : (s.core p l).draining = [])
    (hg : (s.core p l).guardEn = false) :
    (s.modCore p l (Core.drainIssue x)).DrainReady p l x { (s.core p l).ctx .store x with ieee := (s.core p l).ieeeOvf } (s.part p).width
      ((s.core p l).storeQ.take count) ((s.core p l).storeQ.drop count) := by
  refine ⟨?_, ?_, ?_, ?_, (State.CoreAndHubs.of_modCore _).part_width rfl rfl⟩
  · rw [State.core_modCore, Core.drainIssue, Core.ctx_modCtx]
  · rw [State.core_modCore]
    exact (List.take_append_drop ..).symm
  · rw [State.core_modCore]
    exact hsettled
  · rw [State.core_modCore]
    exact hg

/-- Settles O20: the writes are made in order, the last one to each row sets its valid bit, and a WDRAIN takes its lines one by one. -/
theorem storeEngineWrites : Obligations.StoreEngineWrites := by
  unfold Obligations.StoreEngineWrites
  intro p l x s en hr c k w hg result
  have hresult : ∀ {i : Instr} {ws : List (Nat × List Byte)}, (∀ e ∈ ws, e.1 < spadSize) →
      (∃ tm : Timing, exec i s = .next (s.modCore p l fun c => Core.issued .store x s.now en tm ((markRows ws).foldl Core.wrote c))) →
      result i ws := by
    intro i ws hin ⟨tm, ho⟩
    refine ⟨(markRows ws).foldl validAfter c.valid, (markRows ws).foldl badAfter c.bad, (markRows ws).foldl writeBackAfter c.writeBack, tm,
      ho.trans (congrArg _ (State.modCore_congr p l _ _ s ?_)), foldl_badAfter_subset .., foldl_writeBackAfter_subset ..,
      fun n _ => ?_, fun a h => get_foldl_memWrite ws _ h⟩
    · rw [Core.foldl_wrote, foldl_markRows fun m e => memWrite m e.1 e.2]
    · rw [rowValid_foldl_validAfter (lastMarked_markRows ws) (fun e he => hin _ (mem_markRows he)),
        any_markRows fun e => e.1 / 512 == n]
      rfl
  refine ⟨fun hop hin => hresult hin ?_, fun hop hin => hresult hin ?_, ?_⟩
  · exact State.storeLines_plain rfl hr (beq_iff_eq.mpr hop) hg hin
  · exact State.storeLines_plain rfl hr (beq_iff_eq.mpr hop) hg hin
  · intro hop count f rs rec' lines hprog hcount hsettled hin
    have hlen : lines.length = count := List.length_take_of_le hcount
    let k' : EngCtx := { k with ieee := c.ieeeOvf }
    let ws := drainWrites k' w count (s.part p).width 0 lines
    obtain ⟨t, tm, ht, hcore⟩ := exec_wdrain_plain hr hop (State.DrainReady.of_issue hsettled hg) hprog rfl hlen hin
    refine ⟨t, ws.foldl validAfter c.valid, ws.foldl badAfter c.bad, ws.foldl writeBackAfter c.writeBack, tm, ht, hcore.congr ?_,
      foldl_badAfter_subset .., foldl_writeBackAfter_subset .., fun n _ => rowValid_drainWrites k' w (s.part p).width lines hlen hin c.valid n⟩
    refine (congrArg (Core.issued .store x s.now en tm) (Core.foldl_drainRecords k' w _ lines hlen (c.drainIssue x))).trans ?_
    rw [Core.convFlags_eq, Core.convFlags_eq]
    rfl

end Sys2Proof.Machine
end

section
/-! O44: a bale is fetched, takes its relay handle, waits for its descriptors, and starts (R265, R276 to R279, R286, R288, R291). -/

namespace Sys2Proof.Machine

section
variable {c : ChanId} {s : State}

/-! BALE_FETCH (R265, R276 step 1) -/

section
variable (hr : s.chanRuns c = true) (hc : (s.chan c).cur = none) (hn : (s.chan c).nextBale ≠ (s.chan c).tail)
include hr hc hn

theorem exec_baleFetch_parity : exec (.baleFetch c true) s = .next (s.chanParity c) := by
  show execBaleFetch c true s = _
  simp [execBaleFetch, hr, hc, hn]

theorem exec_baleFetch_asks (hg : (s.chan c).ringGot (s.chan c).nextBale = none) :
    exec (.baleFetch c false) s = .next (s.ringAsk c (s.chan c).nextBale) := by
  show execBaleFetch c false s = _
  simp [execBaleFetch, hr, hc, hn, hg]

theorem exec_baleFetch_waits (hg : (s.chan c).ringGot (s.chan c).nextBale = some none) : exec (.baleFetch c false) s = .next s := by
  show execBaleFetch c false s = _
  simp [execBaleFetch, hr, hc, hn, hg]

theorem exec_baleFetch_comes {st : Code} {d : List Byte} (hg : (s.chan c).ringGot (s.chan c).nextBale = some (some (st, d))) :
    exec (.baleFetch c false) s = .next (s.baleCome c st d) := by
  show execBaleFetch c false s = _
  simp [execBaleFetch, hr, hc, hn, hg]

end

/-- The channel with the bale that it holds gone from its fetches. -/
def State.ringTaken (c : ChanId) (s : State) : State :=
  s.modChan c fun k => { k with ring := k.ring.filter fun e => decide (e.2.1 ≠ k.nextBale) }

theorem State.baleCome_failed {st : Code} (d : List Byte) (hst : st ≠ 0) :
    s.baleCome c st d = (s.ringTaken c).chanFault c 0x5B01 (BitVec.ofNat 64 st.toNat) :=
  if_pos hst

theorem State.baleCome_bad {d : List Byte} {b : Bale} (hb : BitVec.ofNat 512 (ofBytes d) = b) (hcode : baleCheck (chanIsCore c) b ≠ 0) :
    s.baleCome c 0 d = (s.ringTaken c).chanFault c (baleCheck (chanIsCore c) b) 0 := by
  subst hb
  exact if_pos hcode

theorem State.baleCome_good {d : List Byte} {b : Bale} (hb : BitVec.ofNat 512 (ofBytes d) = b) (hcode : baleCheck (chanIsCore c) b = 0) :
    s.baleCome c 0 d = (s.ringTaken c).modChan c fun k =>
      { k with cur := some { bale := b, popped := none, popOk := false, w0 := false, w1 := false, since := (s.ringTaken c).now } } := by
  subst hb
  exact if_neg (not_not_intro hcode)

/-! BALE_RELAY_POP (R276 step 2, R286) -/

section
variable {n : Nat} {t : W64} (hr : s.chanRuns c = true) (hp : (s.chan c).popWait = some (n, t))
include hr hp

theorem exec_baleRelayPop_waits (hq : vget [] (s.part (chanPart c)).relay n = []) : exec (.baleRelayPop c) s = .next s := by
  show execBaleRelayPop c s = _
  simp [execBaleRelayPop, hr, hp, hq]

theorem exec_baleRelayPop_pops {h : BitVec 17} {r : List (BitVec 17)} (hq : vget [] (s.part (chanPart c)).relay n = h :: r) :
    exec (.baleRelayPop c) s = .next ((s.modPart (chanPart c) fun q => { q with relay := vset q.relay n r }).modChan c fun k =>
      { k with cur := k.cur.map fun u => { u with popped := some h, popOk := true, since := s.now } }) := by
  show execBaleRelayPop c s = _
  simp [execBaleRelayPop, hr, hp, hq]

end

/-! BALE_START (R276 steps 3 and 4, R278) -/

section
variable {u : Cur} {more : Nat} {b : Bale} {sd dd xd : DescRec}

theorem exec_baleStart_ready (parity : Bool) (hr : s.chanRuns c = true) (hu : (s.chan c).cur = some u) (hp : (s.chan c).popWait = none)
    (hw : (s.chan c).waitWord = none) (hn : (s.chan c).runs.length < 4) :
    exec (.baleStart c parity more) s = .next (if parity then s.chanParity c else s.tryStart c more u) := by
  show execBaleStart c parity more s = _
  simp [execBaleStart, hr, hu, hp, hw, hn]

theorem State.tryStart_asks (hb : u.resolved = b) (hm : s.missingDescs c b ≠ []) : s.tryStart c more u = s.askDescs c (s.missingDescs c b) := by
  subst hb
  exact if_pos hm

theorem State.tryStart_faults {code : Code} (hb : u.resolved = b) (hm : s.missingDescs c b = []) (hrefs : s.baleRefs c b = .inl code) :
    s.tryStart c more u = (s.modChan c fun k => { k with cur := none }).chanFault c code 0 := by
  subst hb
  simp [State.tryStart, hm, hrefs]

/-- The descriptors of bales become the most recently used ones (R183). -/
def State.touchBales (c : ChanId) (l : List (Bale × DescRec × DescRec × DescRec)) (s : State) : State :=
  l.foldl (fun s e => ((baleNeeds e.1).map (baleHandle e.1)).foldl (fun s h => s.touchDesc c h) s) s

/-- A bale that R278 lets no other join starts alone. -/
theorem State.tryStart_alone (hb : u.resolved = b) (hm : s.missingDescs c b = []) (hrefs : s.baleRefs c b = .inr (sd, dd, xd))
    (h : baleOp b ≠ 1 ∨ descDims sd ≠ 0 ∨ descDims dd ≠ 0) :
    s.tryStart c more u = (s.touchBales c [(b, sd, dd, xd)]).startRun c [(b, sd, dd, xd)] := by
  subst hb
  have hfirst : (decide (baleOp u.resolved = 1) && !baleIdle u.resolved && decide (descDims sd = 0 ∧ descDims dd = 0) && !descEmpty sd
      && !descEmpty dd) = false := by
    rcases h with h | h | h <;> simp [h]
  unfold State.tryStart
  simp only [hm, hrefs, hfirst]
  rfl

section
variable (hb : u.resolved = b) (hm : s.missingDescs c b = []) (hrefs : s.baleRefs c b = .inr (sd, dd, xd)) (hop : baleOp b = 1)
  (hidle : baleIdle b = false) (hsd : descDims sd = 0) (hdd : descDims dd = 0) (hse : descEmpty sd = false) (hde : descEmpty dd = false)
include hb hm hrefs hop hidle hsd hdd hse hde

theorem State.tryStart_mergeWaits {t : State} (hmerge : s.mergeNext c more b sd dd = (none, t)) : s.tryStart c more u = t := by
  subst hb
  simp [State.tryStart, hm, hrefs, hop, hidle, hsd, hdd, hse, hde, hmerge]

theorem State.tryStart_merged {l : List (Bale × DescRec × DescRec)} {t : State} (hmerge : s.mergeNext c more b sd dd = (some l, t)) :
    let all := (b, sd, dd, xd) :: l.map fun e => (e.1, e.2.1, e.2.2, (0 : DescRec))
    s.tryStart c more u = (t.touchBales c all).startRun c all := by
  subst hb
  simp [State.tryStart, State.touchBales, hm, hrefs, hop, hidle, hsd, hdd, hse, hde, hmerge]

end

theorem mergeRun_of_ended {m : Merge} (h : m.ended = true) (n : Nat) : mergeRun c n m = m := by
  cases n with
  | zero => rfl
  | succ n => exact if_pos h

/-- A bale without MRG ends the merge before the next one is looked at (R278). -/
theorem mergeRun_of_unmerged {m : Merge} (h : baleMrg m.last.1 = false) (n : Nat) :
    (mergeRun c n m).wait = m.wait ∧ (mergeRun c n m).found = m.found ∧ (mergeRun c n m).state = m.state := by
  cases n with
  | zero => exact ⟨rfl, rfl, rfl⟩
  | succ n =>
    cases he : m.ended with
    | true =>
      rw [mergeRun_of_ended he]
      exact ⟨rfl, rfl, rfl⟩
    | false =>
      have hstep : mergeStep c m = { m with ended := true } := by simp [mergeStep, he, h]
      rw [mergeRun, he, if_neg Bool.false_ne_true, hstep, mergeRun_of_ended rfl]
      exact ⟨rfl, rfl, rfl⟩

theorem State.mergeNext_of_unmerged (h : baleMrg b = false) : s.mergeNext c more b sd dd = (some [], s) := by
  obtain ⟨hwait, hfound, hstate⟩ := mergeRun_of_unmerged (c := c)
    (n := min (min 4095 more + 1) ((s.chan c).tail - ((s.chan c).nextBale + 1)).toNat)
    (m := { next := (s.chan c).nextBale + 1, last := (b, sd, dd), total := flatBytes sd, found := [], ended := false, wait := false, state := s }) h
  unfold State.mergeNext
  simp only [hwait, hfound, hstate]
  rfl

end

/-! The start of a transfer of one bale (R276 steps 5 and 6) -/

section
variable {b : Bale} {sd dd xd : DescRec}

/-- The transfer of one bale joins those under way, and the bale's timer is armed (R288). -/
def State.beginRun (c : ChanId) (b : Bale) (sd dd xd : DescRec) (phase : RunPhase) (todo : List Piece) (s : State) : State :=
  let k := s.chan c
  let s := s.modChan c fun e => { e with
    cur := none, serial := e.serial + 1, ring := e.ring.filter fun x => decide (1 ≤ (x.2.1 - k.nextBale).toNat),
    runs := e.runs ++
      [{ no := k.serial, idx := k.nextBale, bales := [b], descs := [(sd, dd, xd)], phase := phase, todo := numberPieces todo,
         reads := 0, got := [], lines := [], writes := 0, regs := [], ieee := s.chanIeee c }] }
  if bit b 16 then s.modPart (chanPart c) fun q => if q.rtEn then { q with tmrArm := q.tmrArm.set (baleTmr b) (some s.now) } else q else s

/-- What a bale does as it starts, beside its reads: INVAL drops lines of the depot, RWRITE writes (R271, R285). -/
def State.actAtStart (c : ChanId) (no : W32) (b : Bale) (sd : DescRec) (s : State) : State :=
  let s := if baleOp b = 8 then s.depotDrop (chanDie c) sd else s
  if baleOp b = 7 then
    s.issueWrite c no .write { addr := rwAddr b, data := bytesOf (rwSize b) (fld b 64 64), arrive := none, last := true, tail := true }
  else s

theorem State.startRun_one {phase : RunPhase} {todo : List Piece} (h : baleReads c b sd xd = (phase, todo)) :
    s.startRun c [(b, sd, dd, xd)] =
      ((((s.beginRun c b sd dd xd phase todo).actAtStart c (s.chan c).serial b sd).advanceRun c (s.chan c).serial 2).pump c) := by
  have htodo : (if phase = .source then [(b, sd, dd, xd)].flatMap fun e => (baleReads c e.1 e.2.1 e.2.2.2).2 else todo) = todo := by
    simp [h]
  unfold State.startRun
  simp only [h, htodo]
  rfl

theorem State.actAtStart_other (no : W32) (h8 : baleOp b ≠ 8) (h7 : baleOp b ≠ 7) : s.actAtStart c no b sd = s := by
  simp [State.actAtStart, h8, h7]

theorem State.actAtStart_inval (no : W32) (h : baleOp b = 8) : s.actAtStart c no b sd = s.depotDrop (chanDie c) sd := by
  simp [State.actAtStart, h]

theorem State.actAtStart_rwrite (no : W32) (h : baleOp b = 7) : s.actAtStart c no b sd =
    s.issueWrite c no .write { addr := rwAddr b, data := bytesOf (rwSize b) (fld b 64 64), arrive := none, last := true, tail := true } := by
  simp [State.actAtStart, h]

theorem baleReads_source (hi : baleIdle b = false) (h : baleOp b = 1 ∨ baleOp b = 4 ∨ baleOp b = 5 ∨ baleOp b = 6) :
    baleReads c b sd xd = (.source, balePieces c b sd (descWalk sd)) := by
  rcases h with h | h | h | h <;> simp [baleReads, hi, h]

theorem baleReads_index (hi : baleIdle b = false) (h : baleOp b = 2 ∨ baleOp b = 3) :
    baleReads c b sd xd = (.index, balePieces c b xd (descWalk xd)) := by
  rcases h with h | h <;> simp [baleReads, hi, h]

theorem baleReads_none (h : baleIdle b = true ∨ baleOp b = 7) : baleReads c b sd xd = (.write, []) := by
  rcases h with h | h <;> simp [baleReads, h]

end

end

/-- Settles O44: each clause is one step of a bale's life, run on a state that meets its conditions. -/
theorem baleStarts : Obligations.BaleStarts := by
  unfold Obligations.BaleStarts
  refine ⟨?fetch, fun c s n t hr hp => ⟨exec_baleRelayPop_waits hr hp, fun h r hq => exec_baleRelayPop_pops hr hp hq⟩, ?start, ?run⟩
  case fetch =>
    intro c s st d k i b s' hr hc hn
    refine ⟨exec_baleFetch_parity hr hc hn, exec_baleFetch_asks hr hc hn, exec_baleFetch_waits hr hc hn, fun hg => ?_⟩
    rw [exec_baleFetch_comes hr hc hn hg]
    refine ⟨fun hst => congrArg _ (State.baleCome_failed d hst), ?_, ?_⟩
    · rintro rfl hcode
      exact congrArg _ (State.baleCome_bad rfl hcode)
    · rintro rfl hcode
      exact congrArg _ (State.baleCome_good rfl hcode)
  case start =>
    intro c s u more k b hr hu hp hw hn
    have hready := fun parity => exec_baleStart_ready (more := more) parity hr hu hp hw hn
    refine ⟨hready true, fun hm => ?asks, fun code hm hrefs => ?faults, fun sd dd xd hm hrefs h => ?alone,
      fun sd dd xd t m hm hrefs hop hidle hsd hdd hse hde hmerge => ⟨fun hmrg => ?unmerged, ?waits, ?merged⟩⟩
    case asks => exact (hready false).trans (congrArg _ (State.tryStart_asks rfl hm))
    case faults => exact (hready false).trans (congrArg _ (State.tryStart_faults rfl hm hrefs))
    case alone => exact (hready false).trans (congrArg _ (State.tryStart_alone rfl hm hrefs h))
    case unmerged =>
      rw [State.mergeNext_of_unmerged hmrg] at hmerge
      cases hmerge
      exact ⟨rfl, rfl⟩
    case waits =>
      rintro rfl
      exact (hready false).trans (congrArg _ (State.tryStart_mergeWaits rfl hm hrefs hop hidle hsd hdd hse hde hmerge))
    case merged =>
      rintro l rfl
      exact (hready false).trans (congrArg _ (State.tryStart_merged rfl hm hrefs hop hidle hsd hdd hse hde hmerge))
  case run =>
    intro c s b sd dd xd k begin' go
    refine ⟨fun hi h => ?source, fun hi h => ?index, fun hi h7 h8 => ?idle, fun hi h8 => ?inval, fun h7 => ?rwrite⟩
    case source =>
      rw [State.startRun_one (baleReads_source hi h), State.actAtStart_other _ (by omega) (by omega)]
      rfl
    case index =>
      rw [State.startRun_one (baleReads_index hi h), State.actAtStart_other _ (by omega) (by omega)]
      rfl
    case idle =>
      rw [State.startRun_one (baleReads_none (.inl hi)), State.actAtStart_other _ h8 h7]
      rfl
    case inval =>
      rw [State.startRun_one (baleReads_none (.inl hi)), State.actAtStart_inval _ h8]
      rfl
    case rwrite =>
      rw [State.startRun_one (baleReads_none (.inr h7)), State.actAtStart_rwrite _ h7]
      rfl

end Sys2Proof.Machine
end

section
/-! What O16 to O18 share: changes of one core, and the issue of an instruction that counts events beside (R207, R240, R488). -/

namespace Sys2Proof.Machine

theorem vset_vset {α : Type} {n : Nat} (v : Vector α n) (k : Nat) (x y : α) : vset (vset v k x) k y = vset v k y :=
  Vector.setIfInBounds_setIfInBounds ..

/-! Changes of one core; with OnlyCore beside the hubs, the performance counters and the counter of free values -/

section
variable {p : Fin 12} {l : Fin 32} {s t u : State}

theorem State.modCore_same {g : Core → Core} (h : g (s.core p l) = s.core p l) : s.modCore p l g = s :=
  (State.modCore_congr p l g (fun c => c) s h).trans (State.modCore_id p l s)

/-- A run that only changes its core loses nothing. -/
theorem State.lostIf_modCore {t : State} {g : Core → Core} (lose : (Nat → W32) → Core → Core) (h : t = s.modCore p l g) :
    s.lostIf p l lose t = s.modCore p l g := by
  rw [h]
  exact State.lostIf_same (State.abort_modCore ..)

theorem State.CoreAndHubs.free {f : Core → Core} (h : State.CoreAndHubs p l f s t) : t.free = s.free := by
  unfold State.CoreAndHubs at h
  rw [h]
  rfl

theorem State.OnlyCore.trans (h : State.OnlyCore p l s t) (k : State.OnlyCore p l t u) : State.OnlyCore p l s u := by
  obtain ⟨hcores, hparts, hpart, hs⟩ := h
  obtain ⟨kcores, kparts, kpart, kt⟩ := k
  refine ⟨fun q m hq => (kcores q m hq).trans (hcores q m hq), fun q hq => (kparts q hq).trans (hparts q hq), ?_, ?_⟩
  · rw [kpart, hpart]
  · rw [kt, hs]

/-- A draw of a free value is one of the changes that OnlyCore allows. -/
theorem State.OnlyCore.drawn (h : State.OnlyCore p l s t) : State.OnlyCore p l s t.drawn := by
  obtain ⟨hcores, hparts, hpart, hs⟩ := h
  exact ⟨hcores, hparts, hpart, congrArg State.drawn hs⟩

theorem State.OnlyCore.of_modCore (p : Fin 12) (l : Fin 32) (f : Core → Core) (s : State) : State.OnlyCore p l s (s.modCore p l f) := by
  refine ⟨fun q k hq => State.core_modCore_ne p q l k f s fun e => hq ⟨e.1.symm, e.2.symm⟩,
    fun q hq => State.part_modPart_ne p q _ s hq.symm, ?_, rfl⟩
  rw [State.modCore, State.part_modPart]

theorem State.CoreAndHubs.onlyCore {f : Core → Core} (h : State.CoreAndHubs p l f s t) : State.OnlyCore p l s t := by
  unfold State.CoreAndHubs at h
  obtain ⟨hcores, hparts, hpart, -⟩ := State.OnlyCore.of_modCore p l f s
  rw [h]
  exact ⟨hcores, hparts, hpart, rfl⟩

theorem State.core_perf (p q : Fin 12) (k : Fin 32) (i n : Nat) (s : State) : (s.perf p i n).core q k = s.core q k := by
  show ((s.perf p i n).part q).cores[k] = (s.part q).cores[k]
  unfold State.perf
  by_cases hq : p = q
  · subst hq
    rw [State.part_modPart]
    split <;> rfl
  · rw [State.part_modPart_ne p q _ s hq]

theorem State.OnlyCore.perf (h : State.OnlyCore p l s t) (i n : Nat) : State.OnlyCore p l s (t.perf p i n) := by
  refine h.trans ⟨fun q k _ => State.core_perf p q k i n t, fun q hq => State.part_modPart_ne p q _ t hq.symm, ?_, rfl⟩
  unfold State.perf
  rw [State.part_modPart]
  split <;> rfl

/-- The array width hangs on which cores are fenced and which are bypassed (R90). -/
theorem State.OnlyCore.part_width (h : State.OnlyCore p l s t) (hf : (t.core p l).fenced = (s.core p l).fenced)
    (hb : (t.core p l).bypass = (s.core p l).bypass) : (t.part p).width = (s.part p).width := by
  obtain ⟨hcores, -⟩ := h
  refine Part.width_congr fun m => ?_
  by_cases hm : m = l
  · subst hm
    exact ⟨hf, hb⟩
  · have hother := hcores p m fun e => hm e.2
    exact ⟨congrArg Core.fenced hother, congrArg Core.bypass hother⟩

theorem State.OnlyCore.abort (h : State.OnlyCore p l s t) : (t.part p).abort = (s.part p).abort := by
  obtain ⟨-, -, hpart, -⟩ := h
  rw [hpart]

theorem State.OnlyCore.now (h : State.OnlyCore p l s t) : t.now = s.now := by
  obtain ⟨-, -, -, hs⟩ := h
  rw [hs]
  rfl

variable {e : Engine} {x : Duet} {en : Entry} {code : Code} {want : Slot → Bool} {run : Entry → State → Issued} {o : Out}

theorem Core.ctx_of_eng {c d : Core} (h : c.eng = d.eng) : c.ctx e x = d.ctx e x := by
  unfold Core.ctx
  rw [h]

/-- An instruction that changes, beside its core, only what OnlyCore allows. -/
theorem State.issue_onlyCore (ho : o = .next (s.issue p l e x .clean code want run)) (hr : s.ready p l e x = some en)
    (hw : want en.word = true) (hf : run en s = .done t) (ht : State.OnlyCore p l s t)
    (hhead : ((t.core p l).ctx e x).head = ((s.core p l).ctx e x).head) :
    ∃ u tm, o = .next u ∧ State.OnlyCore p l s u ∧ u.core p l = Core.issued e x s.now en tm (t.core p l) := by
  obtain ⟨tm, h⟩ := State.issue_done (code := code) hr hw hf
  obtain ⟨hruns, hready, -⟩ := State.ready_some hr
  let t' := t.modCore p l fun c => { c with timing := tm }
  have ht' : State.OnlyCore p l s t' := ht.trans (State.OnlyCore.of_modCore ..)
  have hnext : ((t'.core p l).ctx e x).head = some en := by
    rw [State.core_modCore]
    exact hhead.trans hready
  have hadv := State.advance_eq (ht'.abort.trans (State.alive_abort hruns)) hnext
  refine ⟨t'.advance p l e x, tm, ho.trans (congrArg _ h), ?_, ?_⟩
  · rw [hadv]
    exact ht'.trans (State.OnlyCore.of_modCore ..)
  · rw [hadv, State.core_modCore, State.core_modCore, ht'.now]
    rfl

end

end Sys2Proof.Machine
end

section
/-! O17: DRAIN checks its count and its stripe tile, and gives its lines to the engine it names; CLEAR empties a tile
(R81, R83, R96, R97, R445). -/

namespace Sys2Proof.Machine

section
variable {p : Fin 12} {l : Fin 32} {x : Duet} {s : State} {en : Entry} {w : Slot}

/-- A core with another account of its engines' cycles (R240). -/
def Core.timed (tm : Timing) (c : Core) : Core := { c with timing := tm }

@[simp] theorem Core.timed_draining (tm : Timing) (c : Core) : (c.timed tm).draining = c.draining := rfl
@[simp] theorem Core.timed_drainQ (tm : Timing) (c : Core) : (c.timed tm).drainQ = c.drainQ := rfl
@[simp] theorem Core.timed_storeQ (tm : Timing) (c : Core) : (c.timed tm).storeQ = c.storeQ := rfl

/-- The account of the array's cycles takes no part in which lines move on. -/
theorem Core.refill_timed (n : Nat) (c : Core) (tm : Timing) : ∃ tm', Core.refill n (c.timed tm) = (Core.refill n c).timed tm' := by
  induction n generalizing c tm with
  | zero => exact ⟨tm, rfl⟩
  | succ n ih =>
    unfold Core.refill
    rw [Core.timed_draining, Core.timed_drainQ, Core.timed_storeQ]
    rcases c.draining with _ | ⟨d, t⟩
    · exact ⟨tm, rfl⟩
    · have hmoves := fun dq sq => ih { c with
          draining := t, drainQ := dq, storeQ := sq, timing := { c.timing with slack := c.timing.slack + 1 } }
        { tm with slack := tm.slack + 1 }
      by_cases hvec : d.toVec = true
      · by_cases hroom : c.drainQ.length < 8
        · simp only [if_pos hvec, if_pos hroom]
          exact hmoves (c.drainQ ++ [d.line.line]) c.storeQ
        · simp only [if_pos hvec, if_neg hroom]
          exact ⟨tm, rfl⟩
      · by_cases hroom : c.storeQ.length < 8
        · simp only [if_neg hvec, if_pos hroom]
          exact hmoves c.drainQ (c.storeQ ++ [d.line])
        · simp only [if_neg hvec, if_neg hroom]
          exact ⟨tm, rfl⟩

/-- The count of a DRAIN is above what its axis has (R83). -/
abbrev State.drainFar (p : Fin 12) (l : Fin 32) (x : Duet) (w : Slot) (s : State) : Prop :=
  (if bit w 31 then (s.part p).width else 128) < ((s.core p l).ctx .matrix x).rl (fld w 23 2)

/-- The stripe tile that a DRAIN adds holds integers (R96). -/
abbrev Core.drainInt (w : Slot) (c : Core) : Prop := bit w 33 = true ∧ vget TileTag.empty c.tileTag (fld w 34 3) = .int32

/-- The lines of a DRAIN, in order, for the engine that bit 32 names (R83, R97). -/
def State.drainLines (p : Fin 12) (l : Fin 32) (x : Duet) (w : Slot) (s : State) : List HeldLine :=
  (List.range (((s.core p l).ctx .matrix x).rl (fld w 23 2))).map fun n =>
    { ctx := x, no := ((s.core p l).ctx .matrix x).drains + 1, toVec := bit w 32,
      line := { line := drainLine (s.core p l) w (s.part p).width (fun i => (Config.freeBits s.free i).getLsbD 0) n, row := !bit w 31 } }

/-- A DRAIN's lines given to the array: they move on as far as there is room. -/
def Core.drainInto (x : Duet) (lines : List HeldLine) (c : Core) : Core :=
  Core.refill 16 { c.modCtx .matrix x (fun k => { k with drains := k.drains + 1 }) with draining := c.draining ++ lines }

theorem Core.drainInto_head (lines : List HeldLine) (c : Core) : ((c.drainInto x lines).ctx .matrix x).head = (c.ctx .matrix x).head := by
  unfold Core.drainInto
  rw [Core.ctx, Core.refill_eng]
  exact (congrArg EngCtx.head (Core.ctx_modCtx .matrix (fun k => { k with drains := k.drains + 1 }) c)).trans rfl

/-- A DRAIN whose checks hold gives its lines to the array. -/
theorem State.drainRun_lines (hfar : ¬s.drainFar p l x w) (hint : ¬(s.core p l).drainInt w) :
    ∃ tm, s.drainRun p l x w
      = (s.modCore p l fun c => (c.drainInto x (s.drainLines p l x w)).timed tm).drawn := by
  let c := s.core p l
  obtain ⟨tm, htm⟩ := Core.refill_timed 16
    { c.modCtx .matrix x (fun k => { k with drains := k.drains + 1 }) with draining := c.draining ++ s.drainLines p l x w }
    { c.timing with slack := if c.draining.isEmpty then 7 else c.timing.slack, holdTile := fld w 20 3, hold := (c.ctx .matrix x).rl (fld w 23 2) }
  refine ⟨tm, ?_⟩
  unfold State.drainRun
  simp only [if_neg hfar, if_neg hint, ne_eq, not_true_eq_false, or_self, if_false]
  exact congrArg State.drawn (State.modCore_congr p l _ _ s htm)

theorem State.drainRun_far (hfar : s.drainFar p l x w) (hint : ¬(s.core p l).drainInt w) : s.drainRun p l x w = s.abortCore p l 0x4105 0 := by
  unfold State.drainRun
  simp only [if_pos hfar, if_neg hint]
  rfl

theorem State.drainRun_int (hfar : ¬s.drainFar p l x w) (hint : (s.core p l).drainInt w) : s.drainRun p l x w = s.abortCore p l 0x4102 0 := by
  unfold State.drainRun
  simp only [if_neg hfar, if_pos hint]
  rfl

/-- With both checks failed, the lower code is the abort (R445). -/
theorem State.drainRun_far_int (hfar : s.drainFar p l x w) (hint : (s.core p l).drainInt w) :
    s.drainRun p l x w = (s.abortCore p l 0x4102 0).abortCore p l 0x4105 0 := by
  unfold State.drainRun
  simp only [if_pos hfar, if_pos hint]
  rfl

theorem exec_drain_lines (hr : s.ready p l .matrix x = some en) (hop : slotOp en.word = 0x01)
    (hfar : ¬s.drainFar p l x en.word) (hint : ¬(s.core p l).drainInt en.word) :
    ∃ tm, exec (.drain p l x .clean) s
      = .next (s.modCore p l fun c => Core.issued .matrix x s.now en tm (c.drainInto x (s.drainLines p l x en.word))).drawn := by
  obtain ⟨tm', hrun⟩ := State.drainRun_lines hfar hint
  obtain ⟨tm, h⟩ := State.issue_core (code := 0xF101) (want := fun w => slotOp w == 0x01)
    (f := fun en s => .done (s.drainRun p l x en.word)) (g := fun c => (c.drainInto x (s.drainLines p l x en.word)).timed tm')
    (hs := s.hubs) (n := s.free + 1) hr (beq_iff_eq.mpr hop) (congrArg Issued.done hrun) (Core.drainInto_head ..)
  exact ⟨tm, congrArg _ h⟩

end

/-- Settles O17: the two checks of a DRAIN decide between its lines and its faults; a CLEAR writes one tile. -/
theorem drainAndClear : Obligations.DrainAndClear := by
  unfold Obligations.DrainAndClear
  intro p l x s en hr
  exact ⟨fun hop => ⟨exec_drain_lines hr hop, State.drainRun_far, State.drainRun_int, State.drainRun_far_int⟩,
    fun hop => State.issue_modCore rfl hr (beq_iff_eq.mpr hop) rfl rfl⟩

end Sys2Proof.Machine
end

section
/-! O18: STAGE spreads its reads over stage rows, SLOT takes rows into the operand cache (R76, R212, R213). -/

namespace Sys2Proof.Machine

/-! Rows of a stage -/

/-- Row r of stage st. -/
def stageAt (g : Vector Stage 2) (st r : Nat) : Vector (BitVec 16) 128 :=
  vget (Vector.replicate 128 0) (vget (Vector.replicate 128 (Vector.replicate 128 0)) g st) r

/-- Rows row, row + 1 and so on of stage st, modulo 128, take val 0, val 1 and so on. -/
def putStageRows (st row : Nat) (val : Nat → Vector (BitVec 16) 128) (js : List Nat) (g : Vector Stage 2) : Vector Stage 2 :=
  js.foldl (fun g j => vset g st (vset (vget (Vector.replicate 128 (Vector.replicate 128 0)) g st) ((row + j) % 128) (val j))) g

theorem Core.foldl_setStageRow (st row : Nat) (val : Nat → Vector (BitVec 16) 128) (js : List Nat) (c : Core) :
    js.foldl (fun c j => c.setStageRow st (row + j) (val j)) c = { c with stages := putStageRows st row val js c.stages } := by
  induction js generalizing c with
  | nil => rfl
  | cons j js ih => exact ih (c.setStageRow st (row + j) (val j))

theorem stageAt_vset {st row : Nat} (hst : st < 2) (hrow : row < 128) (g : Vector Stage 2) (v : Vector (BitVec 16) 128) (st' r : Nat) :
    stageAt (vset g st (vset (vget (Vector.replicate 128 (Vector.replicate 128 0)) g st) row v)) st' r
      = if st' = st ∧ r = row then v else stageAt g st' r := by
  unfold stageAt
  rw [vget_vset _ _ _ _ _ hst]
  by_cases h : st' = st
  · subst h
    rw [if_pos rfl, vget_vset _ _ _ _ _ hrow]
    simp
  · simp [h]

theorem stageAt_putStageRows_other {st row st' r : Nat} (hst : st < 2) (val : Nat → Vector (BitVec 16) 128) {js : List Nat}
    (h : st' ≠ st ∨ ∀ j ∈ js, r ≠ (row + j) % 128) (g : Vector Stage 2) :
    stageAt (putStageRows st row val js g) st' r = stageAt g st' r :=
  List.foldlRecOn (motive := fun g' => stageAt g' st' r = stageAt g st' r) js _ rfl fun g' hg j hj => by
    rw [stageAt_vset hst (Nat.mod_lt _ (by decide)), if_neg fun e => h.elim (· e.1) (· j hj e.2)]
    exact hg

/-- Of at most 128 rows each keeps what it is given. -/
theorem stageAt_putStageRows_same {st row j n : Nat} (hst : st < 2) (hn : n ≤ 128) (hj : j < n) (val : Nat → Vector (BitVec 16) 128)
    (g : Vector Stage 2) : stageAt (putStageRows st row val (List.range n) g) st ((row + j) % 128) = val j := by
  induction n with
  | zero => omega
  | succ n ih =>
    have hlast : putStageRows st row val (List.range (n + 1)) g = vset (putStageRows st row val (List.range n) g) st
        (vset (vget (Vector.replicate 128 (Vector.replicate 128 0)) (putStageRows st row val (List.range n) g) st) ((row + n) % 128) (val n)) := by
      simp [putStageRows, List.range_succ]
    rw [hlast, stageAt_vset hst (Nat.mod_lt _ (by decide))]
    by_cases h : j = n
    · rw [if_pos ⟨rfl, by rw [h]⟩, h]
    · rw [if_neg (by omega), ih (by omega) (by omega)]

theorem putStageRows_add (st row : Nat) (val : Nat → Vector (BitVec 16) 128) (m n : Nat) (g : Vector Stage 2) :
    putStageRows st (row + m) (fun j => val (m + j)) (List.range n) (putStageRows st row val (List.range m) g)
      = putStageRows st row val (List.range (m + n)) g := by
  simp only [putStageRows, List.range_add, List.foldl_append, List.foldl_map, Nat.add_assoc]

theorem putStageRows_congr (st row : Nat) {val val' : Nat → Vector (BitVec 16) 128} {n : Nat} (h : ∀ j < n, val j = val' j)
    (g : Vector Stage 2) : putStageRows st row val (List.range n) g = putStageRows st row val' (List.range n) g :=
  List.foldl_ext _ _ _ fun _ j hj => by rw [h j (List.mem_range.mp hj)]

/-! Reads of the load engine -/

section
variable {p : Fin 12} {l : Fin 32} {x : Duet} {s : State} {en : Entry}

/-- A read inside the scratchpad takes the bytes that stand there. -/
theorem State.engRead_plain {a n : Nat} {consume : Bool} (hg : (s.core p l).guardEn = false) (hb : (s.core p l).bad = [])
    (ha : a < spadSize) : s.engRead p l a n consume = (some ((s.core p l).bytes a n), s.modCore p l (Core.took consume (a / 512))) := by
  unfold State.engRead
  rw [if_neg (by omega), State.rowRead_plain hg hb]

/-- A block of a size u that holds an address inside the scratchpad is read whole. -/
theorem State.blockRead_plain {a u : Nat} {consume : Bool} (hg : (s.core p l).guardEn = false) (hb : (s.core p l).bad = [])
    (ha : a < spadSize) : (if spadSize ≤ a then s.engRead p l a 0 false else s.engRead p l (a / u * u) u consume)
      = (some ((s.core p l).bytes (a / u * u) u), s.modCore p l (Core.took consume (a / u * u / 512))) := by
  rw [if_neg (by omega), State.engRead_plain hg hb ((Nat.div_mul_le_self a u).trans_lt ha)]

theorem Core.bytes_took (consume : Bool) (r : Nat) (c : Core) (a n : Nat) : (c.took consume r).bytes a n = c.bytes a n := by
  rw [Core.took_eq]
  rfl

/-! STAGE (R76, R213) -/

/-- Bytes of a read of a STAGE with spread f. -/
def stageUnit (f : Nat) : Nat := if f = 1 then 512 else 256

/-- Stage rows that one read of a STAGE fills. -/
def stageShare (f : Nat) : Nat := if f = 1 then 2 else f

/-- Where row j of a STAGE from address a is read. -/
def stageAddr (f : Nat) (a : W32) (j : Nat) : Nat := (a + BitVec.ofNat 32 (stageUnit f) * BitVec.ofNat 32 (j / stageShare f)).toNat

/-- Stage row i of those that the bytes of one read fill. -/
def stageImage (f sw : Nat) (d : List Byte) (i : Nat) : Vector (BitVec 16) 128 :=
  if f = 1 then spreadRow 1 16 0 (d.drop (256 * i)) else spreadRow f sw i d

/-- What row j of a STAGE from address a takes. -/
def Core.stageValue (c : Core) (f sw : Nat) (a : W32) (j : Nat) : Vector (BitVec 16) 128 :=
  stageImage f sw (c.bytes (stageAddr f a j / stageUnit f * stageUnit f) (stageUnit f)) (j % stageShare f)

variable {f : Nat}

theorem stageShare_pos (hf : 0 < f) : 0 < stageShare f := by
  unfold stageShare
  split <;> omega

/-- The rows of the first read. -/
theorem stageAddr_first {j : Nat} (h : j < stageShare f) (a : W32) : stageAddr f a j = a.toNat := by
  simp [stageAddr, Nat.div_eq_of_lt h]

/-- The rows behind the first read are those of a STAGE from the next address. -/
theorem stageAddr_rest (hf : 0 < f) (a : W32) (j : Nat) :
    stageAddr f (a + BitVec.ofNat 32 (stageUnit f)) j = stageAddr f a (stageShare f + j) := by
  have hq : (stageShare f + j) / stageShare f = j / stageShare f + 1 := Nat.add_div_left j (stageShare_pos hf)
  have hmul : BitVec.ofNat 32 (stageUnit f) * BitVec.ofNat 32 (j / stageShare f + 1)
      = BitVec.ofNat 32 (stageUnit f) + BitVec.ofNat 32 (stageUnit f) * BitVec.ofNat 32 (j / stageShare f) := by
    rw [BitVec.ofNat_add, BitVec.mul_add, BitVec.mul_one, BitVec.add_comm]
  unfold stageAddr
  rw [hq, hmul, BitVec.add_assoc]

theorem Core.stageValue_first {j : Nat} (h : j < stageShare f) (c : Core) (sw : Nat) (a : W32) :
    c.stageValue f sw a j = stageImage f sw (c.bytes (a.toNat / stageUnit f * stageUnit f) (stageUnit f)) j := by
  unfold Core.stageValue
  rw [stageAddr_first h, Nat.mod_eq_of_lt h]

theorem Core.stageValue_rest (hf : 0 < f) (c : Core) (sw : Nat) (a : W32) (j : Nat) :
    c.stageValue f sw (a + BitVec.ofNat 32 (stageUnit f)) j = c.stageValue f sw a (stageShare f + j) := by
  unfold Core.stageValue
  rw [stageAddr_rest hf, Nat.add_mod_left]

/-- What a STAGE of n rows does to its core beside the valid bits. -/
def Core.stageLoad (st f sw row : Nat) (a : W32) (n : Nat) (c : Core) : Core :=
  { c with stages := putStageRows st row (c.stageValue f sw a) (List.range n) c.stages }

/-- The first read of a STAGE, and the rows it fills. -/
theorem State.stageRows_read {a : W32} (hg : (s.core p l).guardEn = false) (hb : (s.core p l).bad = []) (ha : a.toNat < spadSize)
    (st sw : Nat) (consume : Bool) (fuel row : Nat) {left : Nat} (hleft : left ≠ 0) :
    s.stageRows p l st f sw consume (fuel + 1) left row a
      = (s.modCore p l fun c => (c.took consume (a.toNat / stageUnit f * stageUnit f / 512)).stageLoad st f sw row a
            (min (stageShare f) left)).stageRows p l st f sw consume fuel
          (left - min (stageShare f) left) (row + stageShare f) (a + BitVec.ofNat 32 (stageUnit f)) := by
  rw [State.stageRows, if_neg hleft]
  simp only
  rw [← stageUnit, ← stageShare, State.blockRead_plain hg hb ha]
  simp only
  rw [State.modCore_modCore]
  congr 1
  refine State.modCore_congr p l _ _ s ?_
  refine (Core.foldl_setStageRow st row (stageImage f sw ((s.core p l).bytes (a.toNat / stageUnit f * stageUnit f) (stageUnit f))) _ _).trans ?_
  refine congrArg (fun g => { Core.took _ _ _ with stages := g }) (putStageRows_congr _ _ (fun j hj => ?_) _)
  rw [Core.stageValue_first (by omega), Core.bytes_took]

/-- The first read and the STAGE of the rows behind it make up the STAGE. -/
theorem Core.stageLoad_rest (hf : 0 < f) (st sw row : Nat) (a : W32) (left : Nat) (c : Core) :
    (c.stageLoad st f sw row a (min (stageShare f) left)).stageLoad st f sw (row + stageShare f) (a + BitVec.ofNat 32 (stageUnit f))
      (left - min (stageShare f) left) = c.stageLoad st f sw row a left := by
  have hval : ∀ n, (c.stageLoad st f sw row a n).stageValue f sw (a + BitVec.ofNat 32 (stageUnit f))
      = fun j => c.stageValue f sw a (stageShare f + j) := fun n => funext fun j => Core.stageValue_rest hf c sw a j
  unfold Core.stageLoad at hval ⊢
  rw [hval]
  refine congrArg (fun g => { c with stages := g }) ?_
  rcases Nat.le_total (stageShare f) left with h | h
  · rw [Nat.min_eq_left h, putStageRows_add, Nat.add_sub_cancel' h]
  · rw [Nat.min_eq_right h, Nat.sub_self]
    rfl

theorem State.stageRows_spec (hf : 0 < f) {st sw row fuel left : Nat} {consume : Bool} {a : W32} (hg : (s.core p l).guardEn = false)
    (hb : (s.core p l).bad = []) (hle : left ≤ fuel) (hin : ∀ j < left, stageAddr f a j < spadSize) :
    ∃ v, s.stageRows p l st f sw consume fuel left row a
        = s.modCore p l (fun c => { c.stageLoad st f sw row a left with valid := v })
      ∧ (consume = false → v = (s.core p l).valid) := by
  induction fuel generalizing s row left a with
  | zero =>
    obtain rfl : left = 0 := by omega
    exact ⟨(s.core p l).valid, (State.modCore_same rfl).symm, fun _ => rfl⟩
  | succ fuel ih =>
    by_cases hleft : left = 0
    · subst hleft
      exact ⟨(s.core p l).valid, (State.modCore_same rfl).symm, fun _ => rfl⟩
    · have hpos := stageShare_pos hf
      have ha : a.toNat < spadSize := by
        rw [← stageAddr_first hpos a]
        exact hin 0 (by omega)
      rw [State.stageRows_read hg hb ha st sw consume fuel row hleft]
      obtain ⟨v, hrest, hkeep⟩ := ih (s := s.modCore p l fun c =>
          (c.took consume (a.toNat / stageUnit f * stageUnit f / 512)).stageLoad st f sw row a (min (stageShare f) left))
        (row := row + stageShare f) (left := left - min (stageShare f) left) (a := a + BitVec.ofNat 32 (stageUnit f))
        (by rw [State.core_modCore, Core.took_eq]; exact hg) (by rw [State.core_modCore, Core.took_eq]; exact hb) (by omega)
        fun j hj => by rw [stageAddr_rest hf]; exact hin _ (by omega)
      refine ⟨v, hrest.trans ?_, fun hc => (hkeep hc).trans ?_⟩
      · rw [State.modCore_modCore]
        refine State.modCore_congr p l _ _ s ?_
        rw [← Core.stageLoad_rest hf _ _ _ _ left (s.core p l), Core.took_eq]
        rfl
      · rw [State.core_modCore]
        exact Core.took_valid_of_kept hc ..

/-! SLOT (R212) -/

/-- Where row i of a SLOT from address a is read. -/
def slotAddr (a stride : W32) (i : Nat) : Nat := (a + BitVec.ofNat 32 i * stride).toNat

/-- What a SLOT of n rows does to its core beside the valid bits. -/
def Core.slotLoad (v : Nat) (a stride : W32) (n : Nat) (c : Core) : Core :=
  { c with ocache := (List.range n).foldl (fun o i =>
      vset o ((v + i) % 64) (lineOf (c.bytes (slotAddr a stride i / 512 * 512) 512))) c.ocache }

/-- What the row at address a does to slot v of its core, and to the row's valid bit. -/
def Core.slotRow (v : Nat) (a : W32) (consume : Bool) (c : Core) : Core :=
  { c with ocache := vset c.ocache (v % 64) (lineOf (c.bytes (a.toNat / 512 * 512) 512)),
           valid := (c.took consume (a.toNat / 512 * 512 / 512)).valid }

theorem slotAddr_succ (a stride : W32) (i : Nat) : slotAddr (a + stride) stride i = slotAddr a stride (i + 1) := by
  have hmul : BitVec.ofNat 32 (i + 1) * stride = stride + BitVec.ofNat 32 i * stride := by
    rw [BitVec.ofNat_add, BitVec.add_mul, BitVec.one_mul, BitVec.add_comm]
  unfold slotAddr
  rw [hmul, BitVec.add_assoc]

theorem Core.slotLoad_succ (v : Nat) (a stride : W32) (n : Nat) (c : Core) : c.slotLoad v a stride (n + 1)
    = ({ c with ocache := vset c.ocache (v % 64) (lineOf (c.bytes (a.toNat / 512 * 512) 512)) } : Core).slotLoad (v + 1) (a + stride) stride n := by
  have hfirst : slotAddr a stride 0 = a.toNat := by simp [slotAddr]
  unfold Core.slotLoad
  simp only [List.range_succ_eq_map, List.foldl_cons, List.foldl_map, hfirst, slotAddr_succ, Core.bytes, Nat.add_assoc, Nat.add_zero, Nat.add_comm 1]

theorem State.slotRows_row {a : W32} (hg : (s.core p l).guardEn = false) (hb : (s.core p l).bad = []) (ha : a.toNat < spadSize)
    (consume : Bool) (stride : W32) (n v : Nat) : s.slotRows p l consume stride (n + 1) v a
      = (s.modCore p l (Core.slotRow v a consume)).slotRows p l consume stride n (v + 1) (a + stride) := by
  rw [State.slotRows, State.blockRead_plain hg hb ha]
  simp only
  rw [State.modCore_modCore]
  refine congrArg _ (State.modCore_congr p l _ _ s ?_)
  rw [Core.took_eq]
  rfl

theorem State.slotRows_spec {v n : Nat} {consume : Bool} {a stride : W32} (hg : (s.core p l).guardEn = false)
    (hb : (s.core p l).bad = []) (hin : ∀ i < n, slotAddr a stride i < spadSize) :
    ∃ v', s.slotRows p l consume stride n v a = s.modCore p l (fun c => { c.slotLoad v a stride n with valid := v' })
      ∧ (consume = false → v' = (s.core p l).valid) := by
  induction n generalizing s v a with
  | zero => exact ⟨(s.core p l).valid, (State.modCore_same rfl).symm, fun _ => rfl⟩
  | succ n ih =>
    have ha : a.toNat < spadSize := by simpa [slotAddr] using hin 0 (by omega)
    obtain ⟨v', hrest, hkeep⟩ := ih (s := s.modCore p l (Core.slotRow v a consume)) (v := v + 1) (a := a + stride)
      (by rw [State.core_modCore]; exact hg) (by rw [State.core_modCore]; exact hb)
      fun i hi => (slotAddr_succ a stride i).symm ▸ hin (i + 1) (by omega)
    refine ⟨v', ?_, fun hc => (hkeep hc).trans ?_⟩
    · rw [State.slotRows_row hg hb ha, hrest, State.modCore_modCore]
      refine State.modCore_congr p l _ _ s ?_
      rw [Core.slotLoad_succ]
      rfl
    · rw [State.core_modCore]
      exact Core.took_valid_of_kept hc ..

theorem exec_stage_plain (hr : s.ready p l .load x = some en) (hg : (s.core p l).guardEn = false) (hb : (s.core p l).bad = [])
    (hop : slotOp en.word = 0x00) {f sw row n : Nat} {a : W32}
    (hf : 2 ^ fld en.word 18 2 = f) (hsw : fmtBits (BitVec.ofNat 4 (fld en.word 20 4)) = sw)
    (hn : ((s.core p l).ctx .load x).rl (fld en.word 16 2) = n) (ha : ((s.core p l).ctx .load x).ra (fld en.word 8 4) = a)
    (hrow : fld (((s.core p l).ctx .load x).ra (fld en.word 12 4)) 0 7 = row)
    (heven : n % 2 = 0) (hle : n ≤ 128) (hin : ∀ j < n, stageAddr f a j < spadSize) :
    ∃ v, (∃ tm, exec (.stage p l x .clean) s = .next (s.modCore p l fun c => Core.issued .load x s.now en tm
        { c.stageLoad (fld en.word 7 1) f sw row a n with valid := v }))
      ∧ (bit en.word 24 = false → v = (s.core p l).valid) := by
  obtain ⟨v, hrun, hkeep⟩ := State.stageRows_spec (st := fld en.word 7 1) (sw := sw) (row := row) (consume := bit en.word 24)
    (hf ▸ Nat.two_pow_pos _) hg hb hle hin
  have hstage : s.stageRun p l x en.word = s.modCore p l fun c => { c.stageLoad (fld en.word 7 1) f sw row a n with valid := v } := by
    unfold State.stageRun
    simp only [hf, hsw, hn, ha, hrow]
    rw [if_neg (by omega), hrun]
  refine ⟨v, State.issue_modCore rfl hr (beq_iff_eq.mpr hop) ?_ (congrArg EngCtx.head (Core.ctx_of_eng rfl)), hkeep⟩
  exact congrArg Issued.done (State.lostIf_modCore _ hstage)

theorem exec_slot_plain (hr : s.ready p l .load x = some en) (hg : (s.core p l).guardEn = false) (hb : (s.core p l).bad = [])
    (hop : slotOp en.word = 0x01) {n : Nat} {a stride : W32} (hn : ((s.core p l).ctx .load x).rl (fld en.word 17 2) = n)
    (ha : ((s.core p l).ctx .load x).ra (fld en.word 13 4) = a) (hs : ((s.core p l).ctx .load x).rs (fld en.word 13 4) = stride)
    (hin : ∀ i < n, slotAddr a stride i < spadSize) :
    ∃ v, (∃ tm, exec (.slot p l x .clean) s = .next (s.modCore p l fun c => Core.issued .load x s.now en tm
        { c.slotLoad (fld en.word 7 6) a stride n with valid := v }))
      ∧ (bit en.word 19 = false → v = (s.core p l).valid) := by
  obtain ⟨v, hrun, hkeep⟩ := State.slotRows_spec (v := fld en.word 7 6) (consume := bit en.word 19) hg hb hin
  refine ⟨v, State.issue_modCore rfl hr (beq_iff_eq.mpr hop) ?_ (congrArg EngCtx.head (Core.ctx_of_eng rfl)), hkeep⟩
  simp only [hn, ha, hs]
  exact congrArg Issued.done (State.lostIf_modCore _ hrun)

end

/-- Settles O18: the reads are made left to right, each row put behind those before it, and a row read back is the one put there. -/
theorem stageAndSlotLoads : Obligations.StageAndSlotLoads := by
  unfold Obligations.StageAndSlotLoads
  intro p l x s en hr c k w hg hb
  constructor
  · intro hop f sw count a row at' heven hle hin
    have haddr : ∀ j, at' j = stageAddr f a j := by
      intro j
      simp only [at', stageAddr, stageUnit, stageShare]
      split <;> rfl
    have hval : ∀ j, c.stageValue f sw a j = if f = 1 then spreadRow 1 16 0 ((c.bytes (at' j / 512 * 512) 512).drop (256 * (j % 2)))
        else spreadRow f sw (j % f) (c.bytes (at' j / 256 * 256) 256) := by
      intro j
      simp only [haddr, Core.stageValue, stageImage, stageUnit, stageShare]
      split <;> rfl
    have hst : fld w 7 1 < 2 := Nat.mod_lt _ (by decide)
    obtain ⟨v, ⟨tm, hexec⟩, hkeep⟩ := exec_stage_plain hr hg hb hop rfl rfl rfl rfl rfl heven hle fun j hj => haddr j ▸ hin j hj
    refine ⟨putStageRows (fld w 7 1) row (c.stageValue f sw a) (List.range count) c.stages, v, tm, hexec.trans ?_, hkeep, ?_⟩
    · exact congrArg _ (State.modCore_congr p l _ _ s rfl)
    · intro st _ r _ new old
      refine ⟨?_, fun h => stageAt_putStageRows_other hst _ (h.imp id fun h j hj => h j (List.mem_range.mp hj)) _⟩
      rintro j hj rfl rfl
      exact (stageAt_putStageRows_same hst hle hj _ _).trans (hval j)
  · intro hop count at' hin
    obtain ⟨v, ⟨tm, hexec⟩, hkeep⟩ := exec_slot_plain hr hg hb hop rfl rfl rfl hin
    exact ⟨v, tm, hexec, hkeep⟩

end Sys2Proof.Machine
end

section
/-! O16: OPA and STRIPE take their N·B steps into one tile (R69, R70, R82, R85, R88). -/

namespace Sys2Proof.Machine

/-! Reads of the array (R71 to R76, R166 to R170) -/

section
variable {p : Fin 12} {l : Fin 32} {s : State} {c : Core} {sd : OpaSide} {u n m : Nat}

/-- What the read of a side in step m of item n does to the valid bits (R72, R166). -/
def Core.fed (sd : OpaSide) (n m : Nat) (c : Core) : Core := c.took (!sd.isStage && sd.consume) (sd.place n m / 512)

theorem Core.fed_eq (sd : OpaSide) (n m : Nat) (c : Core) : c.fed sd n m = { c with valid := (c.fed sd n m).valid } :=
  Core.took_eq ..

theorem Core.fed_valid_of_kept (h : sd.isStage = true ∨ sd.consume = false) (n m : Nat) (c : Core) : (c.fed sd n m).valid = c.valid :=
  Core.took_valid_of_kept (by rcases h with h | h <;> simp [h]) ..

/-- What the reads of both sides do to the valid bits. -/
def Core.fedBoth (sa sb : OpaSide) (n m : Nat) (c : Core) : Core := Core.fed sb n m (Core.fed sa n m c)

theorem Core.fedBoth_eq (sa sb : OpaSide) (n m : Nat) (c : Core) :
    c.fedBoth sa sb n m = { c with valid := (c.fedBoth sa sb n m).valid } := by
  unfold Core.fedBoth
  rw [Core.fed_eq sb, Core.fed_eq sa]

theorem Core.feedFault_plain (hg : c.guardEn = false) (hb : c.bad = []) (hin : sd.inside n m) : c.feedFault u sd n m = 0 := by
  have hck := Core.checked_of_unguarded hg (sd.place n m / 512)
  have hcw := Core.checkWords_of_good hb (wordRange (sd.place n m / u * u) u)
  unfold Core.feedFault
  rcases hin with h | h
  · rw [if_pos h]
  · have ha : ¬spadSize ≤ sd.place n m := Nat.not_le.mpr h
    simp [hck, hcw, ha]

theorem State.feedDone_plain (hg : (s.core p l).guardEn = false) (hb : (s.core p l).bad = []) (hin : sd.inside n m) (shared : Bool) :
    s.feedDone p l u sd n m shared = s.modCore p l (Core.fed sd n m) := by
  have hcw := Core.checkWords_of_good hb (wordRange (sd.place n m / u * u) u)
  have hf := Core.feedFault_plain (u := u) hg hb hin
  unfold State.feedDone
  simp only [hf, hcw]
  by_cases hs : sd.isStage = true
  · rw [if_pos (.inl hs)]
    refine (State.modCore_same ?_).symm
    simp [Core.fed, Core.took, hs]
  · rw [if_neg (by simp [hs])]
    have hsame : (if shared = true then s else State.correct p l [] s) = s := by
      cases shared <;> rfl
    rw [hsame]
    cases hc : sd.consume with
    | true =>
      refine (if_pos rfl).trans (State.modCore_congr p l _ _ s ?_)
      simp [Core.fed, Core.took, hs, hc]
    | false =>
      refine (State.modCore_same ?_).symm
      simp [Core.fed, Core.took, hc]

theorem State.feedDone_both {sa sb : OpaSide} (hg : (s.core p l).guardEn = false) (hb : (s.core p l).bad = []) (hia : sa.inside n m)
    (hib : sb.inside n m) (shared : Bool) : (s.feedDone p l u sa n m false).feedDone p l u sb n m shared
      = s.modCore p l (Core.fedBoth sa sb n m) := by
  have hvalid : (s.modCore p l (Core.fed sa n m)).core p l = { s.core p l with valid := ((s.core p l).fed sa n m).valid } := by
    rw [State.core_modCore, Core.fed_eq]
  rw [State.feedDone_plain hg hb hia, State.feedDone_plain (by rw [hvalid]; exact hg) (by rw [hvalid]; exact hb) hib, State.modCore_modCore]
  rfl

/-- The bytes of one read of the array: a row of packets, or two in pack mode 2 (R71, R79). -/
theorem Core.feed_eq_packets (k mode : Nat) : c.feed k (if mode = 2 then 512 else 256) sd n m = sd.packets c k (mode == 2) n m := by
  unfold Core.feed OpaSide.packets OpaSide.place
  by_cases h : mode = 2 <;> simp [h]

end

/-! Steps (R69, R88) -/

/-- The core after steps of an OPA that left tile and clamp flag r, and valid bits v. -/
def Core.opaDone (w : Slot) (tag : TileTag) (r : Tile × Bool) (v : Vector W32 1536) (c : Core) : Core :=
  { c with tiles := vset c.tiles (fld w 20 3) r.1, tileTag := vset c.tileTag (fld w 20 3) tag,
           tileMode := vset c.tileMode (fld w 20 3) (BitVec.ofNat 2 (fld w 18 2)),
           gridFlags := if r.2 then c.gridFlags ||| BitVec.ofNat 7 (2 ^ fld w 20 3) else c.gridFlags, valid := v }

section
variable {p : Fin 12} {l : Fin 32} {x : Duet} {s t : State} {w : Slot} {sa sb : OpaSide} {tag : TileTag} {count i left : Nat}

/-- The tile that the OPA of state s has after i steps, and whether a sum was clamped. -/
def State.opaTileAt (p : Fin 12) (l : Fin 32) (w : Slot) (sa sb : OpaSide) (count : Nat) (s : State) (i : Nat) : Tile × Bool :=
  opaTile (s.core p l) w sa sb (s.part p).width count s.free ((s.core p l).tile (fld w 20 3)) i

/-- State t is state s after i steps of an OPA. -/
structure State.OpaStepped (p : Fin 12) (l : Fin 32) (w : Slot) (sa sb : OpaSide) (tag : TileTag) (count : Nat) (s : State) (i : Nat)
    (t : State) : Prop where
  only : State.OnlyCore p l s t
  free : t.free = s.free + i
  core : ∃ v, t.core p l = (s.core p l).opaDone w tag (s.opaTileAt p l w sa sb count i) v
    ∧ ((sa.isStage = true ∨ sa.consume = false) → (sb.isStage = true ∨ sb.consume = false) → v = (s.core p l).valid)

/-- Steps leave what the sides of an OPA read (R71 to R76). -/
theorem OpaSide.packets_opaDone (sd : OpaSide) (c : Core) (r : Tile × Bool) (v : Vector W32 1536) :
    sd.packets (c.opaDone w tag r v) = sd.packets c := rfl

/-- A step of the array depends on the grid tables of its core and on nothing else of it (R37, R69). -/
theorem opaStep_opaDone (c : Core) (r : Tile × Bool) (v : Vector W32 1536) :
    opaStep (c.opaDone w tag r v) = opaStep c := rfl

theorem Core.tile_opaDone (h : fld w 20 3 < 4) (c : Core) (r : Tile × Bool) (v : Vector W32 1536) :
    (c.opaDone w tag r v).tile (fld w 20 3) = r.1 :=
  (vget_vset _ _ _ _ _ h).trans (if_pos rfl)

/-- One more step, whose result is r, and the flag it sets. -/
theorem Core.opaDone_step (c : Core) (r r' : Tile × Bool) (v v' : Vector W32 1536) :
    Core.gridFlag r'.2 (fld w 20 3) { c.opaDone w tag r v with tiles := vset (c.opaDone w tag r v).tiles (fld w 20 3) r'.1, valid := v' }
      = c.opaDone w tag (r'.1, r.2 || r'.2) v' := by
  obtain ⟨tile, clamped⟩ := r
  obtain ⟨tile', clamped'⟩ := r'
  unfold Core.opaDone Core.gridFlag
  cases clamped <;> cases clamped' <;> simp [vset_vset, flag_or_self]

/-- The result of step i of the OPA of state s. -/
def State.opaStepAt (p : Fin 12) (l : Fin 32) (w : Slot) (sa sb : OpaSide) (count : Nat) (s : State) (i : Nat) : Tile × Bool :=
  let k := pairK sa.fmt sb.fmt
  opaStep (s.core p l) sa.fmt sb.fmt (fld w 15 3) (fld w 18 2) (s.part p).width
    (sa.packets (s.core p l) k (fld w 18 2 == 2) (i / count) (i % count)) (sb.packets (s.core p l) k (fld w 18 2 == 2) (i / count) (i % count))
    (fun j => (Config.freeBits (s.free + i) j).getLsbD 0) (s.opaTileAt p l w sa sb count i).1

theorem State.opaTileAt_succ : s.opaTileAt p l w sa sb count (i + 1)
    = ((s.opaStepAt p l w sa sb count i).1, (s.opaTileAt p l w sa sb count i).2 || (s.opaStepAt p l w sa sb count i).2) := rfl

/-- What one step that meets no fault does to state t, its result being r. -/
def State.opaPut (p : Fin 12) (l : Fin 32) (w : Slot) (sa sb : OpaSide) (n m : Nat) (r : Tile × Bool) (t : State) : State :=
  let u := ((t.modCore p l (Core.fedBoth sa sb n m)).modCore p l fun c =>
    { c with tiles := vset c.tiles (fld w 20 3) r.1 }).drawn
  (if r.2 then u.accSat p l (fld w 20 3) else u).perf p 1 1

theorem State.OpaStepped.part_width (h : State.OpaStepped p l w sa sb tag count s i t) : (t.part p).width = (s.part p).width := by
  obtain ⟨honly, -, v, hcore, -⟩ := h
  exact honly.part_width (by rw [hcore]; rfl) (by rw [hcore]; rfl)

/-- One step of an OPA whose reads meet no fault. -/
theorem State.opaSteps_step (h : State.OpaStepped p l w sa sb tag count s i t) (ht : fld w 20 3 < 4)
    (hg : (s.core p l).guardEn = false) (hb : (s.core p l).bad = [])
    (hia : sa.inside (i / count) (i % count)) (hib : sb.inside (i / count) (i % count)) :
    t.opaSteps p l w sa sb count (left + 1) i
      = (t.opaPut p l w sa sb (i / count) (i % count) (s.opaStepAt p l w sa sb count i)).opaSteps p l w sa sb count left (i + 1) := by
  have hwidth := h.part_width
  obtain ⟨-, hfree, v, hcore, -⟩ := h
  have hgt : (t.core p l).guardEn = false := by rw [hcore]; exact hg
  have hbt : (t.core p l).bad = [] := by rw [hcore]; exact hb
  have hfed : ((t.modCore p l (Core.fedBoth sa sb (i / count) (i % count))).part p).width = (s.part p).width := by
    refine ((State.OnlyCore.of_modCore p l _ t).part_width ?_ ?_).trans hwidth <;> rw [State.core_modCore, Core.fedBoth_eq]
  have hstep : opaStep (t.core p l) = opaStep (s.core p l) := by rw [hcore, opaStep_opaDone]
  have hpackets : ∀ sd : OpaSide, sd.packets (t.core p l) = sd.packets (s.core p l) := fun sd => by rw [hcore, OpaSide.packets_opaDone]
  have htile : (t.core p l).tile (fld w 20 3) = (s.opaTileAt p l w sa sb count i).1 := by rw [hcore, Core.tile_opaDone ht]
  rw [State.opaSteps]
  simp only [State.feedDone_both hgt hbt hia hib, Core.feedFault_plain hgt hbt hia, Core.feedFault_plain hgt hbt hib,
    Core.feed_eq_packets, hstep, hpackets, htile, hfed]
  rw [if_neg (by simp), State.modCore_free, hfree]
  rfl

theorem State.OpaStepped.put (h : State.OpaStepped p l w sa sb tag count s i t) (n m : Nat) :
    State.OpaStepped p l w sa sb tag count s (i + 1) (t.opaPut p l w sa sb n m (s.opaStepAt p l w sa sb count i)) := by
  obtain ⟨honly, hfree, v, hcore, hkeep⟩ := h
  let r := s.opaStepAt p l w sa sb count i
  let fed := Core.fedBoth sa sb n m
  let put := fun c : Core => { c with tiles := vset c.tiles (fld w 20 3) r.1 }
  have hflag := State.gridFlagIf_spec p l r.2 (fld w 20 3) 0x1101 ((t.modCore p l fed).modCore p l put).drawn
  have hdone : (t.opaPut p l w sa sb n m r).core p l = Core.gridFlag r.2 (fld w 20 3) (put (fed (t.core p l))) := by
    refine (State.core_perf ..).trans (hflag.core.trans ?_)
    rw [State.core_drawn, State.core_modCore, State.core_modCore]
  have hput := (State.OnlyCore.of_modCore p l fed t).trans (State.OnlyCore.of_modCore p l put _)
  refine ⟨((honly.trans hput).drawn.trans hflag.onlyCore).perf 1 1, ?_, (fed (t.core p l)).valid, hdone.trans ?_, fun ka kb => ?_⟩
  · refine hflag.free.trans ?_
    show t.free + 1 = _
    omega
  · rw [State.opaTileAt_succ, ← Core.opaDone_step _ _ _ v, ← hcore]
    simp only [put, fed]
    rw [Core.fedBoth_eq]
  · simp only [fed, Core.fedBoth]
    rw [Core.fed_valid_of_kept kb, Core.fed_valid_of_kept ka, hcore]
    exact hkeep ka kb

theorem State.OpaStepped.steps (h : State.OpaStepped p l w sa sb tag count s i t) (ht : fld w 20 3 < 4)
    (hg : (s.core p l).guardEn = false) (hb : (s.core p l).bad = [])
    (hin : ∀ j < i + left, sa.inside (j / count) (j % count) ∧ sb.inside (j / count) (j % count)) :
    State.OpaStepped p l w sa sb tag count s (i + left) (t.opaSteps p l w sa sb count left i) := by
  induction left generalizing i t with
  | zero => exact h
  | succ left ih =>
    obtain ⟨hia, hib⟩ := hin i (by omega)
    rw [State.opaSteps_step h ht hg hb hia hib, Nat.add_comm left 1, ← Nat.add_assoc]
    exact ih (h.put _ _) fun j hj => hin j (by omega)

/-- The tag and the recorded pack mode that an OPA of some step gives its tile (R70). -/
def Core.opaTagged (w : Slot) (tag : TileTag) (c : Core) : Core :=
  { c with tileTag := vset c.tileTag (fld w 20 3) tag, tileMode := vset c.tileMode (fld w 20 3) (BitVec.ofNat 2 (fld w 18 2)) }

theorem State.OpaStepped.start (ht : fld w 20 3 < 4) (tag : TileTag) (s : State) :
    State.OpaStepped p l w sa sb tag count s 0 (s.modCore p l (Core.opaTagged w tag)) := by
  refine ⟨State.OnlyCore.of_modCore .., rfl, (s.core p l).valid, ?_, fun _ _ => rfl⟩
  have htile : vset (s.core p l).tiles (fld w 20 3) (s.opaTileAt p l w sa sb count 0).1 = (s.core p l).tiles := vset_vget _ _ ht
  rw [State.core_modCore, Core.opaDone, htile]
  rfl

/-! The instruction (R70, R82, R85) -/

/-- The tag that an OPA of a pair of formats gives its tile (R70). -/
def pairTag (fa fb : BitVec 4) : TileTag := if intPath fa fb then .int32 else .fp32

section
variable {k : EngCtx}
  (hk : (s.core p l).ctx .matrix x = k) (hsa : opaSide w k false = sa) (hsb : opaSide w k true = sb) (hcount : k.rl (fld w 23 2) = count)
  (htag : vget TileTag.empty (s.core p l).tileTag (fld w 20 3) = .empty
    ∨ vget TileTag.empty (s.core p l).tileTag (fld w 20 3) = pairTag sa.fmt sb.fmt)
include hk hsa hsb hcount htag

theorem State.opaRun_none (hnone : count * fld w 41 16 = 0) : s.opaRun p l x w = s := by
  unfold State.opaRun
  simp only [hk, hsa, hsb, hcount]
  rw [← pairTag, if_neg (by tauto), if_pos hnone]

theorem State.opaRun_some (hsome : count * fld w 41 16 ≠ 0) : s.opaRun p l x w
    = (s.modCore p l (Core.opaTagged w (pairTag sa.fmt sb.fmt))).opaSteps p l w sa sb count (count * fld w 41 16) 0 := by
  unfold State.opaRun
  simp only [hk, hsa, hsb, hcount]
  rw [← pairTag, if_neg (by tauto), if_neg hsome]
  rfl

end

end

/-- Settles O16: the steps are taken one after another, each from the tile that those before it left. -/
theorem outerProductSteps : Obligations.OuterProductSteps := by
  unfold Obligations.OuterProductSteps
  intro p l x s en i op hi hr hop c ctx sa sb t tag count total r htag ht hg hb hin
  obtain ⟨code, want, ho, hw⟩ : ∃ code want,
      exec i s = .next (s.issue p l .matrix x .clean code want fun en s => .done (s.opaRun p l x en.word)) ∧ want en.word = true := by
    simp only [List.mem_cons, Prod.mk.injEq, List.not_mem_nil, or_false] at hi
    rcases hi with ⟨rfl, rfl⟩ | ⟨rfl, rfl⟩
    · exact ⟨0xF101, fun w => slotOp w == 0x00, rfl, beq_iff_eq.mpr hop⟩
    · exact ⟨0xF101, fun w => slotOp w == 0x03, rfl, beq_iff_eq.mpr hop⟩
  refine ⟨fun hnone => ?_, fun hsome => ?_⟩
  · have hrun : s.opaRun p l x en.word = s.modCore p l fun c => c :=
      (State.opaRun_none rfl rfl rfl rfl htag hnone).trans (State.modCore_id p l s).symm
    exact State.issue_modCore ho hr hw (congrArg Issued.done hrun) rfl
  · have hrun := State.opaRun_some rfl rfl rfl rfl htag hsome
    have hcount : 0 < count := Nat.pos_of_ne_zero fun h => hsome (by simp [total, h])
    have hstepped := (State.OpaStepped.start (p := p) (l := l) (sa := sa) (sb := sb) (count := count) ht tag s).steps (left := total)
      ht hg hb fun j hj => hin _ _ (Nat.div_lt_of_lt_mul (by omega)) (Nat.mod_lt _ hcount)
    rw [Nat.zero_add] at hstepped
    obtain ⟨honly, -, v, hcore, hkeep⟩ := hstepped
    obtain ⟨u, tm, hu, huonly, hucore⟩ := State.issue_onlyCore ho hr hw (congrArg Issued.done hrun) honly
      (congrArg EngCtx.head (Core.ctx_of_eng ((congrArg Core.eng hcore).trans rfl)))
    exact ⟨u, v, tm, hu, huonly, hucore.trans (congrArg _ hcore), hkeep⟩

end Sys2Proof.Machine
end

section
/-! O12: the steering rule moves Q by at most one step, towards the limit it names (R112). -/

namespace Sys2Proof.Machine

/-! Steps of a signed scale index -/

theorem toInt_add_one_of_lt {q hi : BitVec 12} (h : q.toInt < hi.toInt) : (q + 1).toInt = q.toInt + 1 := by
  have hq := BitVec.le_toInt q
  have hhi := BitVec.toInt_lt (x := hi)
  rw [BitVec.toInt_add, show (1 : BitVec 12).toInt = 1 from rfl]
  exact Int.bmod_eq_of_le (by omega) (by omega)

theorem toInt_sub_one_of_lt {q lo : BitVec 12} (h : lo.toInt < q.toInt) : (q - 1).toInt = q.toInt - 1 := by
  have hlo := BitVec.le_toInt lo
  have hq := BitVec.toInt_lt (x := q)
  rw [BitVec.toInt_sub, show (1 : BitVec 12).toInt = 1 from rfl]
  exact Int.bmod_eq_of_le (by omega) (by omega)

/-- What the steering rule can do to Q (R112): a step up, above the band and below QMAX; a step down, below the band and above
QMIN; or nothing. The limits stay. -/
theorem steerRule_cases (sl : Steer) (f : Profile) (c n t : Nat) :
    let d := (steerRule sl f c n t).slot
    (d.qmin = sl.qmin ∧ d.qmax = sl.qmax)
      ∧ (d.q = sl.q
        ∨ (d.q = sl.q + 1 ∧ sl.q.toInt < sl.qmax.toInt ∧ t ≠ 0 ∧ fld f.band 16 16 * t < c * 65536)
        ∨ (d.q = sl.q - 1 ∧ sl.qmin.toInt < sl.q.toInt ∧ t ≠ 0 ∧ c * 65536 < fld f.band 0 16 * t)) := by
  unfold steerRule
  by_cases ht : t = 0
  · rw [if_pos ht]
    exact ⟨⟨rfl, rfl⟩, .inl rfl⟩
  rw [if_neg ht]
  generalize (if sl.holdc = 0 then 0 else sl.holdc - 1) = hold
  dsimp only
  split_ifs with habove hcount hroom hbelow hheld hcount hroom
  · exact ⟨⟨rfl, rfl⟩, .inr (.inl ⟨rfl, hroom, ht, habove⟩)⟩
  · exact ⟨⟨rfl, rfl⟩, .inl rfl⟩
  · exact ⟨⟨rfl, rfl⟩, .inl rfl⟩
  · exact ⟨⟨rfl, rfl⟩, .inr (.inr ⟨rfl, hroom, ht, hbelow⟩)⟩
  · exact ⟨⟨rfl, rfl⟩, .inl rfl⟩
  · exact ⟨⟨rfl, rfl⟩, .inl rfl⟩
  · exact ⟨⟨rfl, rfl⟩, .inl rfl⟩
  · exact ⟨⟨rfl, rfl⟩, .inl rfl⟩

/-- Settles O12: a step is made only short of the limit that it moves towards. -/
theorem steeringKeepsWithinLimits : Obligations.SteeringKeepsWithinLimits := by
  unfold Obligations.SteeringKeepsWithinLimits
  intro sl f c n t hlo hhi d
  obtain ⟨⟨hmin, hmax⟩, hsame | ⟨hup, hroom, hband⟩ | ⟨hdown, hroom, hband⟩⟩ := steerRule_cases sl f c n t
  · have hq : d.q.toInt = sl.q.toInt := congrArg BitVec.toInt hsame
    exact ⟨by omega, by omega, fun _ => by omega, fun _ => by omega, hmin, hmax⟩
  · have hq : d.q.toInt = sl.q.toInt + 1 := (congrArg BitVec.toInt hup).trans (toInt_add_one_of_lt hroom)
    exact ⟨by omega, by omega, fun _ => hband, fun _ => by omega, hmin, hmax⟩
  · have hq : d.q.toInt = sl.q.toInt - 1 := (congrArg BitVec.toInt hdown).trans (toInt_sub_one_of_lt hroom)
    exact ⟨by omega, by omega, fun _ => by omega, fun _ => hband, hmin, hmax⟩

end Sys2Proof.Machine
end

section
/-! O28: a grid-table entry, a channel scale or a word of a steer slot is stored, or rejected with its flag (R39, R94, R101, R172). -/

namespace Sys2Proof.Machine

section
variable {src : Source} {p : Fin 12} {l : Fin 32} {v : W32} {s : State}

/-! The three commands, by a source that reaches the register -/

theorem exec_gridEntWrite_of_reaches {e : Fin 128} (h : s.reaches src (partBase p + 0x20000 * l.val + 4 * e.val) true) :
    exec (.gridEntWrite src p l e v) s = .next (State.answered 0 0 (s.entPut p l e.val v)) :=
  congrArg _ (State.regCommand_of_reaches (fun s => (0, s.entPut p l e.val v)) h)

theorem exec_gridCsrWrite_of_reaches {n : Fin 4096} (h : s.reaches src (partBase p + 0x20000 * l.val + 0x4000 + 4 * n.val) true) :
    exec (.gridCsrWrite src p l n v) s = .next (State.answered 0 0 (s.csrPut p l n.val v)) :=
  congrArg _ (State.regCommand_of_reaches (fun s => (0, s.csrPut p l n.val v)) h)

theorem exec_steerSlotWrite_of_reaches {k : Fin 64} {w : Fin 8}
    (h : s.reaches src (partBase p + 0x20000 * l.val + 0x1000 + 32 * k.val + 4 * w.val) true) :
    exec (.steerSlotWrite src p l k w v) s = .next (State.answered 0 0 (s.slotWrite p l k.val w.val v)) :=
  congrArg _ (State.regCommand_of_reaches (fun s => (0, s.slotWrite p l k.val w.val v)) h)

/-! Words of a steer slot (R99 to R101) -/

theorem State.csrPut_rejected {k : Nat} (h : csrRejects v = true) : s.csrPut p l k v = s.setQnt p l 0 0x1601 := if_pos h

theorem State.slotWrite_accepted {k w : Nat} {t : Steer} (h : ((s.core p l).slot k).put w v = some t) :
    s.slotWrite p l k w v = s.modCore p l fun c => c.setSlot k t := by
  unfold State.slotWrite
  rw [h]

theorem State.slotWrite_rejected {k w : Nat} (h : ((s.core p l).slot k).put w v = none) :
    s.slotWrite p l k w v = s.setQnt p l 0 0x1601 := by
  unfold State.slotWrite
  rw [h]
  rfl

/-- The model's check of a scale index is the rule's: its field, read as a signed number, lies in −496 to +496. -/
theorem qOk_fieldBv (v : W32) (lo : Nat) :
    qOk (fieldBv 12 v lo) = true ↔ (-496 : Int) ≤ sext 12 (fld v lo 12) ∧ sext 12 (fld v lo 12) ≤ 496 := by
  simp only [qOk, Bool.and_eq_true, decide_eq_true_eq]
  rfl

/-- A word of a steer slot rejects what R101 lists, and nothing else. -/
theorem Steer.put_eq_none_iff (t : Steer) (w : Fin 8) (v : W32) : t.put w.val v = none ↔
    (w = 0 ∧ ¬((-496 : Int) ≤ sext 12 (fld v 0 12) ∧ sext 12 (fld v 0 12) ≤ 496))
      ∨ (w = 1 ∧ ¬((-496 : Int) ≤ sext 12 (fld v 0 12) ∧ sext 12 (fld v 0 12) ≤ sext 12 (fld v 16 12)
          ∧ sext 12 (fld v 16 12) ≤ 496))
      ∨ (w = 2 ∧ (1024 < fld v 0 10 + fld v 10 11 ∨ 64 < fld v 21 7)) := by
  match w with
  | 0 =>
    have hput : t.put 0 v = none ↔ ¬qOk (fieldBv 12 v 0) = true := by simp [Steer.put]
    rw [Fin.val_zero, hput, qOk_fieldBv]
    simp
  | 1 =>
    have hput : t.put 1 v = none ↔ ¬(qOk (fieldBv 12 v 0) && qOk (fieldBv 12 v 16)
        && decide ((fieldBv 12 v 0).toInt ≤ (fieldBv 12 v 16).toInt)) = true := by simp [Steer.put]
    rw [Fin.val_one, hput, Bool.and_eq_true, Bool.and_eq_true, qOk_fieldBv, qOk_fieldBv, decide_eq_true_eq]
    simp only [fieldBv, sext, (by decide : (1 : Fin 8) ≠ 0), (by decide : (1 : Fin 8) ≠ 2), false_and, true_and, false_or, or_false]
    omega
  | 2 =>
    have hput : t.put 2 v = none ↔ 1024 < fld v 0 10 + fld v 10 11 ∨ 64 < fld v 21 7 := by simp [Steer.put, or_iff_not_imp_left]
    rw [Fin.val_two, hput]
    simp
  | 3 | 4 | 5 | 6 | 7 => simp [Steer.put]

end

/-- Settles O28: each write is the write of its register, which its check accepts or flags. -/
theorem gridAndSteerRegisters : Obligations.GridAndSteerRegisters := by
  unfold Obligations.GridAndSteerRegisters
  intro src p l v s base
  refine ⟨fun e h => exec_gridEntWrite_of_reaches h, fun n h => ?_,
    fun k w h => ⟨fun t ht => ?_, fun hn => ?_, Steer.put_eq_none_iff ..⟩, rfl⟩
  · rw [exec_gridCsrWrite_of_reaches h]
    split
    · next hrej => rw [State.csrPut_rejected ((csrRejects_iff v).mpr hrej)]
    · next hacc => rw [State.csrPut_accepted hacc]
  · rw [exec_steerSlotWrite_of_reaches h, State.slotWrite_accepted ht]
  · rw [exec_steerSlotWrite_of_reaches h, State.slotWrite_rejected hn]

end Sys2Proof.Machine
end

section
/-! O11: STEER takes the counters and candidates of its slot; in CAL form it writes the channel scales (R106, R111, R114, R117,
R121). -/

namespace Sys2Proof.Machine

/-! Values written one after another, each at a position of its own -/

/-- The values y 0, y 1 and so on, below y m, written at the positions that `pos` names. -/
def putAll {α : Type} {n : Nat} (pos : Nat → Nat) (y : Nat → α) (m : Nat) (v : Vector α n) : Vector α n :=
  (List.range m).foldl (fun v i => vset v (pos i) (y i)) v

section
variable {α : Type} {n m : Nat} {d : α} {pos : Nat → Nat} {y : Nat → α} {v : Vector α n} {i : Nat}

theorem putAll_succ : putAll pos y (m + 1) v = vset (putAll pos y m v) (pos m) (y m) := by
  simp [putAll, List.range_succ]

theorem vget_putAll_ne (hn : ∀ j < m, pos j < n) (hi : ∀ j < m, i ≠ pos j) : vget d (putAll pos y m v) i = vget d v i := by
  induction m with
  | zero => rfl
  | succ m ih =>
    rw [putAll_succ, vget_vset _ _ _ _ _ (hn m m.lt_succ_self), if_neg (hi m m.lt_succ_self),
      ih (fun j hj => hn j (by omega)) fun j hj => hi j (by omega)]

theorem vget_putAll (hn : ∀ j < m, pos j < n) (hinj : ∀ j < m, ∀ k < m, pos j = pos k → j = k) (hi : i < m) :
    vget d (putAll pos y m v) (pos i) = y i := by
  induction m with
  | zero => omega
  | succ m ih =>
    rw [putAll_succ, vget_vset _ _ _ _ _ (hn m m.lt_succ_self)]
    by_cases h : i = m
    · rw [h, if_pos rfl]
    · rw [if_neg fun e => h (hinj i hi m m.lt_succ_self e)]
      exact ih (fun j hj => hn j (by omega)) (fun j hj k hk => hinj j (by omega) k (by omega)) (by omega)

end

/-! The counters of a slot reset (R106, R114) -/

section
variable {p : Fin 12} {l : Fin 32} {x : Duet} {s : State} {en : Entry} {k : Fin 64}

theorem Core.foldl_setSet (f : Nat → Nat) (e : CSet) (is : List Nat) (c : Core) :
    is.foldl (fun c i => c.setSet (f i) e) c = { c with sets := is.foldl (fun v i => vset v (f i) e) c.sets } := by
  induction is generalizing c with
  | nil => rfl
  | cons i is ih =>
    rw [List.foldl_cons, ih]
    rfl

theorem Core.resetCounts_eq (k : Nat) (c : Core) :
    c.resetCounts k = { c with sets := (c.resetCounts k).sets, steer := (c.resetCounts k).steer } := by
  unfold Core.resetCounts
  simp only [Core.foldl_setSet]
  rfl

/-- What a STEER in its normal form does to its core (R114): the counters reset, and what they held is taken for the decision. -/
def Core.steerTaken (k : Fin 64) (t : SteerTake) (c : Core) : Core := { c.resetCounts k with takes := c.takes ++ [(k, t)] }

/-- What a STEER in its normal form takes from its core (R109, R114). -/
def Core.steerTake (k : Fin 64) (c : Core) : SteerTake :=
  { clip := (c.slot k).clip.toNat, van := (c.slot k).van.toNat, nan := (c.slot k).nan.toNat, tot := (c.slot k).tot.toNat,
    cands := c.candidates k }

theorem Core.foldl_csr (f : Nat → Nat) (y : Nat → W32) (is : List Nat) (c : Core) :
    is.foldl (fun c i => { c with csr := vset c.csr (f i) (y i) }) c
      = { c with csr := is.foldl (fun v i => vset v (f i) (y i)) c.csr } := by
  induction is generalizing c with
  | nil => rfl
  | cons i is ih => rw [List.foldl_cons, ih, List.foldl_cons]

/-- The channel-scale registers after a STEER in CAL form (R106). -/
def calScales (c : Core) (w : Slot) : Vector W32 4096 :=
  putAll (fun i => ((c.slot (fld w 7 6)).csrBase.toNat + i) % 4096)
    (fun i => calScale c (BitVec.ofNat 4 (fld w 14 4)) (fld w 18 3)
      (vget CSet.reset c.sets (((c.slot (fld w 7 6)).setBase.toNat + i) % 1024)))
    (c.slot (fld w 7 6)).setCount.toNat c.csr

/-- The steer slot that a STEER names. -/
def steerNo (w : Slot) : Fin 64 := ⟨fld w 7 6, Nat.mod_lt _ (by decide)⟩

/-! What the sequencer reads of the cores (R114, R117) -/

theorem Part.live_congr {q r : Part} (h : ∀ l : Fin 32, q.cores[l].fenced = r.cores[l].fenced) : q.live = r.live := by
  simp only [Part.live, h]

theorem Part.steersDone_congr {q r : Part} (hf : ∀ l : Fin 32, q.cores[l].fenced = r.cores[l].fenced)
    (ht : ∀ l : Fin 32, q.cores[l].takes = r.cores[l].takes) : q.steersDone k = r.steersDone k := by
  simp only [Part.steersDone, Part.live_congr hf, ht]

theorem Part.shadowValid_congr {q r : Part} (hf : ∀ l : Fin 32, q.cores[l].fenced = r.cores[l].fenced)
    (hs : ∀ l : Fin 32, q.cores[l].steer = r.cores[l].steer) : q.shadowValid k = r.shadowValid k := by
  simp only [Part.shadowValid, Part.live_congr hf, Core.slot, hs]

/-- A change that leaves a field of its core leaves it of every core. -/
theorem State.field_modCore {α : Type} (φ : Core → α) {f : Core → Core} (h : φ (f (s.core p l)) = φ (s.core p l)) (m : Fin 32) :
    φ ((s.modCore p l f).part p).cores[m] = φ (s.part p).cores[m] := by
  show φ ((s.modCore p l f).core p m) = φ (s.core p m)
  by_cases hm : l = m
  · subst hm
    rw [State.core_modCore, h]
  · rw [State.core_modCore_ne p p l m f s fun e => hm e.2]

/-- The decision's note of SVALID joins those that wait. -/
def Part.noteShadow (n : Fin 64 × Bool) (q : Part) : Part := { q with shadows := q.shadows ++ [n] }

/-! The run of a STEER with a valid profile, by its cases (R111, R121) -/

section
variable {w : Slot} (hv : ((s.core p l).profile (steerNo w)).valid = true)
include hv

theorem profile_not_rejected : ¬(!((s.core p l).profile (fld w 7 6)).valid) = true := by
  simpa [steerNo] using hv

theorem State.steerRun_rerun (hr : (s.part p).rerun ≠ 0) : s.steerRun p l w = s :=
  (if_neg (profile_not_rejected hv)).trans (if_pos hr)

theorem State.steerRun_taken (hr : (s.part p).rerun = 0) :
    let t := s.modCore p l (Core.steerTaken (steerNo w) ((s.core p l).steerTake (steerNo w)))
    s.steerRun p l w = if (s.part p).steersDone (steerNo w) < (t.part p).steersDone (steerNo w)
      then t.modPart p (Part.noteShadow (steerNo w, (t.part p).shadowValid (steerNo w))) else t :=
  (if_neg (profile_not_rejected hv)).trans (if_neg (not_not_intro hr))

theorem State.calRun_rerun (hr : (s.part p).rerun ≠ 0) : s.calRun p l w = s :=
  (if_neg (profile_not_rejected hv)).trans (if_pos hr)

theorem State.calRun_scaled (hr : (s.part p).rerun = 0) :
    s.calRun p l w = s.modCore p l fun c => Core.resetCounts { c with csr := calScales (s.core p l) w } (steerNo w) := by
  refine ((if_neg (profile_not_rejected hv)).trans (if_neg (not_not_intro hr))).trans (State.modCore_congr _ _ _ _ _ ?_)
  rw [Core.foldl_csr]
  rfl

end

/-! The issue of a STEER that the decision waits for (R117) -/

theorem State.modCore_noteShadow (n : Fin 64 × Bool) (f : Core → Core) (s : State) :
    (s.modPart p (Part.noteShadow n)).modCore p l f = (s.modCore p l f).modPart p (Part.noteShadow n) := by
  simp [State.modCore, State.modPart, Part.noteShadow]

theorem State.core_noteShadow (n : Fin 64 × Bool) (s : State) : (s.modPart p (Part.noteShadow n)).core p l = s.core p l := by
  show ((s.modPart p (Part.noteShadow n)).part p).cores[l] = _
  rw [State.part_modPart]
  rfl

/-- An instruction that changes its core by g and notes a shadow. -/
theorem State.issue_noteShadow {n : Fin 64 × Bool} {e : Engine} {code : Code} {want : Slot → Bool} {run : Entry → State → Issued}
    {g : Core → Core} {o : Out} (ho : o = .next (s.issue p l e x .clean code want run)) (hr : s.ready p l e x = some en)
    (hw : want en.word = true) (hf : run en s = .done ((s.modCore p l g).modPart p (Part.noteShadow n)))
    (hg : ((g (s.core p l)).ctx e x).head = ((s.core p l).ctx e x).head) :
    ∃ tm : Timing, o = .next ((s.modCore p l fun c => Core.issued e x s.now en tm (g c)).modPart p (Part.noteShadow n)) := by
  obtain ⟨tm, h⟩ := State.issue_done (code := code) hr hw hf
  obtain ⟨hruns, hhead, -⟩ := State.ready_some hr
  refine ⟨tm, ho.trans (congrArg _ (h.trans ?_))⟩
  rw [State.modCore_noteShadow, State.modCore_modCore, State.advance_eq (en := en), State.modCore_noteShadow, State.modCore_modCore]
  · rfl
  · rw [State.part_modPart]
    exact (State.abort_modCore ..).trans (State.alive_abort hruns)
  · rw [State.core_noteShadow, State.core_modCore]
    exact hg.trans hhead

@[simp] theorem Core.issued_fenced (e : Engine) (now : W64) (tm : Timing) (c : Core) : (Core.issued e x now en tm c).fenced = c.fenced := rfl
@[simp] theorem Core.issued_takes (e : Engine) (now : W64) (tm : Timing) (c : Core) : (Core.issued e x now en tm c).takes = c.takes := rfl
@[simp] theorem Core.issued_steer (e : Engine) (now : W64) (tm : Timing) (c : Core) : (Core.issued e x now en tm c).steer = c.steer := rfl

theorem State.steersDone_issued (e : Engine) (now : W64) (tm : Timing) (g : Core → Core) :
    ((s.modCore p l fun c => Core.issued e x now en tm (g c)).part p).steersDone k = ((s.modCore p l g).part p).steersDone k := by
  rw [← State.modCore_modCore p l g]
  exact Part.steersDone_congr (State.field_modCore Core.fenced (Core.issued_fenced ..)) (State.field_modCore Core.takes (Core.issued_takes ..))

theorem State.shadowValid_issued (e : Engine) (now : W64) (tm : Timing) (g : Core → Core) :
    ((s.modCore p l fun c => Core.issued e x now en tm (g c)).part p).shadowValid k = ((s.modCore p l g).part p).shadowValid k := by
  rw [← State.modCore_modCore p l g]
  exact Part.shadowValid_congr (State.field_modCore Core.fenced (Core.issued_fenced ..)) (State.field_modCore Core.steer (Core.issued_steer ..))

theorem Core.head_of_resetCounts (k : Nat) (c : Core) : ((c.resetCounts k).ctx .vector x).head = (c.ctx .vector x).head := by
  rw [Core.resetCounts_eq]
  rfl

theorem Core.head_of_steerTaken (t : SteerTake) (c : Core) : ((c.steerTaken k t).ctx .vector x).head = (c.ctx .vector x).head :=
  Core.head_of_resetCounts k c

/-! STEER at issue, with a valid profile -/

section
variable (hready : s.ready p l .vector x = some en) (hop : slotOp en.word = 0x61)
  (hv : ((s.core p l).profile (steerNo en.word)).valid = true)
include hready hop hv

theorem exec_steer_taken (hform : bit en.word 13 = false) (hr : (s.part p).rerun = 0) : ∃ tm,
    let k := steerNo en.word
    let u := s.modCore p l fun c => Core.issued .vector x s.now en tm (Core.steerTaken k ((s.core p l).steerTake k) c)
    exec (.steer p l x .clean) s = .next (if (s.part p).steersDone k < (u.part p).steersDone k
      then u.modPart p (Part.noteShadow (k, (u.part p).shadowValid k)) else u) := by
  have hw : (slotOp en.word == 0x61 && !bit en.word 13) = true := by simp [hop, hform]
  have hrun := State.steerRun_taken hv hr
  simp only [State.steersDone_issued, State.shadowValid_issued]
  by_cases hdone : (s.part p).steersDone (steerNo en.word) < ((s.modCore p l (Core.steerTaken (steerNo en.word)
      ((s.core p l).steerTake (steerNo en.word)))).part p).steersDone (steerNo en.word)
  · simp only [if_pos hdone]
    exact State.issue_noteShadow rfl hready hw (congrArg Issued.done (hrun.trans (if_pos hdone))) (Core.head_of_steerTaken ..)
  · simp only [if_neg hdone]
    exact State.issue_modCore rfl hready hw (congrArg Issued.done (hrun.trans (if_neg hdone))) (Core.head_of_steerTaken ..)

theorem exec_steerCal_scaled (hform : bit en.word 13 = true) (hr : (s.part p).rerun = 0) : ∃ tm,
    exec (.steerCal p l x .clean) s = .next (s.modCore p l fun c => Core.issued .vector x s.now en tm
      (Core.resetCounts { c with csr := calScales (s.core p l) en.word } (steerNo en.word))) := by
  have hw : (slotOp en.word == 0x61 && bit en.word 13) = true := by simp [hop, hform]
  exact State.issue_modCore rfl hready hw (congrArg Issued.done (State.calRun_scaled hv hr)) (Core.head_of_resetCounts ..)

/-- In re-run state either form does no more than issue (R121). -/
theorem exec_steer_rerun (hr : (s.part p).rerun ≠ 0) : ∃ tm,
    exec (if bit en.word 13 then .steerCal p l x .clean else .steer p l x .clean) s
      = .next (s.modCore p l fun c => Core.issued .vector x s.now en tm c) := by
  have hsame : s.modCore p l (fun c => c) = s := State.modCore_id p l s
  cases hform : bit en.word 13
  · have hw : (slotOp en.word == 0x61 && !bit en.word 13) = true := by simp [hop, hform]
    exact State.issue_modCore rfl hready hw (congrArg Issued.done ((State.steerRun_rerun hv hr).trans hsame.symm)) rfl
  · have hw : (slotOp en.word == 0x61 && bit en.word 13) = true := by simp [hop, hform]
    exact State.issue_modCore rfl hready hw (congrArg Issued.done ((State.calRun_rerun hv hr).trans hsame.symm)) rfl

end

end

/-- Settles O11: each form is taken by the cases of its run; no two channels of a slot share a channel-scale register. -/
theorem steerTakesAndCalibrates : Obligations.SteerTakesAndCalibrates := by
  unfold Obligations.SteerTakesAndCalibrates
  intro p l x s en hready hop c k sl take hv
  refine ⟨fun hform hr => ?_, fun hform hr => ?_, exec_steer_rerun hready hop hv⟩
  · obtain ⟨tm, h⟩ := exec_steer_taken hready hop hv hform hr
    refine ⟨tm, fun hle => h.trans (congrArg _ (if_neg ?_)), fun hlt => h.trans (congrArg _ (if_pos hlt))⟩
    exact not_lt_of_ge hle
  · obtain ⟨tm, h⟩ := exec_steerCal_scaled hready hop hv hform hr
    have hcount := sl.setCount.isLt
    have hpos : ∀ i < sl.setCount.toNat, (sl.csrBase.toNat + i) % 4096 < 4096 := fun i _ => Nat.mod_lt _ (by decide)
    refine ⟨_, tm, h, fun n hn hi => vget_putAll_ne hpos hi, fun i hi => ?_⟩
    exact vget_putAll (i := i) hpos (fun j hj m hm he => by omega) hi

end Sys2Proof.Machine
end

section
/-! O13: a steering decision lands in every live core, and in no other (R109, R112, R114, R119, R120). -/

namespace Sys2Proof.Machine

/-! Changes within one partition -/

/-- A step changed at most partition p and the hubs (their logs and events). -/
def State.PartAndHubs (p : Fin 12) (s t : State) : Prop :=
  (∀ p', p' ≠ p → t.part p' = s.part p') ∧ t = { s with parts := t.parts, hubs := t.hubs }

section
variable {p : Fin 12} {l : Fin 32} {k : Fin 64} {s t u : State} {ls : List (Fin 32)}

theorem State.PartAndHubs.refl (p : Fin 12) (s : State) : State.PartAndHubs p s s := ⟨fun _ _ => rfl, rfl⟩

theorem State.PartAndHubs.trans (h : State.PartAndHubs p s t) (h' : State.PartAndHubs p t u) : State.PartAndHubs p s u := by
  obtain ⟨hparts, hs⟩ := h
  obtain ⟨hparts', ht⟩ := h'
  exact ⟨fun p' hp => (hparts' p' hp).trans (hparts p' hp), by rw [ht, hs]⟩

theorem State.PartAndHubs.of_modPart (p : Fin 12) (f : Part → Part) (s : State) : State.PartAndHubs p s (s.modPart p f) :=
  ⟨fun p' hp => State.part_modPart_ne p p' f s hp.symm, rfl⟩

theorem State.CoreAndHubs.partAndHubs {f : Core → Core} (h : State.CoreAndHubs p l f s t) : State.PartAndHubs p s t := by
  obtain ⟨-, hparts, -, -⟩ := h.onlyCore
  refine ⟨hparts, ?_⟩
  unfold State.CoreAndHubs at h
  rw [h]
  rfl

theorem State.PartAndHubs.of_logCore (p : Fin 12) (l : Fin 32) (code : Code) (arg : W64) (s : State) :
    State.PartAndHubs p s (s.logCore p l code arg) :=
  ⟨fun p' _ => State.logCore_part p p' l code arg s, by rw [State.logCore_frame]⟩

/-- A change of some cores, each by f, is one step within their partition. -/
theorem State.PartAndHubs.foldl_modCore (p : Fin 12) (f : Core → Core) (ls : List (Fin 32)) (s : State) :
    State.PartAndHubs p s (ls.foldl (fun s l => s.modCore p l f) s) := by
  induction ls generalizing s with
  | nil => exact State.PartAndHubs.refl p s
  | cons l ls ih => exact (State.PartAndHubs.of_modPart p _ s).trans (ih _)

/-- Each core of the list changes by f, once, and no other core does. -/
theorem State.core_foldl_modCore (f : Core → Core) (hnd : ls.Nodup) (s : State) (m : Fin 32) :
    (ls.foldl (fun s l => s.modCore p l f) s).core p m = if m ∈ ls then f (s.core p m) else s.core p m := by
  induction ls generalizing s with
  | nil => rfl
  | cons l ls ih =>
    obtain ⟨hl, hls⟩ := List.nodup_cons.mp hnd
    rw [List.foldl_cons, ih hls]
    by_cases hm : l = m
    · subst hm
      rw [if_neg hl, if_pos List.mem_cons_self, State.core_modCore]
    · have hcons : m ∈ l :: ls ↔ m ∈ ls := by simp [Ne.symm hm]
      simp only [hcons, State.core_modCore_ne p p l m f s fun e => hm e.2]

theorem Part.live_nodup (q : Part) : q.live.Nodup := (List.nodup_finRange 32).filter _

/-! QNT_FLAGS in every live core (R122, R123) -/

/-- Within partition p, a step changed at most QNT_FLAGS of the cores listed. -/
def State.FlagsOnly (p : Fin 12) (ls : List (Fin 32)) (s t : State) : Prop :=
  State.PartAndHubs p s t
    ∧ ∀ m, (∃ b, t.core p m = { s.core p m with qntFlags := b }) ∧ (m ∉ ls → t.core p m = s.core p m)

theorem State.FlagsOnly.refl (p : Fin 12) (ls : List (Fin 32)) (s : State) : State.FlagsOnly p ls s s :=
  ⟨State.PartAndHubs.refl p s, fun m => ⟨⟨(s.core p m).qntFlags, rfl⟩, fun _ => rfl⟩⟩

theorem State.FlagsOnly.trans (h : State.FlagsOnly p ls s t) (h' : State.FlagsOnly p ls t u) : State.FlagsOnly p ls s u := by
  obtain ⟨hpart, hcore⟩ := h
  obtain ⟨hpart', hcore'⟩ := h'
  refine ⟨hpart.trans hpart', fun m => ?_⟩
  obtain ⟨⟨b, hb⟩, hm⟩ := hcore m
  obtain ⟨⟨b', hb'⟩, hm'⟩ := hcore' m
  exact ⟨⟨b', by rw [hb', hb]⟩, fun h => (hm' h).trans (hm h)⟩

theorem State.CoreAndHubs.flagsOnly {f : Core → Core} {b : BitVec 5} (hl : l ∈ ls) (h : State.CoreAndHubs p l f s t)
    (hf : f (s.core p l) = { s.core p l with qntFlags := b }) : State.FlagsOnly p ls s t := by
  refine ⟨h.partAndHubs, fun m => ?_⟩
  obtain ⟨hcores, -⟩ := h.onlyCore
  by_cases hm : m = l
  · subst hm
    exact ⟨⟨b, h.core.trans hf⟩, fun hn => absurd hl hn⟩
  · have hother := hcores p m fun e => hm e.2
    exact ⟨⟨(s.core p m).qntFlags, hother⟩, fun _ => hother⟩

theorem State.FlagsOnly.live (h : State.FlagsOnly p ls s t) : (t.part p).live = (s.part p).live := by
  obtain ⟨-, hcore⟩ := h
  refine Part.live_congr fun m => ?_
  obtain ⟨⟨b, hb⟩, -⟩ := hcore m
  show (t.core p m).fenced = (s.core p m).fenced
  rw [hb]

theorem State.FlagsOnly.foldl_modCore {f : Core → Core} (hf : ∀ c, ∃ b, f c = { c with qntFlags := b }) {ms : List (Fin 32)}
    (hms : ∀ m ∈ ms, m ∈ ls) (s : State) : State.FlagsOnly p ls s (ms.foldl (fun s l => s.modCore p l f) s) := by
  induction ms generalizing s with
  | nil => exact State.FlagsOnly.refl p ls s
  | cons m ms ih =>
    obtain ⟨b, hb⟩ := hf (s.core p m)
    exact ((State.CoreAndHubs.of_modCore f).flagsOnly (hms m List.mem_cons_self) hb).trans
      (ih (fun m' h => hms m' (List.mem_cons_of_mem m h)) _)

theorem State.setQntAll_flagsOnly (hlive : (s.part p).live = ls) (i : Nat) (code : Code) :
    State.FlagsOnly p ls s (s.setQntAll p i code) := by
  unfold State.setQntAll
  rw [hlive]
  match ls with
  | [] => exact State.FlagsOnly.refl p [] s
  | l0 :: rest =>
    exact ((State.setQnt_spec p l0 i code s).flagsOnly List.mem_cons_self rfl).trans
      (State.FlagsOnly.foldl_modCore (fun c => ⟨_, rfl⟩) (fun m h => List.mem_cons_of_mem l0 h) _)

theorem State.FlagsOnly.setQntAllIf (h : State.FlagsOnly p ls s t) (hlive : (s.part p).live = ls) (on : Bool) (i : Nat) (code : Code) :
    State.FlagsOnly p ls s (if on then t.setQntAll p i code else t) := by
  cases on
  · exact h
  · exact h.trans (State.setQntAll_flagsOnly (h.live.trans hlive) i code)

/-! A panic in the sequencer (R119, R120) -/

/-- FBNEXT after a panic, where the panic says: set, unless a branch pends; cleared where the table has no entry. -/
def Part.panicNext (k : Fin 64) (valid : Bool) (q : Part) : Option Bool :=
  if valid && decide (q.seqState ≠ 2) then (if (q.fallbackOf k).isNone then some false else none) else some true

theorem State.modPart_core {f : Part → Part} (hf : (f (s.part p)).cores = (s.part p).cores) (m : Fin 32) :
    (s.modPart p f).core p m = s.core p m := by
  show ((s.modPart p f).part p).cores[m] = (s.part p).cores[m]
  rw [State.part_modPart]
  exact congrArg (fun v : Vector Core 32 => v[m]) hf

/-- A panic changes no core, and says what becomes of FBNEXT. -/
theorem State.panic_spec (k : Fin 64) (valid : Bool) (s : State) : ∃ t, s.panic p k valid = (t, (s.part p).panicNext k valid)
    ∧ State.PartAndHubs p s t ∧ ∀ m, t.core p m = s.core p m := by
  let counted := s.modPart p fun q => { q with fbCnt := satAdd q.fbCnt 1 }
  have hpart : State.PartAndHubs p s counted := State.PartAndHubs.of_modPart ..
  have hcore : ∀ m, counted.core p m = s.core p m := State.modPart_core rfl
  unfold State.panic Part.panicNext
  by_cases hbranch : (valid && decide ((s.part p).seqState ≠ 2)) = true
  · rw [if_pos hbranch]
    simp only [if_pos hbranch]
    cases hf : (s.part p).fallbackOf k with
    | some f => exact ⟨_, rfl, hpart.trans (State.PartAndHubs.of_modPart ..), fun m => (State.modPart_core rfl m).trans (hcore m)⟩
    | none =>
      cases (s.part p).live with
      | nil => exact ⟨counted, rfl, hpart, hcore⟩
      | cons l0 rest => exact ⟨_, rfl, hpart.trans (State.PartAndHubs.of_logCore ..), fun m => (State.logCore_core ..).trans (hcore m)⟩
  · rw [if_neg hbranch]
    simp only [if_neg hbranch]
    exact ⟨s, rfl, State.PartAndHubs.refl p s, fun _ => rfl⟩

/-! The decision (R112) -/

/-- What the sequencer does with a decision d and a list after promotion, pr: the oldest note of SVALID goes, a panic is taken, the
decision lands in the live cores, and flags set. -/
def State.decided (p : Fin 12) (k : Fin 64) (d : Decision) (pr : Vector (BitVec 16) 64 × Nat × Bool) (valid held : Bool) (s : State) : State :=
  let noted := s.modPart p fun q => { q with shadows := dropTake k q.shadows }
  let r := if d.panic then noted.panic p k valid else (noted, none)
  let landed := (s.part p).live.foldl (fun s l => s.modCore p l (Core.landDecision k d.slot pr.1 pr.2.1 d.panic (r.2.getD held))) r.1
  let limited := if d.limit then landed.setQntAll p 4 0x1604 else landed
  let full := if pr.2.2 then limited.setQntAll p 2 0x1603 else limited
  if d.panic then full.setQntAll p 3 0x1605 else full

/-- FBNEXT as a decision leaves it (R119, R120). -/
def Part.nextFallback (k : Fin 64) (panic valid held : Bool) (q : Part) : Bool :=
  (if panic then q.panicNext k valid else none).getD held

theorem Part.nextFallback_eq (k : Fin 64) (panic valid held : Bool) (q : Part) : q.nextFallback k panic valid held
    = ((panic && !(valid && decide (q.seqState ≠ 2))) || (!(panic && (q.fallbackOf k).isNone) && held)) := by
  unfold Part.nextFallback Part.panicNext
  cases panic with
  | false => rfl
  | true =>
    cases valid && decide (q.seqState ≠ 2) with
    | false => rfl
    | true => cases (q.fallbackOf k).isNone <;> rfl

/-- What is done before a decision lands changes no core, and says what FBNEXT becomes. -/
theorem State.panicIf_spec (k : Fin 64) (panic valid : Bool) (s : State) :
    let noted := s.modPart p fun q => { q with shadows := dropTake k q.shadows }
    ∃ u, (if panic then noted.panic p k valid else (noted, none)) = (u, if panic then (s.part p).panicNext k valid else none)
      ∧ State.PartAndHubs p s u ∧ ∀ m, u.core p m = s.core p m := by
  intro noted
  have hpart : State.PartAndHubs p s noted := State.PartAndHubs.of_modPart ..
  have hcore : ∀ m, noted.core p m = s.core p m := State.modPart_core rfl
  cases panic with
  | false => exact ⟨noted, rfl, hpart, hcore⟩
  | true =>
    obtain ⟨u, hu, hupart, hucore⟩ := noted.panic_spec (p := p) k valid
    have hnext : (noted.part p).panicNext k valid = (s.part p).panicNext k valid := by
      rw [State.part_modPart]
      rfl
    exact ⟨u, hu.trans (by rw [hnext]; rfl), hpart.trans hupart, fun m => (hucore m).trans (hcore m)⟩

/-- A decision lands alike in every live core; it changes no other core, and nothing beside the partition and the hubs. -/
theorem State.decided_spec (p : Fin 12) (k : Fin 64) (d : Decision) (pr : Vector (BitVec 16) 64 × Nat × Bool) (valid held : Bool) (s : State) :
    let t := s.decided p k d pr valid held
    State.PartAndHubs p s t
      ∧ (∀ m, m ∈ (s.part p).live → ∃ b, t.core p m = { Core.landDecision k d.slot pr.1 pr.2.1 d.panic
          ((s.part p).nextFallback k d.panic valid held) (s.core p m) with qntFlags := b })
      ∧ ∀ m, m ∉ (s.part p).live → t.core p m = s.core p m := by
  intro t
  obtain ⟨u, hu, hupart, hucore⟩ := s.panicIf_spec (p := p) k d.panic valid
  let land := Core.landDecision k d.slot pr.1 pr.2.1 d.panic ((s.part p).nextFallback k d.panic valid held)
  let landed := (s.part p).live.foldl (fun s l => s.modCore p l land) u
  have hcore : ∀ m, landed.core p m = if m ∈ (s.part p).live then land (s.core p m) else s.core p m := fun m => by
    rw [State.core_foldl_modCore land (Part.live_nodup _), hucore]
  have hlive : (landed.part p).live = (s.part p).live := Part.live_congr fun m => by
    show (landed.core p m).fenced = (s.core p m).fenced
    rw [hcore]
    split <;> rfl
  have hflags : State.FlagsOnly p (s.part p).live landed t := by
    have h := (((State.FlagsOnly.refl p (s.part p).live landed).setQntAllIf hlive d.limit 4 0x1604).setQntAllIf hlive pr.2.2 2 0x1603).setQntAllIf
      hlive d.panic 3 0x1605
    unfold t State.decided
    simp only [hu]
    exact h
  obtain ⟨hpart, hflagged⟩ := hflags
  refine ⟨(hupart.trans (State.PartAndHubs.foldl_modCore ..)).trans hpart, fun m hm => ?_, fun m hm => ?_⟩
  · obtain ⟨⟨b, hb⟩, -⟩ := hflagged m
    exact ⟨b, by rw [hb, hcore, if_pos hm]⟩
  · obtain ⟨-, hother⟩ := hflagged m
    rw [hother hm, hcore, if_neg hm]

end

/-- Settles O13: a panic is taken before the decision lands and changes no core; flags are set after it and change nothing else. -/
theorem steerDecisionLands : Obligations.SteerDecisionLands := by
  unfold Obligations.SteerDecisionLands
  intro p k s ts l0 rest hts hlive htask habort c0 old sum tot d pr valid later fbnext
  obtain ⟨task, htask⟩ := Option.isSome_iff_exists.mp htask
  have hexec : exec (.steerDecision p k) s = .next (s.decided p k d pr valid (c0.slot k).fbnext) := by
    show execSteerDecision p k s = _
    unfold execSteerDecision State.decided
    simp only [hts, hlive, htask, habort]
    rfl
  obtain ⟨⟨hparts, hs⟩, hlanded, hother⟩ := s.decided_spec p k d pr valid (c0.slot k).fbnext
  rw [Part.nextFallback_eq] at hlanded
  refine ⟨_, hexec, fun m hm => ?_, hother, hparts, hs⟩
  obtain ⟨b, hb⟩ := hlanded m hm
  rw [hb]

end Sys2Proof.Machine
end

section
/-! O10: QUANT runs its lanes in order, writes its stripe record, and counts conversions (R53, R103, R105, R108, R117). -/

namespace Sys2Proof.Machine

/-! The quantiser leaves the engine queues of its core -/

theorem foldl_keeps {α β γ : Type} {f : α → β → α} {φ : α → γ} (h : ∀ a b, φ (f a b) = φ a) (bs : List β) (a : α) :
    φ (bs.foldl f a) = φ a := by
  induction bs generalizing a with
  | nil => rfl
  | cons b bs ih => exact (ih (f a b)).trans (h a b)

section
variable (w : Slot) (reRun : Bool) (c : Core)

@[simp] theorem Core.setSet_eng (n : Nat) (e : CSet) : (c.setSet n e).eng = c.eng := rfl
@[simp] theorem Core.setSlot_eng (k : Nat) (e : Steer) : (c.setSlot k e).eng = c.eng := rfl
@[simp] theorem Core.putElem_eng (slot n e x : Nat) : (c.putElem slot n e x).eng = c.eng := rfl
@[simp] theorem Core.putCode_eng (q code : Nat) : (c.putCode w q code).eng = c.eng := rfl

@[simp] theorem Core.quantLane_eng (z : QLane) : (c.quantLane w reRun z).1.eng = c.eng := by
  simp only [Core.quantLane, apply_ite Prod.fst, apply_ite Core.eng, Core.setSlot_eng, Core.setSet_eng, Core.putElem_eng, Core.putCode_eng, ite_self]

theorem Core.quantLanes_eng (zs : List QLane) : (Core.quantLanes w reRun zs c).1.eng = c.eng := by
  induction zs generalizing c with
  | nil => rfl
  | cons z zs ih => exact (ih _).trans (Core.quantLane_eng w reRun c z)

theorem Core.quantStripe_eng (zs : List QLane) : (c.quantStripe w zs).1.eng = c.eng := by
  unfold Core.quantStripe
  split <;>
  · refine foldl_keeps (φ := fun a : Core × ConvFx => a.1.eng) (fun a _ => ?_) _ (c, .none)
    refine foldl_keeps (φ := fun a : Core × ConvFx => a.1.eng) (fun _ _ => ?_) _ a
    rfl

theorem Core.quantValid_eng : (c.quantValid w).eng = c.eng := by
  refine foldl_keeps (φ := Core.eng) (fun c k => ?_) _ c
  dsimp only
  split <;> rfl

/-- A core after the lanes, the stripe record and the shadow's note of a QUANT. -/
def Core.quanted (zs : List QLane) : Core :=
  let r := Core.quantLanes w reRun zs c
  let coded := if bit w 54 then (r.1.quantStripe w zs).1 else r.1
  if reRun then coded else coded.quantValid w

/-- The conversions of a QUANT (R53): those of its shadow, and those of its stripe record. -/
def Core.quantFx (zs : List QLane) : ConvFx :=
  (Core.quantLanes w reRun zs c).2.2.and (if bit w 54 then (c.quantStripe w zs).2 else .none)

theorem Core.quanted_eng (zs : List QLane) : (c.quanted w reRun zs).eng = c.eng := by
  have hlanes := Core.quantLanes_eng w reRun c zs
  have hcoded : (if bit w 54 then ((Core.quantLanes w reRun zs c).1.quantStripe w zs).1 else (Core.quantLanes w reRun zs c).1).eng = c.eng := by
    split
    · exact (Core.quantStripe_eng ..).trans hlanes
    · exact hlanes
  unfold Core.quanted
  cases reRun
  · exact (Core.quantValid_eng ..).trans hcoded
  · exact hcoded

end

/-! The effects of an issued QUANT -/

section
variable {p : Fin 12} {l : Fin 32} {x : Duet} {s : State} {w : Slot}

/-- The head line of D leaves when the instruction names it (R133). -/
def Core.popD (w : Slot) (c : Core) : Core := if namesD w = 0 then c else Core.refill 16 { c with drainQ := c.drainQ.drop 1 }

theorem Core.popD_eng (w : Slot) (c : Core) : (c.popD w).eng = c.eng := by
  unfold Core.popD
  split
  · rfl
  · exact Core.refill_eng ..

theorem State.popD_spec (p : Fin 12) (l : Fin 32) (w : Slot) (s : State) : State.CoreAndHubs p l (Core.popD w) s (s.popD p l w) := by
  unfold State.popD Core.popD
  split
  · exact State.CoreAndHubs.rfl' p l s
  · exact State.CoreAndHubs.of_modCore _

@[simp] theorem Core.convFlags_eng (fx : ConvFx) (c : Core) : (Core.convFlags fx c).eng = c.eng := by rw [Core.convFlags_eq]
@[simp] theorem Core.convFlags_qntFlags (fx : ConvFx) (c : Core) : (Core.convFlags fx c).qntFlags = c.qntFlags := by rw [Core.convFlags_eq]

/-- CNT_SAT, when a counter held (R105). -/
def Core.cntSat (on : Bool) (c : Core) : Core := { c with qntFlags := if on then c.qntFlags ||| 2 else c.qntFlags }

theorem State.cntSatIf_spec (p : Fin 12) (l : Fin 32) (on : Bool) (s : State) :
    State.CoreAndHubs p l (Core.cntSat on) s (if on then s.cntSat p l else s) := by
  cases on
  · exact State.CoreAndHubs.rfl' p l s
  · exact State.setQnt_spec p l 1 0x1602 s

/-- A QUANT none of whose lanes is outside its slot: lanes, conversions, CNT_SAT, then D (R53, R103, R105, R133). -/
theorem State.quantRun_spec (hin : ∀ z ∈ quantZs (s.core p l) x w, z.chan < ((s.core p l).slot z.k).setCount.toNat) :
    let reRun := decide ((s.part p).rerun ≠ 0)
    let zs := quantZs (s.core p l) x w
    State.CoreAndHubs p l (fun c => (Core.cntSat (Core.quantLanes w reRun zs c).2.1
      (Core.convFlags (c.quantFx w reRun zs) (c.quanted w reRun zs))).popD w) s (s.quantRun p l x w s) := by
  intro reRun zs
  let converted := s.modCore p l fun _ => (s.core p l).quanted w reRun zs
  let fx := (s.core p l).quantFx w reRun zs
  have hrun : s.quantRun p l x w s = State.popD p l w (
      if (Core.quantLanes w reRun zs (s.core p l)).2.1 then (converted.convVec p l fx).cntSat p l else converted.convVec p l fx) := by
    unfold State.quantRun
    rw [if_neg (by simpa using hin)]
    simp only [apply_ite Prod.snd]
    rfl
  rw [hrun]
  have hlanes := State.CoreAndHubs.of_modCore (p := p) (l := l) (s := s) fun _ => (s.core p l).quanted w reRun zs
  have hconv := hlanes.trans (State.convCount_spec p l 0x1302 0x1303 fx converted)
  have hheld := hconv.trans (State.cntSatIf_spec p l (Core.quantLanes w reRun zs (s.core p l)).2.1 _)
  exact (hheld.trans (State.popD_spec p l w _)).congr rfl

/-- `State.issue_coreAndHubs` for an instruction whose reads and writes are of different state. -/
theorem State.issueBy_coreAndHubs {e : Engine} {en : Entry} {code : Code} {want : Slot → Bool} {run : Entry → State → State → Issued}
    {g : Core → Core} {o : Out} {t : State} (ho : o = .next (s.issueBy p l e x .clean code want run)) (hr : s.ready p l e x = some en)
    (hw : want en.word = true) (hf : run en s s = .done t) (ht : State.CoreAndHubs p l g s t)
    (hg : ((g (s.core p l)).ctx e x).head = ((s.core p l).ctx e x).head) :
    ∃ u tm, o = .next u ∧ State.CoreAndHubs p l (fun c => Core.issued e x s.now en tm (g c)) s u := by
  have ht' : t = { s.modCore p l g with hubs := t.hubs, free := s.free } := ht
  obtain ⟨tm, h⟩ := State.issueBy_done (code := code) hr hw (hf.trans (congrArg Issued.done ht'))
  exact ⟨_, tm, ho.trans (congrArg _ (h.trans (State.issue_end hr hg))), rfl⟩

end

/-- Settles O10: the run's effects come one after another, and none of them touches the queues that the issue then moves on. -/
theorem quantOfLanes : Obligations.QuantOfLanes := by
  unfold Obligations.QuantOfLanes
  intro p l x s en hr hop c zs reRun r coded c' fx hin
  have heng : (Core.popD en.word (Core.cntSat r.2.1 (Core.convFlags fx c'))).eng = c.eng :=
    (Core.popD_eng ..).trans ((Core.convFlags_eng fx c').trans (Core.quanted_eng en.word reRun c zs))
  have hexec : exec (.quant p l x .clean) s = .next (s.issueBy p l .vector x .clean 0xF301 (fun w => slotOp w == 0x60)
    fun en src s => .done (s.quantRun p l x en.word src)) := rfl
  obtain ⟨t, tm, ht, hcore⟩ := State.issueBy_coreAndHubs hexec hr (beq_iff_eq.mpr hop) rfl (State.quantRun_spec hin)
    (congrArg EngCtx.head (Core.ctx_of_eng heng))
  refine ⟨t, tm, ht, hcore.congr ?_⟩
  show Core.vecIssued x s.now en tm (Core.cntSat r.2.1 (Core.convFlags fx c')) = _
  rw [Core.cntSat, Core.convFlags_qntFlags]

end Sys2Proof.Machine
end

section
/-! What the vector instructions share: the issue of an instruction that changes its own core and pops D when it names it (R133,
R207), and the write of a line whose active lanes take results (R129). -/

namespace Sys2Proof.Machine

theorem fld_lt {n : Nat} (v : BitVec n) (lo w : Nat) : fld v lo w < 2 ^ w := Nat.mod_lt _ (Nat.two_pow_pos w)

theorem vDst_lt (w : Slot) : vDst w < 64 := fld_lt w 11 6

theorem vDst_mod (w : Slot) : vDst w % 64 = vDst w := Nat.mod_eq_of_lt (vDst_lt w)

/-- Slot n of the operand cache is line n of its vector. -/
theorem Core.v_of_lt (c : Core) {n : Nat} (h : n < 64) : c.v n = vget Line.zero c.ocache n := by
  rw [Core.v, Nat.mod_eq_of_lt h]

/-! The issue -/

section
variable {p : Fin 12} {l : Fin 32} {x : Duet} {s u : State} {en : Entry} {op : Nat} {run : Entry → State → State → Issued} {g : Core → Core}

theorem State.popD_eq (p : Fin 12) (l : Fin 32) (w : Slot) (s : State) : s.popD p l w = s.modCore p l (Core.popD w) := by
  unfold State.popD Core.popD
  split
  · exact (State.modCore_id p l s).symm
  · rfl

/-- A vector instruction whose run changes its core by g, with entries and events at hubs, then takes the head of D when it names
it, and leaves n draws made. -/
theorem State.vecIssue_of_run {n : Nat} (hr : s.ready p l .vector x = some en) (hop : slotOp en.word = op)
    (hu : State.CoreAndHubs p l g s u) (hg : (g (s.core p l)).eng = (s.core p l).eng)
    (hf : run en s s = .done { u.popD p l en.word with free := n }) :
    ∃ tm, s.vecIssue p l x .clean op run
      = { (s.modCore p l fun c => Core.vecIssued x s.now en tm (g c)) with hubs := u.hubs, free := n } := by
  have hpop : { u.popD p l en.word with free := n } = { s.modCore p l (fun c => (g c).popD en.word) with hubs := u.hubs, free := n } := by
    have hall : u.popD p l en.word = { s.modCore p l (fun c => (g c).popD en.word) with hubs := (u.popD p l en.word).hubs } :=
      hu.trans (State.popD_spec p l en.word u)
    have hhubs : (u.popD p l en.word).hubs = u.hubs := by rw [State.popD_eq, State.modCore_hubs]
    rw [hall, hhubs]
  have heng : ((g (s.core p l)).popD en.word).eng = (s.core p l).eng := (Core.popD_eng ..).trans hg
  obtain ⟨tm, h⟩ := State.issueBy_done (code := 0xF301) (want := fun w => slotOp w == op) hr (beq_iff_eq.mpr hop)
    (hf.trans (congrArg Issued.done hpop))
  exact ⟨tm, h.trans (State.issue_end hr (congrArg EngCtx.head (Core.ctx_of_eng heng)))⟩

/-- `State.vecIssue_of_run` for an instruction that takes a free value. -/
theorem State.vecIssue_drawn (hr : s.ready p l .vector x = some en) (hop : slotOp en.word = op)
    (hu : State.CoreAndHubs p l g s u) (hg : (g (s.core p l)).eng = (s.core p l).eng)
    (hf : run en s s = .done (u.popD p l en.word).drawn) :
    ∃ tm, s.vecIssue p l x .clean op run
      = { (s.modCore p l fun c => Core.vecIssued x s.now en tm (g c)).drawn with hubs := u.hubs } := by
  have hfree : (u.popD p l en.word).free = s.free := by
    rw [State.popD_eq]
    exact hu.free
  exact State.vecIssue_of_run (n := s.free + 1) hr hop hu hg (hf.trans (by rw [State.drawn, hfree]))

variable {i : Instr} (hi : exec i s = .next (s.vecIssue p l x .clean op run)) (hr : s.ready p l .vector x = some en)
  (hop : slotOp en.word = op)
include hi hr hop

/-- A vector instruction that takes a free value, with entries and events at hubs. -/
theorem exec_vecIssue_drawn (hu : State.CoreAndHubs p l g s u) (hg : (g (s.core p l)).eng = (s.core p l).eng)
    (hf : run en s s = .done (u.popD p l en.word).drawn) :
    ∃ t tm, exec i s = .next t ∧ State.CoreAndHubs p l (fun c => Core.vecIssued x s.now en tm (g c)) s.drawn t := by
  obtain ⟨tm, h⟩ := State.vecIssue_drawn hr hop hu hg hf
  exact ⟨_, tm, hi.trans (congrArg _ h), rfl⟩

/-- A vector instruction that takes a free value and changes nothing else but its core. -/
theorem exec_vecIssue_core (hg : (g (s.core p l)).eng = (s.core p l).eng)
    (hf : run en s s = .done ((s.modCore p l g).popD p l en.word).drawn) :
    ∃ tm, exec i s = .next (s.modCore p l fun c => Core.vecIssued x s.now en tm (g c)).drawn := by
  obtain ⟨tm, h⟩ := State.vecIssue_drawn (u := s.modCore p l g) hr hop (State.CoreAndHubs.of_modCore g) hg hf
  exact ⟨tm, hi.trans (congrArg _ h)⟩

/-- A vector instruction that changes nothing but its core. -/
theorem exec_vecIssue_modCore (hg : (g (s.core p l)).eng = (s.core p l).eng)
    (hf : run en s s = .done ((s.modCore p l g).popD p l en.word)) :
    ∃ tm, exec i s = .next (s.modCore p l fun c => Core.vecIssued x s.now en tm (g c)) := by
  have hpop : (s.modCore p l g).popD p l en.word = { (s.modCore p l g).popD p l en.word with free := s.free } := by
    rw [State.popD_eq]
    rfl
  obtain ⟨tm, h⟩ := State.vecIssue_of_run hr hop (State.CoreAndHubs.of_modCore g) hg (hf.trans (congrArg Issued.done hpop))
  exact ⟨tm, hi.trans (congrArg _ h)⟩

end

/-! Lines -/

section
variable {p : Fin 12} {l : Fin 32} {x : Duet} {s : State} {en : Entry} {w : Slot} {op : Nat} {i : Instr}

/-- The operand cache after a line destination takes v. -/
def Core.lineCache (w : Slot) (v : Line) (c : Core) : Vector Line 64 := vset c.ocache (vDst w) v

/-- Lane q of a slot after a line destination takes v: only slot VD changes. -/
theorem lane_lineCache {n : Nat} (w : Slot) (v : Line) (c : Core) (hn : n < 64) (q : Nat) :
    lane (vget Line.zero (c.lineCache w v) n) q = if n = vDst w then lane v q else lane (c.v n) q := by
  rw [Core.lineCache, vget_vset _ _ _ _ _ (vDst_lt w), Core.v_of_lt c hn]
  split <;> rfl

/-- A write of a line destination, as a change of its core. -/
theorem State.writeLine_eq (p : Fin 12) (l : Fin 32) (w : Slot) (v : Line) (s : State) :
    s.writeLine p l (vDst w) v = s.modCore p l fun c => { c with ocache := (s.core p l).lineCache w v } := by
  refine State.modCore_congr p l _ _ s ?_
  rw [vDst_mod]
  rfl

theorem lane_ofFn {f : Fin 128 → W32} {q : Nat} (h : q < 128) : lane (Vector.ofFn f) q = f ⟨q, h⟩ := by
  rw [lane, vget_of_lt _ _ _ h, Vector.getElem_ofFn]

theorem lane_mergeLanes {j : VIn} {f : VIn → Nat → LaneOut} {old : Line} {q : Nat} (h : q < 128) :
    lane (mergeLanes j f old) q = if active j.k j.w q then (f j q).bits else if zeroes j.k j.w then 0 else lane old q :=
  lane_ofFn h

/-- The operand cache after an instruction that writes its results to the active lanes of its line destination. -/
def State.mergedCache (p : Fin 12) (l : Fin 32) (x : Duet) (w : Slot) (f : VIn → Nat → LaneOut) (s : State) : Vector Line 64 :=
  (s.core p l).lineCache w (mergeLanes (s.vIn p l x w) f ((s.core p l).v (vDst w)))

/-- The block after such a write. -/
def State.merged (p : Fin 12) (l : Fin 32) (x : Duet) (w : Slot) (f : VIn → Nat → LaneOut) (s : State) : State :=
  s.modCore p l fun c => { c with ocache := s.mergedCache p l x w f }

/-- R129: active lanes take their results, the others follow policy. -/
theorem State.lineWritten_mergedCache (f : VIn → Nat → LaneOut) :
    lineWritten (s.core p l) x w (fun q => (f (s.vIn p l x w) q).bits) (s.mergedCache p l x w f) := by
  intro n hn q hq
  rw [State.mergedCache, lane_lineCache w _ _ hn, lane_mergeLanes hq]
  by_cases h : n = vDst w
  · subst h
    simp only [if_true, true_and]
    rfl
  · simp only [h, false_and, if_false]

@[simp] theorem Core.laneFlags_eng (outs : List LaneOut) (c : Core) : (Core.laneFlags outs c).eng = c.eng := by
  unfold Core.laneFlags Core.finfFlag
  split <;> exact Core.convFlags_eng ..

/-- The run of an instruction that writes a line, lane by lane. -/
theorem State.vecLine_run (f : VIn → Nat → LaneOut) : s.vecLine p l x f en s
    = .done (((s.merged p l x en.word f).laneEffects p l (activeOuts (s.vIn p l x en.word) f)).popD p l en.word).drawn := by
  rw [State.vecLine, State.writeLine_eq]
  rfl

/-- The write and the effects of its lanes, as a change of the core (R53, R151). -/
theorem State.laneRun_spec (f : VIn → Nat → LaneOut) : State.CoreAndHubs p l
    (fun c => Core.laneFlags (activeOuts (s.vIn p l x w) f) { c with ocache := s.mergedCache p l x w f }) s
    ((s.merged p l x w f).laneEffects p l (activeOuts (s.vIn p l x w) f)) :=
  (State.CoreAndHubs.of_modCore _).trans (State.laneEffects_spec p l _ _)

/-- An instruction whose lanes may count conversions and raise FINF (R53, R151). -/
theorem exec_vecLine (f : VIn → Nat → LaneOut) (hr : s.ready p l .vector x = some en) (hop : slotOp en.word = op)
    (hi : exec i s = .next (s.vecIssue p l x .clean op fun en src s => s.vecLine p l x f en src)) :
    ∃ t o tm, exec i s = .next t
      ∧ lineWritten (s.core p l) x en.word (fun q => (f (s.vIn p l x en.word) q).bits) o
      ∧ State.CoreAndHubs p l (fun c => Core.vecIssued x s.now en tm
          (Core.laneFlags (activeOuts (s.vIn p l x en.word) f) { c with ocache := o })) s.drawn t := by
  obtain ⟨t, tm, ht, hcore⟩ := exec_vecIssue_drawn hi hr hop (State.laneRun_spec f) (Core.laneFlags_eng ..) (State.vecLine_run f)
  exact ⟨t, _, tm, ht, State.lineWritten_mergedCache f, hcore⟩

/-! Lanes that raise nothing -/

/-- Results none of which converts or raises FINF. -/
def RaiseNothing (outs : List LaneOut) : Prop := outs.foldl (fun a o => a.and o.fx) ConvFx.none = .none ∧ (outs.any fun o => o.finf) = false

theorem raiseNothing_plain (j : VIn) (g : VIn → Nat → W32) : RaiseNothing (activeOuts j fun j q => plain (g j q)) :=
  ⟨List.foldl_map.trans (List.foldl_fixed' (fun _ => rfl) _), by simp [activeOuts, plain]⟩

theorem Core.laneFlags_of_raiseNothing {outs : List LaneOut} (h : RaiseNothing outs) (c : Core) : Core.laneFlags outs c = c := by
  obtain ⟨hfx, hfinf⟩ := h
  rw [Core.laneFlags, hfx, hfinf]
  rfl

theorem State.laneEffects_of_raiseNothing {outs : List LaneOut} (h : RaiseNothing outs) (s : State) : s.laneEffects p l outs = s := by
  obtain ⟨hfx, hfinf⟩ := h
  rw [State.laneEffects, hfx, hfinf]
  rfl

/-- An instruction whose lanes raise nothing. -/
theorem exec_vecLine_plain (g : VIn → Nat → W32) (hr : s.ready p l .vector x = some en) (hop : slotOp en.word = op)
    (hi : exec i s = .next (s.vecIssue p l x .clean op fun en src s => s.vecLine p l x (fun j q => plain (g j q)) en src)) :
    ∃ o tm, exec i s = .next (s.modCore p l fun c => Core.vecIssued x s.now en tm { c with ocache := o }).drawn
      ∧ lineWritten (s.core p l) x en.word (g (s.vIn p l x en.word)) o := by
  have hquiet := raiseNothing_plain (s.vIn p l x en.word) g
  have hrun : s.vecLine p l x (fun j q => plain (g j q)) en s
      = .done ((s.merged p l x en.word fun j q => plain (g j q)).popD p l en.word).drawn := by
    rw [State.vecLine_run, State.laneEffects_of_raiseNothing hquiet]
  obtain ⟨tm, h⟩ := exec_vecIssue_core (g := fun c => { c with ocache := s.mergedCache p l x en.word fun j q => plain (g j q) })
    hi hr hop rfl hrun
  exact ⟨_, tm, h, State.lineWritten_mergedCache fun j q => plain (g j q)⟩

end

end Sys2Proof.Machine
end

section
/-! O1 and O2: float arithmetic and the functions with a bound, lane by lane (R135, R136, R142). -/

namespace Sys2Proof.Machine

/-- Settles O1: every instruction of the list writes its line by `floatLane` of its own function. -/
theorem vectorFloatArithmetic : Obligations.VectorFloatArithmetic := by
  unfold Obligations.VectorFloatArithmetic
  intro p l x s en i op arity g hi hr hop
  refine exec_vecLine (floatLane arity g) hr hop ?_
  simp only [List.mem_cons, Prod.mk.injEq, List.not_mem_nil, or_false] at hi
  rcases hi with h | h | h | h | h | h | h | h | h <;> obtain ⟨rfl, rfl, rfl, rfl⟩ := h <;> rfl

/-- Settles O2: every instruction of the list writes its line by `boundLane` of its own function. -/
theorem vectorBoundedFunctions : Obligations.VectorBoundedFunctions := by
  unfold Obligations.VectorBoundedFunctions
  intro p l x s en i op arity g hi hr hop
  refine exec_vecLine (boundLane arity g) hr hop ?_
  simp only [List.mem_cons, Prod.mk.injEq, List.not_mem_nil, or_false] at hi
  rcases hi with h | h | h | h | h | h | h | h | h | h | h <;> obtain ⟨rfl, rfl, rfl, rfl⟩ := h <;> rfl

end Sys2Proof.Machine
end

section
/-! O3 and O4: integer and bitwise instructions, moves, slides and lanes from masks (R135). -/

namespace Sys2Proof.Machine

/-- Settles O3: every instruction of the list writes its line by `wordLane` of its own function. -/
theorem vectorIntegerAndBitwise : Obligations.VectorIntegerAndBitwise := by
  unfold Obligations.VectorIntegerAndBitwise
  intro p l x s en i op g hi hr hop
  refine exec_vecLine_plain (fun j q => g (lane j.a q) (lane j.b q)) hr hop ?_
  simp only [List.mem_cons, Prod.mk.injEq, List.not_mem_nil, or_false] at hi
  rcases hi with h | h | h | h | h | h | h | h | h | h | h | h <;> obtain ⟨rfl, rfl, rfl⟩ := h <;> rfl

/-- The lane of a slide that lane q takes (R135). -/
def slideWord (j : VIn) (q : Nat) : W32 :=
  let n : Int := (q : Int) + sext 8 (vAux j.w % 256)
  if 0 ≤ n ∧ n < 128 then lane j.a n.toNat else 0

/-- Settles O4: every instruction of the list writes its line by a function of its inputs that raises nothing. -/
theorem vectorMoves : Obligations.VectorMoves := by
  unfold Obligations.VectorMoves
  intro p l x s en i op f hi hr hop
  obtain ⟨g, hg, hexec⟩ : ∃ g : VIn → Nat → W32, g (s.vIn p l x en.word) = f
      ∧ exec i s = .next (s.vecIssue p l x .clean op fun en src s => s.vecLine p l x (fun j q => plain (g j q)) en src) := by
    simp only [List.mem_cons, Prod.mk.injEq, List.not_mem_nil, or_false] at hi
    rcases hi with ⟨rfl, rfl, rfl⟩ | ⟨rfl, rfl, rfl⟩ | ⟨rfl, rfl, rfl⟩ | ⟨rfl, rfl, rfl⟩ | ⟨rfl, rfl, rfl⟩ | ⟨rfl, rfl, rfl⟩
    · exact ⟨fun j q => if (maskOf j.k (vAux j.w % 8)).getLsbD q then lane j.a q else lane j.b q, rfl, rfl⟩
    · exact ⟨fun j q => lane j.a q, rfl, rfl⟩
    · exact ⟨fun j q => lane j.b q, rfl, rfl⟩
    · exact ⟨fun j q => BitVec.ofNat 32 q + vImm32 j.w, rfl, rfl⟩
    · exact ⟨slideWord, rfl, rfl⟩
    · exact ⟨fun j q => if (maskOf j.k (vMaskA j.w)).getLsbD q then 1 else 0, rfl, rfl⟩
  rw [← hg]
  exact exec_vecLine_plain g hr hop hexec

end Sys2Proof.Machine
end

section
/-! O5: comparisons and mask instructions write one mask register (R129, R131, R137). -/

namespace Sys2Proof.Machine

/-- The number whose bit q is P q, summed bit by bit. -/
def bitSum (P : Nat → Bool) (n : Nat) : Nat := ((List.range n).map fun q => if P q then 2 ^ q else 0).sum

theorem bitSum_succ (P : Nat → Bool) (n : Nat) : bitSum P (n + 1) = bitSum P n + (if P n then 2 ^ n else 0) := by
  simp [bitSum, List.range_succ]

theorem bitSum_lt (P : Nat → Bool) (n : Nat) : bitSum P n < 2 ^ n := by
  induction n with
  | zero => simp [bitSum]
  | succ n ih =>
    rw [bitSum_succ, Nat.pow_succ]
    split <;> omega

theorem testBit_bitSum (P : Nat → Bool) {n q : Nat} (h : q < n) : (bitSum P n).testBit q = P q := by
  induction n with
  | zero => omega
  | succ n ih =>
    rw [bitSum_succ]
    rcases Nat.lt_succ_iff_lt_or_eq.mp h with hq | rfl
    · split
      · rw [Nat.add_comm, Nat.testBit_two_pow_add_gt hq, ih hq]
      · exact ih hq
    · have hlow := Nat.testBit_lt_two_pow (bitSum_lt P q)
      split
      · next hP => rw [Nat.add_comm, Nat.testBit_two_pow_add_eq, hlow, hP, Bool.not_false]
      · next hP => rw [Nat.add_zero, hlow, Bool.eq_false_iff.mpr hP]

/-- A lane's bit of a mask destination. -/
theorem getLsbD_mergeMask (j : VIn) (f : VIn → Nat → Bool) (old : BitVec 128) {q : Nat} (h : q < 128) :
    (mergeMask j f old).getLsbD q = if active j.k j.w q then f j q else if zeroes j.k j.w then false else old.getLsbD q := by
  rw [mergeMask, BitVec.getLsbD_ofNat, decide_eq_true h, Bool.true_and]
  exact testBit_bitSum (fun q => if active j.k j.w q then f j q else if zeroes j.k j.w then false else old.getLsbD q) h

section
variable {p : Fin 12} {l : Fin 32} {x : Duet} {s : State} {en : Entry} {op : Nat} {i : Instr}

/-- A change of the vector state of a context matters only at the state that the context has. -/
theorem Core.modVec_congr {f g : VCtx → VCtx} {c : Core} (h : f (c.vec x) = g (c.vec x)) : c.modVec x f = c.modVec x g := by
  rw [Core.modVec, Core.modVec, h]

/-- The masks of a context after a mask destination is written. -/
def State.mergedMasks (p : Fin 12) (l : Fin 32) (x : Duet) (w : Slot) (f : VIn → Nat → Bool) (s : State) : Vector (BitVec 128) 8 :=
  let k := (s.core p l).vec x
  vset k.masks (vMaskD w) (mergeMask (s.vIn p l x w) f (maskOf k (vMaskD w)))

theorem getLsbD_mergedMasks {w : Slot} (f : VIn → Nat → Bool) {n q : Nat} (hq : q < 128) :
    (vget 0 (s.mergedMasks p l x w f) n).getLsbD q =
      if n = vMaskD w ∧ active ((s.core p l).vec x) w q = true then f (s.vIn p l x w) q
      else if n = vMaskD w ∧ zeroes ((s.core p l).vec x) w = true then false
      else (maskOf ((s.core p l).vec x) n).getLsbD q := by
  have hlt : vMaskD w < 8 := fld_lt w 11 3
  rw [State.mergedMasks, vget_vset _ _ _ _ _ hlt]
  by_cases h : n = vMaskD w
  · subst h
    simp only [if_true, true_and]
    exact getLsbD_mergeMask _ f _ hq
  · simp only [h, false_and, if_false]
    rfl

theorem State.vecMask_run (f : VIn → Nat → Bool) : s.vecMask p l x f en s
    = .done ((s.modCore p l fun c => c.modVec x fun k => { k with masks := s.mergedMasks p l x en.word f }).popD p l en.word).drawn := by
  have h := State.modCore_congr p l (fun c => c.modVec x fun k =>
      { k with masks := vset k.masks (vMaskD en.word) (mergeMask (s.vIn p l x en.word) f (maskOf k (vMaskD en.word))) })
    (fun c => c.modVec x fun k => { k with masks := s.mergedMasks p l x en.word f }) s (Core.modVec_congr rfl)
  rw [← h]
  rfl

/-- An instruction that writes a mask. -/
theorem exec_vecMask (f : VIn → Nat → Bool) (hr : s.ready p l .vector x = some en) (hop : slotOp en.word = op)
    (hi : exec i s = .next (s.vecIssue p l x .clean op fun en src s => s.vecMask p l x f en src)) :
    ∃ tm, exec i s = .next (s.modCore p l fun c => Core.vecIssued x s.now en tm
      (c.modVec x fun k => { k with masks := s.mergedMasks p l x en.word f })).drawn :=
  exec_vecIssue_core (g := fun c => c.modVec x fun k => { k with masks := s.mergedMasks p l x en.word f })
    hi hr hop rfl (State.vecMask_run f)

end

/-- Settles O5: every instruction of the list writes mask VD by its own function of its inputs. -/
theorem vectorMaskResults : Obligations.VectorMaskResults := by
  unfold Obligations.VectorMaskResults
  intro p l x s en i op f hi hr hop
  have hexec : exec i s = .next (s.vecIssue p l x .clean op fun en src s => s.vecMask p l x f en src) := by
    simp only [List.mem_cons, Prod.mk.injEq, List.not_mem_nil, or_false] at hi
    rcases hi with h | h | h | h | h | h | h | h | h | h | h | h | h <;> obtain ⟨rfl, rfl, rfl⟩ := h <;> rfl
  obtain ⟨tm, h⟩ := exec_vecMask f hr hop hexec
  exact ⟨_, tm, h, fun n _ q hq => getLsbD_mergedMasks f hq⟩

end Sys2Proof.Machine
end

section
/-! O6: VCVT into a line of 32-bit results, or into a part of a line (R53, R138). -/

namespace Sys2Proof.Machine

section
variable {p : Fin 12} {l : Fin 32} {x : Duet} {s : State} {en : Entry}

/-- A lane of a VCVT to a 32-bit format. -/
def cvtLane (j : VIn) (q : Nat) : LaneOut := { bits := BitVec.ofNat 32 (cvtElem j q).1, fx := (cvtElem j q).2, finf := false }

/-- The conversions of a VCVT (R53). -/
def cvtFx (j : VIn) : ConvFx := (activeList j.k j.w).foldl (fun a q => a.and (cvtElem j q).2) .none

/-- The lanes of a VCVT raise no FINF, and count its conversions. -/
theorem Core.laneFlags_cvtLane (j : VIn) (c : Core) : Core.laneFlags (activeOuts j cvtLane) c = Core.convFlags (cvtFx j) c := by
  have hfinf : (activeOuts j cvtLane).any (fun o => o.finf) = false := by simp [activeOuts, cvtLane]
  have hfx : (activeOuts j cvtLane).foldl (fun a o => a.and o.fx) ConvFx.none = cvtFx j := List.foldl_map
  rw [Core.laneFlags, hfinf, hfx]
  rfl

theorem exec_vcvt (p : Fin 12) (l : Fin 32) (x : Duet) (s : State) : exec (.vcvt p l x .clean) s
    = .next (s.vecIssue p l x .clean 0x2D fun en src s => s.vecConvert p l x en src) := rfl

theorem exec_vcvt_line (hr : s.ready p l .vector x = some en) (hop : slotOp en.word = 0x2D) (h32 : fmtBits (cvtForm en.word).2 = 32) :
    ∃ t o tm, exec (.vcvt p l x .clean) s = .next t
      ∧ lineWritten (s.core p l) x en.word (fun q => BitVec.ofNat 32 (cvtElem (s.vIn p l x en.word) q).1) o
      ∧ State.CoreAndHubs p l (fun c => Core.vecIssued x s.now en tm (Core.convFlags (cvtFx (s.vIn p l x en.word)) { c with ocache := o }))
          s.drawn t := by
  have hrun : s.vecConvert p l x en s = .done (((s.merged p l x en.word cvtLane).laneEffects p l
      (activeOuts (s.vIn p l x en.word) cvtLane)).popD p l en.word).drawn := by
    rw [State.vecConvert, if_pos h32]
    exact State.vecLine_run cvtLane
  obtain ⟨t, tm, ht, hcore⟩ := exec_vecIssue_drawn (exec_vcvt p l x s) hr hop (State.laneRun_spec cvtLane) (Core.laneFlags_eng ..) hrun
  exact ⟨t, _, tm, ht, State.lineWritten_mergedCache cvtLane, hcore.congr (by rw [Core.laneFlags_cvtLane])⟩

/-- The operand cache after a VCVT to a narrower format. -/
def State.partCache (p : Fin 12) (l : Fin 32) (x : Duet) (w : Slot) (s : State) : Vector Line 64 :=
  (s.core p l).lineCache w (cvtSlot (s.vIn p l x w) ((s.core p l).v (vDst w)))

theorem exec_vcvt_part (hr : s.ready p l .vector x = some en) (hop : slotOp en.word = 0x2D) (h32 : fmtBits (cvtForm en.word).2 ≠ 32) :
    ∃ t tm, exec (.vcvt p l x .clean) s = .next t
      ∧ State.CoreAndHubs p l (fun c => Core.vecIssued x s.now en tm
          (Core.convFlags (cvtFx (s.vIn p l x en.word)) { c with ocache := s.partCache p l x en.word })) s.drawn t := by
  have hcore : State.CoreAndHubs p l
      (fun c => Core.convFlags (cvtFx (s.vIn p l x en.word)) { c with ocache := s.partCache p l x en.word }) s
      ((s.modCore p l fun c => { c with ocache := s.partCache p l x en.word }).convVec p l (cvtFx (s.vIn p l x en.word))) :=
    (State.CoreAndHubs.of_modCore _).trans (State.convCount_spec p l 0x1302 0x1303 _ _)
  have hrun : s.vecConvert p l x en s = .done ((((s.modCore p l fun c => { c with ocache := s.partCache p l x en.word }).convVec p l
      (cvtFx (s.vIn p l x en.word))).popD p l en.word).drawn) := by
    simp only [State.vecConvert, if_neg h32, State.writeLine_eq]
    rfl
  exact exec_vecIssue_drawn (exec_vcvt p l x s) hr hop hcore (Core.convFlags_eng ..) hrun

end

/-- Settles O6: the target format decides between a line of lanes and a part of one. -/
theorem vectorConversions : Obligations.VectorConversions := by
  unfold Obligations.VectorConversions
  intro p l x s en hr hop j r a res
  by_cases h32 : fmtBits r.2 = 32
  · obtain ⟨t, o, tm, ht, hline, hcore⟩ := exec_vcvt_line hr hop h32
    exact ⟨t, o, tm, ht, fun _ => hline, fun hne => absurd h32 hne, hcore⟩
  · obtain ⟨t, tm, ht, hcore⟩ := exec_vcvt_part hr hop h32
    exact ⟨t, _, tm, ht, fun h => absurd h h32, fun _ => rfl, hcore⟩

end Sys2Proof.Machine
end

section
/-! O7: VCMPR and VEXPD (R139). -/

namespace Sys2Proof.Machine

section
variable {p : Fin 12} {l : Fin 32} {x : Duet} {s : State} {en : Entry}

/-- The number of active lanes at issue. -/
abbrev State.activeCount (p : Fin 12) (l : Fin 32) (x : Duet) (w : Slot) (s : State) : Nat := (activeList ((s.core p l).vec x) w).length

/-- A core after its line destinations and VCNT are written (R139). -/
def Core.counted (x : Duet) (o : Vector Line 64) (n : Nat) (c : Core) : Core :=
  ({ c with ocache := o } : Core).modVec x fun k => { k with vcnt := BitVec.ofNat 8 n }

/-- The active lanes of a, packed low; the rest by policy. -/
def packedLine (k : VCtx) (w : Slot) (a old : Line) : Line :=
  Vector.ofFn fun q : Fin 128 => match (activeList k w)[q.val]? with
    | some j => lane a j
    | none => if zeroes k w then 0 else lane old q.val

/-- The operand cache after a VCMPR. -/
def State.packedCache (p : Fin 12) (l : Fin 32) (x : Duet) (w : Slot) (s : State) : Vector Line 64 :=
  (s.core p l).lineCache w (packedLine ((s.core p l).vec x) w (srcA (s.core p l) w) ((s.core p l).v (vDst w)))

theorem lane_packedCache {w : Slot} {n q : Nat} (hn : n < 64) (hq : q < 128) : lane (vget Line.zero (s.packedCache p l x w) n) q =
    if n ≠ vDst w then lane ((s.core p l).v n) q
    else match (activeList ((s.core p l).vec x) w)[q]? with
      | some j => lane (srcA (s.core p l) w) j
      | none => if zeroes ((s.core p l).vec x) w then 0 else lane ((s.core p l).v n) q := by
  rw [State.packedCache, lane_lineCache w _ _ hn]
  by_cases h : n = vDst w
  · subst h
    rw [if_pos rfl, if_neg (not_not.mpr rfl), packedLine, lane_ofFn hq]
  · rw [if_neg h, if_pos h]

/-- The lane of a that a VEXPD writes to an active lane: as many active lanes stand below it. -/
def spreadLane (j : VIn) (q : Nat) : W32 := lane j.a ((activeList j.k j.w).filter fun n => decide (n < q)).length

theorem exec_vcmpr (hr : s.ready p l .vector x = some en) (hop : slotOp en.word = 0x3C) :
    ∃ tm, exec (.vcmpr p l x .clean) s = .next (s.modCore p l fun c => Core.vecIssued x s.now en tm
      (c.counted x (s.packedCache p l x en.word) (s.activeCount p l x en.word))).drawn := by
  have hrun : s.vecCompress p l x en s = .done ((s.modCore p l fun c =>
      c.counted x (s.packedCache p l x en.word) (s.activeCount p l x en.word)).popD p l en.word).drawn := by
    simp only [State.vecCompress, State.writeLine_eq, State.modCore_modCore]
    rfl
  exact exec_vecIssue_core (i := .vcmpr p l x .clean) (run := fun en src s => s.vecCompress p l x en src) rfl hr hop rfl hrun

theorem exec_vexpd (hr : s.ready p l .vector x = some en) (hop : slotOp en.word = 0x3D) :
    ∃ tm, exec (.vexpd p l x .clean) s = .next (s.modCore p l fun c => Core.vecIssued x s.now en tm
      (c.counted x (s.mergedCache p l x en.word fun j q => plain (spreadLane j q)) (s.activeCount p l x en.word))).drawn := by
  have hrun : s.vecExpand p l x en s = .done ((s.modCore p l fun c =>
      c.counted x (s.mergedCache p l x en.word fun j q => plain (spreadLane j q)) (s.activeCount p l x en.word)).popD p l en.word).drawn := by
    simp only [State.vecExpand, State.writeLine_eq, State.modCore_modCore]
    rfl
  exact exec_vecIssue_core (i := .vexpd p l x .clean) (run := fun en src s => s.vecExpand p l x en src) rfl hr hop rfl hrun

end

/-- Settles O7: both write one line and VCNT; lane q of a VCMPR is that of the q-th active lane, if there is one. -/
theorem compressAndExpand : Obligations.CompressAndExpand := by
  unfold Obligations.CompressAndExpand
  intro p l x s en hr c qs a
  refine ⟨fun hop => ?_, fun hop => ?_⟩
  · obtain ⟨tm, h⟩ := exec_vcmpr hr hop
    exact ⟨_, tm, h, fun n hn q hq => lane_packedCache hn hq⟩
  · obtain ⟨tm, h⟩ := exec_vexpd hr hop
    exact ⟨_, tm, h, State.lineWritten_mergedCache fun j q => plain (spreadLane j q)⟩

end Sys2Proof.Machine
end

section
/-! O8: scans and reductions (R140, R141, R151). -/

namespace Sys2Proof.Machine

section
variable {p : Fin 12} {l : Fin 32} {x : Duet} {s : State} {en : Entry} {op : Nat} {i : Instr}

/-- A scan's result at lane q (R140). -/
def scanWord (o : Comb) (j : VIn) (q : Nat) : W32 := (scanLane o j q).bits

/-- A line after a reduction (R141): the result, the active count and, for the index forms, the value. -/
def reducedLine (r : W32 × Option W32) (n : Nat) (old : Line) : Line :=
  let v := vset (vset old 0 r.1) 1 (BitVec.ofNat 32 n)
  match r.2 with
  | some t => vset v 2 t
  | none => v

theorem lane_reducedLine (r : W32 × Option W32) (n : Nat) (old : Line) (q : Nat) : lane (reducedLine r n old) q =
    if q = 0 then r.1 else if q = 1 then BitVec.ofNat 32 n else if q = 2 then r.2.getD (lane old 2) else lane old q := by
  obtain ⟨v, t⟩ := r
  have hfirst : lane (vset (vset old 0 v) 1 (BitVec.ofNat 32 n)) q
      = if q = 0 then v else if q = 1 then BitVec.ofNat 32 n else lane old q := by
    unfold lane
    rw [vget_vset _ _ _ _ _ (by decide), vget_vset _ _ _ _ _ (by decide)]
    split
    · next h => rw [h, if_neg (by decide)]
    · rfl
  cases t with
  | none =>
    refine hfirst.trans ?_
    by_cases h2 : q = 2
    · subst h2
      rfl
    · rw [if_neg h2]
  | some t =>
    have hvalue : lane (vset (vset (vset old 0 v) 1 (BitVec.ofNat 32 n)) 2 t) q
        = if q = 2 then t else lane (vset (vset old 0 v) 1 (BitVec.ofNat 32 n)) q := vget_vset _ _ _ _ _ (by decide)
    refine hvalue.trans ?_
    rw [hfirst]
    by_cases h2 : q = 2
    · subst h2
      rfl
    · rw [if_neg h2, if_neg h2]

/-- The result of a reduction. -/
abbrev State.reduced (p : Fin 12) (l : Fin 32) (x : Duet) (w : Slot) (res : VIn → List Nat → W32 × Option W32) (s : State) : W32 × Option W32 :=
  res (s.vIn p l x w) (activeList ((s.core p l).vec x) w)

/-- The operand cache after a reduction. -/
def State.reducedCache (p : Fin 12) (l : Fin 32) (x : Duet) (w : Slot) (res : VIn → List Nat → W32 × Option W32) (s : State) : Vector Line 64 :=
  (s.core p l).lineCache w (reducedLine (s.reduced p l x w res) (s.activeCount p l x w) ((s.core p l).v (vDst w)))

/-- A core after a reduction: with no active lane EMPTY is set (R151). -/
def Core.reducedTo (o : Vector Line 64) (empty : Bool) (c : Core) : Core :=
  { c with ocache := o, vecFlags := if empty then c.vecFlags ||| 1 else c.vecFlags }

theorem lane_reducedCache {w : Slot} {res : VIn → List Nat → W32 × Option W32} {n q : Nat} (hn : n < 64) :
    lane (vget Line.zero (s.reducedCache p l x w res) n) q =
      if n ≠ vDst w then lane ((s.core p l).v n) q
      else if q = 0 then (s.reduced p l x w res).1
      else if q = 1 then BitVec.ofNat 32 (s.activeCount p l x w)
      else if q = 2 then (s.reduced p l x w res).2.getD (lane ((s.core p l).v n) 2)
      else lane ((s.core p l).v n) q := by
  rw [State.reducedCache, lane_lineCache w _ _ hn]
  by_cases h : n = vDst w
  · subst h
    rw [if_pos rfl, if_neg (not_not.mpr rfl), lane_reducedLine]
  · rw [if_neg h, if_pos h]

theorem State.emptyIf_eq (p : Fin 12) (l : Fin 32) (b : Bool) (s : State) : (if b then s.setEmpty p l else s)
    = s.modCore p l fun c => { c with vecFlags := if b then c.vecFlags ||| 1 else c.vecFlags } := by
  cases b
  · exact (State.modCore_id p l s).symm
  · rfl

theorem State.vecReduce_run (res : VIn → List Nat → W32 × Option W32) : s.vecReduce p l x res en s
    = .done ((s.modCore p l (Core.reducedTo (s.reducedCache p l x en.word res) (activeList ((s.core p l).vec x) en.word).isEmpty)).popD
        p l en.word).drawn := by
  simp only [State.vecReduce, State.writeLine_eq, State.emptyIf_eq, State.modCore_modCore]
  rfl

theorem exec_vecReduce (res : VIn → List Nat → W32 × Option W32) (hr : s.ready p l .vector x = some en) (hop : slotOp en.word = op)
    (hi : exec i s = .next (s.vecIssue p l x .clean op fun en src s => s.vecReduce p l x res en src)) :
    ∃ tm, exec i s = .next (s.modCore p l fun c => Core.vecIssued x s.now en tm
      (c.reducedTo (s.reducedCache p l x en.word res) (activeList ((s.core p l).vec x) en.word).isEmpty)).drawn :=
  exec_vecIssue_core hi hr hop rfl (State.vecReduce_run res)

end

/-- Settles O8: a scan writes its line lane by lane; a reduction writes lanes 0, 1 and 2 of one line, and may set EMPTY. -/
theorem vectorScansAndReductions : Obligations.VectorScansAndReductions := by
  unfold Obligations.VectorScansAndReductions
  refine ⟨fun p l x s en i op o hi hr hop => ?_, fun p l x s en i op res hi hr hop => ?_⟩
  · refine exec_vecLine_plain (scanWord o) hr hop ?_
    simp only [List.mem_cons, Prod.mk.injEq, List.not_mem_nil, or_false] at hi
    rcases hi with h | h | h <;> obtain ⟨rfl, rfl, rfl⟩ := h <;> rfl
  · have hexec : exec i s = .next (s.vecIssue p l x .clean op fun en src s => s.vecReduce p l x res en src) := by
      simp only [List.mem_cons, Prod.mk.injEq, List.not_mem_nil, or_false] at hi
      rcases hi with h | h | h | h | h | h | h | h <;> obtain ⟨rfl, rfl, rfl⟩ := h <;> rfl
    obtain ⟨tm, h⟩ := exec_vecReduce res hr hop hexec
    exact ⟨_, tm, h, fun n hn q _ => lane_reducedCache hn⟩

end Sys2Proof.Machine
end

section
/-! O9: VMPOL and SETVL change the vector state of their context (R130, R131). -/

namespace Sys2Proof.Machine

section
variable {p : Fin 12} {l : Fin 32} {x : Duet} {s : State} {en : Entry} {op : Nat} {i : Instr}

/-- The vector state after a VMPOL (R131). -/
def polSet (w : Slot) (v : VCtx) : VCtx :=
  let m := BitVec.ofNat 8 (2 ^ vMaskD w)
  { v with pol := if vAux w % 2 = 1 then v.pol ||| m else v.pol &&& ~~~m }

/-- The vector state after a SETVL (R130). -/
def lengthSet (w : Slot) (k : EngCtx) (v : VCtx) : VCtx := { v with vl := BitVec.ofNat 8 (newVl w k v) }

theorem exec_vecState (f : VIn → EngCtx → VCtx → VCtx) (hr : s.ready p l .vector x = some en) (hop : slotOp en.word = op)
    (hi : exec i s = .next (s.vecIssue p l x .clean op fun en src s => s.vecState p l x f en src)) :
    ∃ tm, exec i s = .next (s.modCore p l fun c => Core.vecIssued x s.now en tm
      (c.modVec x (f (s.vIn p l x en.word) ((s.core p l).ctx .vector x)))) := by
  have hrun : s.vecState p l x f en s
      = .done ((s.modCore p l fun c => c.modVec x (f (s.vIn p l x en.word) ((s.core p l).ctx .vector x))).popD p l en.word) :=
    congrArg (fun t => Issued.done (State.popD p l en.word t)) (State.modCore_congr p l _ _ s rfl)
  exact exec_vecIssue_modCore hi hr hop rfl hrun

end

/-- Settles O9: each is a change of the vector state of its context. -/
theorem policyAndVectorLength : Obligations.PolicyAndVectorLength := by
  unfold Obligations.PolicyAndVectorLength
  intro p l x s en hr k m pol vl
  exact ⟨fun hop => exec_vecState (fun j _ => polSet j.w) hr hop rfl, fun hop => exec_vecState (fun j k => lengthSet j.w k) hr hop rfl⟩

end Sys2Proof.Machine
end

section
/-! O15: requests and responses of the custom-operation port, and its two time limits (R144 to R148, R362, R368, R370). -/

namespace Sys2Proof.Machine

section
variable {p : Fin 12} {l : Fin 32} {x : Duet} {s : State} {en : Entry}

/-! VCUST.S and VCUST.R -/

/-- A VCUST.S that has issued (R144, R145, R150). -/
def State.vcustSRun (p : Fin 12) (l : Fin 32) (x : Duet) (en : Entry) (src s : State) : Issued :=
  if (s.part p).copClaimed l = false then .done (s.abortCore p l 0x4303 0)
  else .done ((s.modCore p l fun c => { c with copOut := c.copOut ++ [copRequest s.now (src.vIn p l x en.word)] }).popD p l en.word)

theorem exec_vcustS (p : Fin 12) (l : Fin 32) (x : Duet) (s : State) : exec (.vcustS p l x .clean) s
    = .next (s.vecIssue p l x .clean 0x68 (State.vcustSRun p l x)) := rfl

theorem exec_vcustS_claimed (hr : s.ready p l .vector x = some en) (hop : slotOp en.word = 0x68) (hclaim : (s.part p).copClaimed l = true) :
    ∃ tm, exec (.vcustS p l x .clean) s = .next (s.modCore p l fun c => Core.vecIssued x s.now en tm
      { c with copOut := c.copOut ++ [copRequest s.now (s.vIn p l x en.word)] }) :=
  exec_vecIssue_modCore (g := fun c => { c with copOut := c.copOut ++ [copRequest s.now (s.vIn p l x en.word)] })
    (exec_vcustS p l x s) hr hop rfl (if_neg (by simp [hclaim]))

/-- The block after a VCUST.R has written its line and its response has left the queue (R145). -/
def State.responded (p : Fin 12) (l : Fin 32) (x : Duet) (w : Slot) (src s : State) : State :=
  let line := (s.core p l).copRsp.head?.getD Line.zero
  (s.writeLine p l (vDst w) (mergeLanes (src.vIn p l x w) (fun _ q => plain (lane line q)) ((s.core p l).v (vDst w)))).modCore p l
    fun c => { c with copRsp := c.copRsp.drop 1 }

theorem State.responded_eq {w : Slot} {r : Line} {rest : List Line} (hq : (s.core p l).copRsp = r :: rest) : State.responded p l x w s s
    = s.modCore p l fun c => { c with ocache := s.mergedCache p l x w (fun _ q => plain (lane r q)), copRsp := rest } := by
  rw [State.responded, State.writeLine_eq, State.modCore_modCore]
  refine State.modCore_congr p l _ _ s ?_
  rw [hq]
  rfl

/-- A VCUST.R that has issued (R145, R150). -/
def State.vcustRRun (p : Fin 12) (l : Fin 32) (x : Duet) (en : Entry) (src s : State) : Issued :=
  if (s.part p).copClaimed l = false then .done (s.abortCore p l 0x4303 0)
  else .done ((State.responded p l x en.word src s).popD p l en.word)

theorem exec_vcustR (p : Fin 12) (l : Fin 32) (x : Duet) (s : State) : exec (.vcustR p l x .clean) s
    = .next (s.vecIssue p l x .clean 0x69 (State.vcustRRun p l x)) := rfl

/-- A head that may issue waits for nothing (R230). -/
theorem State.ready_waits (hr : s.ready p l .vector x = some en) : (s.core p l).waits ((s.part p).copClaimed l) .vector x en = false := by
  unfold State.ready at hr
  simp only at hr
  split at hr
  · split at hr
    · split at hr
      · cases hr
      · next hw =>
        cases hr
        simp only [Bool.or_eq_true, not_or, Bool.not_eq_true] at hw
        exact hw.2
    · cases hr
  · cases hr

/-- A VCUST.R of a claimed port issues only when a response stands in its queue (R230). -/
theorem State.ready_copRsp (hr : s.ready p l .vector x = some en) (hop : slotOp en.word = 0x69) (hclaim : (s.part p).copClaimed l = true) :
    ∃ r rest, (s.core p l).copRsp = r :: rest := by
  have hwaits := State.ready_waits hr
  cases hq : (s.core p l).copRsp with
  | nil => simp [Core.waits, (State.ready_some hr).2.2, hop, hclaim, hq] at hwaits
  | cons r rest => exact ⟨r, rest, rfl⟩

theorem exec_vcustR_claimed {r : Line} {rest : List Line} (hr : s.ready p l .vector x = some en) (hop : slotOp en.word = 0x69)
    (hclaim : (s.part p).copClaimed l = true) (hq : (s.core p l).copRsp = r :: rest) :
    ∃ tm, exec (.vcustR p l x .clean) s = .next (s.modCore p l fun c => Core.vecIssued x s.now en tm
      { c with ocache := s.mergedCache p l x en.word (fun _ q => plain (lane r q)), copRsp := rest }) := by
  have hrun : State.vcustRRun p l x en s s = .done ((State.responded p l x en.word s s).popD p l en.word) := if_neg (by simp [hclaim])
  rw [State.responded_eq hq] at hrun
  exact exec_vecIssue_modCore (exec_vcustR p l x s) hr hop rfl hrun

/-! Beats of requests -/

theorem CopReq.beats_length (r : CopReq) (n : Nat) : (r.beats n).length = 1 + 4 * r.lines.length := by
  have h : ∀ vs : List Line, (vs.flatMap fun v => (List.range 4).map (dataBeat v)).length = 4 * vs.length := by
    intro vs
    simp [Nat.mul_comm]
  rw [CopReq.beats, List.length_cons, h, Nat.add_comm]

theorem Part.copReqVld_of_waiting {q : Part} {r : CopReq} {rest : List CopReq} (hheld : q.copHeld l = false)
    (hq : q.cores[l].copOut = r :: rest) : q.copReqVld l = true := by
  rw [Part.copReqVld, hheld, hq]
  rfl

section
variable {r : CopReq} {rest : List CopReq} {n : Nat} (hheld : (s.part p).copHeld l = false) (hclk : s.pclkRuns p l = true)
  (hq : (s.core p l).copOut = r :: rest)
include hheld hclk hq

theorem exec_copRequestAccepted_part (h : r.sent + n < 1 + 4 * r.lines.length) : exec (.copRequestAccepted p l n) s
    = .next (s.modCore p l fun c => { c with copOut := { r with sent := r.sent + n } :: rest }) := by
  show execCopRequestAccepted p l s n = _
  have hvld := Part.copReqVld_of_waiting hheld hq
  simp only [execCopRequestAccepted, hvld, hclk, hq, CopReq.beats_length, h, Bool.and_self, if_true]

theorem exec_copRequestAccepted_last (h : 1 + 4 * r.lines.length ≤ r.sent + n) : exec (.copRequestAccepted p l n) s
    = .next (s.modCore p l fun c => { c with
        copWait := c.copWait ++ [(r.tag, s.now)], copOut := rest.modifyHead fun r' => { r' with since := s.now } }) := by
  show execCopRequestAccepted p l s n = _
  have hvld := Part.copReqVld_of_waiting hheld hq
  simp only [execCopRequestAccepted, hvld, hclk, hq, CopReq.beats_length, if_neg (Nat.not_lt.mpr h), Bool.and_self, if_true]
  cases rest <;> rfl

end

/-- With PCLK stopped no beat transfers (R362). -/
theorem exec_cop_stopped {n : Nat} {hdr : BitVec 1024} {more : List (BitVec 1024)} (hclk : s.pclkRuns p l = false) :
    exec (.copRequestAccepted p l n) s = .next s ∧ exec (.copResponse p l hdr more) s = .next s := by
  refine ⟨?_, ?_⟩
  · show execCopRequestAccepted p l s n = _
    simp [execCopRequestAccepted, hclk]
  · show execCopResponse p l hdr more s = _
    simp [execCopResponse, hclk]

/-! Beats of a response -/

/-- A port that takes beats: it is not held, and its response queue has room. -/
def State.copTakes (s : State) (p : Fin 12) (l : Fin 32) : Prop := (s.part p).copHeld l = false ∧ (s.core p l).copRsp.length < 4

/-- The block while a response arrives whose header and data beats d have transferred, the requests of `rest` still waiting. -/
def State.copTaking (p : Fin 12) (l : Fin 32) (rest : List (BitVec 4 × W64)) (d : List (BitVec 1024)) (s : State) : State :=
  s.modCore p l fun c => { c with copWait := rest, copIn := some (false, d) }

theorem State.core_copTaking (rest : List (BitVec 4 × W64)) (d : List (BitVec 1024)) :
    (s.copTaking p l rest d).core p l = { s.core p l with copWait := rest, copIn := some (false, d) } := State.core_modCore ..

theorem State.copTakes.taking (h : s.copTakes p l) (rest : List (BitVec 4 × W64)) (d : List (BitVec 1024)) :
    (s.copTaking p l rest d).copTakes p l := by
  obtain ⟨hheld, hroom⟩ := h
  have hcore : ((s.copTaking p l rest d).part p).cores[l] = { s.core p l with copWait := rest, copIn := some (false, d) } :=
    State.core_copTaking rest d
  have hpart : (s.copTaking p l rest d).part p = { s.part p with cores := ((s.copTaking p l rest d).part p).cores } := by
    unfold State.copTaking State.modCore
    rw [State.part_modPart]
  refine ⟨?_, ?_⟩
  · rw [← hheld, Part.copHeld, hcore, hpart]
    rfl
  · rw [State.core_copTaking]
    exact hroom

theorem State.copTakes.ready (h : s.copTakes p l) : (s.part p).copRspRdy l = true := by
  obtain ⟨-, hroom⟩ := h
  rw [Part.copRspRdy, Bool.or_eq_true]
  exact .inr (decide_eq_true hroom)

/-- Between responses a beat is the header of one. -/
theorem State.copBeat_of_idle (h : s.copTakes p l) (hin : (s.core p l).copIn = none) (b : BitVec 1024) :
    s.copBeat p l b = s.copHeader p l b := by
  simp [State.copBeat, h.1, h.ready, hin]

/-- Within a response that is not dropped a beat carries data. -/
theorem State.copBeat_of_data {d : List (BitVec 1024)} (h : s.copTakes p l) (hin : (s.core p l).copIn = some (false, d)) (b : BitVec 1024) :
    s.copBeat p l b = s.modCore p l fun c =>
      if d.length < 3 then { c with copIn := some (false, d ++ [b]) }
      else { c with copIn := none, copRsp := c.copRsp ++ [beatLine (d ++ [b])] } := by
  by_cases hd : d.length < 3 <;> simp [State.copBeat, h.1, h.ready, hin, hd]

section
variable {tag : BitVec 4} {t0 : W64} {rest : List (BitVec 4 × W64)} {d : List (BitVec 1024)} {b : BitVec 1024} (h : s.copTakes p l)
include h

/-- A header with status 0 and the tag of the oldest request waiting. -/
theorem State.copBeat_header (hin : (s.core p l).copIn = none) (hwait : (s.core p l).copWait = (tag, t0) :: rest)
    (hstatus : fld b 0 8 = 0) (htag : fld b 8 4 = tag.toNat) : s.copBeat p l b = s.copTaking p l rest [] := by
  rw [State.copBeat_of_idle h hin]
  simp only [State.copHeader, hwait, hstatus, htag, ne_eq, not_true_eq_false, if_false]
  rfl

theorem State.copBeat_data (hd : d.length < 3) : (s.copTaking p l rest d).copBeat p l b = s.copTaking p l rest (d ++ [b]) := by
  rw [State.copBeat_of_data (h.taking rest d) (by rw [State.core_copTaking])]
  simp only [if_pos hd]
  exact State.modCore_modCore ..

/-- The last data beat puts the line in the response queue. -/
theorem State.copBeat_last (hd : d.length = 3) : (s.copTaking p l rest d).copBeat p l b
    = s.modCore p l fun c => { c with copWait := rest, copIn := none, copRsp := c.copRsp ++ [beatLine (d ++ [b])] } := by
  rw [State.copBeat_of_data (h.taking rest d) (by rw [State.core_copTaking])]
  simp only [if_neg (show ¬d.length < 3 by omega)]
  exact State.modCore_modCore ..

theorem exec_copResponse_whole {b0 b1 b2 b3 : BitVec 1024} (hclk : s.pclkRuns p l = true) (hin : (s.core p l).copIn = none)
    (hwait : (s.core p l).copWait = (tag, t0) :: rest) (hstatus : fld b 0 8 = 0) (htag : fld b 8 4 = tag.toNat) :
    exec (.copResponse p l b [b0, b1, b2, b3]) s = .next (s.modCore p l fun c =>
      { c with copWait := rest, copIn := none, copRsp := c.copRsp ++ [beatLine [b0, b1, b2, b3]] }) := by
  show execCopResponse p l b [b0, b1, b2, b3] s = _
  rw [execCopResponse, hclk]
  simp only [if_true, List.foldl_cons, List.foldl_nil]
  rw [State.copBeat_header h hin hwait hstatus htag, State.copBeat_data h (by decide : ([] : List (BitVec 1024)).length < 3),
    State.copBeat_data h (show ([] ++ [b0]).length < 3 by simp), State.copBeat_data h (show ([] ++ [b0] ++ [b1]).length < 3 by simp),
    State.copBeat_last h (show ([] ++ [b0] ++ [b1] ++ [b2]).length = 3 from rfl)]
  rfl

end

/-! The time limits -/

theorem exec_customOpTimeout_expired {tag : BitVec 4} {t0 : W64} {rest : List (BitVec 4 × W64)}
    (hwait : (s.core p l).copWait = (tag, t0) :: rest) (ht : copLimit ≤ (s.now - t0).toNat) :
    exec (.customOpTimeout p l) s = .next (s.abortCore p l 0x9301 0) := by
  show execCustomOpTimeout p l s = _
  simp only [execCustomOpTimeout, hwait, if_pos ht]

theorem exec_copRequestStall_expired {r : CopReq} {rest : List CopReq} (hheld : (s.part p).copHeld l = false)
    (hq : (s.core p l).copOut = r :: rest) (hsent : r.sent = 0) (ht : copLimit ≤ (s.now - r.since).toNat) :
    exec (.copRequestStall p l) s = .next (s.abortCore p l 0x9301 0) := by
  show execCopRequestStall p l s = _
  simp only [execCopRequestStall, hq]
  rw [if_pos ⟨Part.copReqVld_of_waiting hheld hq, hsent, ht⟩]

end

/-- Settles O15: each clause is one command of the port, run on a state that meets its conditions. -/
theorem customOperationPort : Obligations.CustomOperationPort := by
  unfold Obligations.CustomOperationPort
  intro p l x s en hdr b0 b1 b2 b3 n c
  refine ⟨exec_vcustS_claimed, fun hr hop hclaim => ?_, fun r rest hheld hclk hq => ?_, fun tag t0 rest hheld hclk hin hwait hroom => ?_,
    exec_cop_stopped, fun tag t0 rest => exec_customOpTimeout_expired, fun r rest => exec_copRequestStall_expired⟩
  · obtain ⟨r, rest, hq⟩ := State.ready_copRsp hr hop hclaim
    obtain ⟨tm, h⟩ := exec_vcustR_claimed hr hop hclaim hq
    exact ⟨_, r, rest, tm, hq, h, State.lineWritten_mergedCache fun _ q => plain (lane r q)⟩
  · exact ⟨exec_copRequestAccepted_part hheld hclk hq, exec_copRequestAccepted_last hheld hclk hq⟩
  · exact exec_copResponse_whole ⟨hheld, hroom⟩ hclk hin hwait

end Sys2Proof.Machine
end

section
/-! O27: waits at the head of a unit, and the watchdog that times them (R164, R219, R220, R233, R247, R249 to R251, R261, R454). -/

namespace Sys2Proof.Machine

/-! The WAIT_SUB requests of a semaphore memory (R250) -/

theorem State.modPart_modPart (p : Fin 12) (f g : Part → Part) (s : State) :
    (s.modPart p f).modPart p g = s.modPart p fun q => g (f q) := by
  simp [State.modPart]

theorem State.modHub_modHub (h : Fin 4) (f g : Hub → Hub) (s : State) :
    (s.modHub h f).modHub h g = s.modHub h fun b => g (f b) := by
  simp [State.modHub]

section
variable (sp : SemSpace) (l l' : List SubReq) (s : State)

@[simp] theorem State.subs_setSubs : (s.setSubs sp l).subs sp = l := by
  cases sp with
  | part p => simp [State.setSubs, State.subs]
  | hub h => simp [State.setSubs, State.subs]

@[simp] theorem State.setSubs_setSubs : (s.setSubs sp l).setSubs sp l' = s.setSubs sp l' := by
  cases sp with
  | part p => simp only [State.setSubs, State.modPart_modPart]
  | hub h => simp only [State.setSubs, State.modHub_modHub]

@[simp] theorem State.word_setSubs (ctr : Bool) (i : Nat) : (s.setSubs sp l).word sp ctr i = s.word sp ctr i := by
  cases sp with
  | part p => cases ctr <;> simp [State.setSubs, State.word]
  | hub h => cases ctr <;> simp [State.setSubs, State.word]

end

section
variable {u : WaitUnit} {s : State} {i : WaitInfo}

/-! What the wait at the head of a unit that runs does -/

section
variable {op : Nat} {test : SemSpace → WaitInfo → State → State} (hr : s.unitRuns u = true) (hi : s.headWait u = some i) (hop : i.op = op)
include hr hi hop

/-- WAIT_GE 0 and WAIT_SUB 0 are consumed at once (R249). -/
theorem State.waitOp_zero (h5 : op ≠ 5) (hv : i.value = 0) : s.waitOp u op test = s.consume u := by
  simp only [State.waitOp, hr, hi, if_true]
  rw [if_neg (not_not.mpr hop), if_pos ⟨h5, hv⟩]

/-- A wait on a word that its tenant may use is decided by the word (R247, R249). -/
theorem State.waitOp_word (hs : i.space ≠ 2)
    (hown : s.mayUse (waitPlace (unitPart u) i) (decide (op = 5)) i.idx (s.part (unitPart u)).tenant = true)
    (hv : op = 5 ∨ (0 < i.value ∧ i.value ≤ 65535)) : s.waitOp u op test = test (waitPlace (unitPart u) i) i s := by
  simp only [State.waitOp, hr, hi, if_true]
  rw [if_neg (not_not.mpr hop), if_neg (by omega), if_neg hs, if_neg (by simp [hown]), if_neg (by omega)]

end

/-- A wait on an arrival counter is decided by that counter of its own core (R164, R219). -/
theorem State.waitOp_arrival {test : SemSpace → WaitInfo → State → State} (hr : s.unitRuns u = true) (hi : s.headWait u = some i)
    (hop : i.op = 5) (hs : i.space = 2) : s.waitOp u 5 test
      = if (s.unitArr u i.idx - BitVec.ofNat 32 i.value).toNat < 2 ^ 31 then s.consume u else s := by
  simp only [State.waitOp, hr, hi, if_true]
  rw [if_neg (not_not.mpr hop), if_neg (by simp), if_pos hs]
  simp [reached]

/-! The three commands -/

theorem exec_waitGe (u : WaitUnit) (s : State) : exec (.waitGe u) s
    = .next (s.waitOp u 0 fun sp i s => if i.value ≤ semCount (s.word sp false i.idx) then s.consume u else s) := rfl

theorem exec_waitReach (u : WaitUnit) (s : State) : exec (.waitReach u) s
    = .next (s.waitOp u 5 fun sp i s => if reached (s.word sp true i.idx) (BitVec.ofNat 32 i.value) then s.consume u else s) := rfl

/-- A WAIT_SUB that no other operation meets (R253). -/
theorem exec_waitSub_alone (u : WaitUnit) (s : State) : exec (.waitSub u []) s = .next (s.subOp u) := rfl

section
variable (hr : s.unitRuns u = true) (hi : s.headWait u = some i)
include hr hi

theorem exec_waitGe_word (hop : i.op = 0) (hv : 0 < i.value) (hmax : i.value ≤ 65535) (hs : i.space ≠ 2)
    (hown : s.mayUse (waitPlace (unitPart u) i) false i.idx (s.part (unitPart u)).tenant = true) :
    exec (.waitGe u) s = .next (if i.value ≤ semCount (s.word (waitPlace (unitPart u) i) false i.idx) then s.consume u else s) := by
  rw [exec_waitGe, State.waitOp_word hr hi hop hs hown (.inr ⟨hv, hmax⟩)]

theorem exec_waitReach_word (hop : i.op = 5) (hs : i.space ≠ 2)
    (hown : s.mayUse (waitPlace (unitPart u) i) true i.idx (s.part (unitPart u)).tenant = true) :
    exec (.waitReach u) s = .next
      (if (s.word (waitPlace (unitPart u) i) true i.idx - BitVec.ofNat 32 i.value).toNat < 2 ^ 31 then s.consume u else s) := by
  rw [exec_waitReach, State.waitOp_word hr hi hop hs hown (.inl rfl)]
  simp [reached]

section
variable (hop : i.op = 3) (hv : 0 < i.value) (hmax : i.value ≤ 65535) (hs : i.space ≠ 2)
  (hown : s.mayUse (waitPlace (unitPart u) i) false i.idx (s.part (unitPart u)).tenant = true)
include hop hv hmax hs hown

/-- A request that comes to a semaphore on which nobody waits, and finds COUNT at least its amount, is granted (R250). -/
theorem exec_waitSub_granted (hnone : ∀ r ∈ s.subs (waitPlace (unitPart u) i), r.idx ≠ i.idx ∧ r.who ≠ u)
    (hroom : (s.subs (waitPlace (unitPart u) i)).length < subRoom (waitPlace (unitPart u) i))
    (hcount : i.value ≤ semCount (s.word (waitPlace (unitPart u) i) false i.idx)) :
    exec (.waitSub u []) s = .next (((s.setSubs (waitPlace (unitPart u) i) (s.subs (waitPlace (unitPart u) i))).putWord
      (waitPlace (unitPart u) i) false i.idx
      (s.word (waitPlace (unitPart u) i) false i.idx - BitVec.ofNat 32 i.value)).consume u) := by
  rw [exec_waitSub_alone, State.subOp, State.waitOp_word hr hi hop hs hown (.inr ⟨hv, hmax⟩)]
  generalize waitPlace (unitPart u) i = sp at *
  have hjoins : s.subRequest u sp i = s.setSubs sp (s.subs sp ++ [{ who := u, idx := i.idx, n := i.value }]) := by
    refine if_neg (not_or.mpr ⟨?_, Nat.not_le.mpr hroom⟩)
    simpa using fun r hm => (hnone r hm).2
  have hfirst : (s.subs sp).find? (fun r => r.idx == i.idx) = none := by simpa using fun r hm => (hnone r hm).1
  have hothers : (s.subs sp).filter (fun r => decide (r.who ≠ u)) = s.subs sp := by
    simpa using fun r hm => (hnone r hm).2
  simp only [hjoins, State.subs_setSubs, State.word_setSubs, State.setSubs_setSubs, List.find?_append, hfirst, List.filter_append, hothers]
  simp [hcount]

/-- A request that waits behind another unit's changes nothing (R250). -/
theorem exec_waitSub_behind {r : SubReq} {rest : List SubReq}
    (hfirst : (s.subs (waitPlace (unitPart u) i)).filter (fun r => r.idx == i.idx) = r :: rest) (hother : r.who ≠ u)
    (hqueued : (s.subs (waitPlace (unitPart u) i)).any (fun r => decide (r.who = u)) = true) : exec (.waitSub u []) s = .next s := by
  rw [exec_waitSub_alone, State.subOp, State.waitOp_word hr hi hop hs hown (.inr ⟨hv, hmax⟩)]
  generalize waitPlace (unitPart u) i = sp at *
  have hwaits : s.subRequest u sp i = s := if_pos (.inl hqueued)
  have hhead : (s.subs sp).find? (fun r => r.idx == i.idx) = some r := by rw [← List.head?_filter, hfirst]; rfl
  simp only [hwaits, hhead]
  rw [if_neg fun h => hother h.1]

end

end

/-! The watchdog (R261, R454) -/

/-- What is fetched depends on the bundle cache, the place of the next bundle and the size of the code (R193, R194). -/
theorem Part.cached_congr {q r : Part} (h : r.bcache = q.bcache) (off n : Nat) : r.cached off n = q.cached off n := by
  induction n generalizing off with
  | zero => rfl
  | succ n ih => simp only [Part.cached, h, ih]

theorem Part.fetch_congr {q r : Part} (hnext : r.next = q.next) (hsize : r.codeSize = q.codeSize) (hcache : r.bcache = q.bcache) :
    r.fetch = q.fetch := by
  simp only [Part.fetch, hnext, hsize, Part.cached_congr hcache]

theorem Part.seqInfo_semStat (now : W64) (m : BitVec 5) (q : Part) : ({ q with semStat := m } : Part).seqInfo now = q.seqInfo now := by
  have hfetch : ({ q with semStat := m } : Part).fetch = q.fetch := Part.fetch_congr rfl rfl rfl
  simp only [Part.seqInfo, Part.seqWait, hfetch]
  rfl

/-- A flag of SEM_STAT is no part of a unit's head wait. -/
theorem State.headWait_semFlag (u : WaitUnit) (k : Nat) (s : State) :
    (s.semFlag (.part (unitPart u)) k).headWait u = s.headWait u := by
  have hpart (p : Fin 12) : (s.semFlag (.part p) k).part p = { s.part p with semStat := (s.part p).semStat ||| BitVec.ofNat 5 (2 ^ k) } :=
    State.part_modPart ..
  have hcore (p : Fin 12) (l : Fin 32) : (s.semFlag (.part p) k).core p l = s.core p l := State.modPart_core rfl l
  have htrunk (p : Fin 12) : ((s.semFlag (.part p) k).part p).trunk = (s.part p).trunk := by rw [hpart]
  match u with
  | .seq p => exact (congrArg (Part.seqInfo s.now) (hpart p)).trans (Part.seqInfo_semStat ..)
  | .eng p l e x => exact congrArg (fun c : Core => (c.ctx e x).waitInfo) (hcore p l)
  | .chan (.core p l n) => exact congrArg (fun c : Core => c.chans[n].waitInfo) (hcore p l)
  | .chan (.trunk p t) => exact congrArg (fun v : Vector Chan 8 => v[t].waitInfo) (htrunk p)

theorem State.waitSince_of_headWait (hi : s.headWait u = some i) : s.waitSince u = some i.since := by
  simp only [State.waitSince, hi]

/-- A wait that has gone unconsumed for longer than LIMIT microseconds. -/
theorem exec_watchdogExpiry_expired (hw : s.watched u = true) (hi : s.headWait u = some i) (hlim : (s.part (unitPart u)).wdog.toNat ≠ 0)
    (hlate : (s.part (unitPart u)).wdog.toNat * 1000 < (s.now - i.since).toNat - (s.part (unitPart u)).heldSince i.since) :
    exec (.watchdogExpiry u) s = .next (((s.semFlag (.part (unitPart u)) 3).semErrAt (.part (unitPart u)) (decide (i.op = 5)) i.idx
      0x9A01).unitFault u 0x9A01 0) := by
  show execWatchdogExpiry u s = _
  have htimed : (s.watched u && decide ((s.part (unitPart u)).wdog.toNat ≠ 0)) = true := by simp [hw, hlim]
  have hover : (s.part (unitPart u)).wdog.toNat * 1000 + (s.part (unitPart u)).heldSince i.since < (s.now - i.since).toNat :=
    Nat.add_lt_of_lt_sub hlate
  simp only [execWatchdogExpiry, State.waitSince_of_headWait hi, State.headWait_semFlag, hi]
  rw [if_pos htimed, if_pos hover]

theorem exec_watchdogExpiry_early {t : W64} (ht : s.waitSince u = some t)
    (hearly : (s.now - t).toNat - (s.part (unitPart u)).heldSince t ≤ (s.part (unitPart u)).wdog.toNat * 1000) :
    exec (.watchdogExpiry u) s = .next s := by
  show execWatchdogExpiry u s = _
  have hin : ¬(s.part (unitPart u)).wdog.toNat * 1000 + (s.part (unitPart u)).heldSince t < (s.now - t).toNat := by omega
  simp only [execWatchdogExpiry, ht, hin, if_false, ite_self]

theorem exec_watchdogExpiry_off (hlim : (s.part (unitPart u)).wdog.toNat = 0) : exec (.watchdogExpiry u) s = .next s := by
  show execWatchdogExpiry u s = _
  simp [execWatchdogExpiry, hlim]

end

/-- Settles O27: each clause is one command, run on a state that meets its conditions. -/
theorem waitsAndWatchdog : Obligations.WaitsAndWatchdog := by
  unfold Obligations.WaitsAndWatchdog
  refine ⟨fun u s i hr hi => ⟨fun hop hv => ?_, fun hop hv => ?_, exec_waitGe_word hr hi, exec_waitReach_word hr hi, fun hop hs => ?_,
    exec_waitSub_granted hr hi, fun r rest hop hv hmax hs hown => exec_waitSub_behind hr hi hop hv hmax hs hown⟩,
    fun u s t => ⟨?_, exec_watchdogExpiry_early, exec_watchdogExpiry_off⟩⟩
  · rw [exec_waitGe, State.waitOp_zero hr hi hop (by decide) hv]
  · rw [exec_waitSub_alone, State.subOp, State.waitOp_zero hr hi hop (by decide) hv]
  · rw [exec_waitReach, State.waitOp_arrival hr hi hop hs]
  · rintro i hw hi rfl hlim hlate
    exact exec_watchdogExpiry_expired hw hi hlim hlate

end Sys2Proof.Machine
end

section
/-! O47: the DMA ports of the scratchpads and the ports of the stacks (R157, R163, R166 to R168, R170, R171, R306, R308, R310,
R317 to R320, R446). -/

namespace Sys2Proof.Machine

/-! One row of a scratchpad, as a DMA port reads and writes it (R157, R166 to R168, R170) -/

theorem Core.checkWords_of_unlisted {c : Core} {ws : List Nat} (h : ∀ w ∈ ws, Sparse.get none c.bad w = none) :
    c.checkWords ws = (none, []) := by
  simp only [Core.checkWords, Prod.mk.injEq, List.find?_eq_none, List.filter_eq_nil_iff]
  exact ⟨fun w hw => by simp [h w hw], fun w hw => by simp [h w hw]⟩

section
variable {m : MemReq} {p : Fin 12} {l : Fin 32} {off n : Nat} {s : State}

theorem State.dmaPiece_unfilled (hk : m.kind = .read) (hc : (s.core p l).checked (off / 512) = true)
    (hv : (s.core p l).rowValid (off / 512) = false) : s.dmaPiece m p l off n = (0x2701, [], s.logDest p l.val m.src 0x2701) := by
  simp [State.dmaPiece, hk, State.dmaRead, State.rowRead, hc, hv]

theorem State.dmaPiece_read (hk : m.kind = .read)
    (hrow : (s.core p l).checked (off / 512) = false ∨ (s.core p l).rowValid (off / 512) = true)
    (hgood : ∀ w ∈ wordRange off n, Sparse.get none (s.core p l).bad w = none) : s.dmaPiece m p l off n
      = (0, (s.core p l).bytes off n, if m.consume then s.modCore p l fun c => c.setRow (off / 512) false else s) := by
  have hopen : ((s.core p l).checked (off / 512) && !(s.core p l).rowValid (off / 512)) = false := by
    rcases hrow with h | h <;> simp [h]
  simp only [State.dmaPiece, hk, State.dmaRead, State.rowRead, hopen, Core.checkWords_of_unlisted hgood]
  rfl

theorem State.dmaPiece_filled (hk : m.kind = .write) (hc : (s.core p l).checked (off / 512) = true)
    (hv : (s.core p l).rowValid (off / 512) = true) : s.dmaPiece m p l off n = (0x2702, [], s.logDest p l.val m.src 0x2702) := by
  simp [State.dmaPiece, hk, State.dmaWrite, hc, hv]

theorem State.rowWrite_open {a : Nat} {data : List Byte} {last : Bool}
    (hopen : ((s.core p l).checked (a / 512) && (s.core p l).rowValid (a / 512)) = false) : s.rowWrite p l a data last
      = (.ok [], s.modCore p l fun c => if last then (c.store a data).setRow (a / 512) true else c.store a data) := by
  simp only [State.rowWrite, hopen]
  rfl

/-- A write of whole words reads nothing first. -/
theorem State.dmaWrite_whole {src : Source} {data : List Byte} {last : Bool}
    (hopen : ((s.core p l).checked (off / 512) && (s.core p l).rowValid (off / 512)) = false) (hwhole : partWords off data.length = []) :
    s.dmaWrite src p l off data last
      = (0, s.modCore p l fun c => if last then (c.store off data).setRow (off / 512) true else c.store off data) := by
  have hnone : (s.core p l).checkWords [] = (none, []) := rfl
  have hkeep (c : Core) : { c with bad := c.bad.filter fun e => !([] : List Nat).contains e.1 } = c := by simp
  simp only [State.dmaWrite, hopen, Bool.false_eq_true, if_false, hwhole, hnone, State.correct, State.rowWrite_open hopen, hkeep,
    State.modCore_id]

theorem State.dmaPiece_write (hk : m.kind = .write)
    (hrow : (s.core p l).checked (off / 512) = false ∨ (s.core p l).rowValid (off / 512) = false)
    (harrive : m.arrive = none) (hwhole : partWords off (m.data.take n).length = []) : s.dmaPiece m p l off n
      = (0, [], s.modCore p l fun c =>
          if m.last then (c.store off (m.data.take n)).setRow (off / 512) true else c.store off (m.data.take n)) := by
  have hopen : ((s.core p l).checked (off / 512) && (s.core p l).rowValid (off / 512)) = false := by
    rcases hrow with h | h <;> simp [h]
  simp only [State.dmaPiece, hk, State.dmaWrite_whole hopen hwhole, if_true, harrive, State.arrive]

end

/-! SCRATCHPAD_DMA_ACCESS (R157, R163, R171, R446) and ECC_WRITE_BACK (R168) -/

section
variable {p : Fin 12} {l : Fin 32} {cls : TollClass} {m : MemReq} {t : List MemReq} {s : State}

theorem exec_scratchpadDmaAccess_head (hr : s.phase = .ready) (hq : (s.core p l).dmaQueue cls = m :: t) :
    exec (.scratchpadDmaAccess p l cls [] false) s = .next (s.dmaServe p l cls m t) := by
  show execScratchpadDmaAccess p l cls [] false s = _
  simp only [execScratchpadDmaAccess, hr, if_true, List.isEmpty_nil, Bool.false_eq_true, if_false, hq]

theorem exec_scratchpadDmaAccess_parity (flips : List (Nat × Ecc)) (hr : s.phase = .ready) :
    exec (.scratchpadDmaAccess p l cls flips true) s = .next (s.internalCore p l 0xF701) := by
  show execScratchpadDmaAccess p l cls flips true s = _
  simp only [execScratchpadDmaAccess, hr, if_true]

theorem State.dmaServe_refused (hst : s.spadStatus m.src p l (m.addr % 0x2000000) m.len (decide (m.kind ≠ .read)) ≠ 0) :
    s.dmaServe p l cls m t = ((s.modCore p l fun c => c.setDmaQueue cls t).spadRefuse m.src p l
      (s.spadStatus m.src p l (m.addr % 0x2000000) m.len (decide (m.kind ≠ .read)))).answerReq m
      (s.spadStatus m.src p l (m.addr % 0x2000000) m.len (decide (m.kind ≠ .read))) := if_pos hst

/-- What is left of a request is nothing exactly when the access took its last byte. -/
theorem MemReq.after_len_eq_zero_iff (m : MemReq) (n : Nat) (d : List Byte) : (m.after n d).len = 0 ↔ m.len ≤ n := Nat.sub_eq_zero_iff_le

section
variable {e : Code} {d : List Byte} {s' : State} (hst : s.spadStatus m.src p l (m.addr % 0x2000000) m.len (decide (m.kind ≠ .read)) = 0)
  (hpiece : s.dmaPiece m p l (m.addr % 0x2000000) (m.span 512) = (e, d, s'))
include hst hpiece

theorem State.dmaServe_failed (he : e ≠ 0) : s.dmaServe p l cls m t = (s'.modCore p l fun c => c.setDmaQueue cls t).answerReq m e := by
  simp only [State.dmaServe, hst, hpiece]
  exact if_pos he

theorem State.dmaServe_ends (he : e = 0) (hn : m.len ≤ m.span 512) :
    s.dmaServe p l cls m t = (s'.modCore p l fun c => c.setDmaQueue cls t).answerReq (m.after (m.span 512) d) 0 := by
  simp only [State.dmaServe, hst, hpiece, he]
  exact if_pos ((m.after_len_eq_zero_iff ..).mpr hn)

theorem State.dmaServe_goes_on (he : e = 0) (hn : m.span 512 < m.len) :
    s.dmaServe p l cls m t = s'.modCore p l fun c => c.setDmaQueue cls (m.after (m.span 512) d :: t) := by
  simp only [State.dmaServe, hst, hpiece, he]
  exact if_neg (mt (m.after_len_eq_zero_iff ..).mp (Nat.not_le.mpr hn))

end

theorem exec_eccWriteBack_idle (h : (s.core p l).writeBack = []) : exec (.eccWriteBack p l) s = .next s := by
  show execEccWriteBack p l s = _
  simp only [execEccWriteBack, h]

theorem exec_eccWriteBack_oldest {w : Nat} {ws : List Nat} (h : (s.core p l).writeBack = w :: ws) : exec (.eccWriteBack p l) s
    = .next (s.modCore p l fun c => { c with writeBack := ws, bad := c.bad.filter fun e => e.1 != w }) := by
  show execEccWriteBack p l s = _
  simp only [execEccWriteBack, h]

end

/-- A store changes the bytes it covers and no other (R157). -/
theorem Core.get_store (c : Core) (a i : Nat) (data : List Byte) : Sparse.get 0 (c.store a data).spad i
    = if a ≤ i ∧ i < a + data.length then (data[i - a]?).getD 0 else Sparse.get 0 c.spad i := get_memWrite ..

/-! Bytes that one access serves (R157, R274, R310) -/

theorem MemReq.span_of_bytes {m : MemReq} {unit : Nat} (he : m.kind.elem = 1) (hu : 0 < unit) :
    m.span unit = min m.len (unit - m.addr % unit) := by
  have hlt : m.addr % unit < unit := Nat.mod_lt _ hu
  rw [MemReq.span, he, Nat.div_one, Nat.mul_one, Nat.max_eq_right (Nat.sub_pos_of_lt hlt)]

theorem MemReq.span_of_fp32 {m : MemReq} {op : BitVec 2} (hk : m.kind = .redcopy op 8) (unit : Nat) :
    m.span unit = min m.len (max 1 ((unit - m.addr % unit) / 4) * 4) := by
  rw [MemReq.span, hk]
  rfl

/-! STACK_PORT_ACCESS (R306, R307, R310, R317 to R319) -/

section
variable {d : Fin 24} {cls : TollClass} {m : MemReq} {s : State}

theorem State.parityLoss_retried {ca : Nat} (h : ca < 2) : s.parityLoss d ca = s := if_pos (.inl h)

theorem State.parityLoss_down {ca : Nat} (h : 2 ≤ ca) (hup : s.stackPorts[d].up = true) :
    s.parityLoss d ca = (s.modStack d fun k => { k with up := false }).logPart (stackPart d) 0x5D05 0 :=
  if_neg (not_or.mpr ⟨by omega, by rw [hup]; decide⟩)

theorem State.swapDue_of_none {r : Fin 1536} {s : State} (h : s.regions[r].swap = none) : s.swapDue r = s := by
  simp only [State.swapDue, h]

/-- The port serves the oldest request of the source chosen. -/
theorem exec_stackPortAccess_oldest {sel i : Nat} (bad ca : Nat) (hr : s.phase = .ready) (hh : s.stackPorts[d].hold = false)
    (ht : s.stackPorts[d].training = false)
    (hsrc : ((s.stackPorts[d].queue cls).map fun m => m.src).eraseDups[sel %
      ((s.stackPorts[d].queue cls).map fun m => m.src).eraseDups.length]? = some m.src)
    (hm : (s.stackPorts[d].queue cls)[i]? = some m) (hold : ∀ j < i, ∀ x, (s.stackPorts[d].queue cls)[j]? = some x → x.src ≠ m.src) :
    exec (.stackPortAccess d cls sel bad ca) s
      = .next ((s.parityLoss d ca).stackServe d cls (s.stackPorts[d].queue cls) i m bad) := by
  show execStackPortAccess d cls sel bad s ca = _
  have hfind : (s.stackPorts[d].queue cls).findIdx? (fun x => decide (x.src = m.src)) = some i :=
    findIdx?_eq_some_iff_getElem?.mpr ⟨m, hm, by simp, fun j hj x hx => by simpa using hold j hj x hx⟩
  simp only [execStackPortAccess, hr, hh, ht, hsrc, hfind, hm]
  rfl

section
variable {loc : Nat} (hp : place m.addr = .hbm d loc) (hswap : s.regions[regionNo d loc].swap = none)
include hp hswap

theorem State.stackServe_refused {l : List MemReq} {i bad : Nat} (hst : s.hbmStatus m.src d loc ≠ 0) :
    s.stackServe d cls l i m bad = ((s.modStack d fun k => k.setQueue cls (l.eraseIdx i)).hbmRefuse m.src d
      (s.hbmStatus m.src d loc)).answerReq m (s.hbmStatus m.src d loc) := by
  simp only [State.stackServe, hp, State.swapDue_of_none hswap]
  exact if_pos hst

/-- A request whose source may make it does its access, and then goes on, or fails. -/
theorem State.stackServe_reached {l : List MemReq} {i bad : Nat} {e : Code} {b : List Byte} {t : State}
    (hst : s.hbmStatus m.src d loc = 0) (hpiece : s.unitPiece m d loc (m.span 64) bad = (e, b, t)) : s.stackServe d cls l i m bad
      = if e = 0 then t.reqOn d cls (l.take i) (l.drop (i + 1)) (m.after (m.span 64) b)
        else (t.modStack d fun k => k.setQueue cls (l.eraseIdx i)).answerReq m e := by
  simp only [State.stackServe, hp, State.swapDue_of_none hswap, hst, hpiece]
  rfl

end

section
variable {loc n : Nat}

theorem State.unitSymbols_zero (d : Fin 24) (unit : Nat) (s : State) : s.unitSymbols d unit 0 = s := by
  simp [State.unitSymbols]

theorem State.unitPiece_read (hk : m.kind = .read) (hgood : s.stackPorts[d].badUnits.contains (loc / 64) = false) :
    s.unitPiece m d loc n 0 = (0, s.hbmBytes d loc n, s) := by
  simp only [State.unitPiece, hk, State.unitSymbols_zero, State.unitRead, hgood]
  rfl

theorem State.unitPiece_read_bad (hk : m.kind = .read) (hbad : s.stackPorts[d].badUnits.contains (loc / 64) = true) :
    s.unitPiece m d loc n 0 = (0x5D02, [], s.hbmBad m.src d loc) := by
  simp only [State.unitPiece, hk, State.unitSymbols_zero, State.unitRead, hbad, if_true]

theorem State.unitPiece_write (hk : m.kind = .write) (hgood : s.stackPorts[d].badUnits.contains (loc / 64) = false) :
    s.unitPiece m d loc n 0 = (0, [], s.hbmStore d loc (m.data.take n)) := by
  simp only [State.unitPiece, hk, State.unitSymbols_zero, ite_self, State.unitWrite, hgood]
  rfl

end

/-! PATROL_SCRUB (R306, R317 to R320) -/

section
variable {unit : BitVec 30} (hr : s.phase = .ready) (hup : s.stackPorts[d].up = true) (hh : s.stackPorts[d].hold = false)
  (ht : s.stackPorts[d].training = false) (hrate : s.stackPorts[d].hours ≠ 0)
include hr hup hh ht hrate

theorem exec_patrolScrub_runs (bad ca : Nat) : exec (.patrolScrub d unit bad ca) s = .next (if 2 ≤ ca then s.parityLoss d ca
    else if (s.unitSymbols d unit.toNat bad).stackPorts[d].badUnits.contains unit.toNat
      then (s.unitSymbols d unit.toNat bad).hbmBad (.port (homeHub (stackPart d))) d (unit.toNat * 64)
      else s.unitSymbols d unit.toNat bad) := by
  have hruns : (decide (s.phase = .ready) && s.stackPorts[d].up && !s.stackPorts[d].hold && !s.stackPorts[d].training
      && decide (s.stackPorts[d].hours ≠ 0)) = true := by
    simp only [hr, hup, hh, ht]
    simpa using hrate
  show execPatrolScrub d unit bad s ca = _
  rw [execPatrolScrub]
  exact congrArg _ (if_pos hruns)

theorem exec_patrolScrub_lost {ca : Nat} (hca : 2 ≤ ca) (bad : Nat) : exec (.patrolScrub d unit bad ca) s
    = .next ((s.modStack d fun k => { k with up := false }).logPart (stackPart d) 0x5D05 0) := by
  rw [exec_patrolScrub_runs hr hup hh ht hrate, if_pos hca, State.parityLoss_down hca hup]

/-- A unit that the read leaves correctable is not recorded. -/
theorem exec_patrolScrub_clean {bad ca : Nat} (hca : ca < 2) {t : State} (hread : s.unitSymbols d unit.toNat bad = t)
    (hgood : t.stackPorts[d].badUnits.contains unit.toNat = false) : exec (.patrolScrub d unit bad ca) s = .next t := by
  rw [exec_patrolScrub_runs hr hup hh ht hrate, if_neg (by omega), hread, hgood]
  rfl

theorem exec_patrolScrub_uncorrectable {bad ca : Nat} (hca : ca < 2) {t : State} (hread : s.unitSymbols d unit.toNat bad = t)
    (hbad : t.stackPorts[d].badUnits.contains unit.toNat = true) : exec (.patrolScrub d unit bad ca) s
      = .next (t.hbmBad (.port (homeHub (stackPart d))) d (unit.toNat * 64)) := by
  rw [exec_patrolScrub_runs hr hup hh ht hrate, if_neg (by omega), hread, if_pos hbad]

end

section
variable {unit : Nat} (hgood : s.stackPorts[d].badUnits.contains unit = false)
include hgood

theorem State.unitSymbols_one : s.unitSymbols d unit 1 = s.hbmFixed d := by
  simp only [State.unitSymbols, hgood]
  rfl

theorem State.unitSymbols_two : s.unitSymbols d unit 2 = s.modStack d fun k => { k with badUnits := k.badUnits ++ [unit] } := by
  simp only [State.unitSymbols, hgood]
  rfl

end

end

/-! Places in a stack (R308) -/

/-- A stack-local address is made up of the fields that the decoder takes from it. -/
theorem toNat_eq_fields (a : BitVec 36) : a.toNat = fld a 0 6 + 2 ^ 6 * fld a 6 2 + 2 ^ 8 * fld a 8 1 + 2 ^ 9 * fld a 9 5
    + 2 ^ 14 * fld a 14 2 + 2 ^ 16 * fld a 16 6 + 2 ^ 22 * fld a 22 14 := by
  have h := a.isLt
  simp only [fld, fieldN]
  omega

theorem fld_low_of_fld {n : Nat} (a : BitVec n) (lo : Nat) {v w : Nat} (h : v ≤ w) : fld a lo v = fld a lo w % 2 ^ v :=
  (Nat.mod_mod_of_dvd _ (Nat.pow_dvd_pow 2 h)).symm

theorem stackDecode_injective {a b : BitVec 36} (h : stackDecode a = stackDecode b) : a = b := by
  obtain ⟨hcolumn, hpseudo, hchannel, hbank, hrow⟩ := StackPlace.mk.inj h
  have h0 : fld a 0 6 = fld b 0 6 ∧ fld a 6 2 = fld b 6 2 ∧ fld a 14 2 = fld b 14 2 := by
    have := fld_lt a 0 6
    have := fld_lt a 6 2
    have := fld_lt b 0 6
    have := fld_lt b 6 2
    omega
  have hrow6 : fld a 22 6 = fld b 22 6 := by
    rw [fld_low_of_fld a 22 (by decide : 6 ≤ 14), fld_low_of_fld b 22 (by decide : 6 ≤ 14), hrow]
  have h16 : fld a 16 6 = fld b 16 6 := by
    rw [hrow6, BitVec.xor_left_inj] at hbank
    have hmod : fld a 16 6 % 2 ^ 6 = fld b 16 6 % 2 ^ 6 := by simpa using congrArg BitVec.toNat hbank
    rwa [Nat.mod_eq_of_lt (fld_lt a 16 6), Nat.mod_eq_of_lt (fld_lt b 16 6)] at hmod
  obtain ⟨h0, h6, h14⟩ := h0
  apply BitVec.eq_of_toNat_eq
  rw [toNat_eq_fields a, toNat_eq_fields b, h0, h6, hpseudo, hchannel, h14, h16, hrow]

/-- Settles O47: each clause is one port's access, run on a state that meets its conditions. -/
theorem memoryPorts : Obligations.MemoryPorts := by
  unfold Obligations.MemoryPorts
  refine ⟨fun p l cls m t s => ?dma, fun p l cls flips s => exec_scratchpadDmaAccess_parity flips,
    fun p l m off n s => ⟨State.dmaPiece_unfilled, State.dmaPiece_read, State.dmaPiece_filled, State.dmaPiece_write⟩,
    fun c a i data _ => c.get_store a i data, fun p l w t s => ⟨exec_eccWriteBack_idle, exec_eccWriteBack_oldest⟩,
    fun d cls sel i loc ca m s => ?stack, fun d cls sel i bad ca m s => ?down,
    fun m unit => ⟨fun hk hu => ?bytes, fun op hk => m.span_of_fp32 hk unit⟩,
    fun d unit ca s => ?patrol, fun a b => stackDecode_injective⟩
  case dma =>
    intro off st n put hr hq
    rw [exec_scratchpadDmaAccess_head hr hq]
    refine ⟨fun hst => congrArg _ (State.dmaServe_refused hst), fun hst e d s' hpiece => ⟨fun he => ?_, fun he hn => ?_, fun he hn => ?_⟩⟩
    · rw [State.dmaServe_failed hst hpiece he]
    · rw [State.dmaServe_ends hst hpiece he hn]
    · rw [State.dmaServe_goes_on hst hpiece he hn]
  case stack =>
    intro l srcs n st hr hh ht hsrc hm hold hca hp hswap
    rw [exec_stackPortAccess_oldest 0 ca hr hh ht hsrc hm hold, State.parityLoss_retried hca]
    refine ⟨fun hst => congrArg _ (State.stackServe_refused hp hswap hst), fun hst hgood => ⟨fun hk => ?_, fun hk => ?_⟩,
      fun hst hbad hk => ?_⟩
    · exact congrArg _ (State.stackServe_reached hp hswap hst (State.unitPiece_read hk hgood))
    · exact congrArg _ (State.stackServe_reached hp hswap hst (State.unitPiece_write hk hgood))
    · exact congrArg _ (State.stackServe_reached hp hswap hst (State.unitPiece_read_bad hk hbad))
  case down =>
    intro l srcs hr hh ht hup hsrc hm hold hca
    rw [exec_stackPortAccess_oldest bad ca hr hh ht hsrc hm hold, State.parityLoss_down hca hup]
  case bytes =>
    refine MemReq.span_of_bytes ?_ hu
    rcases hk with hk | hk | hk <;> rw [hk] <;> rfl
  case patrol =>
    intro u k hr hup hh ht hrate hgood
    refine ⟨exec_patrolScrub_lost hr hup hh ht hrate, fun hca => ⟨?_, fun hfixed => ?_, ?_⟩⟩
    · exact exec_patrolScrub_clean hr hup hh ht hrate hca (State.unitSymbols_zero ..) hgood
    · exact exec_patrolScrub_clean hr hup hh ht hrate hca (State.unitSymbols_one hgood) hfixed
    · exact exec_patrolScrub_uncorrectable hr hup hh ht hrate hca (State.unitSymbols_two hgood) (by rw [State.stack_modStack]; simp [u])

end Sys2Proof.Machine
end

section
/-! O30: entry writes of the descriptor store. Words and their bytes, the record as the store fills it (R176), and an entry
write accepted or rejected (R174 to R177, R184). -/

namespace Sys2Proof.Machine

/-! Words of a byte string -/

theorem bytesOf_ofBytes (l : List Byte) : bytesOf l.length (ofBytes l) = l := by
  induction l with
  | nil => rfl
  | cons b t ih =>
    have hb := b.isLt
    have hlow : BitVec.ofNat 8 (b.toNat + 256 * ofBytes t) = b := by
      apply BitVec.eq_of_toNat_eq
      rw [BitVec.toNat_ofNat]
      omega
    have hrest : (b.toNat + 256 * ofBytes t) / 256 = ofBytes t := by omega
    rw [List.length_cons, ofBytes, bytesOf, hlow, hrest, ih]

theorem ofBytes_lt (l : List Byte) : ofBytes l < 256 ^ l.length := by
  have h := ofBytes_bytesOf l.length (ofBytes l)
  rw [bytesOf_ofBytes] at h
  rw [h]
  exact Nat.mod_lt _ (by positivity)

/-- A word holds four bytes. -/
theorem bytesOf_word (l : List Byte) (h : l.length = 4) : bytesOf 4 (BitVec.ofNat 32 (ofBytes l)).toNat = l := by
  have hlt : ofBytes l < 2 ^ 32 := by
    have := ofBytes_lt l
    rwa [h] at this
  rw [BitVec.toNat_ofNat, Nat.mod_eq_of_lt hlt, ← h, bytesOf_ofBytes]

theorem flatMap_chunks {α : Type} (l : List α) (k n : Nat) :
    ((List.range n).flatMap fun i => (l.drop (k * i)).take k) = l.take (k * n) := by
  induction n with
  | zero => simp
  | succ n ih => rw [List.range_succ, List.flatMap_append, ih, List.flatMap_singleton, Nat.mul_succ, List.take_add]

theorem bytesOfWords_wordsOf {l : List Byte} {n : Nat} (h : l.length = 4 * n) : bytesOfWords (wordsOf l) = l := by
  have hword : ∀ i ∈ List.range n, bytesOf 4 (BitVec.ofNat 32 (ofBytes ((l.drop (4 * i)).take 4))).toNat = (l.drop (4 * i)).take 4 := by
    intro i hi
    have := List.mem_range.mp hi
    exact bytesOf_word _ (by rw [List.length_take, List.length_drop]; omega)
  have hn : l.length / 4 = n := by omega
  rw [bytesOfWords, wordsOf, hn, List.flatMap_map, List.flatMap_congr hword, flatMap_chunks, ← h, List.take_length]

@[simp] theorem length_wordsOf (l : List Byte) : (wordsOf l).length = l.length / 4 := by simp [wordsOf]

/-! The record as accepted (R176) -/

/-- VLD, a TENANT and an EPOCH at their places in a record. -/
def hwFields (tenant epoch : Nat) : Nat := 2 ^ 293 + tenant * 2 ^ 296 + epoch * 2 ^ 304

theorem testBit_hwFields {t e : Nat} (ht : t < 2 ^ 4) (he : e < 2 ^ 16) (i : Nat) : (hwFields t e).testBit i =
    if i = 293 then true else if 296 ≤ i ∧ i < 300 then t.testBit (i - 296)
    else if 304 ≤ i ∧ i < 320 then e.testBit (i - 304) else false := by
  have hsum : hwFields t e = 2 ^ 304 * e + (2 ^ 296 * t + 2 ^ 293) := by
    simp only [hwFields, Nat.mul_comm, Nat.add_comm]
  have beyond : ∀ {x w j : Nat}, x < 2 ^ w → w ≤ j → x.testBit j = false := fun hx hj =>
    Nat.testBit_lt_two_pow (hx.trans_le (Nat.pow_le_pow_right (by decide) hj))
  rw [hsum, Nat.testBit_two_pow_mul_add _ (by omega), Nat.testBit_two_pow_mul_add _ (by omega), Nat.testBit_two_pow]
  rcases (by omega : i < 296 ∨ 296 ≤ i ∧ i < 300 ∨ 300 ≤ i ∧ i < 304 ∨ 304 ≤ i) with hvld | hten | hgap | hepo
  · rw [if_pos (by omega), if_pos hvld]
    by_cases h : i = 293
    · rw [if_pos h, h, decide_eq_true rfl]
    · rw [if_neg h, if_neg (by omega), if_neg (by omega), decide_eq_false (Ne.symm h)]
  · rw [if_pos (show i < 304 by omega), if_neg (by omega), if_neg (by omega), if_pos hten]
  · rw [if_pos (show i < 304 by omega), if_neg (by omega), if_neg (by omega), if_neg (by omega), if_neg (by omega), beyond ht (by omega)]
  · rw [if_neg (by omega), if_neg (by omega), if_neg (by omega)]
    by_cases h : i < 320
    · rw [if_pos ⟨hepo, h⟩]
    · rw [if_neg (by omega), beyond he (by omega)]

theorem getLsbD_descAccepted (q : Part) (d : DescRec) {i : Nat} (hi : i < 384) : (descAccepted q d).getLsbD i =
    if i = 293 then true else if 296 ≤ i ∧ i < 300 then q.tenant.getLsbD (i - 296)
    else if 304 ≤ i ∧ i < 320 then q.epoch.getLsbD (i - 304) else d.getLsbD i := by
  have hbits : (descAccepted q d).getLsbD i
      = ((d.getLsbD i && !(hwFields 15 65535).testBit i) || (hwFields q.tenant.toNat q.epoch.toNat).testBit i) := by
    have h512 : i < 512 := by omega
    show ((d &&& ~~~(BitVec.ofNat 512 (hwFields 15 65535))) ||| BitVec.ofNat 512 (hwFields q.tenant.toNat q.epoch.toNat)).getLsbD i = _
    simp only [BitVec.getLsbD_or, BitVec.getLsbD_and, BitVec.getLsbD_not, BitVec.getLsbD_ofNat, h512, decide_true, Bool.true_and]
  rw [hbits, testBit_hwFields (by decide) (by decide), testBit_hwFields q.tenant.isLt q.epoch.isLt, BitVec.testBit_toNat, BitVec.testBit_toNat]
  split_ifs with hvld hten hepo
  · exact Bool.or_true _
  · have hones : Nat.testBit 15 (i - 296) = decide (i - 296 < 4) := Nat.testBit_two_pow_sub_one 4 _
    simp [hones, show i - 296 < 4 by omega]
  · have hones : Nat.testBit 65535 (i - 304) = decide (i - 304 < 16) := Nat.testBit_two_pow_sub_one 16 _
    simp [hones, show i - 304 < 16 by omega]
  · simp

/-! An entry write (R174 to R177, R184) -/

/-- The partition after an accepted entry write: the store holds the record, and no cache the handle. -/
def Part.entryTaken (hd : BitVec 17) (d : DescRec) (q : Part) : Part :=
  { q.uncache hd with store := Sparse.put 0 hd.toNat (descAccepted q d) q.store }

theorem Part.get_entryTaken (hd : BitVec 17) (d : DescRec) (q : Part) (h : Nat) :
    Sparse.get 0 (q.entryTaken hd d).store h = if h = hd.toNat then descAccepted q d else Sparse.get 0 q.store h :=
  Sparse.get_put ..

theorem Part.dcache_entryTaken {hd : BitVec 17} {d : DescRec} {q : Part} (l : Fin 32) {e : BitVec 17 × DescRec}
    (he : e ∈ (q.entryTaken hd d).cores[l].dcache) : e.1 ≠ hd := by
  simp only [Part.entryTaken, Part.uncache, Fin.getElem_fin, Vector.getElem_map, List.mem_filter, decide_eq_true_eq] at he
  exact he.2

theorem Part.tcache_entryTaken {hd : BitVec 17} {d : DescRec} {q : Part} {e : BitVec 17 × DescRec}
    (he : e ∈ (q.entryTaken hd d).tcache) : e.1 ≠ hd :=
  of_decide_eq_true (List.mem_filter.mp he).2

theorem descCause_null (q : Part) (grid2 : Bool) (d : DescRec) : descCause q grid2 0 d = 1 := by
  unfold descCause
  exact if_pos rfl

section
variable {src : Source} {p : Fin 12} {hd : BitVec 17} {ent : BitVec 512} {s : State}

theorem State.descWrite_accepted (hc : descCause (s.part p) s.full hd ent = 0) :
    s.descWrite p hd ent = (0, s.modPart p (Part.entryTaken hd ent)) := if_pos hc

theorem State.descWrite_rejected (hc : descCause (s.part p) s.full hd ent ≠ 0) :
    s.descWrite p hd ent = (descCause (s.part p) s.full hd ent, s.descReject p hd (descCause (s.part p) s.full hd ent)) := if_neg hc

/-- A write of the sixteen words of an entry is an entry write of that handle (R174). -/
theorem State.storeWrite_entry (hsrc : entrySource p src = true) :
    s.storeWrite src p (0x800000 + 64 * hd.toNat) (wordsOf (bytesOf 64 ent.toNat))
      = (if (s.descWrite p hd ent).1 = 0 then 0 else 0x3801, (s.descWrite p hd ent).2) := by
  have hent : BitVec.ofNat 512 (ofBytes (bytesOfWords (wordsOf (bytesOf 64 ent.toNat)))) = ent := by
    rw [bytesOfWords_wordsOf (n := 16) (length_bytesOf ..), ofBytes_bytesOf_toNat 64 rfl, BitVec.ofNat_toNat, BitVec.setWidth_eq]
  have halign : (0x800000 + 64 * hd.toNat) % 64 = 0 := by omega
  simp [State.storeWrite, hent, halign, hsrc]

/-- The error status of a rejected entry write aborts nothing (R177). -/
theorem State.punish_rejected (src : Source) (s : State) : s.punish src 0x3801 = s := rfl

theorem exec_descriptorEntryWrite_reached (hreach : s.reaches src (partBase p + 0x800000 + 64 * hd.toNat) true)
    (hsrc : entrySource p src = true) : exec (.descriptorEntryWrite src p hd ent) s
      = .next ((s.descWrite p hd ent).2.answered (if (s.descWrite p hd ent).1 = 0 then 0 else 0x3801) 0) := by
  show execDescriptorEntryWrite src p hd ent s = _
  rw [execDescriptorEntryWrite, State.regCommand_of_reaches _ hreach, State.storeWrite_entry hsrc]
  by_cases hc : (s.descWrite p hd ent).1 = 0
  · simp only [if_pos hc, State.punish_zero]
  · simp only [if_neg hc, State.punish_rejected]

end

/-- Settles O30: the words of the entry spell the record again; without a cause the store fills in the record, with one it rejects it. -/
theorem descriptorEntries : Obligations.DescriptorEntries := by
  unfold Obligations.DescriptorEntries
  intro src p hd ent s hreach hsrc
  have hexec := exec_descriptorEntryWrite_reached (ent := ent) hreach hsrc
  refine ⟨fun hc => ⟨(s.part p).entryTaken hd ent, descAccepted (s.part p) ent, ?_, ?_, fun i hi => getLsbD_descAccepted _ _ hi, fun h hne => ?_,
    fun l e => Part.dcache_entryTaken l, fun e => Part.tcache_entryTaken⟩, fun hc => ?_, fun hnull => ?_⟩
  · rw [hexec, State.descWrite_accepted hc]
    rfl
  · rw [Part.get_entryTaken, if_pos rfl]
  · rw [Part.get_entryTaken, if_neg hne]
  · rw [hexec, State.descWrite_rejected hc, if_neg hc]
  · subst hnull
    exact descCause_null ..

end Sys2Proof.Machine
end

section
/-! O23: BIND and the descriptor caches (R181 to R183, R208, R238). -/

namespace Sys2Proof.Machine

/-! Caches (R183) -/

theorem lruFind_lruPut (hd : BitVec 17) (d : DescRec) (c : List (BitVec 17 × DescRec)) : lruFind hd (lruPut hd d c) = some d := by
  simp [lruFind, lruPut]

theorem length_lruPut (hd : BitVec 17) (d : DescRec) (c : List (BitVec 17 × DescRec)) : (lruPut hd d c).length ≤ 128 :=
  List.length_take_le ..

section
variable {p : Fin 12} {l : Fin 32} {hd : BitVec 17} {t : List (Option (Fin 32) × BitVec 17)} {s : State}

theorem exec_descriptorCacheFill_core (hm : (s.part p).misses = (some l, hd) :: t) : exec (.descriptorCacheFill (.core p l)) s
    = .next ((s.modCore p l fun c => { c with dcache := lruPut hd (Sparse.get 0 (s.part p).store hd.toNat) c.dcache }).modPart p
        fun q => { q with misses := t }) := by
  show execDescriptorCacheFill (.core p l) s = _
  simp [execDescriptorCacheFill, hm]

theorem exec_descriptorCacheFill_trunk (hm : (s.part p).misses = (none, hd) :: t) : exec (.descriptorCacheFill (.trunk p)) s
    = .next (s.modPart p fun q => { q with misses := t, tcache := lruPut hd (Sparse.get 0 (s.part p).store hd.toNat) q.tcache }) := by
  show execDescriptorCacheFill (.trunk p) s = _
  simp [execDescriptorCacheFill, hm]

end

/-! What a BIND does (R181, R182) -/

/-- The handle of a BIND. -/
abbrev bindHandle (w : Slot) : BitVec 17 := BitVec.ofNat 17 (fld w 11 17)

/-- The offset of a BIND. -/
abbrev bindOffset (w : Slot) : Int := sext 32 (fld w 32 32)

/-- The registers that a BIND names take an address, a stride and a batch stride. -/
def EngCtx.bound (w : Slot) (a st sb : W32) (k : EngCtx) : EngCtx :=
  { k with a := vset k.a (fld w 7 4) a, as := vset k.as (fld w 7 4) st, ab := vset k.ab (fld w 7 4) sb }

/-- A core after a BIND: its context is bound, and the handle's entry becomes the most recently used. -/
def Core.bound (e : Engine) (x : Duet) (w : Slot) (a st sb : W32) (c : Core) : Core :=
  { c.modCtx e x (EngCtx.bound w a st sb) with dcache := lruTouch (bindHandle w) c.dcache }

theorem Core.bound_head (e : Engine) (x : Duet) (w : Slot) (a st sb : W32) (c : Core) :
    ((c.bound e x w a st sb).ctx e x).head = (c.ctx e x).head :=
  (congrArg EngCtx.head (Core.ctx_modCtx e (EngCtx.bound w a st sb) c)).trans rfl

section
variable {p : Fin 12} {l : Fin 32} {e : Engine} {x : Duet} {s : State} {w : Slot} {d : DescRec}

theorem State.bindRun_null (h0 : bindHandle w = 0) : s.bindRun p l e x w = s.modCore p l (Core.bound e x w 0 0 0) := by
  unfold State.bindRun
  simp only [if_pos h0]
  rfl

theorem State.bindRun_refused {code : Code} (h0 : bindHandle w ≠ 0) (hfind : lruFind (bindHandle w) (s.core p l).dcache = some d)
    (hu : descUse (s.part p) (bindHandle w) d (bindOffset w) = some code) : s.bindRun p l e x w = s.abortCore p l code 0 := by
  unfold State.bindRun
  simp only [if_neg h0, hfind, Option.getD_some, hu]

theorem State.bindRun_foreign (h0 : bindHandle w ≠ 0) (hfind : lruFind (bindHandle w) (s.core p l).dcache = some d)
    (hu : descUse (s.part p) (bindHandle w) d (bindOffset w) = none) (ha : s.bindAddr p l d (bindOffset w) = none) :
    s.bindRun p l e x w = s.abortCore p l 0x3807 0 := by
  unfold State.bindRun
  simp only [if_neg h0, hfind, Option.getD_some, hu, ha]

theorem State.bindRun_bound {a : Int} (h0 : bindHandle w ≠ 0) (hfind : lruFind (bindHandle w) (s.core p l).dcache = some d)
    (hu : descUse (s.part p) (bindHandle w) d (bindOffset w) = none) (ha : s.bindAddr p l d (bindOffset w) = some a) :
    s.bindRun p l e x w = s.modCore p l (Core.bound e x w (BitVec.ofInt 32 a) (BitVec.ofNat 32 (descStr d 1)) (BitVec.ofNat 32 (descStr d 2))) := by
  unfold State.bindRun
  simp only [if_neg h0, hfind, Option.getD_some, hu, ha]
  rfl

end

/-! The checks 1 to 3 of a use (R181) -/

section
variable {q : Part} {hd : BitVec 17} {d : DescRec} {off : Int}

theorem descUse_not_valid (h0 : hd ≠ 0) (hv : descVld d = false) : descUse q hd d off = some 0x3803 := by
  unfold descUse
  rw [if_neg h0, if_pos hv]

theorem descUse_other_tenant (h0 : hd ≠ 0) (hv : descVld d = true)
    (ht : descTenant d ≠ q.tenant.toNat ∨ descEpoch d ≠ q.epoch.toNat) : descUse q hd d off = some 0x3804 := by
  unfold descUse
  rw [if_neg h0, if_neg (by simp [hv]), if_pos ht]

theorem descUse_passes (hv : descVld d = true) (ht : descTenant d = q.tenant.toNat) (he : descEpoch d = q.epoch.toNat)
    (hf : descFits q d off = true) : descUse q hd d off = none := by
  simp [descUse, hv, ht, he, hf]

end

/-! An instruction that faults at its issue (R207, R444) -/

/-- The first fault of a running partition stops it. -/
theorem State.abortCore_stops {p : Fin 12} {l : Fin 32} {s : State} (h : s.alive p l = true) (code : Code) (arg : W64) :
    ∃ info, ((s.abortCore p l code arg).part p).abort = some info := by
  simp only [State.alive, Bool.and_eq_true, Option.isSome_iff_exists, Option.isNone_iff_eq_none] at h
  obtain ⟨⟨⟨⟨t, htask⟩, hnone⟩, -⟩, -⟩ := h
  simp only [State.abortCore, State.abortWith, htask, hnone]
  exact ⟨_, by simp [State.stopPart, State.part, State.modPart, State.modHub]; rfl⟩

/-- Once its partition aborts, no instruction leaves its queue as issued. -/
theorem State.advance_aborted {p : Fin 12} {l : Fin 32} {e : Engine} {x : Duet} {s : State} {info : AbortInfo} (h : (s.part p).abort = some info) :
    s.advance p l e x = s := by
  simp [State.advance, h]

section
variable {p : Fin 12} {l : Fin 32} {e : Engine} {x : Duet} {code : Code} {want : Slot → Bool} {run : Entry → State → Issued} {s : State}
  {en : Entry} {o : Out}

/-- An instruction that faults at its issue: its partition aborts, and nothing leaves its queue as issued. -/
theorem State.issue_abortCore {fault : Code} {arg : W64} (ho : o = .next (s.issue p l e x .clean code want run)) (hr : s.ready p l e x = some en)
    (hw : want en.word = true) (hf : run en s = .done (s.abortCore p l fault arg)) :
    ∃ tm : Timing, o = .next ((s.abortCore p l fault arg).modCore p l fun c => { c with timing := tm }) := by
  obtain ⟨tm, h⟩ := State.issue_done (code := code) hr hw hf
  obtain ⟨halive, -⟩ := State.ready_some hr
  obtain ⟨info, hinfo⟩ := State.abortCore_stops halive fault arg
  have hstays : ((State.modCore p l (fun c => { c with timing := tm }) (s.abortCore p l fault arg)).part p).abort = some info := by
    rw [State.abort_modCore, hinfo]
  exact ⟨tm, ho.trans (congrArg _ (h.trans (State.advance_aborted hstays)))⟩

end

/-! The command -/

/-- A BIND that asks the store for nothing (R183): of handle 0, or of a handle that the core's cache holds. -/
def State.bindHit (p : Fin 12) (l : Fin 32) (w : Slot) (s : State) : Prop :=
  bindHandle w = 0 ∨ ∃ d, lruFind (bindHandle w) (s.core p l).dcache = some d

section
variable {p : Fin 12} {l : Fin 32} {e : Engine} {x : Duet} {s : State} {en : Entry}

theorem State.bindMiss_of_hit (hr : s.ready p l e x = some en) (hhit : s.bindHit p l en.word) : s.bindMiss p l e x = s := by
  obtain ⟨-, hhead, -⟩ := State.ready_some hr
  unfold State.bindMiss
  simp only [hhead]
  refine if_neg ?_
  rcases hhit with h0 | ⟨d, hfind⟩
  · simp [h0]
  · simp [hfind]

theorem exec_bind_of_hit (hr : s.ready p l e x = some en) (hhit : s.bindHit p l en.word) : exec (.bind p l e x) s
      = .next (s.issue p l e x .clean 0 (fun w => slotOp w == 0x74) fun en s => .done (s.bindRun p l e x en.word)) := by
  show execBind p l e x s = _
  rw [execBind, State.bindMiss_of_hit hr hhit]

theorem exec_bind_bound {a st sb : W32} (hr : s.ready p l e x = some en) (hop : slotOp en.word = 0x74)
    (hhit : s.bindHit p l en.word) (hrun : s.bindRun p l e x en.word = s.modCore p l (Core.bound e x en.word a st sb)) :
    ∃ tm, exec (.bind p l e x) s = .next (s.modCore p l fun c => Core.issued e x s.now en tm (c.bound e x en.word a st sb)) :=
  State.issue_modCore (exec_bind_of_hit hr hhit) hr (beq_iff_eq.mpr hop) (congrArg Issued.done hrun) (Core.bound_head ..)

theorem exec_bind_fault {fault : Code} (hr : s.ready p l e x = some en) (hop : slotOp en.word = 0x74)
    (hhit : s.bindHit p l en.word) (hrun : s.bindRun p l e x en.word = s.abortCore p l fault 0) :
    ∃ tm : Timing, exec (.bind p l e x) s = .next ((s.abortCore p l fault 0).modCore p l fun c => { c with timing := tm }) :=
  State.issue_abortCore (exec_bind_of_hit hr hhit) hr (beq_iff_eq.mpr hop) (congrArg Issued.done hrun)

end

/-- Settles O23: the checks of a use decide between the registers' new contents and a fault; a fill is what the cache then finds. -/
theorem descriptorBinding : Obligations.DescriptorBinding := by
  unfold Obligations.DescriptorBinding
  refine ⟨fun p l e x s en hr hop => ⟨fun h0 => exec_bind_bound hr hop (.inl h0) (State.bindRun_null h0), fun d h0 hfind => ?_⟩,
    fun p l hd t s => exec_descriptorCacheFill_core, fun p hd t s => exec_descriptorCacheFill_trunk,
    fun hd d c => ⟨lruFind_lruPut hd d c, length_lruPut hd d c⟩⟩
  have hhit : s.bindHit p l en.word := .inr ⟨d, hfind⟩
  refine ⟨fun a hv ht he hf ha => ?_, fun hv => ?_, fun hv ht => ?_, fun hv ht he hf ha => ?_⟩
  · exact exec_bind_bound hr hop hhit (State.bindRun_bound h0 hfind (descUse_passes hv ht he hf) ha)
  · exact exec_bind_fault hr hop hhit (State.bindRun_refused h0 hfind (descUse_not_valid h0 hv))
  · exact exec_bind_fault hr hop hhit (State.bindRun_refused h0 hfind (descUse_other_tenant h0 hv ht))
  · exact exec_bind_fault hr hop hhit (State.bindRun_foreign h0 hfind (descUse_passes hv ht he hf) ha)

end Sys2Proof.Machine
end

section
/-! O21: SETR, ADDR and RANKADD write one register of their context, or leave an L register under fault 0x4904 (R208). -/

namespace Sys2Proof.Machine

/-! Registers of a context by class and index (R206) -/

/-- An L register holds the low 24 bits of what is written (R206). -/
theorem ofNat_toNat_setWidth_24 (v : W32) : BitVec.ofNat 32 (v.setWidth 24).toNat = v &&& 0xFFFFFF := by
  have hmask : (v &&& 0xFFFFFF).toNat = v.toNat % 2 ^ 24 := (BitVec.toNat_and ..).trans (Nat.and_two_pow_sub_one_eq_mod v.toNat 24)
  refine BitVec.eq_of_toNat_eq ?_
  rw [hmask, BitVec.toNat_ofNat, BitVec.toNat_setWidth]
  omega

section
variable {cls cls' idx : Nat} (k : EngCtx) (idx' : Nat) (v : W32)

theorem EngCtx.reg_setReg_same_class (hcls : cls ≤ 4) (hidx : idx < if cls = 4 then 4 else 16) :
    (k.setReg cls idx v).reg cls idx' = if idx' = idx then (if cls = 4 then v &&& 0xFFFFFF else v) else k.reg cls idx' := by
  interval_cases cls
  · exact vget_vset 0 k.a idx v idx' hidx
  · exact vget_vset 0 k.as idx v idx' hidx
  · exact vget_vset 0 k.ab idx v idx' hidx
  · exact vget_vset 0 k.al idx v idx' hidx
  · show BitVec.ofNat 32 (vget 0 (vset k.lr idx (v.setWidth 24)) idx').toNat = _
    rw [vget_vset 0 k.lr idx _ idx' hidx]
    split
    · exact ofNat_toNat_setWidth_24 v
    · rfl

/-- Registers of two classes stand in two fields of the context. -/
theorem EngCtx.reg_setReg_other_class (hcls : cls ≤ 4) (hcls' : cls' ≤ 4) (h : cls' ≠ cls) :
    (k.setReg cls idx v).reg cls' idx' = k.reg cls' idx' := by
  have hc : cls = 0 ∨ cls = 1 ∨ cls = 2 ∨ cls = 3 ∨ cls = 4 := by omega
  rcases hc with rfl | rfl | rfl | rfl | rfl <;> interval_cases cls' <;> trivial

theorem EngCtx.reg_setReg (hcls : cls ≤ 4) (hcls' : cls' ≤ 4) (hidx : idx < if cls = 4 then 4 else 16) :
    (k.setReg cls idx v).reg cls' idx' =
      if cls' = cls ∧ idx' = idx then (if cls = 4 then v &&& 0xFFFFFF else v) else k.reg cls' idx' := by
  by_cases h : cls' = cls
  · subst h
    simpa using k.reg_setReg_same_class idx' v hcls hidx
  · simpa [h] using k.reg_setReg_other_class idx' v hcls hcls' h

end

theorem EngCtx.setReg_head (k : EngCtx) (cls idx : Nat) (v : W32) : (k.setReg cls idx v).head = k.head := by
  unfold EngCtx.setReg
  split_ifs <;> rfl

/-! The result of a control form (R208) -/

/-- The register that a control form names can take the value (R208). -/
def ctlFits (w : Slot) (v : Int) : Prop := fld w 7 3 ≠ 4 ∨ (0 ≤ v ∧ v ≤ 0xFFFFFF)

section
variable {p : Fin 12} {l : Fin 32} {e : Engine} {x : Duet} {s : State} {w : Slot} {v : Int}

theorem State.ctlWrite_of_fits (h : ctlFits w v) : s.ctlWrite p l e x w v
    = s.modCore p l fun c => c.modCtx e x fun k => k.setReg (fld w 7 3) (fld w 10 4) (BitVec.ofInt 32 v) := by
  unfold ctlFits at h
  exact if_neg (by omega)

theorem State.ctlWrite_out_of_range (hcls : fld w 7 3 = 4) (h : v < 0 ∨ 0xFFFFFF < v) : s.ctlWrite p l e x w v = s.abortCore p l 0x4904 0 :=
  if_pos ⟨hcls, h⟩

variable {en : Entry} {code : Code} {want : Slot → Bool} {run : Entry → State → Issued} {o : Out}
  (ho : o = .next (s.issue p l e x .clean code want run)) (hr : s.ready p l e x = some en) (hw : want en.word = true)
  (hf : run en s = .done (s.ctlWrite p l e x en.word v))
include ho hr hw hf

/-- A control form whose result fits sets the register and issues. -/
theorem State.issue_ctlWrite_of_fits (h : ctlFits en.word v) :
    ∃ tm, o = .next (s.modCore p l fun c => Core.issued e x s.now en tm
      (c.modCtx e x fun k => k.setReg (fld en.word 7 3) (fld en.word 10 4) (BitVec.ofInt 32 v))) := by
  refine State.issue_modCore ho hr hw (hf.trans (congrArg _ (State.ctlWrite_of_fits h))) ?_
  rw [Core.ctx_modCtx, EngCtx.setReg_head]

/-- One whose result does not fit aborts the task. -/
theorem State.issue_ctlWrite_out_of_range (hcls : fld en.word 7 3 = 4) (h : v < 0 ∨ 0xFFFFFF < v) :
    ∃ tm : Timing, o = .next ((s.abortCore p l 0x4904 0).modCore p l fun c => { c with timing := tm }) :=
  State.issue_abortCore ho hr hw (hf.trans (congrArg _ (State.ctlWrite_out_of_range hcls h)))

end

/-- Settles O21: each command writes its own sum through `ctlWrite`, whose two cases are the two clauses. -/
theorem engineRegisterSlots : Obligations.EngineRegisterSlots := by
  unfold Obligations.EngineRegisterSlots
  refine ⟨fun p l e x s en i v hr hi => ?_, fun k cls idx cls' idx' v hcls hcls' hidx => k.reg_setReg idx' v hcls hcls' hidx⟩
  have hcommand : ∃ want run, exec i s = .next (s.issue p l e x .clean 0 want run) ∧ want en.word = true
      ∧ run en s = .done (s.ctlWrite p l e x en.word v) := by
    rcases hi with ⟨rfl, hop, rfl⟩ | ⟨rfl, hop, rfl⟩ | ⟨rfl, hop, -, rfl⟩
    all_goals exact ⟨_, _, rfl, beq_iff_eq.mpr hop, rfl⟩
  obtain ⟨want, run, ho, hw, hf⟩ := hcommand
  exact ⟨State.issue_ctlWrite_of_fits ho hr hw hf, fun h => State.issue_ctlWrite_out_of_range ho hr hw hf h.1 h.2⟩

end Sys2Proof.Machine
end

section
/-! O22: LOOP and the ends of repeats (R208, R209, R225). -/

namespace Sys2Proof.Machine

/-! LOOP at issue (R209) -/

/-- A body of nb entries ends inside the loop around it, if any (R209). -/
def EngCtx.bodyFits (k : EngCtx) (nb : Nat) : Prop := ∀ f fs, k.loops = f :: fs → f.pos + nb ≤ f.nb

/-- The LOOP breaks a rule of nesting (R209); k stands before it, its own entry at the head. -/
def EngCtx.badLoop (k : EngCtx) (en : Entry) : Prop :=
  fld en.word 9 7 = 0 ∨ 64 < fld en.word 9 7 ∨ 3 ≤ k.loops.length ∨ ¬(k.take en).bodyFits (fld en.word 9 7)

/-- The context with the LOOP gone and its body begun, or being discarded (R209). -/
def EngCtx.loopBegun (k : EngCtx) (en : Entry) : EngCtx :=
  EngCtx.pass 64 (if k.rl (fld en.word 7 2) = 0 then ({ k.take en with skip := fld en.word 9 7 } : EngCtx).settle 65
    else { k.take en with loops := { body := [], nb := fld en.word 9 7, pos := 0, left := k.rl (fld en.word 7 2),
                                     amask := BitVec.ofNat 16 (fld en.word 32 16) } :: (k.take en).loops })

/-- The model's test of the loop around a LOOP is `bodyFits`. -/
theorem EngCtx.bodyFits_iff (k : EngCtx) (nb : Nat) :
    k.bodyFits nb ↔ (match k.loops with
      | [] => true
      | f :: _ => decide (f.pos + nb ≤ f.nb)) = true := by
  unfold EngCtx.bodyFits
  cases k.loops with
  | nil => simp
  | cons f fs => simp

section
variable {p : Fin 12} {l : Fin 32} {e : Engine} {x : Duet} {s : State} {en : Entry}

theorem State.loopRun_refused (h : ((s.core p l).ctx e x).badLoop en) : s.loopRun p l e x en = s.abortCore p l 0x4908 0 := by
  simp only [EngCtx.badLoop, EngCtx.bodyFits_iff, Bool.not_eq_true] at h
  exact if_pos h

theorem State.loopRun_begun (h : ¬((s.core p l).ctx e x).badLoop en) : s.loopRun p l e x en
    = s.modCore p l fun c => { c.modCtx e x (fun _ => (((s.core p l).ctx e x).loopBegun en).mark s.now)
                               with current := vset c.current (engNo e) x } := by
  simp only [EngCtx.badLoop, EngCtx.bodyFits_iff, Bool.not_eq_true] at h
  exact if_neg h

theorem exec_loop_of_run {t : State} (hr : s.ready p l e x = some en) (hop : slotOp en.word = 0x73) (hrun : s.loopRun p l e x en = t) :
    ∃ tm : Timing, exec (.loop p l e x) s = .next (t.modCore p l fun c => { c with timing := tm }) := by
  obtain ⟨tm, h⟩ := State.issue_stay (code := 0) (want := fun w => slotOp w == 0x73) (f := fun en s => .stay (s.loopRun p l e x en))
    hr (beq_iff_eq.mpr hop) (congrArg Issued.stay hrun)
  exact ⟨tm, congrArg _ h⟩

end

/-! The end of a repeat (R208, R209) -/

theorem EngCtx.ra_strides (k : EngCtx) (mask : BitVec 16) {i : Nat} (hi : i < 16) :
    (k.strides mask).ra i = if mask.getLsbD i then k.ra i + vget 0 k.al i else k.ra i := by
  simp only [EngCtx.ra, EngCtx.strides, vget_of_lt _ _ _ hi, Vector.getElem_ofFn]
  rfl

/-- A repeat that another follows: the body starts again once the registers have moved. -/
theorem EngCtx.endRepeats_again {k : EngCtx} {f : Frame} {fs : List Frame} (hl : k.loops = f :: fs) (hend : f.nb ≤ f.pos) (hleft : 1 < f.left)
    (n : Nat) : k.endRepeats (n + 1) = { k with loops := { f with pos := 0, left := f.left - 1 } :: fs, a := (k.strides f.amask).a } := by
  simp only [EngCtx.endRepeats, hl, Nat.not_lt.mpr hend, Nat.not_le.mpr hleft, if_false]
  rfl

/-- Settles O22: a LOOP aborts or begins its body, as `badLoop` decides; a repeat that another follows ends as `endRepeats_again` says. -/
theorem hardwareLoops : Obligations.HardwareLoops := by
  unfold Obligations.HardwareLoops
  refine ⟨fun p l e x s en hr hop => ⟨fun hnb hmax hdepth hfits => ?_, fun hbad => ?_⟩,
    fun k f fs n hl _ hend hleft => ?_⟩
  · have hgood : ¬((s.core p l).ctx e x).badLoop en := by
      rintro (h | h | h | h)
      · omega
      · omega
      · omega
      · exact h hfits
    obtain ⟨tm, h⟩ := exec_loop_of_run hr hop (State.loopRun_begun hgood)
    refine ⟨tm, h.trans (congrArg _ ?_)⟩
    rw [State.modCore_modCore]
    rfl
  · exact exec_loop_of_run hr hop (State.loopRun_refused hbad)
  · rw [EngCtx.endRepeats_again hl hend hleft]
    exact ⟨rfl, fun i hi => k.ra_strides f.amask hi, rfl⟩

end Sys2Proof.Machine
end

section
/-! O26: signals of engine contexts at their release points, and the order of two operations of one cycle (R219, R234, R247, R249,
R251, R253). -/

namespace Sys2Proof.Machine

/-! The oldest signal of a context at its release point (R219, R234) -/

/-- What the signal does at the memory: its fault, or 0, and the state after it (R219). -/
def State.signalEffect (p : Fin 12) (l : Fin 32) (g : Signal) (s : State) : Code × State :=
  if syncOne g.word = true ∧ (s.part p).rank l ≠ 0 then (0, s)
  else s.signal p (syncPlace p g.word) (syncSem g.word) (syncIdx g.word) g.amount

/-- A context's oldest signal is released at a time: the rest stay, and what waited behind it passes. -/
def State.releaseSignal (p : Fin 12) (l : Fin 32) (e : Engine) (x : Duet) (rest : List Signal) (now : W64) (s : State) : State :=
  s.modCore p l fun c => c.modCtx e x fun k => ({ k with signals := rest }.pass 64).mark now

section
variable {p : Fin 12} {l : Fin 32} {g : Signal} {s : State}

theorem State.signalEffect_dropped (hone : syncOne g.word = true) (hrank : (s.part p).rank l ≠ 0) : s.signalEffect p l g = (0, s) :=
  if_pos ⟨hone, hrank⟩

section
variable {o : SemOp} (hact : syncOne g.word = false ∨ (s.part p).rank l = 0) (hsem : syncSem g.word = o)
include hact hsem

/-- A signal that is not dropped is the operation on the word it names. -/
theorem State.signalEffect_acts : s.signalEffect p l g = s.signal p (syncPlace p g.word) o (syncIdx g.word) g.amount := by
  rw [← hsem]
  refine if_neg ?_
  rcases hact with h | h <;> simp [h]

/-- The word of another tenant (R247). -/
theorem State.signalEffect_foreign (hown : s.mayUse (syncPlace p g.word) o.ctr (syncIdx g.word) (s.part p).tenant = false) :
    s.signalEffect p l g = (0x2A04, s.semErrAt (syncPlace p g.word) o.ctr (syncIdx g.word) 0x2A04) := by
  rw [State.signalEffect_acts hact hsem]
  exact if_neg (by simp [hown])

variable {v : W32} {code : Code} (hown : s.mayUse (syncPlace p g.word) o.ctr (syncIdx g.word) (s.part p).tenant = true)
  (happly : o.apply (s.word (syncPlace p g.word) o.ctr (syncIdx g.word)) g.amount = (v, code))
include hown happly

/-- An operation of the word's own tenant (R249, R251): what it makes of the word, and its fault. -/
theorem State.signalEffect_own : s.signalEffect p l g = (code, if code = 0 then s.putWord (syncPlace p g.word) o.ctr (syncIdx g.word) v
    else (s.putWord (syncPlace p g.word) o.ctr (syncIdx g.word) v).semErrAt (syncPlace p g.word) o.ctr (syncIdx g.word) code) := by
  rw [State.signalEffect_acts hact hsem, State.signal, if_pos hown, State.semDo, happly]

end

section
variable {e : Engine} {x : Duet} {rest : List Signal} {op : Nat} (halive : s.alive p l = true)
  (hfrozen : (s.core p l).engFrozen ((s.part p).copClaimed l) e = false) (hfirst : ((s.core p l).ctx e x).signals = g :: rest)
  (hop : syncOp g.word = op) (hrelease : (s.core p l).atRelease e x g = true)
include halive hfrozen hfirst hop hrelease

theorem State.signalOp_eq : s.signalOp p l e x op =
    if (s.signalEffect p l g).1 = 0 then (s.signalEffect p l g).2.releaseSignal p l e x rest s.now
    else (s.signalEffect p l g).2.abortCore p l (s.signalEffect p l g).1 0 := by
  unfold State.signalOp
  simp only [halive, hfrozen, hfirst, hop, hrelease, Bool.not_false, Bool.and_self, and_self, if_true]
  rfl

theorem State.signalOp_done {t : State} (heffect : s.signalEffect p l g = (0, t)) :
    s.signalOp p l e x op = t.releaseSignal p l e x rest s.now := by
  rw [State.signalOp_eq halive hfrozen hfirst hop hrelease, heffect, if_pos rfl]

theorem State.signalOp_faults {t : State} {code : Code} (heffect : s.signalEffect p l g = (code, t)) (hcode : code ≠ 0) :
    s.signalOp p l e x op = t.abortCore p l code 0 := by
  rw [State.signalOp_eq halive hfrozen hfirst hop hrelease, heffect, if_neg hcode]

end

end

/-! The operations of one cycle (R253) -/

/-- The place of an operation's kind among those of its cycle. -/
def semKind (op : Nat) : Nat := if op = 1 ∨ op = 4 then 0 else op

/-- The kind decides before the arrival port. -/
theorem semRank_lt {r r' : WaitUnit × Nat} (h : semKind r.2 < semKind r'.2) : semRank r < semRank r' := by
  have hport (u : WaitUnit × Nat) : 4096 * semKind u.2 ≤ semRank u ∧ semRank u < 4096 * semKind u.2 + 4096 := by
    have hctx (e : Engine) (x : Duet) : ctxNo e x < 8 := by cases e <;> cases x <;> decide
    obtain ⟨u, n⟩ := u
    refine ⟨Nat.le_add_right .., Nat.add_lt_add_left ?_ _⟩
    match u with
    | .eng _ l e x => have := hctx e x; show 64 * l.val + ctxNo e x < 4096; omega
    | .chan (.core _ l n) => show 64 * l.val + 32 + n.val < 4096; omega
    | .chan (.trunk _ t) => show 2048 + t.val < 4096; omega
    | .seq _ => show 2056 < 4096; decide
  have hr := hport r
  have hr' := hport r'
  omega

section
variable {u u' : WaitUnit} {s : State} {m n : Nat} (hn : s.semNext u = n)
include hn

theorem State.semCycle_first (h : semKind m < semKind n) : s.semCycle (u', m) [u] = (s.semPerform (u', m)).semPerform (u, n) := by
  have hlast : semInsert (u, n) [(u', m)] = [(u', m), (u, n)] := if_neg (Nat.lt_asymm (semRank_lt h))
  simp only [State.semCycle, List.foldl_cons, List.foldl_nil, hn, hlast]

theorem State.semCycle_second (h : semKind n < semKind m) : s.semCycle (u', m) [u] = (s.semPerform (u, n)).semPerform (u', m) := by
  have hfirst : semInsert (u, n) [(u', m)] = [(u, n), (u', m)] := if_pos (semRank_lt h)
  simp only [State.semCycle, List.foldl_cons, List.foldl_nil, hn, hfirst]

end

/-- The commands of a signal that meets no other operation. -/
theorem exec_signal_alone {p : Fin 12} {l : Fin 32} {e : Engine} {x : Duet} {i : Instr} {o : SemOp} {op : Nat}
    (h : (i, o, op) ∈ ([(.semAdd p l e x [], .add, 1), (.semSub p l e x [], .sub, 2), (.inc p l e x [], .inc, 4)] : List (Instr × SemOp × Nat)))
    (s : State) : exec i s = .next (s.signalOp p l e x op) ∧ ∀ w : Slot, syncOp w = op → syncSem w = o := by
  simp only [List.mem_cons, Prod.mk.injEq, List.not_mem_nil, or_false] at h
  rcases h with ⟨rfl, rfl, rfl⟩ | ⟨rfl, rfl, rfl⟩ | ⟨rfl, rfl, rfl⟩
  all_goals exact ⟨rfl, fun w hw => by simp [syncSem, hw]⟩

/-- Settles O26: a signal at its release point has one of the effects of `signalEffect`; the kind decides the order of a cycle. -/
theorem syncSlotSignals : Obligations.SyncSlotSignals := by
  unfold Obligations.SyncSlotSignals
  refine ⟨fun p l e x s g rest i o op hi => ?_,
    fun p q l m e f x y u s => ⟨fun hn => ?_, fun hn => ?_, fun hn => ⟨?_, ?_, ?_⟩, fun hn => ?_, fun hn => ?_⟩⟩
  · obtain ⟨hexec, hsem⟩ := exec_signal_alone hi s
    intro c sp idx released halive hfrozen hfirst hop hrelease
    have hdone {t : State} := State.signalOp_done (t := t) halive hfrozen hfirst hop hrelease
    have hfaults {t : State} {code : Code} := State.signalOp_faults (t := t) (code := code) halive hfrozen hfirst hop hrelease
    rw [hexec]
    refine ⟨fun hone hrank => congrArg _ (hdone (State.signalEffect_dropped hone hrank)),
      fun hact => ⟨fun v hown happly => ?_, fun v code hown happly hcode => ?_, fun hown => ?_⟩⟩
    · exact congrArg _ (hdone (State.signalEffect_own hact (hsem _ hop) hown happly))
    · exact congrArg _ (hfaults ((State.signalEffect_own hact (hsem _ hop) hown happly).trans (by rw [if_neg hcode])) hcode)
    · exact congrArg _ (hfaults (State.signalEffect_foreign hact (hsem _ hop) hown) (by decide))
  · exact congrArg _ (State.semCycle_first hn (by decide))
  · exact congrArg _ (State.semCycle_second hn (by decide))
  · exact congrArg _ (State.semCycle_first hn (by decide))
  · exact congrArg _ (State.semCycle_first hn (by decide))
  · exact congrArg _ (State.semCycle_first hn (by decide))
  · exact congrArg _ (State.semCycle_second hn (by decide))
  · exact congrArg _ (State.semCycle_second hn (by decide))

end Sys2Proof.Machine
end

section
/-! O39: the scalar slot (R198 to R202, R205): what each opcode makes of the registers, branches, calls, fallbacks, loads and stores. -/

namespace Sys2Proof.Machine

/-! Scalar registers (R198) -/

theorem Part.s_putS (q : Part) {n m : Nat} (hn : n < 32) (v : W64) : (q.putS n v).s m = if m = n ∧ n ≠ 0 then v else q.s m := by
  unfold Part.putS
  by_cases h0 : n = 0
  · simp [h0]
  · by_cases hm : m = 0
    · simp [Part.s, hm, h0, Ne.symm h0]
    · simpa [Part.s, h0, hm] using vget_vset 0 q.sreg n v m hn

/-! Operations on registers (R200): each opcode with its value -/

/-- The minimum, signed. -/
theorem ite_toInt_lt_min (a b : W64) : (if b.toInt < a.toInt then b else a) = if a.toInt ≤ b.toInt then a else b := by
  rw [← ite_not]
  simp only [Int.not_lt]

/-- The maximum, signed. -/
theorem ite_toInt_lt_max (a b : W64) : (if a.toInt < b.toInt then b else a) = if a.toInt ≤ b.toInt then b else a := by
  by_cases h : a = b
  · simp [h]
  · have hne : a.toInt ≠ b.toInt := fun e => h (BitVec.eq_of_toInt_eq e)
    simp only [Int.lt_iff_le_and_ne, hne, ne_eq, not_false_eq_true, and_true]

/-- The operations of form R. -/
def aluTable (a b : W64) : List (Nat × W64) :=
  [(0x01, a + b), (0x02, a - b), (0x03, a &&& b), (0x04, a ||| b), (0x05, a ^^^ b), (0x06, a <<< (b.toNat % 64)),
    (0x07, a >>> (b.toNat % 64)), (0x08, a.sshiftRight (b.toNat % 64)), (0x09, a * b), (0x0A, if a.toInt < b.toInt then 1 else 0),
    (0x0B, if a.toNat < b.toNat then 1 else 0), (0x0C, if a.toInt ≤ b.toInt then a else b), (0x0D, if a.toInt ≤ b.toInt then b else a)]

/-- The operations with an immediate. -/
def immTable (a : W64) (w : W32) : List (Nat × W64) :=
  [(0x10, a + BitVec.ofInt 64 (scSimm w)), (0x11, a &&& BitVec.ofNat 64 (scImm w)), (0x12, a ||| BitVec.ofNat 64 (scImm w)),
    (0x13, a ^^^ BitVec.ofNat 64 (scImm w)), (0x14, a <<< (scImm w % 64)), (0x15, a >>> (scImm w % 64)),
    (0x16, a.sshiftRight (scImm w % 64))]

/-- The relations of the branches. -/
def branchTable (d a : W64) : List (Nat × Bool) :=
  [(0x20, decide (d = a)), (0x21, decide (d ≠ a)), (0x22, decide (d.toInt < a.toInt)), (0x23, decide (a.toInt ≤ d.toInt)),
    (0x24, decide (d.toNat < a.toNat)), (0x25, decide (a.toNat ≤ d.toNat))]

theorem aluOp_of_mem (a b : W64) : ∀ r ∈ aluTable a b, (0 < r.1 ∧ r.1 ≤ 0x0D) ∧ aluOp r.1 a b = r.2 := by
  simp [aluTable, aluOp, ite_toInt_lt_min, ite_toInt_lt_max]

theorem aluImm_of_mem (a : W64) (w : W32) : ∀ r ∈ immTable a w, (0x0D < r.1 ∧ r.1 ≤ 0x16) ∧ aluImm r.1 a w = r.2 := by
  simp [immTable, aluImm]

theorem branchHolds_of_mem (d a : W64) : ∀ r ∈ branchTable d a, (0x1D < r.1 ∧ r.1 ≤ 0x25) ∧ branchHolds r.1 d a = r.2 := by
  simp [branchTable, branchHolds]

/-! The scalar slot, opcode by opcode (R199, R200) -/

theorem branchTarget_of_nonneg {off : Nat} {w : W32} (h : 0 ≤ (off : Int) + 4 * scSimm w) :
    branchTarget off w = ((off : Int) + 4 * scSimm w).toNat :=
  if_neg (Int.not_lt.mpr h)

section
variable {p : Fin 12} {w : W32} {off nxt : Nat} {s : State}

theorem State.scalar_nop (hop : scOp w = 0) : s.scalar p w off nxt = .next s := if_pos hop

theorem State.scalar_alu (hlo : 0 < scOp w) (hhi : scOp w ≤ 0x0D) : s.scalar p w off nxt
    = .next (s.modPart p fun q => q.putS (scRd w) (aluOp (scOp w) ((s.part p).s (scRa w)) ((s.part p).s (scRb w)))) := by
  simp only [State.scalar]
  rw [if_neg (by omega), if_pos hhi]

theorem State.scalar_imm (hlo : 0x0D < scOp w) (hhi : scOp w ≤ 0x16) : s.scalar p w off nxt
    = .next (s.modPart p fun q => q.putS (scRd w) (aluImm (scOp w) ((s.part p).s (scRa w)) w)) := by
  simp only [State.scalar]
  rw [if_neg (by omega), if_neg (by omega), if_pos hhi]

theorem State.scalar_insert (hop : scOp w = 0x17) : s.scalar p w off nxt = .next (s.modPart p fun q => q.putS (scRd w)
    (((s.part p).s (scRd w) &&& ~~~(0xFFFF#64 <<< (16 * (scRa w % 4)))) ||| (BitVec.ofNat 64 (scImm w) <<< (16 * (scRa w % 4))))) := by
  have hshift (x n : Nat) : BitVec.ofNat 64 (x * 2 ^ n) = BitVec.ofNat 64 x <<< n := by
    refine BitVec.eq_of_toNat_eq ?_
    simp [Nat.shiftLeft_eq, Nat.mod_mul_mod]
  simp only [State.scalar, hop, hshift]
  rfl

theorem State.scalar_mem (hlo : 0x18 ≤ scOp w) (hhi : scOp w ≤ 0x1B) : s.scalar p w off nxt = s.scalarMem p w := by
  simp only [State.scalar]
  rw [if_neg (by omega), if_neg (by omega), if_neg (by omega), if_neg (by omega), if_pos hhi]

/-- The eight registers from RA on, as one entry. -/
def Part.descImage (q : Part) (w : W32) : BitVec 512 :=
  BitVec.ofNat 512 (((List.range 8).map fun i => (q.s (scRa w + i)).toNat * 2 ^ (64 * i)).sum)

theorem State.scalar_descw {cause : Nat} {t : State} (hop : scOp w = 0x1C)
    (hd : s.descWrite p (BitVec.ofNat 17 ((s.part p).s (scRb w)).toNat) ((s.part p).descImage w) = (cause, t)) :
    s.scalar p w off nxt = .next (t.modPart p fun q => q.putS (scRd w) (BitVec.ofNat 64 cause)) := by
  have hrun : s.scalar p w off nxt = .next (s.descw p w) := by simp [State.scalar, hop]
  unfold Part.descImage at hd
  rw [hrun, State.descw, hd]

theorem State.scalar_special (hop : scOp w = 0x1D) :
    s.scalar p w off nxt = .next (s.modPart p fun q => q.putS (scRd w) (s.special p (scImm w % 256))) := by
  simp [State.scalar, hop]

theorem State.scalar_branch (hlo : 0x1D < scOp w) (hhi : scOp w ≤ 0x25) : s.scalar p w off nxt
    = if branchHolds (scOp w) ((s.part p).s (scRd w)) ((s.part p).s (scRa w)) then .jump (branchTarget off w) s else .next s := by
  simp only [State.scalar]
  rw [if_neg (by omega), if_neg (by omega), if_neg (by omega), if_neg (by omega), if_neg (by omega), if_neg (by omega), if_neg (by omega),
    if_pos hhi]

/-- A branch whose target is no offset before the code object. -/
theorem State.scalar_branch_taken (hlo : 0x1D < scOp w) (hhi : scOp w ≤ 0x25)
    (hholds : branchHolds (scOp w) ((s.part p).s (scRd w)) ((s.part p).s (scRa w)) = true) (htgt : 0 ≤ (off : Int) + 4 * scSimm w) :
    s.scalar p w off nxt = .jump ((off : Int) + 4 * scSimm w).toNat s := by
  rw [State.scalar_branch hlo hhi, if_pos hholds, branchTarget_of_nonneg htgt]

theorem State.scalar_jump_register (hop : scOp w = 0x26) : s.scalar p w off nxt = .jump ((s.part p).s (scRa w)).toNat s := by
  simp [State.scalar, hop]

theorem State.scalar_call (hop : scOp w = 0x27) (htgt : 0 ≤ (off : Int) + 4 * scSimm w) : s.scalar p w off nxt
    = if (s.part p).calls.length < 8
      then .jump ((off : Int) + 4 * scSimm w).toNat (s.modPart p fun q => { q with calls := BitVec.ofNat 32 nxt :: q.calls })
      else .fault 0x4909 0 s := by
  rw [← ite_not, ← branchTarget_of_nonneg htgt]
  simp [State.scalar, hop]

theorem State.scalar_return_empty (hop : scOp w = 0x28) (hc : (s.part p).calls = []) : s.scalar p w off nxt = .fault 0x4909 0 s := by
  simp [State.scalar, hop, hc]

theorem State.scalar_return {r : W32} {t : List W32} (hop : scOp w = 0x28) (hc : (s.part p).calls = r :: t) :
    s.scalar p w off nxt = .jump r.toNat (s.modPart p fun q => { q with calls := t }) := by
  simp [State.scalar, hop, hc]

theorem State.scalar_fbchk (hop : scOp w = 0x29) : s.scalar p w off nxt = s.fbchk p (fld w 6 6) (min (branchTarget off w) 0xFFFFFFFF) := by
  simp [State.scalar, hop]

theorem State.scalar_fret (hop : scOp w = 0x2A) : s.scalar p w off nxt = if (s.part p).rerun = 0 then .fault 0x4909 0 s
    else .jump (s.part p).retPoint.toNat (s.modPart p fun q => { q with rerun := 0, fbSlot := 0 }) := by
  simp [State.scalar, hop]

theorem State.scalar_end (hop : scOp w = 0x2B) : s.scalar p w off nxt = .next (s.modPart p fun q => { q with seqState := 2 }) := by
  simp [State.scalar, hop]

theorem State.scalar_trap (hop : scOp w = 0x2C) : s.scalar p w off nxt = .fault 0x490A (BitVec.ofInt 64 (scSimm w)) s := by
  simp [State.scalar, hop]

/-- Every operation that writes a register from registers, an immediate or a special register. -/
def State.valueTable (p : Fin 12) (w : W32) (s : State) : List (Nat × W64) :=
  aluTable ((s.part p).s (scRa w)) ((s.part p).s (scRb w)) ++ immTable ((s.part p).s (scRa w)) w
    ++ [(0x17, ((s.part p).s (scRd w) &&& ~~~(0xFFFF#64 <<< (16 * (scRa w % 4)))) ||| (BitVec.ofNat 64 (scImm w) <<< (16 * (scRa w % 4)))),
      (0x1D, s.special p (scImm w % 256))]

theorem State.scalar_value {v : W64} (hv : (scOp w, v) ∈ s.valueTable p w) :
    s.scalar p w off nxt = .next (s.modPart p fun q => q.putS (scRd w) v) := by
  simp only [State.valueTable, List.mem_append, List.mem_cons, Prod.mk.injEq, List.not_mem_nil, or_false] at hv
  rcases hv with (hv | hv) | ⟨hop, rfl⟩ | ⟨hop, rfl⟩
  · obtain ⟨⟨hlo, hhi⟩, hvalue⟩ := aluOp_of_mem _ _ _ hv
    rw [State.scalar_alu hlo hhi, hvalue]
  · obtain ⟨⟨hlo, hhi⟩, hvalue⟩ := aluImm_of_mem _ _ _ hv
    rw [State.scalar_imm hlo hhi, hvalue]
  · exact State.scalar_insert hop
  · exact State.scalar_special hop

end

/-! Fallback checks (R205) -/

section
variable {p : Fin 12} {w : W32} {off nxt : Nat} {s : State} (hop : scOp w = 0x29)
include hop

theorem State.scalar_fbchk_idle (h : (s.part p).rerun ≠ 0 ∨ (s.part p).fbNext (fld w 6 6) = false) : s.scalar p w off nxt = .next s :=
  (State.scalar_fbchk hop).trans (if_pos h)

theorem State.scalar_fbchk_taken {f : Fallback} (hrerun : (s.part p).rerun = 0) (hnext : (s.part p).fbNext (fld w 6 6) = true)
    (hf : (s.part p).fallbackOf (fld w 6 6) = some f) (hlo : 0 ≤ (off : Int) + 4 * scSimm w) (hhi : (off : Int) + 4 * scSimm w < 2 ^ 32) :
    s.scalar p w off nxt = .jump f.entry.toNat ((s.setNext p (fld w 6 6) false).modPart p fun q =>
      { q with rerun := 2, fbSlot := BitVec.ofNat 6 (fld w 6 6), retPoint := BitVec.ofNat 32 ((off : Int) + 4 * scSimm w).toNat }) := by
  have hret : min (branchTarget off w) 0xFFFFFFFF = ((off : Int) + 4 * scSimm w).toNat := by
    rw [branchTarget_of_nonneg hlo]
    omega
  rw [State.scalar_fbchk hop, hret]
  simp [State.fbchk, hrerun, hnext, hf]

end

/-! Loads and stores (R198, R200, R201) -/

section
variable {p : Fin 12} {a : Nat} {s : State}

/-- A load enters the list of those outstanding, with its answer when that is at hand. -/
def State.loadPut (p : Fin 12) (rd : Fin 32) (a size : Nat) (r : Option (Code × List Byte)) (s : State) : State :=
  s.modPart p fun q => { q with loads := q.loads ++ [{ rd := rd, addr := a, size := size, answer := r }] }

theorem State.scalarLoad_register {rd : Fin 32} {size : Nat} {st : Code} {data : List W32} {t : State} (hreg : s.isReg a = true)
    (hread : s.regReadN (.seq p) (a % 2 ^ 48) size = (st, data, t)) :
    s.scalarLoad p rd a size = t.loadPut p rd a size (some (st, bytesOfWords data)) := by
  simp only [State.scalarLoad, hreg, hread, if_true]
  rfl

theorem State.scalarLoad_memory {rd : Fin 32} {size : Nat} (hreg : s.isReg a = false) : s.scalarLoad p rd a size
    = (s.loadPut p rd a size none).request (.seqLoad p (s.part p).taskNo rd) (.seq p) .read a size [] :=
  if_neg (by simp [hreg])

theorem State.scalarStore_register {size v : Nat} {t : State} (hreg : s.isReg a = true)
    (hwrite : s.regWriteN (.seq p) (a % 2 ^ 48) size (wordsOf (bytesOf size v)) none = .now 0 t) :
    s.scalarStore p a (bytesOf size v) = t := by
  simp only [State.scalarStore, hreg, length_bytesOf, hwrite, if_true]
  rfl

theorem State.scalarStore_memory {size v : Nat} (hreg : s.isReg a = false) : s.scalarStore p a (bytesOf size v)
    = (s.modPart p fun q => { q with storeBusy := true }).request (.seqStore p (s.part p).taskNo) (.seq p) .write a size (bytesOf size v) := by
  unfold State.scalarStore
  rw [if_neg (by simp [hreg]), length_bytesOf]

end

/-- Bytes of a scalar access. -/
def scSize (w : W32) : Nat := if scOp w < 0x1A then 8 else 4

/-- Address of a scalar access of partition p. -/
def State.scAddr (p : Fin 12) (w : W32) (s : State) : Nat := ((s.part p).s (scRa w) + BitVec.ofInt 64 (scSimm w)).toNat

/-- Destination of a scalar load. -/
def scDest (w : W32) : Fin 32 := ⟨scRd w % 32, Nat.mod_lt _ (by decide)⟩

section
variable {p : Fin 12} {w : W32} {off nxt : Nat} {s : State} (hlo : 0x18 ≤ scOp w) (hhi : scOp w ≤ 0x1B)
include hlo hhi

theorem State.scalar_access_refused (hok : s.scalarOk p (s.scAddr p w) (scSize w) = false) : s.scalar p w off nxt = .fault 0x3901 0 s :=
  (State.scalar_mem hlo hhi).trans (if_pos hok)

variable (hok : s.scalarOk p (s.scAddr p w) (scSize w) = true)
include hok

theorem State.scalar_load (heven : scOp w % 2 = 0) :
    s.scalar p w off nxt = .next (s.scalarLoad p (scDest w) (s.scAddr p w) (scSize w)) :=
  (State.scalar_mem hlo hhi).trans ((if_neg (ne_false_of_eq_true hok)).trans (if_pos (by omega)))

theorem State.scalar_store (hodd : scOp w % 2 = 1) :
    s.scalar p w off nxt = .next (s.scalarStore p (s.scAddr p w) (bytesOf (scSize w) ((s.part p).s (scRd w)).toNat)) :=
  (State.scalar_mem hlo hhi).trans ((if_neg (ne_false_of_eq_true hok)).trans (if_neg (by omega)))

end

/-- Settles O39: the opcode selects the case; the tables give the value or the relation that it names. -/
theorem scalarOperations : Obligations.ScalarOperations := by
  unfold Obligations.ScalarOperations
  refine ⟨fun q n m v hn _ => q.s_putS hn v, fun p w off nxt s => ⟨fun v hv => State.scalar_value hv, State.scalar_nop, fun t ht => ?_,
    State.scalar_jump_register, State.scalar_call, fun hop => ⟨State.scalar_return_empty hop, fun r t => State.scalar_return hop⟩,
    fun hop => ⟨State.scalar_fbchk_idle hop, fun f => State.scalar_fbchk_taken hop⟩, State.scalar_fret, State.scalar_end,
    State.scalar_trap, fun hop cause s' => State.scalar_descw hop, fun ⟨hlo, hhi⟩ => ⟨State.scalar_access_refused hlo hhi, fun hok => ?_⟩⟩⟩
  · obtain ⟨⟨hlo, hhi⟩, hholds⟩ := branchHolds_of_mem _ _ _ ht
    exact ⟨fun hf => (State.scalar_branch hlo hhi).trans (if_neg (ne_true_of_eq_false (hholds.trans hf))),
      fun hf => State.scalar_branch_taken hlo hhi (hholds.trans hf)⟩
  · refine ⟨fun heven hreg st data s' hread => ?_, fun heven hreg => ?_, fun hodd hreg s' hwrite => ?_, fun hodd hreg => ?_⟩
    · exact (State.scalar_load hlo hhi hok heven).trans (congrArg _ (State.scalarLoad_register hreg hread))
    · exact (State.scalar_load hlo hhi hok heven).trans (congrArg _ (State.scalarLoad_memory hreg))
    · exact (State.scalar_store hlo hhi hok hodd).trans (congrArg _ (State.scalarStore_register hreg hwrite))
    · exact (State.scalar_store hlo hhi hok hodd).trans (congrArg _ (State.scalarStore_memory hreg))

end Sys2Proof.Machine
end

section
/-! O38: the issue of a bundle (R192 to R194, R198, R203, R205, R220, R222, R227, R454). -/

namespace Sys2Proof.Machine

/-! Changes of one partition -/

theorem State.modPart_congr {p : Fin 12} {f g : Part → Part} {s : State} (h : f (s.part p) = g (s.part p)) : s.modPart p f = s.modPart p g := by
  have h' : f s.parts[p] = g s.parts[p] := h
  simp only [State.modPart, h']

theorem State.modPart_of_same {p : Fin 12} {f : Part → Part} {s : State} (h : f (s.part p) = s.part p) : s.modPart p f = s := by
  have h' : f s.parts[p] = s.parts[p] := h
  have hset : s.parts.set p s.parts[p] = s.parts := Vector.set_getElem_self _
  simp only [State.modPart, h', hset]

/-! The slots of a bundle go to the live cores (R226) -/

/-- The sync slot that a bundle sends to the engines: its own, unless it is the sequencer's. -/
def Bundle.engineSync (b : Bundle) : Option W32 := b.sync.filter fun w => (syncEngine (syncSlot w)).isSome

/-- What a bundle sends to the promenades, with the scalar registers as they stand. -/
def Bundle.broadcast (b : Bundle) (svals : List W32) : Broadcast :=
  { ctx := b.duet, vector := b.vector, matrix := b.matrix, load := b.load, store := b.store, sync := b.engineSync, svals := svals }

/-- A core once the bundle has been sent: a live one has it on its promenade, when there is anything to send. -/
def Core.sent (b : Bundle) (svals : List W32) (c : Core) : Core :=
  if c.fenced = true ∨ (b.slots.isEmpty = true ∧ b.engineSync.isNone = true) then c
  else { c with promenade := c.promenade ++ [b.broadcast svals] }

/-- A partition once the bundle has been sent. -/
def Part.sent (b : Bundle) (svals : List W32) (q : Part) : Part := { q with cores := q.cores.map (Core.sent b svals) }

theorem State.broadcast_eq_ite (p : Fin 12) (b : Bundle) (svals : List W32) (s : State) :
    s.broadcast p b svals = if b.slots.isEmpty && b.engineSync.isNone then s else s.modPart p fun q =>
      { q with cores := q.cores.map fun c => if c.fenced then c else { c with promenade := c.promenade ++ [b.broadcast svals] } } := by
  unfold State.broadcast Bundle.broadcast Bundle.engineSync
  cases b.sync <;> rfl

theorem State.broadcast_eq (p : Fin 12) (b : Bundle) (svals : List W32) (s : State) :
    s.broadcast p b svals = s.modPart p (Part.sent b svals) := by
  rw [State.broadcast_eq_ite]
  by_cases h : b.slots.isEmpty = true ∧ b.engineSync.isNone = true
  · have hsame : Core.sent b svals = id := funext fun c => if_pos (.inr h)
    rw [if_pos (by simpa using h), State.modPart_of_same]
    simp only [Part.sent, hsame, Vector.map_id]
  · have hsent : Core.sent b svals = fun c => if c.fenced then c else { c with promenade := c.promenade ++ [b.broadcast svals] } :=
      funext fun c => by simp only [Core.sent, h, or_false]
    rw [if_neg (by simpa using h)]
    unfold Part.sent
    rw [hsent]

/-! The end of an issue cycle (R192, R194, R203, R205, R454) -/

/-- The fallback branch that a bundle takes at its end (R205); fret says that its scalar slot was the return from one. -/
def Part.endTake (q : Part) (b : Bundle) (fret : Bool) : Option (Nat × Nat) :=
  if b.eog && !fret && decide (q.seqState = 1) then q.fbTake else none

/-- A capture stops the sequencer at this bundle (R454). -/
def State.stopsAt (s : State) (p : Fin 12) (b : Bundle) : Bool := b.eog && decide (s.capState = .quiescing) && s.capMask.getLsbD p.val

/-- Where the sequencer goes on: at the target, or in the fallback taken, which returns to the target. -/
def Part.moved (b : Bundle) (off target extra : Nat) (stop : Bool) (q : Part) : Option (Nat × Nat) → Part
  | none => q.issued off target (b.skip.toNat + extra) stop
  | some (k, e) => (q.enterFallback k target).issued off e (b.skip.toNat + 2) stop

/-- A change of the sequencer at the end of an issue: the bundle is counted, and the next one's wait begins. -/
def State.issueCounted (p : Fin 12) (f : Part → Part) (s : State) : State := ((s.modPart p f).perf p 4 1).markSeq p

section
variable {p : Fin 12} {b : Bundle} {off target : Nat} {taken fret : Bool} {svals : List W32} {s : State}

theorem State.issueCounted_congr {f g : Part → Part} (h : f (s.part p) = g (s.part p)) : s.issueCounted p f = s.issueCounted p g := by
  rw [State.issueCounted, State.modPart_congr h]
  rfl

theorem State.traceBundle_off {hdr : W32} (h : (s.part p).trcEn = false) : s.traceBundle p off hdr = s := if_neg (by simp [h])

theorem State.issueEnd_untraced (htrc : (s.part p).trcEn = false) : s.issueEnd p b off target taken fret svals
    = s.issueCounted p fun q =>
        (q.sent b svals).moved b off target (if taken then 2 else 0) (s.stopsAt p b) ((s.part p).endTake b fret) := by
  have htake : (if b.eog && !fret && decide (((s.modPart p (Part.sent b svals)).part p).seqState = 1)
      then ((s.modPart p (Part.sent b svals)).part p).fbTake else none) = (s.part p).endTake b fret := by
    rw [State.part_modPart]
    rfl
  unfold State.issueEnd
  simp only [State.broadcast_eq, htake]
  cases (s.part p).endTake b fret
  all_goals
    simp only [State.modPart_modPart]
    rw [State.traceBundle_off (by rw [State.part_modPart]; exact htrc)]
    rfl

theorem Part.fbTake_of_none_pending {q : Part} (h : q.fbPend = 0) : q.fbTake = none := by
  have hfind : ((List.range 64).find? fun k => q.fbPend.getLsbD k) = none := List.find?_eq_none.mpr (by simp [h])
  simp [Part.fbTake, hfind]

theorem Part.endTake_of_not_eog {q : Part} (h : b.eog = false) : q.endTake b fret = none := by
  simp [Part.endTake, h]

theorem Part.endTake_of_none_pending {q : Part} (h : q.fbPend = 0) : q.endTake b fret = none := by
  simp [Part.endTake, Part.fbTake_of_none_pending h]

/-- An EOG bundle, not itself a return, takes the lowest pending fallback of a task outside any (R205). -/
theorem Part.endTake_lowest {q : Part} {k : Nat} {f : Fallback} (heog : b.eog = true) (hstate : q.seqState = 1) (hrerun : q.rerun = 0)
    (hk : ((List.range 64).find? fun i => q.fbPend.getLsbD i) = some k) (hf : q.fallbackOf k = some f) :
    q.endTake b false = some (k, f.entry.toNat) := by
  simp [Part.endTake, Part.fbTake, heog, hstate, hrerun, hk, hf]

theorem State.stopsAt_of_not_eog (h : b.eog = false) : s.stopsAt p b = false := by
  simp [State.stopsAt, h]

theorem State.stopsAt_of_not_quiescing (h : s.capState ≠ .quiescing) : s.stopsAt p b = false := by
  simp [State.stopsAt, h]

theorem State.stopsAt_of_quiescing (heog : b.eog = true) (h : s.capState = .quiescing) (hm : s.capMask.getLsbD p.val = true) :
    s.stopsAt p b = true := by
  simp [State.stopsAt, heog, h, hm]

end

/-! The issue of a bundle that nothing stalls (R194, R201, R203, R220) -/

/-- The scalar registers as a broadcast carries them. -/
def Part.scalars (q : Part) : List W32 := (List.range 32).map fun i => (q.s i).setWidth 32

/-- The sequencer stands at the bundle that it has begun. -/
def State.atBundle (p : Fin 12) (off : Nat) (s : State) : State := s.modPart p fun q => { q with pc := BitVec.ofNat 32 off }

/-- The scalar slot of a bundle, if it has one, goes on at the next bundle without an abort. -/
def State.scalarGoesOn (p : Fin 12) (b : Bundle) (off nxt : Nat) (s t : State) : Prop :=
  (b.scalar = none ∧ t = s) ∨ ∃ w, b.scalar = some w ∧ s.scalar p w off nxt = .next t ∧ (t.part p).abort = none

section
variable {p : Fin 12} {b : Bundle} {s s₁ t : State}

theorem State.issueBundle_signal_faults {code : Code} (hsig : s.seqSignal p b = (code, t)) (hcode : code ≠ 0) :
    s.issueBundle p b = t.abort p code 0 := by
  simp only [State.issueBundle, hsig]
  exact if_pos hcode

section
variable (hsig : s.seqSignal p b = (0, s₁))
include hsig

theorem State.issueBundle_goes_on (h : s₁.scalarGoesOn p b (s.part p).next.toNat ((s.part p).next.toNat + b.len) t) :
    s.issueBundle p b = t.issueEnd p b (s.part p).next.toNat ((s.part p).next.toNat + b.len) false false (s.part p).scalars := by
  rcases h with ⟨hnone, rfl⟩ | ⟨w, hw, hrun, habort⟩
  · simp [State.issueBundle, hsig, hnone, Part.scalars]
  · simp [State.issueBundle, hsig, hw, hrun, habort, Part.scalars]

variable {w : W32} (hw : b.scalar = some w)
include hw

theorem State.issueBundle_jumps {a : Nat} (hrun : s₁.scalar p w (s.part p).next.toNat ((s.part p).next.toNat + b.len) = .jump a t) :
    s.issueBundle p b = t.issueEnd p b (s.part p).next.toNat (min a 0xFFFFFFFF) true (scOp w == 0x2A) (s.part p).scalars := by
  simp [State.issueBundle, hsig, hw, hrun, Part.scalars]

theorem State.issueBundle_access_aborts (hrun : s₁.scalar p w (s.part p).next.toNat ((s.part p).next.toNat + b.len) = .next t)
    (habort : (t.part p).abort.isSome = true) : s.issueBundle p b = t.atBundle p (s.part p).next.toNat := by
  simp [State.issueBundle, hsig, hw, hrun, habort, State.atBundle]

theorem State.issueBundle_scalar_faults {code : Code} {arg : W64}
    (hrun : s₁.scalar p w (s.part p).next.toNat ((s.part p).next.toNat + b.len) = .fault code arg t) :
    s.issueBundle p b = (t.atBundle p (s.part p).next.toNat).abort p code arg := by
  simp [State.issueBundle, hsig, hw, hrun, State.atBundle]

end

end

/-! The command: what the fetch of the next bundle decides (R192 to R194, R198, R220, R222, R227) -/

section
variable {p : Fin 12} {s : State} (hruns : s.seqRuns p = true) (hskip : (s.part p).skip = 0) (hstore : (s.part p).storeBusy = false)
  (hmiss : (s.part p).bmiss = false)
include hruns hskip hstore hmiss

/-- The model's test that the sequencer may fetch. -/
theorem State.mayFetch : (s.seqRuns p && decide ((s.part p).skip = 0) && !(s.part p).storeBusy && !(s.part p).bmiss) = true := by
  simp [hruns, hskip, hstore, hmiss]

theorem exec_bundleIssue_misses {o : Nat} (hfetch : (s.part p).fetch = .miss) (ho : (s.part p).missing = some o) :
    exec (.bundleIssue p false) s = .next ((s.modPart p fun q => { q with bmiss := true, fetchRet := none }).request
      (.seqFetch p (s.part p).taskNo) (.seq p) .read ((s.part p).codeBase + ((s.part p).fillLine o).1) ((s.part p).fillLine o).2 []) := by
  show execBundleIssue p false s = _
  simp only [execBundleIssue, State.mayFetch hruns hskip hstore hmiss, hfetch, State.bundleMiss, ho, if_true, Bool.false_eq_true, if_false]

theorem exec_bundleIssue_fetch_faults {code : Code} (hfetch : (s.part p).fetch = .fault code) :
    exec (.bundleIssue p false) s = .next (s.abort p code 0) := by
  show execBundleIssue p false s = _
  simp only [execBundleIssue, State.mayFetch hruns hskip hstore hmiss, hfetch, if_true, Bool.false_eq_true, if_false]

variable {b : Bundle} (hfetch : (s.part p).fetch = .ok b)
include hfetch

theorem exec_bundleIssue_check_fails (hcheck : b.check ≠ 0) : exec (.bundleIssue p false) s = .next (s.abort p b.check 0) := by
  show execBundleIssue p false s = _
  simp only [execBundleIssue, State.mayFetch hruns hskip hstore hmiss, hfetch, if_true, Bool.false_eq_true, if_false, if_pos hcheck]

variable (hcheck : b.check = 0)
include hcheck

theorem exec_bundleIssue_passes : exec (.bundleIssue p false) s = .next
    (if (s.part p).interlock b || !(s.part p).room b || (s.part p).seqWait.isSome then s else s.issueBundle p b) := by
  show execBundleIssue p false s = _
  simp only [execBundleIssue, State.mayFetch hruns hskip hstore hmiss, hfetch, hcheck, if_true, Bool.false_eq_true, if_false, ne_eq,
    not_true_eq_false]

theorem exec_bundleIssue_stalls (hstall : (s.part p).interlock b = true ∨ (s.part p).room b = false ∨ (s.part p).seqWait.isSome = true) :
    exec (.bundleIssue p false) s = .next s := by
  rw [exec_bundleIssue_passes hruns hskip hstore hmiss hfetch hcheck, if_pos]
  simpa [or_assoc] using hstall

theorem exec_bundleIssue_issues (hfree : ¬((s.part p).interlock b = true ∨ (s.part p).room b = false ∨ (s.part p).seqWait.isSome = true)) :
    exec (.bundleIssue p false) s = .next (s.issueBundle p b) := by
  rw [exec_bundleIssue_passes hruns hskip hstore hmiss hfetch hcheck, if_neg]
  simpa [and_assoc] using hfree

end

/-- Settles O38: the fetch decides whether a bundle issues; its signal, its scalar slot and the end of the cycle follow in order. -/
theorem sequencerIssue : Obligations.SequencerIssue := by
  unfold Obligations.SequencerIssue
  intro p s q off c hruns hskip hstore hmiss
  refine ⟨fun hfetch o => exec_bundleIssue_misses hruns hskip hstore hmiss hfetch,
    fun code => exec_bundleIssue_fetch_faults hruns hskip hstore hmiss, fun b hfetch => ?_⟩
  refine ⟨exec_bundleIssue_check_fails hruns hskip hstore hmiss hfetch, exec_bundleIssue_stalls hruns hskip hstore hmiss hfetch,
    fun hcheck hfree => ?_⟩
  have hissue : exec c s = .next (s.issueBundle p b) := exec_bundleIssue_issues hruns hskip hstore hmiss hfetch hcheck hfree
  rw [hissue]
  refine ⟨fun code s' hsig hcode => congrArg _ (State.issueBundle_signal_faults hsig hcode), fun s₁ hsig => ?_⟩
  refine ⟨fun s' hscalar htrc => ?_, fun w t s' hw hrun heog htrc => ?_,
    fun w s' hw hrun habort => congrArg _ (State.issueBundle_access_aborts hsig hw hrun habort),
    fun w code arg s' hw hrun => congrArg _ (State.issueBundle_scalar_faults hsig hw hrun)⟩
  · rw [State.issueBundle_goes_on hsig hscalar, State.issueEnd_untraced htrc]
    refine ⟨fun heog => ?_, fun heog hcap hpend => ?_, fun heog hcap hmask hpend hstate => ?_, fun k fb heog hcap hstate hrerun hk hf _ => ?_⟩
    · rw [Part.endTake_of_not_eog heog, State.stopsAt_of_not_eog heog]
      rfl
    · rw [Part.endTake_of_none_pending hpend, State.stopsAt_of_not_quiescing hcap]
      rfl
    · rw [Part.endTake_of_none_pending hpend, State.stopsAt_of_quiescing heog hcap hmask]
      refine congrArg _ (State.issueCounted_congr ?_)
      simp only [Part.moved, Part.issued, Part.sent, hstate]
      rfl
    · rw [Part.endTake_lowest heog hstate hrerun hk hf, State.stopsAt_of_not_quiescing hcap]
      rfl
  · rw [State.issueBundle_jumps hsig hw hrun, State.issueEnd_untraced htrc, Part.endTake_of_not_eog heog, State.stopsAt_of_not_eog heog]
    rfl

end Sys2Proof.Machine
end

section
/-! O40: what comes back to the sequencer, and a broadcast at a core's dispatcher (R194, R197, R198, R222, R224, R226). -/

namespace Sys2Proof.Machine

/-! Bundle-cache fills (R194) -/

section
variable {p : Fin 12} {s : State} {o : Nat} {st : Code} {d : List Byte}

theorem exec_bundleCacheFill_returned (hmiss : (s.part p).bmiss = true) (habort : (s.part p).abort = none) (hready : s.phase = .ready)
    (ho : (s.part p).missing = some o) (hret : (s.part p).fetchRet = some (st, d)) :
    exec (.bundleCacheFill p) s = .next (s.bundleFill p ((s.part p).fillLine o).1 st d) := by
  show execBundleCacheFill p s = _
  simp [execBundleCacheFill, hmiss, habort, hready, ho, hret]

end

/-! Returns of scalar loads (R198) -/

section
variable {p : Fin 12} {s : State} {before after : List Load} {ld : Load} {st : Code} {bytes : List Byte}

theorem exec_scalarLoadReturn_oldest (hloads : (s.part p).loads = before ++ ld :: after) (hnew : ld ∉ before)
    (hwait : ∀ x ∈ before, x.answer = none) (hans : ld.answer = some (st, bytes)) : exec (.scalarLoadReturn p) s
    = .next (if st ≠ 0 then (s.modPart p fun q => { q with loads := before ++ after }).abort p st 0
        else (s.modPart p fun q => { q with loads := before ++ after }).modPart p fun q =>
          q.putS ld.rd.val (BitVec.ofNat 64 (ofBytes (bytes.take ld.size)))) := by
  have hfind : (s.part p).loads.find? (fun x => x.answer.isSome) = some ld := by
    rw [hloads, List.find?_append, List.find?_eq_none.mpr fun x hx => by simp [hwait x hx]]
    simp [hans]
  have herase : (s.modPart p fun q => { q with loads := q.loads.erase ld }) = s.modPart p fun q => { q with loads := before ++ after } := by
    refine State.modPart_congr ?_
    rw [hloads, List.erase_append_right _ hnew, List.erase_cons_head]
  show execScalarLoadReturn p s = _
  simp only [execScalarLoadReturn, hfind, hans, herase]

end

/-! Entries that come to a core's queues (R197, R224) -/

/-- The engine of a context, by its position among those of a core. -/
def ctxEngine (i : Nat) : Engine := if i / 2 = 0 then .load else if i / 2 = 1 then .matrix else if i / 2 = 2 then .vector else .store

theorem Core.eng_modCtx (e : Engine) (x : Duet) (f : EngCtx → EngCtx) (c : Core) {i : Nat} (hi : i < 8) :
    (c.modCtx e x f).eng[i] = if i = ctxNo e x then f c.eng[i] else c.eng[i] := by
  have h : ctxNo e x < 8 := by cases e <;> cases x <;> decide
  have hget := vget_vset EngCtx.reset c.eng (ctxNo e x) (f (c.ctx e x)) i h
  rw [vget_of_lt _ _ _ hi, vget_of_lt _ _ _ hi] at hget
  refine hget.trans ?_
  split
  · next heq => rw [Core.ctx, ← heq, vget_of_lt _ _ _ hi]
  · rfl

/-- The contexts of a core after a change of context x of every engine. -/
def changedContexts (x : Duet) (f : Engine → EngCtx → EngCtx) (c : Core) : Vector EngCtx 8 :=
  Vector.ofFn fun i : Fin 8 => if i.val % 2 = duetNo x then f (ctxEngine i.val) c.eng[i] else c.eng[i]

theorem Core.foldl_modCtx_frame (x : Duet) (f : Engine → EngCtx → EngCtx) (es : List Engine) (c : Core) :
    es.foldl (fun c e => c.modCtx e x (f e)) c = { c with eng := (es.foldl (fun c e => c.modCtx e x (f e)) c).eng } := by
  induction es generalizing c with
  | nil => rfl
  | cons e es ih =>
    rw [List.foldl_cons, ih]
    rfl

theorem Core.foldl_modCtx (x : Duet) (f : Engine → EngCtx → EngCtx) (c : Core) :
    [Engine.load, .matrix, .vector, .store].foldl (fun c e => c.modCtx e x (f e)) c = { c with eng := changedContexts x f c } := by
  have heng : ([Engine.load, .matrix, .vector, .store].foldl (fun c e => c.modCtx e x (f e)) c).eng = changedContexts x f c := by
    refine Vector.ext fun i hi => ?_
    simp only [List.foldl_cons, List.foldl_nil, Core.eng_modCtx _ _ _ _ hi, changedContexts, Vector.getElem_ofFn]
    cases x <;> interval_cases i <;> rfl
  rw [Core.foldl_modCtx_frame, heng]

section
variable {p : Fin 12} {l : Fin 32} {r : Broadcast} {t : List Broadcast} {s : State}

theorem exec_slotDispatch_oldest (hready : s.phase = .ready) (htask : (s.part p).task.isSome = true) (habort : (s.part p).abort = none)
    (hlive : (s.core p l).fenced = false) (hp : (s.core p l).promenade = r :: t) : exec (.slotDispatch p l) s
    = .next (if r.check s.full ≠ 0 then (s.modCore p l fun c => { c with promenade := t }).abortCore p l (r.check s.full) 0
        else (s.modCore p l fun c => { c with promenade := t }).modCore p l fun c =>
          [Engine.load, .matrix, .vector, .store].foldl (fun c e =>
            c.modCtx e r.ctx fun k => (r.queue e).foldl (fun k en => k.push s.now en) k) c) := by
  show execSlotDispatch p l s = _
  simp only [execSlotDispatch, hready, htask, habort, hlive, hp]
  rfl

end

/-- Settles O40: each command has one thing to take, and its status or its checks decide between two outcomes. -/
theorem sequencerReturns : Obligations.SequencerReturns := by
  unfold Obligations.SequencerReturns
  refine fun p s => ⟨fun o st d hmiss habort hready ho hret => ?_, fun before after ld st bytes hloads hnew hwait hans => ?_,
    fun l r t hready htask habort hlive hp => ?_⟩
  · rw [exec_bundleCacheFill_returned hmiss habort hready ho hret]
    exact ⟨fun h => congrArg _ (if_pos h), fun h => congrArg _ (if_neg (not_not.mpr h))⟩
  · rw [exec_scalarLoadReturn_oldest hloads hnew hwait hans]
    exact ⟨fun h => congrArg _ (if_neg (not_not.mpr h)), fun h => congrArg _ (if_pos h)⟩
  · rw [exec_slotDispatch_oldest hready htask habort hlive hp]
    refine ⟨fun h => congrArg _ (if_pos h), fun h => congrArg _ ((if_neg (not_not.mpr h)).trans ?_)⟩
    simp only [Core.foldl_modCtx, State.modCore_modCore]
    rfl

end Sys2Proof.Machine
end

section
/-! O32: relay queues and claim registers (R243, R286). -/

namespace Sys2Proof.Machine

section
variable {src : Source} {p : Fin 12} {v : W32} {s : State}

/-! Relay queues (R286) -/

section
variable {q : Fin 64}

theorem State.relayPut_room (h : (s.part p).relay[q].length < 16) : s.relayPut src p q.val v
    = (0, s.modPart p fun k => { k with relay := vset k.relay q.val ((s.part p).relay[q] ++ [BitVec.ofNat 17 (fld v 0 17)]) }) := by
  simp only [State.relayPut, vget_fin, if_neg (Nat.not_le.mpr h), fieldBv]

/-- The status of a push onto a full queue is one of the 65535 that are not 0 (log entry 20). -/
theorem State.relayPut_full (h : 16 ≤ (s.part p).relay[q].length) : ∃ code : Code, code ≠ 0 ∧ s.relayPut src p q.val v
    = (code, ((s.modPart p fun k => { k with fullRej := true }).logDest p 0xFF src code).drawn) := by
  refine ⟨BitVec.ofNat 16 (1 + (s.freeLane 0).toNat % 65535), ?_, ?_⟩
  · generalize (s.freeLane 0).toNat = n
    bv_omega
  · simp only [State.relayPut, vget_fin, if_pos h]

theorem State.relayTake_nil (h : (s.part p).relay[q] = []) : s.relayTake p q.val = (0x80000000, s) := by
  simp only [State.relayTake, vget_fin, h]

/-- What a pop returns that finds a handle: HANDLE, and above it the number of handles that the queue held (R286, R294). -/
def poppedWord (handle : BitVec 17) (count : Nat) : W32 := word32 (handle.toNat + count * 2 ^ 17)

theorem State.relayTake_cons {h : BitVec 17} {t : List (BitVec 17)} (hl : (s.part p).relay[q] = h :: t) : s.relayTake p q.val
    = (poppedWord h (t.length + 1), s.modPart p fun k => { k with relay := vset k.relay q.val t }) := by
  simp only [State.relayTake, vget_fin, hl, poppedWord]

theorem fld_poppedWord (h : BitVec 17) (n : Nat) : fld (poppedWord h n) 0 17 = h.toNat := by
  have := h.isLt
  simp only [fld, fieldN, poppedWord, word32, BitVec.toNat_ofNat]
  omega

theorem bit_poppedWord_empty (h : BitVec 17) {n : Nat} (hn : n ≤ 16) : bit (poppedWord h n) 31 = false := by
  have := h.isLt
  refine Nat.testBit_lt_two_pow (?_ : (poppedWord h n).toNat < 2 ^ 31)
  simp only [poppedWord, word32, BitVec.toNat_ofNat]
  omega

end

/-! Claim registers (R242, R243) -/

section
variable {n : Fin 32}

/-- What a read of a claim register returns, FREE given: BOUND, OWNER and FREE (R242). -/
def claimWord (c : Claim) (free : Bool) : W32 := word32 (flag c.bound 8 + c.owner.toNat * 16 + flag free 0)

theorem bit_claimWord_free (c : Claim) (free : Bool) : bit (claimWord c free) 0 = free := by
  show (claimWord c free).toNat.testBit 0 = free
  rw [Nat.testBit_zero]
  cases free <;> cases h : c.bound <;> simp [claimWord, word32, flag, h] <;> omega

theorem fld_claimWord_owner (c : Claim) (free : Bool) : fld (claimWord c free) 4 4 = c.owner.toNat := by
  have := c.owner.isLt
  cases free <;> cases h : c.bound <;> simp [claimWord, fld, fieldN, word32, flag, h] <;> omega

/-- A source that may claim, and the OWNER that stands for it: the partition's own sequencer, or a control port (R242). -/
def ClaimsAs (src : Source) (p : Fin 12) (o : BitVec 4) : Prop :=
  (src = .seq p ∧ o = 1) ∨ ∃ h : Fin 4, src = .port h ∧ o = BitVec.ofNat 4 (2 + h.val)

theorem claimant_of_claimsAs {o : BitVec 4} (h : ClaimsAs src p o) :
    (if src = .seq p ∨ isPort src = true then claimant src else none) = some o := by
  obtain ⟨rfl, rfl⟩ | ⟨h, rfl, rfl⟩ := h
  · exact if_pos (.inl rfl)
  · exact if_pos (.inr rfl)

theorem State.claim_taken {o : BitVec 4} (h : ClaimsAs src p o) (hbound : (s.part p).claims[n].bound = true)
    (hfree : (s.part p).claims[n].free = true) : s.claim src p n.val = (claimWord (s.part p).claims[n] true,
      s.modPart p fun k => { k with claims := vset k.claims n.val { (s.part p).claims[n] with owner := o, free := false } }) := by
  simp only [State.claim, vget_fin, claimant_of_claimsAs h, hbound, hfree, Bool.and_self, if_true, claimWord]

theorem State.claim_refused {o : BitVec 4} (h : ClaimsAs src p o)
    (hheld : (s.part p).claims[n].bound = false ∨ (s.part p).claims[n].free = false) :
    s.claim src p n.val = (claimWord (s.part p).claims[n] false, s) := by
  have hno : ((s.part p).claims[n].bound && (s.part p).claims[n].free) = false := Bool.and_eq_false_iff.mpr hheld
  simp only [State.claim, vget_fin, claimant_of_claimsAs h, hno, Bool.false_eq_true, if_false, claimWord]

theorem State.claim_of_other (hseq : src ≠ .seq p) (hport : isPort src = false) :
    s.claim src p n.val = (claimWord (s.part p).claims[n] false, s) := by
  simp only [State.claim, vget_fin, hseq, hport, Bool.false_eq_true, or_self, if_false, claimWord]

theorem State.release_performed (hv : bit v 0 = true) (hbound : (s.part p).claims[n].bound = true)
    (hsrc : src = .seq p ∨ isPort src = true) : s.release src p n.val v
    = s.modPart p fun k => { k with claims := vset k.claims n.val { (s.part p).claims[n] with owner := 0, free := true } } := by
  have hmay : (decide (src = .seq p) || isPort src) = true := by simpa using hsrc
  simp only [State.release, vget_fin, hv, hbound, hmay, Bool.and_self, if_true]

theorem State.release_unbound (hbound : (s.part p).claims[n].bound = false) : s.release src p n.val v = s := by
  simp only [State.release, vget_fin, hbound, Bool.and_false, Bool.false_and, Bool.false_eq_true, if_false]

end

/-! The four commands, by a source that reaches the register -/

section
variable {d : W32} {st : Code} {t : State}

theorem exec_relayPush_reached {q : Fin 64} (h : s.reaches src (partBase p + 0x452000 + 8 * q.val) true)
    (hput : s.relayPut src p q.val v = (st, t)) : exec (.relayPush src p q v) s = .next (State.answered st 0 (t.punish src st)) := by
  show execRelayPush src p q v s = _
  rw [execRelayPush, State.regCommand_of_reaches _ h, hput]

theorem exec_relayPop_reached {q : Fin 64} (h : s.reaches src (partBase p + 0x452004 + 8 * q.val) false)
    (htake : s.relayTake p q.val = (d, t)) : exec (.relayPop src p q) s = .next (State.answered 0 d t) := by
  show execRelayPop src p q s = _
  rw [execRelayPop, State.regReadCommand_of_reaches _ h, htake, State.punish_zero]

theorem exec_claimRead_reached {n : Fin 32} (h : s.reaches src (partBase p + 0x456800 + 8 * n.val) false)
    (hclaim : s.claim src p n.val = (d, t)) : exec (.claimRead src p n) s = .next (State.answered 0 d t) := by
  show execClaimRead src p n s = _
  rw [execClaimRead, State.regReadCommand_of_reaches _ h, hclaim, State.punish_zero]

theorem exec_claimRelease_reached {n : Fin 32} (h : s.reaches src (partBase p + 0x456804 + 8 * n.val) true)
    (hrelease : s.release src p n.val v = t) : exec (.claimRelease src p n v) s = .next (State.answered 0 0 t) := by
  show execClaimRelease src p n v s = _
  rw [execClaimRelease, State.regCommand_of_reaches _ h, hrelease, State.punish_zero]

end

end

/-- Settles O32: each command makes its one access, whose outcome the queue, or the register and the source, decide. -/
theorem relayQueuesAndClaims : Obligations.RelayQueuesAndClaims := by
  unfold Obligations.RelayQueuesAndClaims
  refine fun src p v s => ⟨fun q => ⟨fun hpush => ⟨fun hroom => ?_, fun hfull => ?_⟩, fun hpop => ⟨fun hnil => ?_, fun h t hl => ?_⟩⟩,
    fun n => ⟨fun hread => ⟨fun o ho => ⟨fun hbound hfree => ?_, fun hheld => ?_⟩, fun hseq hport => ?_⟩,
      fun hwrite => ⟨fun hv hbound hsrc => ?_, fun hbound => ?_⟩⟩⟩
  · exact exec_relayPush_reached hpush (State.relayPut_room hroom)
  · obtain ⟨code, hcode, hput⟩ := State.relayPut_full hfull
    exact ⟨code, hcode, exec_relayPush_reached hpush hput⟩
  · exact exec_relayPop_reached hpop (State.relayTake_nil hnil)
  · refine ⟨poppedWord h (t.length + 1), fld_poppedWord .., fun hlen => bit_poppedWord_empty h ?_,
      exec_relayPop_reached hpop (State.relayTake_cons hl)⟩
    rwa [hl] at hlen
  · exact ⟨_, bit_claimWord_free .., fld_claimWord_owner .., exec_claimRead_reached hread (State.claim_taken ho hbound hfree)⟩
  · exact ⟨_, bit_claimWord_free .., fld_claimWord_owner .., exec_claimRead_reached hread (State.claim_refused ho hheld)⟩
  · exact ⟨_, bit_claimWord_free .., exec_claimRead_reached hread (State.claim_of_other hseq hport)⟩
  · exact exec_claimRelease_reached hwrite (State.release_performed hv hbound hsrc)
  · exact exec_claimRelease_reached hwrite (State.release_unbound hbound)

end Sys2Proof.Machine
end

section
/-! O33: partition registers that act (R285, R488, R489), what an issue that finds a hazard does (R240, R241, R487), and slot writes
that land in one cycle (R127). -/

namespace Sys2Proof.Machine

/-! TRUNK_DEPOT_INV, STAT_PCTL and STAT_TRC_CTL -/

section
variable {src : Source} {p : Fin 12} {v : W32} {s : State}

/-- A depot half emptied (R285): a fill on its way is not kept. -/
def Depot.emptied (d : Depot) : Depot := { sets := [], fills := d.fills.map fun f => { f with alloc := false } }

theorem State.depotEmpty_eq (p : Fin 12) (s : State) : s.depotEmpty p
    = s.modPart p fun q => { q with depots := (s.part p).depots.map Depot.emptied } :=
  State.modPart_congr rfl

theorem Depot.not_alloc_of_emptied {d : Depot} : ∀ f ∈ d.emptied.fills, f.alloc = false := by
  intro f hf
  obtain ⟨g, -, rfl⟩ := List.mem_map.mp hf
  rfl

theorem State.traceCtl_eq (p : Fin 12) (v : W32) (s : State) : s.modPart p (Part.traceCtl v) = s.modPart p fun q =>
    { q with trcEn := ((s.part p).traceCtl v).trcEn, trcBale := bit v 1, trcWrap := bit v 2 } :=
  State.modPart_congr rfl

theorem Part.trcEn_traceCtl (v : W32) (q : Part) : (q.traceCtl v).trcEn
    = (bit v 0 && (q.trcEn || q.inWindows q.traceRing.1 (q.traceRing.1 + q.traceRing.2 - 1))) := rfl

theorem exec_trunkDepotInv_reached (h : s.reaches src (partBase p + 0x453420) true) (hgo : bit v 0 = true) :
    exec (.trunkDepotInv src p v) s = .next (State.answered 0 0 (s.depotEmpty p)) := by
  show execTrunkDepotInv src p v s = _
  rw [execTrunkDepotInv, State.regCommand_of_reaches _ h, if_pos hgo, State.punish_zero]

theorem exec_pctlClr_reached (h : s.reaches src (partBase p + 0x455304) true) :
    exec (.pctlClr src p v) s = .next (State.answered 0 0 (if isPort src then s.modPart p (Part.pctl v) else s)) := by
  show execPctlClr src p v s = _
  rw [execPctlClr, State.regCommand_of_reaches _ h, State.punish_zero]

theorem exec_traceEnable_reached (h : s.reaches src (partBase p + 0x455388) true) :
    exec (.traceEnable src p v) s = .next (State.answered 0 0 (if isPort src then s.modPart p (Part.traceCtl v) else s)) := by
  show execTraceEnable src p v s = _
  rw [execTraceEnable, State.regCommand_of_reaches _ h, State.punish_zero]

end

/-! Hazard audit (R241, R487) -/

section
variable {p : Fin 12} {l : Fin 32} {e : Engine} {s : State} {u : Landing} {us : List Landing}

theorem Core.earlyReads_latest {c : Core} (h : c.timing.past = u :: us) : c.earlyReads [(u.what.spot, 1)] = 1 := by
  simp [Core.earlyReads, h]

theorem State.hazard_early (h : (s.core p l).timing.past = u :: us) :
    s.hazard p l e (.hazard [(u.what.spot, 1)] [] 0) = s.audited p l (hazardCode e false) := by
  simp only [State.hazard, foundEarly, foundLate, Core.earlyReads_latest h]
  rfl

theorem State.hazard_clash (p : Fin 12) (l : Fin 32) (e : Engine) (s : State) :
    s.hazard p l e (.hazard [] [] 1) = s.audited p l (hazardCode e true) := rfl

end

/-! The issue of an instruction whose slot writes land after those of no other (R240) -/

section
variable {p : Fin 12} {l : Fin 32} {e : Engine} {x : Duet} {found : Found} {s t : State} {en : Entry}

theorem Core.account_of_none_late (h : foundLate found = []) (w : Slot) (stays : Bool) (c probe c' : Core) :
    Core.account e x w found stays c probe c' = { c' with timing := (Core.account e x w found stays c probe c').timing } := by
  simp [Core.account, h]

/-- `issueBy_done` where a hazard is found: the run takes the sources as they are seen, and the state in which the hazard is
audited. -/
theorem State.issueBy_hazard_done {code : Code} {want : Slot → Bool} {run : Entry → State → State → Issued}
    {early : List (Spot × Nat)} {n : Nat} (hr : s.ready p l e x = some en) (hw : want en.word = true)
    (hf : run en (s.seen p l early) (s.hazard p l e (.hazard early [] n)) = .done t) :
    ∃ tm : Timing, s.issueBy p l e x (.hazard early [] n) code want run
      = (t.modCore p l fun c => { c with timing := tm }).advance p l e x := by
  refine ⟨(Core.account e x en.word (.hazard early [] n) false (s.core p l)
    ((run en (s.seen p l early) (s.modCore p l Core.inverted)).state.core p l) (t.core p l)).timing, ?_⟩
  unfold State.issueBy
  simp only [hr, hw, if_true, reduceCtorEq, if_false, foundEarly, hf]
  exact congrArg (State.advance p l e x) (State.modCore_congr p l _ _ t (Core.account_of_none_late rfl ..))

end

/-! Writes of one slot (R127, R240) -/

section
variable {n : Fin 64} {old m v : Line} {eng : Engine} {left : Nat} {us : List Landing} {c : Core}

theorem Core.ocache_seen_latest (h : c.timing.past = { eng := eng, left := left, what := .slot n old m v } :: us) :
    (c.seen [(.slot n, 1)]).ocache = c.ocache.set n old := by
  simp [Core.seen, Core.before, h, Undo.spot, Core.undo]

/-- A load's write of a slot meets one of the vector engine in its cycle, which stands over it (R127). -/
theorem lateCount_load_vector {w : Landing} (hv : w.eng = .vector) (hn : w.hits n = true) :
    lateCount .load left [(n, 1, true)] (w :: us) n = 1 := by
  simp [lateCount, hv, hn]

theorem Core.ocache_land_late {e : Engine} {late : List (Fin 64 × Nat × Bool)} (h : late ≠ []) (old m v : Line) :
    (c.land e left late (.slot n old m v)).ocache
      = c.ocache.set n (overwrite n (c.timing.past.take (lateCount e left late c.timing.past n)) c.ocache[n]) := by
  simp [Core.land, h]

theorem overwrite_latest (w : Landing) (k : Line) (h : w.what = .slot n old m v) : overwrite n [w] k = mergeBits k m v := by
  simp [overwrite, h]

/-- Of a load and a vector instruction whose writes of a slot land in one cycle, the vector write stands in its bits (R127). -/
theorem Core.ocache_land_load_with_vector {w : Landing} (h : c.timing.past = w :: us) (hv : w.eng = .vector)
    (hw : w.what = .slot n old m v) (before mine k : Line) :
    (({ c with ocache := c.ocache.set n k } : Core).land .load left [(n, 1, true)] (.slot n before mine k)).ocache[n] = mergeBits k m v := by
  have hhits : w.hits n = true := decide_eq_true (congrArg Undo.spot hw)
  rw [Core.ocache_land_late (List.cons_ne_nil _ _)]
  simp only [h, lateCount_load_vector hv hhits, List.take_succ_cons, List.take_zero, overwrite_latest w _ hw, Fin.getElem_fin,
    Vector.getElem_set_self]

theorem mergeBits_get (a m b : Line) (i : Fin 128) : (mergeBits a m b)[i] = (a[i] &&& ~~~m[i]) ||| (b[i] &&& m[i]) := by
  simp [mergeBits]

end

/-- Settles O33: each register acts by its fields; a hazard is audited once by its code, and the issue goes on; the landing of a
load's write leaves the bits of the vector write above it. -/
theorem depotCountersAndTrace : Obligations.DepotCountersAndTrace := by
  unfold Obligations.DepotCountersAndTrace
  refine ⟨fun src p v s => ⟨fun hreach hgo => ?_, fun hreach => ?_, fun hreach hsrc => ?_, fun hreach hsrc => ?_⟩,
    fun p l e collide u us s hpast => ?_, fun p l e x early n code want run en s t hr hw hf => State.issueBy_hazard_done hr hw hf,
    fun n old m v eng left us c hpast => ⟨Core.ocache_seen_latest hpast, fun mine k i hvec => ?_⟩⟩
  · refine ⟨(s.part p).depots.map Depot.emptied, ?_, fun i hi => ?_⟩
    · rw [exec_trunkDepotInv_reached hreach hgo, State.depotEmpty_eq]
    · rw [Vector.getElem_map]
      exact ⟨rfl, Depot.not_alloc_of_emptied⟩
  · exact exec_pctlClr_reached hreach
  · rw [exec_traceEnable_reached hreach, hsrc]
    rfl
  · refine ⟨((s.part p).traceCtl v).trcEn, ?_, fun hclear => ?_, fun hset hinside => ?_, fun hoff houtside => ?_⟩
    · rw [exec_traceEnable_reached hreach, if_pos hsrc, State.traceCtl_eq]
    · rw [Part.trcEn_traceCtl, hclear, Bool.false_and]
    · rw [Part.trcEn_traceCtl, hset, Bool.true_and]
      exact Bool.or_eq_true_iff.mpr (.inr hinside)
    · rw [Part.trcEn_traceCtl, hoff, Bool.false_or]
      exact Bool.and_eq_false_iff.mpr (.inr houtside)
  · cases collide
    case false => exact State.hazard_early hpast
    case true => exact State.hazard_clash p l e s
  · rw [Core.ocache_land_load_with_vector hpast hvec rfl, mergeBits_get]

end Sys2Proof.Machine
end

section
/-! O24: what an operation makes of a semaphore or counter word, and its fault (R248, R249, R251). -/

namespace Sys2Proof.Machine

/-! A semaphore word is its limit above its COUNT (R248) -/

/-- The semaphore word of a limit and a COUNT. -/
def semWord (limit count : Nat) : W32 := BitVec.ofNat 32 (limit * 65536 + count)

theorem toNat_eq_limit_count (w : W32) : w.toNat = fld w 16 16 * 65536 + semCount w := by
  have := w.isLt
  simp only [semCount, fld, fieldN]
  omega

section
variable {limit count : Nat} (hl : limit < 65536) (hc : count < 65536)
include hl hc

theorem toNat_semWord : (semWord limit count).toNat = limit * 65536 + count := by
  rw [semWord, BitVec.toNat_ofNat]
  omega

theorem semCount_semWord : semCount (semWord limit count) = count := by
  have := toNat_eq_limit_count (semWord limit count)
  have : semCount (semWord limit count) < 65536 := fld_lt _ 0 16
  rw [toNat_semWord hl hc] at *
  omega

theorem limit_semWord : fld (semWord limit count) 16 16 = limit := by
  have := toNat_eq_limit_count (semWord limit count)
  rw [semCount_semWord hl hc, toNat_semWord hl hc] at this
  omega

end

section
variable {w : W32} {n : Nat}

theorem semCount_lt (w : W32) : semCount w < 65536 := fld_lt w 0 16

theorem limit_lt (w : W32) : fld w 16 16 < 65536 := fld_lt w 16 16

theorem semMax_lt (w : W32) : semMax w < 65536 := by
  have := limit_lt w
  unfold semMax
  split <;> omega

/-- An amount that COUNT has room for changes COUNT alone. -/
theorem add_eq_semWord (h : semCount w + n < 65536) : w + BitVec.ofNat 32 n = semWord (fld w 16 16) (semCount w + n) := by
  have := toNat_eq_limit_count w
  have := limit_lt w
  refine BitVec.eq_of_toNat_eq ?_
  rw [toNat_semWord (limit_lt w) h, BitVec.toNat_add, BitVec.toNat_ofNat]
  omega

/-- An amount that COUNT holds changes COUNT alone. -/
theorem sub_eq_semWord (h : n ≤ semCount w) : w - BitVec.ofNat 32 n = semWord (fld w 16 16) (semCount w - n) := by
  have := toNat_eq_limit_count w
  have := semCount_lt w
  have := limit_lt w
  refine BitVec.eq_of_toNat_eq ?_
  rw [toNat_semWord (limit_lt w) (by omega), BitVec.toNat_sub, BitVec.toNat_ofNat]
  omega

/-! ADD and SUB (R249) -/

theorem SemOp.add_apply_room (hn : n ≤ 65535) (h : semCount w + n ≤ semMax w) :
    SemOp.add.apply w n = (semWord (fld w 16 16) (semCount w + n), 0) := by
  have := semMax_lt w
  rw [SemOp.apply, if_neg (by omega), if_neg (by omega), add_eq_semWord (by omega)]

theorem SemOp.add_apply_over (hn : n ≤ 65535) (h : semMax w < semCount w + n) :
    SemOp.add.apply w n = (semWord (fld w 16 16) (semMax w), 0x2A02) := by
  rw [SemOp.apply, if_neg (by omega), if_pos h, semWord]

theorem SemOp.sub_apply_enough (hn : n ≤ 65535) (h : n ≤ semCount w) :
    SemOp.sub.apply w n = (semWord (fld w 16 16) (semCount w - n), 0) := by
  rw [SemOp.apply, if_neg (by omega), if_neg (by omega), sub_eq_semWord h]

theorem SemOp.sub_apply_under (hn : n ≤ 65535) (h : semCount w < n) : SemOp.sub.apply w n = (w, 0x2A01) := by
  rw [SemOp.apply, if_neg (by omega), if_pos h]

/-! SET (R248) and INC (R251) -/

theorem SemOp.set_apply (w v : W32) : SemOp.set.apply w v.toNat = if semCount v ≤ semMax v then (v, 0) else (w, 0x2A05) := by
  simp only [SemOp.apply, BitVec.ofNat_toNat, BitVec.setWidth_eq, ← Nat.not_lt, ite_not]

theorem SemOp.inc_apply (hn : n ≤ 2 ^ 31 - 1) : SemOp.inc.apply w n = (w + BitVec.ofNat 32 n, 0) :=
  if_neg (by omega)

end

/-- Settles O24: each operation by its cases, the word written as its limit above its COUNT. -/
theorem wordOperations : Obligations.WordOperations := by
  unfold Obligations.WordOperations
  intro w n limit max
  have hlimit : limit < 65536 := limit_lt w
  have hmax : max < 65536 := semMax_lt w
  refine ⟨fun hn => ⟨if_pos hn, if_pos hn⟩, fun hn => ⟨fun hroom => ?_, fun hover => ?_, fun henough => ?_, SemOp.sub_apply_under hn⟩,
    SemOp.set_apply w, fun v => ?_, fun hn => ⟨_, SemOp.inc_apply hn, ?_⟩, fun hn => if_pos (by omega)⟩
  · exact ⟨_, SemOp.add_apply_room hn hroom, semCount_semWord hlimit (by omega), limit_semWord hlimit (by omega)⟩
  · exact ⟨_, SemOp.add_apply_over hn hover, semCount_semWord hlimit hmax, limit_semWord hlimit hmax⟩
  · have := semCount_lt w
    exact ⟨_, SemOp.sub_apply_enough hn henough, semCount_semWord hlimit (by omega), limit_semWord hlimit (by omega)⟩
  · simp only [SemOp.apply, BitVec.ofNat_toNat, BitVec.setWidth_eq]
  · rw [BitVec.toNat_add, BitVec.toNat_ofNat]
    omega

end Sys2Proof.Machine
end

section
/-! O25: writes through the views of semaphores and counters (R245, R247, R248, R255). -/

namespace Sys2Proof.Machine

/-! The view that an address lies in (R245) -/

/-- Offset of an operation's view from the first view of its space. -/
def SemOp.view : SemOp → Nat
  | .set => 0
  | .add => 0x10000
  | .sub => 0x20000
  | .cset => 0x30000
  | .inc => 0x31000

theorem place_hubBase (h : Fin 4) (off : Nat) (hoff : off < 2 ^ 24) : place (hubBase h + off) = .hub h off := by
  have hh := h.isLt
  unfold place hubBase hubNo
  simp only
  rw [if_neg (by omega), if_neg (by omega), if_neg (by omega), if_pos (by omega)]
  congr 1
  · apply Fin.ext
    simp only
    omega
  · omega

theorem semLimit_sems_le (sp : SemSpace) : semLimit sp false ≤ 4096 := by
  cases sp <;> simp [semLimit]

theorem semLimit_ctrs_le (sp : SemSpace) : semLimit sp true ≤ 1024 := by
  cases sp <;> simp [semLimit]

theorem spaceBase_aligned (sp : SemSpace) : spaceBase sp % 4 = 0 := by
  cases sp <;> simp only [spaceBase, partBase, hubBase] <;> omega

section
variable {sp : SemSpace} {o : SemOp} {i : Nat} (hi : i < semLimit sp o.ctr)

theorem view_aligned : (spaceBase sp + o.view + 4 * i) % 4 = 0 := by
  have := spaceBase_aligned sp
  cases o <;> simp only [SemOp.view] <;> omega

include hi

/-- The views end before the registers of the semaphore memory. -/
theorem SemOp.view_bound : o.view + 4 * i < 0x40000 := by
  have := semLimit_sems_le sp
  have := semLimit_ctrs_le sp
  cases o <;> simp only [SemOp.ctr] at hi <;> simp only [SemOp.view] <;> omega

theorem semView_view {off : Nat} (hoff : off = 0x400000 + (o.view + 4 * i)) : semView sp off = some (o, i) := by
  have := semLimit_sems_le sp
  have := semLimit_ctrs_le sp
  cases o
  all_goals
    simp only [SemOp.ctr, SemOp.view] at hi hoff
    unfold semView
    simp only
  case set => rw [if_pos (by omega), show (off - 0x400000) / 4 = i by omega]
  case add => rw [if_neg (by omega), if_pos (by omega), show (off - 0x410000) / 4 = i by omega]
  case sub => rw [if_neg (by omega), if_neg (by omega), if_pos (by omega), show (off - 0x420000) / 4 = i by omega]
  case cset =>
    rw [if_neg (by omega), if_neg (by omega), if_neg (by omega), if_pos (by omega), show (off - 0x430000) / 4 = i by omega]
  case inc =>
    rw [if_neg (by omega), if_neg (by omega), if_neg (by omega), if_neg (by omega), if_pos (by omega),
      show (off - 0x431000) / 4 = i by omega]

/-- A write of a word of a view is its operation on that word of the space; the address lies outside the descriptor stores. -/
theorem State.regWrite_view (src : Source) (v : W32) (s : State) :
    s.regWrite src (spaceBase sp + o.view + 4 * i) v none = .now (s.semWrite src sp o i v).1 (s.semWrite src sp o i v).2
      ∧ ∀ p off, place (spaceBase sp + o.view + 4 * i) = .part p off → off < 0x800000 := by
  have hbound := SemOp.view_bound hi
  obtain ⟨off, hoff⟩ : ∃ off, off = 0x400000 + (o.view + 4 * i) := ⟨_, rfl⟩
  have hview := semView_view hi hoff
  have harea : isSemArea off = true := by
    simp only [isSemArea, Bool.and_eq_true, decide_eq_true_eq]
    omega
  unfold State.regWrite
  cases sp with
  | part p =>
    have hp : place (spaceBase (.part p) + o.view + 4 * i) = .part p off := by
      rw [hoff, ← place_partBase p _ (by omega), spaceBase, Nat.add_assoc, Nat.add_assoc]
    simp only [hp, State.partWrite, harea, hview, if_true]
    rw [if_neg (by omega)]
    refine ⟨rfl, fun q x hq => ?_⟩
    cases hq
    omega
  | hub h =>
    have hp : place (spaceBase (.hub h) + o.view + 4 * i) = .hub h off := by
      rw [hoff, ← place_hubBase h _ (by omega), spaceBase, Nat.add_assoc, Nat.add_assoc]
    simp only [hp, State.hubWrite, harea, hview, if_true]
    exact ⟨trivial, fun q x hq => Place.noConfusion hq⟩

end

/-! A write command whose register answers with a status -/

/-- `State.writeCommand_of_regWrite` for a register that may answer with an error status, which reaches the source (R201, R291). -/
theorem State.writeCommand_of_answer {src : Source} {a : Nat} {v : W32} {s t : State} {st : Code} (h : s.reaches src a true)
    (ha : a % 4 = 0) (hstore : ∀ p off, place a = .part p off → off < 0x800000) (hw : s.regWrite src a v none = .now st t) :
    s.writeCommand src a v = (t.punish src st).answered st 0 := by
  have hst : s.regStatus src a true = 0 := h.2.2
  have hword : s.writeWords src none [v] a = .now st t := by
    simp only [State.writeWords, hst, hw, ne_eq, not_true_eq_false, if_false]
    split
    · next heq =>
      cases heq
      rfl
    · next heq => cases heq
    · rfl
  have hn : s.regWriteN src a 4 [v] none = .now st t := by
    unfold State.regWriteN
    simp only [hst, ne_eq, not_true_eq_false, if_false, ha, hword]
    split
    · next p off hp =>
      have := hstore p off hp
      rw [if_neg (by omega)]
      simp
    · simp
  unfold State.writeCommand
  rw [State.regCommand_of_reaches _ h, hn]
  rfl

/-! What a write through a view does to a word that is open to its source (R247, R248) -/

/-- The amount of an operation through its view: bits [15:0] for the ADD and SUB aliases (R245). -/
def SemOp.amount (o : SemOp) (v : W32) : Nat := if o = .add ∨ o = .sub then fld v 0 16 else v.toNat

section
variable {src : Source} {sp : SemSpace} {o : SemOp} {i : Nat} {v w : W32} {s : State}

theorem State.semWrite_open (hopen : s.semClosed src sp o.ctr i = false) : s.semWrite src sp o i v =
    let r := s.semDo sp o i (o.amount v)
    if r.1 = 0 then r
    else if r.1 = 0x2A05 then (r.1, (r.2.semFlag sp 1).semLog sp src r.1)
    else if isRemote src then (r.1, (r.2.semFlag sp 0).semLog sp src r.1)
    else r := by
  unfold State.semWrite
  rw [hopen]
  cases o <;> rfl

theorem State.semWrite_done (hopen : s.semClosed src sp o.ctr i = false)
    (happly : o.apply (s.word sp o.ctr i) (o.amount v) = (w, 0)) : s.semWrite src sp o i v = (0, s.putWord sp o.ctr i w) := by
  rw [State.semWrite_open hopen]
  simp only [State.semDo, happly, if_true]

/-- A SET that R248 rejects. -/
theorem State.semWrite_rejected (hopen : s.semClosed src sp o.ctr i = false)
    (happly : o.apply (s.word sp o.ctr i) (o.amount v) = (w, 0x2A05)) :
    s.semWrite src sp o i v = (0x2A05, (((s.putWord sp o.ctr i w).semErrAt sp o.ctr i 0x2A05).semFlag sp 1).semLog sp src 0x2A05) := by
  have h0 : ¬(0x2A05 : Code) = 0 := by decide
  rw [State.semWrite_open hopen]
  simp only [State.semDo, happly, h0, if_true, if_false]

theorem SemOp.set_apply_rejected (h : (SemOp.set.apply w v.toNat).2 = 0x2A05) : SemOp.set.apply w v.toNat = (w, 0x2A05) := by
  rw [SemOp.set_apply] at h ⊢
  split at h
  · exact absurd h (show ¬(0 : Code) = 0x2A05 by decide)
  · next hover => exact if_neg hover

/-! The five commands, by a source that reaches the word -/

section
variable {c : Instr} {view : Nat} {idx : BitVec 12} {t : State} {st : Code}

theorem exec_viewWrite (h : (c, o, view) ∈ ([(.semaphoreSet src sp idx v, .set, 0), (.addAlias src sp idx v, .add, 0x10000),
      (.subAlias src sp idx v, .sub, 0x20000), (.counterSet src sp idx v, .cset, 0x30000),
      (.incAlias src sp idx v, .inc, 0x31000)] : List (Instr × SemOp × Nat))) :
    view = o.view ∧ exec c s = .next (s.viewCommand src sp o.ctr o.view idx v) := by
  simp only [List.mem_cons, Prod.mk.injEq, List.not_mem_nil, or_false] at h
  rcases h with ⟨rfl, rfl, rfl⟩ | ⟨rfl, rfl, rfl⟩ | ⟨rfl, rfl, rfl⟩ | ⟨rfl, rfl, rfl⟩ | ⟨rfl, rfl, rfl⟩
  all_goals exact ⟨rfl, rfl⟩

theorem State.viewCommand_reached (hi : idx.toNat < semLimit sp o.ctr)
    (hreach : s.reaches src (spaceBase sp + o.view + 4 * idx.toNat) true) (hwrite : s.semWrite src sp o idx.toNat v = (st, t)) :
    s.viewCommand src sp o.ctr o.view idx v = (t.punish src st).answered st 0 := by
  obtain ⟨hreg, hstore⟩ := State.regWrite_view hi src v s
  rw [hwrite] at hreg
  rw [State.viewCommand, if_pos hi, State.writeCommand_of_answer hreach view_aligned hstore hreg]

end

end

/-- Settles O25: each command is one write of a word of its view, which does the view's operation on that word. -/
theorem semaphoreViews : Obligations.SemaphoreViews := by
  unfold Obligations.SemaphoreViews
  intro src sp i v s c o view hcommand hi hreach hopen n
  obtain ⟨rfl, hexec⟩ := exec_viewWrite (s := s) hcommand
  refine ⟨fun w happly => ?_, fun ho hfault => ?_⟩
  · rw [hexec, State.viewCommand_reached hi hreach (State.semWrite_done hopen happly), State.punish_zero]
  · subst ho
    rw [hexec, State.viewCommand_reached hi hreach (State.semWrite_rejected hopen (SemOp.set_apply_rejected hfault))]
    rfl

end Sys2Proof.Machine
end

section
/-! O43: an abort from its report to the idle partition (R262, R290, R414, R444, R445). -/

namespace Sys2Proof.Machine

/-! Changes of one link -/

/-- A request's tag is free again, and its response would be late (R386). -/
def Link.dropTag (tag : BitVec 16) (k : Link) : Link :=
  { k with outst := k.outst.filter fun x => decide (x.tag ≠ tag), late := k.late ++ [tag] }

theorem State.modLink_of_same {n : Fin 16} {f : Link → Link} {s : State} (h : f s.links[n] = s.links[n]) : s.modLink n f = s := by
  have hset : s.links.set n s.links[n] = s.links := Vector.set_getElem_self _
  simp only [State.modLink, h, hset]

/-! ABORT_PROPAGATE (R414, R444) -/

section
variable {h : Fin 4} {p : Fin 12} {n : Nat} {code : Code} {d : TaskDesc} {s : State}

theorem exec_abortPropagate {rest : List (Fin 12 × Nat × Code)} {t : RunTask} (hreport : (s.hub h).reports = (p, n, code) :: rest)
    (htask : (s.hub h).tasks.find? (fun t => t.desc.serial == n) = some t) :
    exec (.abortPropagate h) s = .next ((t.desc.parts.filter fun q => decide (q ≠ p)).foldl (State.abortFan t.desc code)
      ((s.modHub h fun b => { b with reports := rest }).modTask t.desc fun t => { t.fault p code with aborted := true })) := by
  show execAbortPropagate h s = _
  simp only [execAbortPropagate, hreport, State.hub_modHub, htask]

/-- A task that a report aborts keeps its first STATUS, and the partition that it came from (R415). -/
theorem RunTask.aborted_fault (p : Fin 12) (code : Code) (t : RunTask) : { t.fault p code with aborted := true } =
    { t with aborted := true, status := if t.status = 0 then code else t.status
             fpart := if t.status = 0 then BitVec.ofNat 8 p.val else t.fpart } := by
  unfold RunTask.fault
  split <;> rfl

theorem State.abortFan_waiting (hd : d ∈ (s.part p).delivery) : s.abortFan d code p =
    (s.modPart p fun q => { q with delivery := q.delivery.filter fun e => decide (e ≠ d) }).modTask d (RunTask.done p) := by
  have hany : ((s.part p).delivery.any fun e => decide (e = d)) = true := List.any_eq_true.mpr ⟨d, hd, decide_eq_true rfl⟩
  rw [State.abortFan, if_pos hany]

section
variable (hd : d ∉ (s.part p).delivery)
include hd

theorem State.not_any_delivery : ¬((s.part p).delivery.any fun e => decide (e = d)) = true := by
  simpa [List.any_eq_true] using hd

theorem State.abortFan_running (ht : (s.part p).task = some d) (ha : (s.part p).abort = none) : s.abortFan d code p =
    s.stopPart p { code := code, arg := 0, time := s.now, core := 0xFF, waits := (s.part p).waiters s.now, dump := none, dumpBad := false } := by
  rw [State.abortFan, if_neg (State.not_any_delivery hd), if_pos ⟨ht, by rw [ha]; rfl⟩]

theorem State.abortFan_elsewhere (ht : (s.part p).task ≠ some d) : s.abortFan d code p = s := by
  rw [State.abortFan, if_neg (State.not_any_delivery hd), if_neg fun hrun => ht hrun.1]

end

end

/-! CHANNEL_FLUSH_TIMEOUT (R290) -/

section
variable {c : ChanId} {s : State} {t : W64} {n : Fin 16}

theorem exec_channelFlushTimeout_none (h : (s.chan c).flush = none) : exec (.channelFlushTimeout c) s = .next s := by
  show execChannelFlushTimeout c s = _
  simp only [execChannelFlushTimeout, h]

theorem exec_channelFlushTimeout_since (h : (s.chan c).flush = some t) : exec (.channelFlushTimeout c) s =
    .next (if 50000 ≤ (s.now - t).toNat then (List.finRange 16).foldl (State.abandonWrites c) s else s) := by
  show execChannelFlushTimeout c s = _
  simp only [execChannelFlushTimeout, h]

/-- A write of a channel that a link has not answered is given up (R290): its tag counts as late, and it is logged. -/
def State.giveUp (c : ChanId) (n : Fin 16) (s : State) (o : Outst) : State :=
  ((s.modLink n (Link.dropTag o.tag)).complete o.who false 0 []).logAt (homeHub (chanPart c)) 0x9B01 (chanPart c).val (chanCore c) 0
    (s.part (chanPart c)).taskId 0

/-- Where no write of the channel waits for the link, only those that the link has not answered are given up. -/
theorem State.abandonWrites_of_no_waits (hwaits : ∀ w ∈ s.links[n].waits, w.chanWrite c = false) :
    s.abandonWrites c n = (s.links[n].chanWrites c).foldl (State.giveUp c n) s := by
  have hheld : s.links[n].waits.filter (Waiting.chanWrite c) = [] := List.filter_eq_nil_iff.mpr fun w hw => by simp [hwaits w hw]
  have hkept : (s.links[n].waits.filter fun w => !w.chanWrite c) = s.links[n].waits :=
    List.filter_eq_self.mpr fun w hw => by simp [hwaits w hw]
  have hsame : (s.modLink n fun k => { k with waits := k.waits.filter fun w => !w.chanWrite c }) = s :=
    State.modLink_of_same (by simp only [hkept])
  unfold State.abandonWrites
  simp only [hheld, hsame, List.filterMap_nil, List.append_nil, List.foldl_map]
  rfl

end

/-! ABORT_DUMP (R262, R444) -/

section
variable {p : Fin 12} {s : State} {d : TaskDesc} {a : AbortInfo}

/-- Every channel of the partition stops after its flush (R290). -/
def State.stopChans (p : Fin 12) (s : State) : State :=
  s.modPart p fun q => { q with cores := q.cores.map fun c => { c with chans := c.chans.map Chan.stop }, trunk := q.trunk.map Chan.stop }

/-- Address of the dump, as the DUMP registers give it (R262). -/
def Part.dumpAddr (q : Part) : Nat := q.dumpHi.toNat * 2 ^ 32 + fld q.dumpLo 15 17 * 2 ^ 15

section
variable (ht : (s.part p).task = some d) (ha : (s.part p).abort = some a)
include ht ha

theorem exec_abortDump_writing {n : Nat} (hd : a.dump = some (n + 1)) : exec (.abortDump p) s = .next s := by
  show execAbortDump p s = _
  simp only [execAbortDump, ht, ha, hd]

theorem exec_abortDump_written (hd : a.dump = some 0) :
    exec (.abortDump p) s = .next ((if a.dumpBad = true then s.dumpFailed p else s).abortDone p d a) := by
  show execAbortDump p s = _
  simp only [execAbortDump, ht, ha, hd]

section
variable (hd : a.dump = none)
include hd

theorem exec_abortDump_flushing (hf : (s.part p).flushed = false) : exec (.abortDump p) s = .next s := by
  show execAbortDump p s = _
  simp only [execAbortDump, ht, ha, hd, hf, if_true]

theorem exec_abortDump_flushed (hf : (s.part p).flushed = true) : exec (.abortDump p) s = .next (
    if bit (s.part p).dumpLo 0 = false then (s.stopChans p).abortDone p d a
    else if (s.part p).inWindows (s.part p).dumpAddr ((s.part p).dumpAddr + 0x7FFF) = false then ((s.stopChans p).dumpFailed p).abortDone p d a
    else ((s.stopChans p).modPart p fun q => { q with abort := some { a with dump := some 64 } }).dumpWrites p (s.part p).dumpAddr
      ((s.stopChans p).dumpImage p d a)) := by
  show execAbortDump p s = _
  simp only [execAbortDump, ht, ha, hd, hf, Bool.true_eq_false, if_false]
  rfl

end

end

end

/-- Settles O43: each clause is the branch of a command, or of one of its steps, that its conditions select. -/
theorem abortPath : Obligations.AbortPath := by
  unfold Obligations.AbortPath
  refine ⟨fun h s p n code rest t hreport htask => ?propagate, ?fan, fun c s t => ⟨exec_channelFlushTimeout_none, fun hflush hsoon => ?soon,
    fun hflush hdue => ?due, fun n hnone hwaits => ?none, fun n o hone hwaits => ?one⟩, ?dump, fun p d a s => rfl⟩
  case propagate =>
    rw [exec_abortPropagate hreport htask]
    simp only [RunTask.aborted_fault]
  case fan =>
    intro d code s p q
    exact ⟨State.abortFan_waiting, State.abortFan_running, State.abortFan_elsewhere⟩
  case soon => rw [exec_channelFlushTimeout_since hflush, if_neg (by omega)]
  case due => rw [exec_channelFlushTimeout_since hflush, if_pos hdue]
  case none =>
    rw [State.abandonWrites_of_no_waits hwaits, hnone]
    rfl
  case one =>
    rw [State.abandonWrites_of_no_waits hwaits, hone]
    rfl
  case dump =>
    intro p s d a q stopped addr bad ht ha
    refine ⟨fun hd hf => ?_, exec_abortDump_flushing ht ha, exec_abortDump_written ht ha, fun n => exec_abortDump_writing ht ha⟩
    have hflushed := exec_abortDump_flushed ht ha hd hf
    refine ⟨fun hoff => ?_, fun hon hout => ?_, fun hon hin => ?_⟩
    · exact hflushed.trans (congrArg _ (if_pos hoff))
    · exact hflushed.trans (congrArg _ ((if_neg (ne_false_of_eq_true hon)).trans (if_pos hout)))
    · exact hflushed.trans (congrArg _ ((if_neg (ne_false_of_eq_true hon)).trans (if_neg (ne_false_of_eq_true hin))))

end Sys2Proof.Machine
end

section
/-! O45: the completion of a bale, with its register writes, its relay push, its signals and HEAD (R258, R276, R286, R288). -/

namespace Sys2Proof.Machine

/-! What a completing bale does: its signals, its timer, HEAD (R249, R251, R276 step 7, R288) -/

section
variable {c : ChanId} {s : State}

theorem State.baleSignal_disabled {w : BitVec 64} (h : bit w 0 = false) : s.baleSignal c w = s := by
  simp only [State.baleSignal, h, Bool.false_and, Bool.false_eq_true, if_false]

theorem State.baleSignal_leaves {w : BitVec 64} (h : bit w 0 = true) (ha : (s.part (chanPart c)).abort = none) {code : Code} {s' : State}
    (hsignal : s.signal (chanPart c) (if wordSpace w = 0 then .part (chanPart c) else .hub (hubNo (wordHub w)))
      (if wordOp w = 1 then .add else if wordOp w = 2 then .sub else .inc) (wordIdx w) (wordValue w) = (code, s')) :
    s.baleSignal c w = if code = 0 then s' else s'.chanFault c code 0 := by
  simp only [State.baleSignal, h, ha, Option.isNone_none, Bool.and_self, if_true, hsignal]

/-- The two signals of a bale (R270). -/
def State.baleSignals (c : ChanId) (b : Bale) (s : State) : State :=
  (s.baleSignal c (Sys2Proof.Machine.baleSignal b 0)).baleSignal c (Sys2Proof.Machine.baleSignal b 1)

/-- A bale that says so disarms its timer (R288). -/
def State.disarm (c : ChanId) (b : Bale) (s : State) : State :=
  if bit b 17 then s.modPart (chanPart c) fun q => if q.rtEn then { q with tmrArm := q.tmrArm.set (baleTmr b) none } else q else s

/-- HEAD passes the oldest bale, which leaves its transfer (R276). -/
def Chan.passBale (k : Chan) : Chan :=
  { k with head := k.head + 1
           runs := match k.runs with
             | [] => []
             | r :: t => if r.bales.length ≤ 1 then t else { r with bales := r.bales.drop 1, descs := r.descs.drop 1, idx := r.idx + 1 } :: t }

/-- A change of one partition that keeps a field of it keeps that field of every partition. -/
theorem State.part_modPart_keeps {α : Type} (g : Part → α) {p : Fin 12} {f : Part → Part} (h : ∀ q, g (f q) = g q) (p' : Fin 12) :
    g ((s.modPart p f).part p') = g (s.part p') := by
  by_cases hp : p = p'
  · subst hp
    rw [State.part_modPart, h]
  · rw [State.part_modPart_ne p p' f s hp]

theorem State.trcEn_modChan (f : Chan → Chan) (p : Fin 12) (s : State) : ((s.modChan c f).part p).trcEn = (s.part p).trcEn := by
  cases c with
  | core q l n =>
    refine State.part_modPart_keeps Part.trcEn ?_ p
    exact fun _ => rfl
  | trunk q t =>
    refine State.part_modPart_keeps Part.trcEn ?_ p
    exact fun _ => rfl

theorem State.trcEn_disarm (b : Bale) (p : Fin 12) (s : State) : ((s.disarm c b).part p).trcEn = (s.part p).trcEn := by
  unfold State.disarm
  split
  · exact State.part_modPart_keeps Part.trcEn (fun q => by split <;> rfl) _
  · rfl

theorem State.traceBale_off (h : (s.part (chanPart c)).trcEn = false) : s.traceBale c = s := by
  simp only [State.traceBale, h, Bool.false_and, Bool.false_eq_true, if_false]

/-- A bale whose signals abort nothing, of a partition that traces nothing. -/
theorem State.finishBale_untraced {b : Bale} (ha : ((s.baleSignals c b).part (chanPart c)).abort = none)
    (htrace : ((s.baleSignals c b).part (chanPart c)).trcEn = false) :
    s.finishBale c b = ((((s.baleSignals c b).disarm c b).modChan c Chan.passBale).perf (chanPart c) 6 1) := by
  have hoff : ((((s.baleSignals c b).disarm c b).modChan c Chan.passBale).part (chanPart c)).trcEn = false := by
    rw [State.trcEn_modChan, State.trcEn_disarm, htrace]
  have hgoes : ¬((s.baleSignals c b).part (chanPart c)).abort.isSome = true := by simp [ha]
  calc s.finishBale c b
      = (((((s.baleSignals c b).disarm c b).modChan c Chan.passBale).traceBale c).perf (chanPart c) 6 1) := if_neg hgoes
    _ = _ := by rw [State.traceBale_off hoff]

end

/-! Bales of a transfer leave in ring order (R276, R286) -/

section
variable {c : ChanId} {s : State} {b : Bale} {t : List Bale} (hopen : s.chanOpen c = true)
include hopen

theorem State.releaseBales_unpushed (hp : balePush b = none) : s.releaseBales c (b :: t) = (s.finishBale c b).releaseBales c t := by
  simp only [State.releaseBales, hopen, hp, Bool.true_eq_false, if_false]

section
variable {n : BitVec 6} {h : BitVec 17} (hp : balePush b = some (n, h))
include hp

theorem State.releaseBales_full (hfull : (s.part (chanPart c)).relayFull n = true) :
    s.releaseBales c (b :: t) = s.modChan c fun k => { k with pushHeld := [(n, h)] } := by
  simp only [State.releaseBales, hopen, hp, hfull, Bool.true_eq_false, if_false, if_true]

theorem State.releaseBales_pushed (hroom : (s.part (chanPart c)).relayFull n = false) :
    s.releaseBales c (b :: t) = ((s.relayAdd (chanPart c) n h).finishBale c b).releaseBales c t := by
  simp only [State.releaseBales, hopen, hp, hroom, Bool.true_eq_false, Bool.false_eq_true, if_false]

end

end

/-! BALE_COMPLETE and BALE_RELAY_PUSH -/

/-- The register writes of a transfer, in order (R258). -/
def State.runRegWrites (c : ChanId) (r : BaleRun) (s : State) : State :=
  (s.modRun c r.no fun r => { r with regs := [] }).regWrites c r.no r.regs

section
variable {c : ChanId} {s : State} {r : BaleRun} {rest : List BaleRun} (hruns : (s.chan c).runs = r :: rest) (hopen : s.chanOpen c = true)
include hruns hopen

theorem exec_baleComplete_ready (hheld : (s.chan c).pushHeld = []) (hphase : r.phase = .write) (htodo : r.todo = []) (hreads : r.reads = 0)
    (hwrites : r.writes = 0) : exec (.baleComplete c) s = .next (
      let s' := s.runRegWrites c r
      if s'.chanOpen c && (s'.chan c).runs.head?.any fun r => decide (r.writes = 0) then (s'.dropDest c r).releaseBales c r.bales else s') := by
  show execBaleComplete c s = _
  simp [execBaleComplete, State.runRegWrites, hruns, hopen, hheld, hphase, htodo, hreads, hwrites]

section
variable {n : BitVec 6} {h : BitVec 17} {x : List (BitVec 6 × BitVec 17)} (hheld : (s.chan c).pushHeld = (n, h) :: x)
include hheld

theorem exec_baleRelayPush_full (hfull : (s.part (chanPart c)).relayFull n = true) : exec (.baleRelayPush c) s = .next s := by
  show execBaleRelayPush c s = _
  simp only [execBaleRelayPush, hheld, hruns, hopen, hfull, Bool.not_true, Bool.and_false, Bool.false_eq_true, if_false]

theorem exec_baleRelayPush_room {b : Bale} {t : List Bale} (hbales : r.bales = b :: t) (hroom : (s.part (chanPart c)).relayFull n = false) :
    exec (.baleRelayPush c) s = .next
      ((((s.modChan c fun k => { k with pushHeld := [] }).relayAdd (chanPart c) n h).finishBale c b).releaseBales c t) := by
  show execBaleRelayPush c s = _
  simp only [execBaleRelayPush, hheld, hruns, hopen, hroom, hbales, Bool.not_false, Bool.and_self, if_true]

end

end

/-- Settles O45: each clause is the branch of a command, or of one of its steps, that its conditions select. -/
theorem baleCompletes : Obligations.BaleCompletes := by
  unfold Obligations.BaleCompletes
  refine ⟨?complete, fun c no s => rfl, fun c s b t hopen => ⟨rfl, State.releaseBales_unpushed hopen, fun n h hp =>
      ⟨State.releaseBales_full hopen hp, State.releaseBales_pushed hopen hp⟩⟩, ?finish,
    fun c s w => ⟨State.baleSignal_disabled, fun hw ha code s' hsignal => State.baleSignal_leaves hw ha hsignal⟩,
    fun c s n h x r rest b t hheld hruns hbales hopen =>
      ⟨exec_baleRelayPush_full hruns hopen hheld, exec_baleRelayPush_room hruns hopen hheld hbales⟩⟩
  case complete =>
    intro c s r rest k hruns hopen hheld hphase htodo hreads hwrites s'
    have hready := exec_baleComplete_ready hruns hopen hheld hphase htodo hreads hwrites
    refine ⟨fun hopen' hdone => hready.trans (congrArg _ (if_pos ?_)), fun hwaits => hready.trans (congrArg _ (if_neg ?_))⟩
    · exact Bool.and_eq_true_iff.mpr ⟨hopen', hdone⟩
    · exact ne_true_of_eq_false (Bool.and_eq_false_iff.mpr hwaits)
  case finish =>
    intro c s b p s' ha htrace
    exact State.finishBale_untraced ha htrace

end Sys2Proof.Machine
end

section
/-! O52: link timers (R386, R398, R399), requests that a hub holds (R258), and room in the event queue (R408, R418). -/

namespace Sys2Proof.Machine

/-! FLIT_SILENCE and CREDIT_STARVATION (R398, R399) -/

section
variable {n : Fin 16} {s : State} {t : W64}

theorem exec_flitSilence_active (h : s.links[n].state = .active) : exec (.flitSilence n) s =
    .next (if 1000000 ≤ (s.now - s.links[n].lastRx).toNat then s.linkDown n .silence else s) := by
  show execFlitSilence n s = _
  simp only [execFlitSilence, h, true_and]

theorem exec_creditStarvation_supplied (h : s.links[n].credWait = none) : exec (.creditStarvation n) s = .next s := by
  show execCreditStarvation n s = _
  rw [execCreditStarvation, h]
  cases s.links[n].state <;> rfl

theorem exec_creditStarvation_waits (h : s.links[n].state = .active) (ht : s.links[n].credWait = some t) : exec (.creditStarvation n) s =
    .next (if 10000000 ≤ (s.now - t).toNat then (s.logHub (linkHub n) 0x6C07 0).linkDown n .credits else s) := by
  show execCreditStarvation n s = _
  simp only [execCreditStarvation, h, ht]

end

/-! REMOTE_REQUEST_TIMEOUT (R386) -/

/-- The first element that meets a test, and what is left without it, where those before it do not meet it. -/
theorem find?_and_erase_of_first {α : Type} [DecidableEq α] {f : α → Bool} {pre post : List α} {a : α} (hpre : ∀ x ∈ pre, f x = false)
    (ha : f a = true) : (pre ++ a :: post).find? f = some a ∧ (pre ++ a :: post).erase a = pre ++ post := by
  have hmem : a ∉ pre := fun h => by simp [hpre a h] at ha
  refine ⟨?_, ?_⟩
  · rw [List.find?_append, List.find?_eq_none.mpr fun x hx => by simp [hpre x hx], Option.none_or, List.find?_cons_of_pos ha]
  · rw [List.erase_append_right _ hmem, List.erase_cons_head]

section
variable {n : Fin 16} {s : State} {tag : BitVec 16}

theorem State.link_modLink_ne {m : Fin 16} (f : Link → Link) (h : m ≠ n) : (s.modLink n f).links[m] = s.links[m] := by
  have : n.val ≠ m.val := fun e => h (Fin.ext e.symm)
  simp [State.modLink, Vector.getElem_set_ne, this]

theorem exec_remoteRequestTimeout_gone (h : ∀ o ∈ s.links[n].outst, o.tag ≠ tag) : exec (.remoteRequestTimeout n (some tag)) s = .next s := by
  have hnone : s.links[n].outst.find? (fun o => decide (o.tag = tag)) = none := List.find?_eq_none.mpr fun o ho => by simp [h o ho]
  show execRemoteRequestTimeout n (some tag) s = _
  simp only [execRemoteRequestTimeout, hnone]

theorem exec_remoteRequestTimeout_out {o : Outst} (h : s.links[n].outst.find? (fun o => decide (o.tag = tag)) = some o) :
    exec (.remoteRequestTimeout n (some tag)) s = .next (if s.overdue n o.since then
      ((s.modLink n (Link.dropTag tag)).logHub (linkHub n) 0x9C01 0).complete o.who o.read 0x9C01 [] else s) := by
  show execRemoteRequestTimeout n (some tag) s = _
  simp only [execRemoteRequestTimeout, h]
  rfl

theorem exec_remoteRequestTimeout_waiting {pre post : List Waiting} {w : Waiting} {who : Requester} {read : Bool} {len : Nat}
    (h : s.links[n].waits = pre ++ w :: post) (hpre : ∀ x ∈ pre, x.req = none) (hreq : w.req = some (who, read, len)) :
    exec (.remoteRequestTimeout n none) s = .next (if s.overdue n w.since then
      ((s.modLink n fun k => { k with waits := pre ++ post }).logHub (linkHub n) 0x9C01 0).complete who read 0x9C01 [] else s) := by
  obtain ⟨hfind, herase⟩ := find?_and_erase_of_first (f := fun w : Waiting => w.req.isSome) (pre := pre) (post := post) (a := w)
    (fun x hx => by simp [hpre x hx]) (by simp [hreq])
  have hleft : s.modLink n (fun k => { k with waits := k.waits.erase w }) = s.modLink n fun k => { k with waits := pre ++ post } := by
    simp only [State.modLink, h, herase]
  show execRemoteRequestTimeout n none s = _
  simp only [execRemoteRequestTimeout, h, hfind, hreq, hleft]

end

/-! HUB_ALIAS_FORWARD (R258) -/

section
variable {h : Fin 4} {s : State}

theorem exec_hubAliasForward_waits (hwaits : ∀ x ∈ (s.hub h).aliases, x.waits ≠ []) : exec (.hubAliasForward h) s = .next s := by
  have hnone : (s.hub h).aliases.find? (fun r => r.waits.isEmpty) = none := List.find?_eq_none.mpr fun x hx => by simp [hwaits x hx]
  show execHubAliasForward h s = _
  simp only [execHubAliasForward, hnone]

theorem exec_hubAliasForward_first {r : HubReq} {pre post : List HubReq} (haliases : (s.hub h).aliases = pre ++ r :: post)
    (hr : r.waits = []) (hpre : ∀ x ∈ pre, x.waits ≠ []) :
    exec (.hubAliasForward h) s = .next ((s.modHub h fun b => { b with aliases := pre ++ post }).hubRun r) := by
  obtain ⟨hfind, herase⟩ := find?_and_erase_of_first (f := fun r : HubReq => r.waits.isEmpty) (pre := pre) (post := post) (a := r)
    (fun x hx => by simp [hpre x hx]) (by simp [hr])
  have hleft : s.modHub h (fun b => { b with aliases := b.aliases.erase r }) = s.modHub h fun b => { b with aliases := pre ++ post } :=
    State.modHub_congr (by simp only [haliases, herase])
  show execHubAliasForward h s = _
  simp only [execHubAliasForward, haliases, hfind, hleft]

/-! EVENT_QUEUE_ROOM (R408, R416, R418) -/

/-- A port that is BUSY leaves BUSY by the completion event of its long operation, and changes nothing else (R408). -/
theorem State.hub_leaveBusy {e : Event} {o : Busy} (hbusy : (s.hub h).busy = some o) : (s.leaveBusy h e).hub h =
    { s.hub h with busy := if e.kind = 5 ∧ e.lop.toNat = o.lop.toNat then none else some o } := by
  unfold State.leaveBusy
  rw [State.hub_modHub, hbusy]
  simp only
  split
  · rfl
  · rw [← hbusy]

theorem State.outbox_leaveBusy (e : Event) : ((s.leaveBusy h e).hub h).outbox = (s.hub h).outbox := by
  unfold State.leaveBusy
  rw [State.hub_modHub]
  split
  · split <;> rfl
  · rfl

/-- The port sends an event to its host die (R404). -/
def State.sendOut (h : Fin 4) (s : State) (e : Event) : State := (s.say h (.event e)).leaveBusy h e

theorem State.outbox_sendOut (e : Event) : ((s.sendOut h e).hub h).outbox = (s.hub h).outbox ++ [.event e] := by
  rw [State.sendOut, State.outbox_leaveBusy, State.say, State.hub_modHub]

theorem State.outbox_sendsOut (l : List Event) (s : State) :
    ((l.foldl (State.sendOut h) s).hub h).outbox = (s.hub h).outbox ++ l.map HostMsg.event := by
  induction l generalizing s with
  | nil => exact (List.append_nil _).symm
  | cons e l ih => rw [List.foldl_cons, ih, State.outbox_sendOut, List.append_assoc, List.map_cons, List.singleton_append]

theorem State.sendPend_none {i : Nat} (hi : (s.hub h).evPend.getLsbD i = false ∨ 256 ≤ (s.hub h).evq.length) : State.sendPend h s i = s := by
  unfold State.sendPend
  simp only
  exact if_pos hi

/-- A pending bit sends one merged event, where the queue has room. -/
theorem State.sendPend_sends {i : Nat} (hi : (s.hub h).evPend.getLsbD i = true) (hroom : (s.hub h).evq.length < 256) :
    ∃ e : Event, e.coal = true ∧ e.kind = BitVec.ofNat 16 (2 + i / 3) ∧ e.seq = (s.hub h).evSeq ∧ (State.sendPend h s i).hub h =
      { s.hub h with evq := (s.hub h).evq ++ [e], evSeq := (s.hub h).evSeq + 1
                     evPend := (s.hub h).evPend &&& ~~~(BitVec.ofNat 32 (2 ^ i)) } := by
  have hsends : ¬((s.hub h).evPend.getLsbD i = false ∨ 256 ≤ (s.hub h).evq.length) := by simp [hi, hroom]
  unfold State.sendPend
  simp only [if_neg hsends, State.hub_drawn, State.hub_modHub]
  exact ⟨_, rfl, rfl, rfl, rfl⟩

end

/-- Settles O52: each clause is the branch of a command, or of one of its steps, that its conditions select. -/
theorem linkTimersAndEvents : Obligations.LinkTimersAndEvents := by
  unfold Obligations.LinkTimersAndEvents
  refine ⟨?timers, ?requests, fun h s => ⟨fun r pre post haliases hr hpre => exec_hubAliasForward_first haliases hr hpre,
    exec_hubAliasForward_waits⟩, ?room, ?pending, fun h e o s hbusy => State.hub_leaveBusy hbusy⟩
  case timers =>
    intro n s hactive
    have hsilence := exec_flitSilence_active hactive
    refine ⟨fun hdue => hsilence.trans (congrArg _ (if_pos hdue)), fun hsoon => hsilence.trans (congrArg _ (if_neg (Nat.not_le.mpr hsoon))),
      exec_creditStarvation_supplied, fun t ht => ?_⟩
    have hstarved := exec_creditStarvation_waits hactive ht
    exact ⟨fun hdue => hstarved.trans (congrArg _ (if_pos hdue)), fun hsoon => hstarved.trans (congrArg _ (if_neg (Nat.not_le.mpr hsoon)))⟩
  case requests =>
    intro n tag s due
    have hover : ∀ t, s.overdue n t = decide (due ≤ (s.now - t).toNat) := fun t => rfl
    refine ⟨fun o ho => ?out, fun pre w post who read len hwaits hpre hreq _ => ?waiting, exec_remoteRequestTimeout_gone⟩
    case out =>
      have hexec := exec_remoteRequestTimeout_out ho
      rw [hover] at hexec
      refine ⟨fun hdue => ⟨s.modLink n (Link.dropTag tag), State.link_modLink .., fun m hm => State.link_modLink_ne _ hm, rfl, ?_⟩,
        fun hsoon => ?_⟩
      · exact hexec.trans (congrArg _ (if_pos (decide_eq_true hdue)))
      · exact hexec.trans (congrArg _ (if_neg (by simpa using hsoon)))
    case waiting =>
      have hexec := exec_remoteRequestTimeout_waiting hwaits hpre hreq
      rw [hover] at hexec
      exact ⟨fun hdue => hexec.trans (congrArg _ (if_pos (decide_eq_true hdue))),
        fun hsoon => hexec.trans (congrArg _ (if_neg (by simpa using hsoon)))⟩
  case room =>
    intro h room s hup out s1 s2 s3 s4
    refine ⟨State.outbox_sendsOut out s, ?_⟩
    show execEventQueueRoom h room s = _
    rw [execEventQueueRoom, if_pos hup]
    rfl
  case pending =>
    intro h i s b
    exact ⟨State.sendPend_none, State.sendPend_sends⟩

end Sys2Proof.Machine
end

section
/-! What operations leave as it was of the stacks' contents, the fuses, their copies and the TAP instructions, which is all that
the invariant of O60 speaks of (R310, R433, R434, R479, R481). A lemma for each operation that touches none of them, in the
order of the model; the few operations that do touch them stand in the section after this one. -/

namespace Sys2Proof.Machine

/-- The part of the block that the invariant speaks of. -/
structure Vault where
  hbm : Memory
  fuses : Fuses
  fuseCopy : Fuses
  tap : Vector Byte 28

def State.vault (s : State) : Vault := ⟨s.hbm, s.fuses, s.fuseCopy, s.tap⟩

/-! How a vault is read off. The lemmas that take the state out of a constructor are rewritten with, not unfolded: the kernel
would evaluate the operation that gives the state. -/

@[simp] theorem State.vault_mk (pending parts hubs links stackPorts regions hbm dieTime half phase pwrOk rstN warm rampMax pll
    straps bridges hubBridges grade plive build fuses fuseCopy tmpSeed idPub kaPub auth secQ devNum minEp cert routes capOff capCode
    capState capMask capSince capHeld capWait secNow tap drbg free answer) :
    State.vault ⟨pending, parts, hubs, links, stackPorts, regions, hbm, dieTime, half, phase, pwrOk, rstN, warm, rampMax, pll, straps,
      bridges, hubBridges, grade, plive, build, fuses, fuseCopy, tmpSeed, idPub, kaPub, auth, secQ, devNum, minEp, cert, routes,
      capOff, capCode, capState, capMask, capSince, capHeld, capWait, secNow, tap, drbg, free, answer⟩
    = ⟨hbm, fuses, fuseCopy, tap⟩ := by
  simp only [State.vault]

@[simp] theorem State.vault_eta (s : State) : Vault.mk s.hbm s.fuses s.fuseCopy s.tap = s.vault := rfl

@[simp] theorem RegAns.state_now (st) (s : State) : (RegAns.now st s).state = s := by rw [RegAns.state]
@[simp] theorem RegAns.state_later (s : State) : (RegAns.later s).state = s := by rw [RegAns.state]
@[simp] theorem RegAns.state_busy (o) (s : State) : (RegAns.busy o s).state = s := by rw [RegAns.state]
@[simp] theorem Issued.state_done (s : State) : (Issued.done s).state = s := rfl
@[simp] theorem Issued.state_stay (s : State) : (Issued.stay s).state = s := rfl

section
variable {c : Prop} [Decidable c]

@[simp] theorem State.vault_ite {a b : State} : (if c then a else b).vault = if c then a.vault else b.vault := apply_ite ..
@[simp] theorem snd_ite {α β : Type} {a b : α × β} : (if c then a else b).2 = if c then a.2 else b.2 := apply_ite ..
@[simp] theorem RegAns.state_ite {a b : RegAns} : (if c then a else b).state = if c then a.state else b.state := apply_ite ..
@[simp] theorem Issued.state_ite {a b : Issued} : (if c then a else b).state = if c then a.state else b.state := apply_ite ..

theorem vault_ite_of {a b s : State} (ha : a.vault = s.vault) (hb : b.vault = s.vault) : (if c then a else b).vault = s.vault := by
  split <;> assumption

end

theorem vault_of_eq {α : Type} {r : α × State} {a : α} {s t : State} (h : r = (a, t)) (hr : r.2.vault = s.vault) : t.vault = s.vault := by
  subst h; exact hr

theorem vault_pair {α : Type} {a : α} {s t : State} (h : t.vault = s.vault) : (a, t).2.vault = s.vault := h

@[simp] theorem vault_foldl {α : Type} {f : State → α → State} (h : ∀ s a, (f s a).vault = s.vault) (l : List α) (s : State) :
    (l.foldl f s).vault = s.vault := by
  induction l generalizing s with
  | nil => rfl
  | cons a l ih => rw [List.foldl_cons, ih, h]

/-- Wherever a command leads, the vault is as it was. -/
def Out.Keeps (s : State) (o : Out) : Prop := ∀ t, o = .next t → t.vault = s.vault

@[simp] theorem Out.keeps_next (s t : State) : Out.Keeps s (.next t) ↔ t.vault = s.vault := by simp [Out.Keeps, eq_comm]

/-! Units of the state, the trouble log, events and aborts -/

@[simp] theorem State.modPart_vault (p f) (s : State) : (s.modPart p f).vault = s.vault := by
  simp [State.modPart]

@[simp] theorem State.modCore_vault (p l f) (s : State) : (s.modCore p l f).vault = s.vault := by
  simp [State.modCore]

@[simp] theorem State.modHub_vault (h f) (s : State) : (s.modHub h f).vault = s.vault := by
  simp [State.modHub]

@[simp] theorem State.modLink_vault (n f) (s : State) : (s.modLink n f).vault = s.vault := by
  simp [State.modLink]

@[simp] theorem State.modStack_vault (d f) (s : State) : (s.modStack d f).vault = s.vault := by
  simp [State.modStack]

@[simp] theorem State.modRegion_vault (r f) (s : State) : (s.modRegion r f).vault = s.vault := by
  simp [State.modRegion]

@[simp] theorem State.drawn_vault (s : State) : s.drawn.vault = s.vault := by
  simp [State.drawn]

@[simp] theorem State.answered_vault (st d) (s : State) : (s.answered st d).vault = s.vault := by
  simp [State.answered]

@[simp] theorem State.sendEvent_vault (h kind code part lop arg) (s : State) :
    (s.sendEvent h kind code part lop arg).vault = s.vault := by
  simp [State.sendEvent]

@[simp] theorem State.logStamp_vault (h time code part core flags arg0 arg1) (s : State) :
    (s.logStamp h time code part core flags arg0 arg1).vault = s.vault := by
  simp [State.logStamp]

@[simp] theorem State.logAt_vault (h code part core flags arg0 arg1) (s : State) :
    (s.logAt h code part core flags arg0 arg1).vault = s.vault := by
  simp [State.logAt]

@[simp] theorem State.logPart_vault (p code arg1) (s : State) : (s.logPart p code arg1).vault = s.vault := by
  simp [State.logPart]

@[simp] theorem State.logCore_vault (p l code arg1) (s : State) : (s.logCore p l code arg1).vault = s.vault := by
  simp [State.logCore]

@[simp] theorem State.logHub_vault (h code arg1) (s : State) : (s.logHub h code arg1).vault = s.vault := by
  simp [State.logHub]

@[simp] theorem State.logBlock_vault (code arg1) (s : State) : (s.logBlock code arg1).vault = s.vault := by
  simp [State.logBlock]

@[simp] theorem State.stopPart_vault (p info) (s : State) : (s.stopPart p info).vault = s.vault := by
  simp [State.stopPart]

@[simp] theorem State.abortWith_vault (p core code arg) (s : State) : (s.abortWith p core code arg).vault = s.vault := by
  simp only [State.abortWith]
  (repeat' split) <;> simp [*]

@[simp] theorem State.abortCore_vault (p l code arg) (s : State) : (s.abortCore p l code arg).vault = s.vault := by
  simp [State.abortCore]

@[simp] theorem State.abort_vault (p code arg) (s : State) : (s.abort p code arg).vault = s.vault := by
  simp [State.abort]

@[simp] theorem State.internalCore_vault (p l code) (s : State) : (s.internalCore p l code).vault = s.vault := by
  simp [State.internalCore]

@[simp] theorem State.perf_vault (p k n) (s : State) : (s.perf p k n).vault = s.vault := by
  simp [State.perf]

/-! Sticky flags -/

@[simp] theorem State.setGridFlag_vault (p l i code) (s : State) : (s.setGridFlag p l i code).vault = s.vault := by
  simp [State.setGridFlag]

@[simp] theorem State.accSat_vault (p l t) (s : State) : (s.accSat p l t).vault = s.vault := by
  simp [State.accSat]

@[simp] theorem State.entRej_vault (p l) (s : State) : (s.entRej p l).vault = s.vault := by
  simp [State.entRej]

@[simp] theorem State.convCount_vault (p l satCode nanCode fx) (s : State) : (s.convCount p l satCode nanCode fx).vault = s.vault := by
  simp [State.convCount]

@[simp] theorem State.convVec_vault (p l fx) (s : State) : (s.convVec p l fx).vault = s.vault := by
  simp [State.convVec]

@[simp] theorem State.convLs_vault (p l fx) (s : State) : (s.convLs p l fx).vault = s.vault := by
  simp [State.convLs]

@[simp] theorem State.setQnt_vault (p l i code) (s : State) : (s.setQnt p l i code).vault = s.vault := by
  simp [State.setQnt]

@[simp] theorem State.wrRej_vault (p l) (s : State) : (s.wrRej p l).vault = s.vault := by
  simp [State.wrRej]

@[simp] theorem State.cntSat_vault (p l) (s : State) : (s.cntSat p l).vault = s.vault := by
  simp [State.cntSat]

@[simp] theorem State.setFinf_vault (p l) (s : State) : (s.setFinf p l).vault = s.vault := by
  simp [State.setFinf]

@[simp] theorem State.setEmpty_vault (p l) (s : State) : (s.setEmpty p l).vault = s.vault := by
  simp [State.setEmpty]

@[simp] theorem State.eccCorrected_vault (p l) (s : State) : (s.eccCorrected p l).vault = s.vault := by
  simp [State.eccCorrected]

@[simp] theorem State.eccBad_vault (p l word) (s : State) : (s.eccBad p l word).vault = s.vault := by
  simp [State.eccBad]

/-! Scratchpads -/

@[simp] theorem State.correct_vault (p l) (ws : List Nat) (s : State) : (s.correct p l ws).vault = s.vault := by
  induction ws generalizing s with
  | nil => rfl
  | cons w ws ih => simp [State.correct, ih]

@[simp] theorem State.rowRead_vault (p l a n consume) (s : State) : (s.rowRead p l a n consume).2.vault = s.vault := by
  unfold State.rowRead
  dsimp only
  (repeat' split) <;> simp

@[simp] theorem State.rowWrite_vault (p l a data lastInRow) (s : State) : (s.rowWrite p l a data lastInRow).2.vault = s.vault := by
  simp [State.rowWrite]

@[simp] theorem State.engRead_vault (p l a n consume) (s : State) : (s.engRead p l a n consume).2.vault = s.vault := by
  unfold State.engRead
  split
  · simp
  · split
    · next h => exact vault_of_eq h (by simp)
    · next h => simpa using vault_of_eq h (by simp)

@[simp] theorem State.engWrite_vault (p l a data last) (s : State) : (s.engWrite p l a data last).2.vault = s.vault := by
  unfold State.engWrite
  split
  · simp
  · split
    · next h => exact vault_of_eq h (by simp)
    · next h => simpa using vault_of_eq h (by simp)

@[simp] theorem State.engWrites_vault (p l) (ws : List (Nat × List Byte)) (s : State) : (s.engWrites p l ws).vault = s.vault := by
  induction ws generalizing s with
  | nil => rfl
  | cons w ws ih =>
    obtain ⟨a, d⟩ := w
    unfold State.engWrites
    split
    · next h => exact (ih _).trans (vault_of_eq h (by simp))
    · next h => exact vault_of_eq h (by simp)

/-! Accesses to memory -/

@[simp] theorem State.logSrc_vault (src code) (s : State) : (s.logSrc src code).vault = s.vault := by
  simp [State.logSrc]

@[simp] theorem State.logDest_vault (p core src code) (s : State) : (s.logDest p core src code).vault = s.vault := by
  simp [State.logDest]

@[simp] theorem State.hbmBad_vault (src d loc) (s : State) : (s.hbmBad src d loc).vault = s.vault := by
  simp [State.hbmBad]

@[simp] theorem State.hbmFixed_vault (d) (s : State) : (s.hbmFixed d).vault = s.vault := by
  simp [State.hbmFixed]

@[simp] theorem State.unitRead_vault (src d loc n) (s : State) : (s.unitRead src d loc n).2.2.vault = s.vault := by
  simp [State.unitRead]

@[simp] theorem State.hbmRefuse_vault (src d code) (s : State) : (s.hbmRefuse src d code).vault = s.vault := by
  simp [State.hbmRefuse]

@[simp] theorem State.spadRefuse_vault (src p l code) (s : State) : (s.spadRefuse src p l code).vault = s.vault := by
  simp [State.spadRefuse]

@[simp] theorem State.dmaRead_vault (src p l off n consume) (s : State) : (s.dmaRead src p l off n consume).2.2.vault = s.vault := by
  unfold State.dmaRead
  split
  · next h => exact vault_of_eq h (by simp)
  · next h => simpa using vault_of_eq h (by simp)

@[simp] theorem State.dmaWrite_vault (src p l off data last) (s : State) : (s.dmaWrite src p l off data last).2.vault = s.vault := by
  unfold State.dmaWrite
  dsimp only
  split
  · simp
  · split
    · simp
    · split
      · next h => simpa using vault_of_eq h (by simp)
      · next h => simpa using vault_of_eq h (by simp)

@[simp] theorem State.arrive_vault (p l i) (s : State) : (s.arrive p l i).vault = s.vault := by
  unfold State.arrive
  split <;> simp

/-! The margin fabric -/

@[simp] theorem State.fabricEdges_vault (s : State) : s.fabricEdges.vault = s.vault := by
  simp [State.fabricEdges]

/-! Engine queues -/

@[simp] theorem State.advance_vault (p l e x) (s : State) : (s.advance p l e x).vault = s.vault := by
  unfold State.advance
  dsimp only
  (repeat' split) <;> simp

@[simp] theorem State.audited_vault (p l code) (s : State) : (s.audited p l code).vault = s.vault := by
  simp [State.audited]

@[simp] theorem State.hazard_vault (p l e found) (s : State) : (s.hazard p l e found).vault = s.vault := by
  simp [State.hazard]

@[simp] theorem State.seen_vault (p l early) (s : State) : (s.seen p l early).vault = s.vault := by
  unfold State.seen
  split <;> simp

@[simp] theorem State.borrow_vault (p l early) (s src : State) : (s.borrow p l early src).vault = s.vault := by
  unfold State.borrow
  split <;> simp

/-- An issue keeps the vault when the instruction does. -/
@[simp] theorem State.issueBy_vault {p l e x found code want} {run : Entry → State → State → Issued}
    (hrun : ∀ en src s, (run en src s).state.vault = s.vault) (s : State) : (s.issueBy p l e x found code want run).vault = s.vault := by
  unfold State.issueBy
  split
  · rfl
  · next en _ =>
    have h := hrun en (s.seen p l (foundEarly found)) (s.hazard p l e found)
    dsimp only
    (repeat' split) <;> simp_all

@[simp] theorem State.issue_vault {p l e x found code want} {f : Entry → State → Issued}
    (hf : ∀ en s, (f en s).state.vault = s.vault) (s : State) : (s.issue p l e x found code want f).vault = s.vault := by
  unfold State.issue
  refine State.issueBy_vault (fun en src t => ?_) s
  have h := hf en (t.borrow p l (foundEarly found) src)
  split <;> simp_all

/-! Descriptors -/

@[simp] theorem State.descReject_vault (p hd cause) (s : State) : (s.descReject p hd cause).vault = s.vault := by
  simp [State.descReject]

@[simp] theorem State.descWrite_vault (p hd d) (s : State) : (s.descWrite p hd d).2.vault = s.vault := by
  simp [State.descWrite]

@[simp] theorem execDescriptorCacheFill_vault (u) (s : State) : Out.Keeps s (execDescriptorCacheFill u s) := by
  unfold execDescriptorCacheFill
  dsimp only
  (repeat' split) <;> simp

/-! Semaphores and counters -/

@[simp] theorem State.putWord_vault (sp ctr i v) (s : State) : (s.putWord sp ctr i v).vault = s.vault := by
  unfold State.putWord
  split <;> simp

@[simp] theorem State.setSubs_vault (sp l) (s : State) : (s.setSubs sp l).vault = s.vault := by
  unfold State.setSubs
  split <;> simp

@[simp] theorem State.semFlag_vault (sp i) (s : State) : (s.semFlag sp i).vault = s.vault := by
  unfold State.semFlag
  split <;> simp

@[simp] theorem State.putSemErr_vault (sp v) (s : State) : (s.putSemErr sp v).vault = s.vault := by
  unfold State.putSemErr
  split <;> simp

@[simp] theorem State.semErrAt_vault (sp ctr i code) (s : State) : (s.semErrAt sp ctr i code).vault = s.vault := by
  simp [State.semErrAt]

@[simp] theorem State.semErrFree_vault (sp code) (s : State) : (s.semErrFree sp code).vault = s.vault := by
  simp [State.semErrFree]

@[simp] theorem State.semDo_vault (sp o i n) (s : State) : (s.semDo sp o i n).2.vault = s.vault := by
  simp [State.semDo]

@[simp] theorem State.semLog_vault (sp src code) (s : State) : (s.semLog sp src code).vault = s.vault := by
  simp [State.semLog]

@[simp] theorem State.signal_vault (p sp o i n) (s : State) : (s.signal p sp o i n).2.vault = s.vault := by
  simp [State.signal]

@[simp] theorem State.semWrite_vault (src sp o i v) (s : State) : (s.semWrite src sp o i v).2.vault = s.vault := by
  simp [State.semWrite]

@[simp] theorem State.semRead_vault (src sp ctr i) (s : State) : (s.semRead src sp ctr i).2.2.vault = s.vault := by
  simp [State.semRead]

@[simp] theorem State.semInvalid_vault (src sp off) (s : State) : (s.semInvalid src sp off).vault = s.vault := by
  unfold State.semInvalid
  split <;> simp

/-! Waits and signals -/

@[simp] theorem State.modChan_vault (c f) (s : State) : (s.modChan c f).vault = s.vault := by
  unfold State.modChan
  split <;> simp

@[simp] theorem State.chanFault_vault (c code arg) (s : State) : (s.chanFault c code arg).vault = s.vault := by
  simp [State.chanFault]

@[simp] theorem State.unitFault_vault (u code arg) (s : State) : (s.unitFault u code arg).vault = s.vault := by
  unfold State.unitFault
  split <;> simp

@[simp] theorem State.consume_vault (u) (s : State) : (s.consume u).vault = s.vault := by
  simp only [State.consume]
  (repeat' split) <;> simp [*]

@[simp] theorem State.waitOp_vault {u op} {test : SemSpace → WaitInfo → State → State} (ht : ∀ sp i s, (test sp i s).vault = s.vault) (s : State) :
    (s.waitOp u op test).vault = s.vault := by
  unfold State.waitOp
  split
  · split
    · rfl
    · simp [ht]
  · rfl

@[simp] theorem State.subRequest_vault (u sp i) (s : State) : (s.subRequest u sp i).vault = s.vault := by
  simp [State.subRequest]

@[simp] theorem State.subOp_vault (u) (s : State) : (s.subOp u).vault = s.vault := by
  refine State.waitOp_vault (fun sp i s => ?_) s
  dsimp only
  split <;> simp

@[simp] theorem State.signalOp_vault (p l e x op) (s : State) : (s.signalOp p l e x op).vault = s.vault := by
  unfold State.signalOp
  dsimp only
  (repeat' split) <;> simp

@[simp] theorem State.semPerform_vault (r) (s : State) : (s.semPerform r).vault = s.vault := by
  simp only [State.semPerform]
  (repeat' split) <;> simp [*]

@[simp] theorem State.semCycle_vault (r meet) (s : State) : (s.semCycle r meet).vault = s.vault := by
  simp [State.semCycle]

@[simp] theorem execWatchdogExpiry_vault (u) (s : State) : Out.Keeps s (execWatchdogExpiry u s) := by
  unfold execWatchdogExpiry
  dsimp only
  (repeat' split) <;> simp

/-! Requests that leave the block, and the completion of any request -/

@[simp] theorem State.egress_vault (n h data) (s : State) : (s.egress n h data).vault = s.vault := by
  simp [State.egress]

@[simp] theorem State.unbuffer_vault (back) (s : State) : (s.unbuffer back).vault = s.vault := by
  unfold State.unbuffer
  split <;> simp

@[simp] theorem State.accept_vault (n w) (s : State) : (s.accept n w).vault = s.vault := by
  unfold State.accept
  split <;> simp

theorem State.launch_vault {w s t} (h : State.launch w s = some t) : t.vault = s.vault := by
  unfold State.launch at h
  dsimp only at h
  split at h
  · cases h
  · cases h; simp

@[simp] theorem State.launch_getD_vault {w} {s u : State} (hu : u.vault = s.vault) : ((s.launch w).getD u).vault = s.vault := by
  cases hl : s.launch w with
  | none => exact hu
  | some t => exact State.launch_vault hl

@[simp] theorem State.enterLink_vault (n f) (s : State) : (s.enterLink n f).vault = s.vault := by
  induction f generalizing s with
  | zero => rfl
  | succ f ih =>
    unfold State.enterLink
    split <;> simp [ih]

theorem State.sendReq_vault {who src kind a len data arr lir s t} (h : State.sendReq who src kind a len data arr lir s = some t) :
    t.vault = s.vault :=
  State.launch_vault h

@[simp] theorem State.respond_vault (n tag src read status data) (s : State) :
    (s.respond n tag src read status data).vault = s.vault := by
  simp [State.respond]

@[simp] theorem State.ordered_vault (n tag src) (s : State) : (s.ordered n tag src).vault = s.vault := by
  simp [State.ordered]

@[simp] theorem State.chanDone_vault (c bale piece read status data) (s : State) :
    (s.chanDone c bale piece read status data).vault = s.vault := by
  simp [State.chanDone]

@[simp] theorem State.say_vault (h m) (s : State) : (s.say h m).vault = s.vault := by
  simp [State.say]

@[simp] theorem State.portFree_vault (h tag) (s : State) : (s.portFree h tag).vault = s.vault := by
  simp [State.portFree]

@[simp] theorem State.portAnswer_vault (h tag status data) (s : State) : (s.portAnswer h tag status data).vault = s.vault := by
  simp [State.portAnswer]

@[simp] theorem State.portInvalid_vault (h tag) (s : State) : (s.portInvalid h tag).vault = s.vault := by
  simp [State.portInvalid]

@[simp] theorem State.recordDone_vault (h n) (s : State) : (s.recordDone h n).vault = s.vault := by
  unfold State.recordDone
  split <;> simp

@[simp] theorem State.complete_vault (who read status data) (s : State) : (s.complete who read status data).vault = s.vault := by
  unfold State.complete
  split <;> simp

@[simp] theorem State.memAsk_vault (m) (s : State) : (s.memAsk m).vault = s.vault := by
  simp only [State.memAsk]
  (repeat' split) <;> simp [*]

@[simp] theorem State.request_vault (who src kind a len data) (s : State) : (s.request who src kind a len data).vault = s.vault := by
  unfold State.request
  split
  · simp
  · split
    · next h => exact State.sendReq_vault h
    · simp

@[simp] theorem State.requestHere_vault (who src kind a len data) (s : State) :
    (s.requestHere who src kind a len data).vault = s.vault := by
  simp [State.requestHere]

@[simp] theorem State.refuseIn_vault (n h code) (s : State) : (s.refuseIn n h code).vault = s.vault := by
  simp [State.refuseIn]

@[simp] theorem State.stranded_vault (w) (s : State) : (s.stranded w).vault = s.vault := by
  unfold State.stranded
  split <;> simp

@[simp] theorem State.endSession_vault (n f) (s : State) : (s.endSession n f).vault = s.vault := by
  simp [State.endSession]

/-! Tasks -/

@[simp] theorem State.taskRej_vault (h code) (s : State) : (s.taskRej h code).vault = s.vault := by
  simp [State.taskRej]

@[simp] theorem State.taskBytes_vault (st d) (s : State) : (s.taskBytes st d).2.vault = s.vault := by
  simp [State.taskBytes]

@[simp] theorem State.taskCheck_vault (h st data) (s : State) : (s.taskCheck h st data).vault = s.vault := by
  simp [State.taskCheck]

@[simp] theorem execTaskDescriptorCheck_vault (h) (s : State) : Out.Keeps s (execTaskDescriptorCheck h s) := by
  unfold execTaskDescriptorCheck
  dsimp only
  (repeat' split) <;> simp

@[simp] theorem State.modTask_vault (d f) (s : State) : (s.modTask d f).vault = s.vault := by
  simp [State.modTask]

@[simp] theorem State.unrun_vault (p d) (s : State) : (s.unrun p d).vault = s.vault := by
  simp [State.unrun]

@[simp] theorem State.deliver_vault (h d) (s : State) : (s.deliver h d).vault = s.vault := by
  simp [State.deliver]

@[simp] theorem execTaskDelivery_vault (h) (s : State) : Out.Keeps s (execTaskDelivery h s) := by
  unfold execTaskDelivery
  split <;> simp

@[simp] theorem State.codeAsk_vault (p i off n) (s : State) : (s.codeAsk p i off n).vault = s.vault := by
  simp [State.codeAsk]

@[simp] theorem State.takeTask_vault (p d) (s : State) : (s.takeTask p d).vault = s.vault := by
  simp [State.takeTask]

@[simp] theorem State.openStep_vault (p) (s : State) : (s.openStep p).vault = s.vault := by
  unfold State.openStep
  dsimp only
  (repeat' split) <;> simp

@[simp] theorem execTaskStart_vault (p parity) (s : State) : Out.Keeps s (execTaskStart p parity s) := by
  unfold execTaskStart
  dsimp only
  (repeat' split) <;> simp

@[simp] theorem State.balance_vault (p d) (s : State) : (s.balance p d).vault = s.vault := by
  unfold State.balance
  split <;> simp

@[simp] theorem State.closeTask_vault (p d) (s : State) : (s.closeTask p d).vault = s.vault := by
  simp [State.closeTask]

@[simp] theorem execTaskFinish_vault (p) (s : State) : Out.Keeps s (execTaskFinish p s) := by
  unfold execTaskFinish
  dsimp only
  split <;> simp

@[simp] theorem State.globalBalance_vault (h t) (s : State) : (s.globalBalance h t).2.vault = s.vault := by
  unfold State.globalBalance
  dsimp only
  (repeat' split) <;> simp

@[simp] theorem State.closeRecord_vault (h t) (s : State) : (s.closeRecord h t).vault = s.vault := by
  simp [State.closeRecord]

@[simp] theorem execEndRecord_vault (h) (s : State) : Out.Keeps s (execEndRecord h s) := by
  unfold execEndRecord
  dsimp only
  (repeat' split) <;> simp

@[simp] theorem State.abortFan_vault (d code p) (s : State) : (s.abortFan d code p).vault = s.vault := by
  simp [State.abortFan]

@[simp] theorem execAbortPropagate_vault (h) (s : State) : Out.Keeps s (execAbortPropagate h s) := by
  unfold execAbortPropagate
  dsimp only
  (repeat' split) <;> simp

@[simp] theorem State.dumpFailed_vault (p) (s : State) : (s.dumpFailed p).vault = s.vault := by
  simp [State.dumpFailed]

@[simp] theorem State.abortEnd_vault (p d a) (s : State) : (s.abortEnd p d a).vault = s.vault := by
  simp [State.abortEnd]

@[simp] theorem State.dumpWrites_vault (p addr img) (s : State) : (s.dumpWrites p addr img).vault = s.vault := by
  simp [State.dumpWrites]

@[simp] theorem State.abandonWrites_vault (c) (s : State) (n) : (s.abandonWrites c n).vault = s.vault := by
  unfold State.abandonWrites
  refine (vault_foldl (fun s o => ?_) _ _).trans (by simp)
  dsimp only
  split <;> simp

@[simp] theorem execChannelFlushTimeout_vault (c) (s : State) : Out.Keeps s (execChannelFlushTimeout c s) := by
  unfold execChannelFlushTimeout
  split <;> simp

@[simp] theorem State.sendPend_vault (h i) (s : State) : (s.sendPend h i).vault = s.vault := by
  simp [State.sendPend]

@[simp] theorem State.freeHeld_vault (h) (l : List RunTask) (s : State) : (s.freeHeld h l).vault = s.vault := by
  induction l generalizing s with
  | nil => simp [State.freeHeld]
  | cons t l ih => simp [State.freeHeld, ih]

@[simp] theorem State.leaveBusy_vault (h e) (s : State) : (s.leaveBusy h e).vault = s.vault := by
  simp [State.leaveBusy]

@[simp] theorem State.taskCommit_vault (h v) (s : State) : (s.taskCommit h v).2.vault = s.vault := by
  simp [State.taskCommit]

@[simp] theorem State.taskTail_vault (h v) (s : State) : (s.taskTail h v).2.vault = s.vault := by
  simp [State.taskTail]

/-! Wipes, keys and events of every port -/

@[simp] theorem State.deriveKeys_vault (s : State) : s.deriveKeys.vault = s.vault := by
  simp [State.deriveKeys]

@[simp] theorem State.wipePart_vault (k p) (s : State) : (s.wipePart k p).vault = s.vault := by
  simp [State.wipePart]

@[simp] theorem State.setOwner_vault (h b t) (s : State) : (s.setOwner h b t).vault = s.vault := by
  simp [State.setOwner]

@[simp] theorem State.logSec_vault (code) (s : State) : (s.logSec code).vault = s.vault := by
  simp [State.logSec]

@[simp] theorem State.eventAll_vault (lop code) (s : State) : (s.eventAll lop code).vault = s.vault := by
  simp [State.eventAll]

@[simp] theorem State.busyAll_vault (lop) (s : State) : (s.busyAll lop).vault = s.vault := by
  simp [State.busyAll]

@[simp] theorem State.progress_vault (lop v n ports) (s : State) : (s.progress lop v n ports).vault = s.vault := by
  simp [State.progress]

/-! Certificates -/

@[simp] theorem State.linkPacket_vault (n ptype data) (s : State) : (s.linkPacket n ptype data).vault = s.vault := by
  simp [State.linkPacket]

@[simp] theorem State.sendFinish_vault (n) (s : State) : (s.sendFinish n).vault = s.vault := by
  simp [State.sendFinish]

@[simp] theorem State.sendHello_vault (n) (s : State) : (s.sendHello n).vault = s.vault := by
  simp [State.sendHello]

@[simp] theorem State.recert_vault (s : State) : s.recert.vault = s.vault := by
  simp [State.recert]

/-! Personality streams -/

@[simp] theorem State.modLoader_vault (h f) (s : State) : (s.modLoader h f).vault = s.vault := by
  simp [State.modLoader]

@[simp] theorem State.loadEnd_vault (h code) (s : State) : (s.loadEnd h code).vault = s.vault := by
  simp [State.loadEnd]

@[simp] theorem State.logReject_vault (h code) (s : State) : (s.logReject h code).vault = s.vault := by
  simp [State.logReject]

@[simp] theorem State.idleLinks_vault (h) (s : State) : (s.idleLinks h).vault = s.vault := by
  simp [State.idleLinks]

@[simp] theorem State.bareHub_vault (h) (s : State) : (s.bareHub h).vault = s.vault := by
  simp [State.bareHub]

@[simp] theorem State.bareRegs_vault (p) (s : State) : (s.bareRegs p).vault = s.vault := by
  simp [State.bareRegs]

@[simp] theorem State.reject_vault (h code) (s : State) : (s.reject h code).vault = s.vault := by
  simp [State.reject]

@[simp] theorem execStream_vault (h hdr data) (s : State) : Out.Keeps s (execStream h hdr data s) := by
  unfold execStream
  dsimp only
  (repeat' split) <;> simp

@[simp] theorem State.beginLoad_vault (h hdr) (s : State) : (s.beginLoad h hdr).vault = s.vault := by
  simp [State.beginLoad]

@[simp] theorem State.dropReqs_vault (p) (s : State) : (s.dropReqs p).vault = s.vault := by
  simp [State.dropReqs]

@[simp] theorem State.abandon_vault (p) (s : State) : (s.abandon p).vault = s.vault := by
  simp [State.abandon]

@[simp] theorem execBorderDrainTimeout_vault (h) (s : State) : Out.Keeps s (execBorderDrainTimeout h s) := by
  unfold execBorderDrainTimeout
  dsimp only
  split <;> simp

@[simp] theorem State.putFrame_vault (die col frame d) (s : State) : (s.putFrame die col frame d).vault = s.vault := by
  simp [State.putFrame]

theorem State.putFrames_vault {h hdr die n at' d} {s t : State} (ht : s.putFrames h hdr die n at' d = some t) : t.vault = s.vault := by
  induction n generalizing at' d s with
  | zero => cases ht; rfl
  | succ n ih =>
    unfold State.putFrames at ht
    split at ht
    · simpa using ih ht
    · cases ht

theorem State.putColumns_vault {h hdr die count stride d n at'} {s t : State}
    (ht : s.putColumns h hdr die count stride d n at' = some t) : t.vault = s.vault := by
  induction n generalizing at' s with
  | zero => cases ht; rfl
  | succ n ih =>
    unfold State.putColumns at ht
    split at ht
    · next hf => exact (ih ht).trans (State.putFrames_vault hf)
    · cases ht

theorem State.putDies_vault {h hdr count stride rep at' d} {l : List Nat} {s t : State}
    (ht : s.putDies h hdr count stride rep at' d l = some t) : t.vault = s.vault := by
  induction l generalizing s with
  | nil => cases ht; rfl
  | cons die l ih =>
    unfold State.putDies at ht
    split at ht
    · next hc => exact (ih ht).trans (State.putColumns_vault hc)
    · cases ht

@[simp] theorem State.commit_vault (h) (s : State) : (s.commit h).vault = s.vault := by
  simp [State.commit]

/-- A command of a stream leaves the vault of the state it began in, where it leaves a state. -/
def CmdResult.Keeps (s : State) : CmdResult → Prop
  | .ok _ t | .finish t => t.vault = s.vault
  | .wait | .bad _ => True

@[simp] theorem CmdResult.keeps_wait (s : State) : CmdResult.Keeps s .wait := trivial
@[simp] theorem CmdResult.keeps_bad (s : State) (c) : CmdResult.Keeps s (.bad c) := trivial
@[simp] theorem CmdResult.keeps_ok (s t : State) (n) : CmdResult.Keeps s (.ok n t) ↔ t.vault = s.vault := Iff.rfl
@[simp] theorem CmdResult.keeps_finish (s t : State) : CmdResult.Keeps s (.finish t) ↔ t.vault = s.vault := Iff.rfl
theorem CmdResult.keeps_ite {c : Prop} [Decidable c] {a b : CmdResult} {s : State} (ha : a.Keeps s) (hb : b.Keeps s) :
    CmdResult.Keeps s (if c then a else b) := by
  split <;> assumption

theorem State.cmdFrames_keeps (h l multi) (s : State) : (s.cmdFrames h l multi).Keeps s := by
  unfold State.cmdFrames
  dsimp only
  iterate 7 refine CmdResult.keeps_ite trivial ?_
  split
  · next hd => exact State.putDies_vault hd
  · exact trivial

theorem State.cmdEnd_keeps (h l) (s : State) : (s.cmdEnd h l).Keeps s := by
  unfold State.cmdEnd
  dsimp only
  (repeat' split) <;> simp

theorem State.cmdGridi_keeps (h l) (s : State) : (s.cmdGridi h l).Keeps s := by
  unfold State.cmdGridi
  dsimp only
  (repeat' split) <;> simp

theorem State.cmdRegw_keeps (h l) (s : State) : (s.cmdRegw h l).Keeps s := by
  unfold State.cmdRegw
  dsimp only
  (repeat' split) <;> simp

theorem State.command_keeps (h) (s : State) : (s.command h).Keeps s := by
  have hkeeps {r : CmdResult} (hr : r.Keeps (s.commit h)) : r.Keeps s := by
    cases r <;> simp_all
  unfold State.command
  dsimp only
  (repeat' split) <;> try simp
  · exact hkeeps (State.cmdFrames_keeps ..)
  · exact hkeeps (State.cmdFrames_keeps ..)
  · exact hkeeps (State.cmdRegw_keeps ..)
  · exact hkeeps (State.cmdGridi_keeps ..)
  · exact hkeeps (State.cmdEnd_keeps ..)

@[simp] theorem State.reachCommit_vault (h) (s : State) : (s.reachCommit h).vault = s.vault := by
  simp [State.reachCommit]

@[simp] theorem State.commands_vault (h n) (s : State) : (s.commands h n).2.vault = s.vault := by
  induction n generalizing s with
  | zero => rfl
  | succ n ih =>
    have hk := State.command_keeps h s
    unfold State.commands
    split <;> simp_all

@[simp] theorem State.takeSegment_vault (h) (s : State) : (s.takeSegment h).2.vault = s.vault := by
  simp [State.takeSegment]

@[simp] theorem execFabricPllLockTimeout_vault (h) (s : State) : Out.Keeps s (execFabricPllLockTimeout h s) := by
  unfold execFabricPllLockTimeout
  dsimp only
  split <;> simp

@[simp] theorem State.applyRegw_vault (h e) (s : State) : (s.applyRegw h e).vault = s.vault := by
  simp [State.applyRegw]

@[simp] theorem State.releaseRegs_vault (h l) (s : State) : (s.releaseRegs h l).vault = s.vault := by
  simp [State.releaseRegs]

@[simp] theorem State.releaseClaims_vault (h l) (s : State) : (s.releaseClaims h l).vault = s.vault := by
  simp [State.releaseClaims]

/-! Security commands, but for life-cycle transitions -/

@[simp] theorem State.secDone_vault (h code) (s : State) : (s.secDone h code).vault = s.vault := by
  simp [State.secDone]

@[simp] theorem State.secEnd_vault (c code) (s : State) : (s.secEnd c code).vault = s.vault := by
  simp [State.secEnd]

@[simp] theorem State.secPhase_vault (c ph regs) (s : State) : (s.secPhase c ph regs).vault = s.vault := by
  simp [State.secPhase]

@[simp] theorem State.departed_vault (zf t) (s : State) : (s.departed zf t).vault = s.vault := by
  simp [State.departed]

@[simp] theorem State.tenantSet_vault (c) (s : State) : (s.tenantSet c).vault = s.vault := by
  simp [State.tenantSet]

@[simp] theorem State.tenantWipe_vault (c) (s : State) : (s.tenantWipe c).vault = s.vault := by
  simp [State.tenantWipe]

@[simp] theorem State.tenantGive_vault (c) (s : State) : (s.tenantGive c).vault = s.vault := by
  simp [State.tenantGive]

@[simp] theorem State.regionSet_vault (c) (s : State) : (s.regionSet c).vault = s.vault := by
  simp [State.regionSet]

@[simp] theorem State.attest_vault (c) (s : State) : (s.attest c).vault = s.vault := by
  simp [State.attest]

@[simp] theorem State.secProgress_vault (r) (s : State) : (s.secProgress r).vault = s.vault := by
  simp [State.secProgress]

@[simp] theorem State.secGo_vault (r) (s : State) : (s.secGo r).vault = s.vault := by
  unfold State.secGo
  dsimp only
  (repeat' split) <;> simp

@[simp] theorem State.gownWrite_vault (src h w v) (s : State) : (s.gownWrite src h w v).2.vault = s.vault := by
  have hblock : ∀ {f : Code × State → Fin 8 → Code × State} (_ : ∀ r j, (f r j).2.vault = r.2.vault) (l : List (Fin 8)) (r : Code × State),
      (l.foldl f r).2.vault = r.2.vault := fun hf l => by
    induction l with
    | nil => exact fun _ => rfl
    | cons j l ih => exact fun r => (ih _).trans (hf r j)
  unfold State.gownWrite
  split
  · simp
  · exact hblock (fun r j => by dsimp only; (repeat' split) <;> simp) _ _

/-! Commands on registers -/

@[simp] theorem State.regLog_vault (src a code) (s : State) : (s.regLog src a code).vault = s.vault := by
  unfold State.regLog
  split <;> simp

@[simp] theorem State.punish_vault (src st) (s : State) : (s.punish src st).vault = s.vault := by
  simp only [State.punish]
  (repeat' split) <;> simp [*]

@[simp] theorem State.regCommand_vault {src a} {f : State → Code × State} (hf : ∀ s, (f s).2.vault = s.vault) (s : State) :
    (s.regCommand src a f).vault = s.vault := by
  simp [State.regCommand, hf]

@[simp] theorem State.regReadCommand_vault {src a} {f : State → Code × W32 × State} (hf : ∀ s, (f s).2.2.vault = s.vault) (s : State) :
    (s.regReadCommand src a f).vault = s.vault := by
  simp [State.regReadCommand, hf]

/-! Fencing, captures and the end of an abort -/

@[simp] theorem State.fenceDo_vault (p l v) (s : State) : (s.fenceDo p l v).2.vault = s.vault := by
  simp [State.fenceDo]

@[simp] theorem State.fenceWrite_vault (src p l v who) (s : State) : (s.fenceWrite src p l v who).2.vault = s.vault := by
  simp [State.fenceWrite]

@[simp] theorem State.partReset_vault (p) (s : State) : (s.partReset p).vault = s.vault := by
  simp [State.partReset]

@[simp] theorem State.resetWrite_vault (src p v who) (s : State) : (s.resetWrite src p v who).2.vault = s.vault := by
  simp only [State.resetWrite]
  (repeat' split) <;> simp [*]

@[simp] theorem State.heldDo_vault (p r) (s : State) : (s.heldDo p r).vault = s.vault := by
  unfold State.heldDo
  dsimp only
  (repeat' split) <;> simp

@[simp] theorem State.fenceCommand_vault (src p l v req) (s : State) : (s.fenceCommand src p l v req).vault = s.vault := by
  simp [State.fenceCommand]

@[simp] theorem State.capEnd_vault (code) (s : State) : (s.capEnd code).vault = s.vault := by
  simp [State.capEnd]

@[simp] theorem State.capResume_vault (s : State) : s.capResume.vault = s.vault := by
  simp [State.capResume]

@[simp] theorem State.capTry_vault (s : State) : s.capTry.vault = s.vault := by
  unfold State.capTry
  split <;> simp

@[simp] theorem State.capWrite_vault (h v) (s : State) : (s.capWrite h v).vault = s.vault := by
  simp [State.capWrite]

/-! The clock -/

@[simp] theorem State.mclk_vault (s : State) : s.mclk.vault = s.vault := by
  simp [State.mclk]

/-! Resets and power-up -/

@[simp] theorem State.alertAll_vault (s : State) : s.alertAll.vault = s.vault := by
  simp [State.alertAll]

@[simp] theorem State.holdReset_vault (s : State) : s.holdReset.vault = s.vault := by
  simp [State.holdReset]

@[simp] theorem State.bootStack_vault (ok d) (s : State) : (s.bootStack ok d).vault = s.vault := by
  simp [State.bootStack]

@[simp] theorem State.bootEnd_vault (env) (s : State) : (s.bootEnd env).vault = s.vault := by
  simp [State.bootEnd]

@[simp] theorem State.trainMesh_vault (t) (s : State) : (s.trainMesh t).vault = s.vault := by
  simp [State.trainMesh]

@[simp] theorem State.warmPart_vault (p) (s : State) : (s.warmPart p).vault = s.vault := by
  simp [State.warmPart]

@[simp] theorem State.warmEnd_vault (s : State) : s.warmEnd.vault = s.vault := by
  simp [State.warmEnd]

/-! Wrappers -/

@[simp] theorem State.setWrapper_vault (i w) (s : State) : (s.setWrapper i w).vault = s.vault := by
  unfold State.setWrapper
  split <;> simp

@[simp] theorem State.leaveTest_vault (i wir) (s : State) : (s.leaveTest i wir).vault = s.vault := by
  unfold State.leaveTest
  split <;> simp

@[simp] theorem State.wrapInstr_vault (d t wir data) (s : State) : (s.wrapInstr d t wir data).vault = s.vault := by
  unfold State.wrapInstr
  dsimp only
  (repeat' split) <;> simp

@[simp] theorem execMbistComplete_vault (d t pass) (s : State) : Out.Keeps s (execMbistComplete d t pass s) := by
  unfold execMbistComplete
  split <;> simp

/-! Links -/

@[simp] theorem State.linkDown_vault (n cause) (s : State) : (s.linkDown n cause).vault = s.vault := by
  simp [State.linkDown]

@[simp] theorem State.linkQuar_vault (n code) (s : State) : (s.linkQuar n code).vault = s.vault := by
  simp [State.linkQuar]

@[simp] theorem execLinkTrainStart_vault (h) (s : State) : Out.Keeps s (execLinkTrainStart h s) := by
  unfold execLinkTrainStart
  split <;> simp

@[simp] theorem State.linkCtl_vault (n v) (s : State) : (s.linkCtl n v).vault = s.vault := by
  simp [State.linkCtl]

@[simp] theorem State.linkCtlCommand_vault (src n v) (s : State) : (s.linkCtlCommand src n v).vault = s.vault := by
  simp [State.linkCtlCommand]

@[simp] theorem State.certWrite_vault (w v) (s : State) : (s.certWrite w v).vault = s.vault := by
  simp [State.certWrite]

@[simp] theorem State.autoRekey_vault (n) (s : State) : (s.autoRekey n).vault = s.vault := by
  simp [State.autoRekey]

@[simp] theorem State.transmit_vault (n) (s : State) : (s.transmit n).vault = s.vault := by
  simp [State.transmit]

@[simp] theorem execCreditStarvation_vault (n) (s : State) : Out.Keeps s (execCreditStarvation n s) := by
  unfold execCreditStarvation
  split <;> simp

@[simp] theorem execRemoteRequestTimeout_vault (n tag) (s : State) : Out.Keeps s (execRemoteRequestTimeout n tag s) := by
  unfold execRemoteRequestTimeout
  dsimp only
  (repeat' split) <;> simp

@[simp] theorem State.linkActive_vault (n) (s : State) : (s.linkActive n).vault = s.vault := by
  simp [State.linkActive]

@[simp] theorem State.helloIn_vault (n d) (s : State) : (s.helloIn n d).vault = s.vault := by
  simp [State.helloIn]

@[simp] theorem State.finishIn_vault (n d) (s : State) : (s.finishIn n d).vault = s.vault := by
  simp [State.finishIn]

@[simp] theorem State.responseIn_vault (n h data) (s : State) : (s.responseIn n h data).vault = s.vault := by
  unfold State.responseIn
  dsimp only
  (repeat' split) <;> simp

@[simp] theorem State.forward_vault (n h data) (s : State) : (s.forward n h data).vault = s.vault := by
  simp [State.forward]

@[simp] theorem State.linkEntry_vault (h) (s : State) : (s.linkEntry h).vault = s.vault := by
  unfold State.linkEntry
  split <;> simp

@[simp] theorem State.requestIn_vault (n h data) (s : State) : (s.requestIn n h data).vault = s.vault := by
  unfold State.requestIn
  dsimp only
  (repeat' split) <;> simp

@[simp] theorem State.packetIn_vault (n bytes key ctr) (s : State) : (s.packetIn n bytes key ctr).vault = s.vault := by
  unfold State.packetIn
  dsimp only
  refine vault_ite_of ?_ (vault_ite_of ?_ (vault_ite_of ?_ (vault_ite_of ?_ (vault_ite_of (vault_ite_of ?_ ?_)
    (vault_ite_of ?_ (vault_ite_of ?_ (vault_ite_of ?_ (vault_ite_of ?_ ?_)))))))) <;> simp

@[simp] theorem State.bodyIn_vault (n vc) (l : List (List Byte)) (s : State) : (s.bodyIn n vc l).vault = s.vault := by
  induction l generalizing s with
  | nil => rfl
  | cons w l ih => simp [State.bodyIn, ih]

@[simp] theorem State.flitIn_vault (n flit) (s : State) : (s.flitIn n flit).vault = s.vault := by
  simp [State.flitIn]

/-! The load and store engines -/

@[simp] theorem State.lostIf_vault (p l lose) (s s' : State) : (s.lostIf p l lose s').vault = s'.vault := by
  simp [State.lostIf]

@[simp] theorem State.stageRows_vault (p l st f sw consume) (fuel left row : Nat) (a : W32) (s : State) :
    (s.stageRows p l st f sw consume fuel left row a).vault = s.vault := by
  induction fuel generalizing left row a s with
  | zero => rfl
  | succ fuel ih =>
    unfold State.stageRows
    dsimp only
    split
    · rfl
    · split
      · next h => exact vault_of_eq h (by simp)
      · next h => simpa [ih] using vault_of_eq h (by simp)

@[simp] theorem State.stageRun_vault (p l x w) (s : State) : (s.stageRun p l x w).vault = s.vault := by
  simp [State.stageRun]

@[simp] theorem State.slotRows_vault (p l consume stride) (left v : Nat) (a : W32) (s : State) :
    (s.slotRows p l consume stride left v a).vault = s.vault := by
  induction left generalizing v a s with
  | zero => rfl
  | succ left ih =>
    unfold State.slotRows
    split
    · next h => exact vault_of_eq h (by simp)
    · next h => simpa [ih] using vault_of_eq h (by simp)

@[simp] theorem State.csrPut_vault (p l n v) (s : State) : (s.csrPut p l n v).vault = s.vault := by
  simp [State.csrPut]

@[simp] theorem State.entPut_vault (p l n v) (s : State) : (s.entPut p l n v).vault = s.vault := by
  simp [State.entPut]

@[simp] theorem State.rowAt_vault (p l a n consume) (s : State) : (s.rowAt p l a n consume).2.vault = s.vault := by
  simp [State.rowAt]

@[simp] theorem State.wdrainLines_vault (p l x w count) (fuel i : Nat) (s : State) : (s.wdrainLines p l x w count fuel i).2.vault = s.vault := by
  induction fuel generalizing i s with
  | zero => rfl
  | succ fuel ih =>
    unfold State.wdrainLines
    dsimp only
    split
    · rfl
    · split
      · simp
      · split
        · next h => exact vault_of_eq h (by simp)
        · next h => exact (ih ..).trans (vault_of_eq h (by simp))

@[simp] theorem State.storeLines_vault (p l ws) (s : State) : (s.storeLines p l ws).vault = s.vault := by
  simp [State.storeLines]

@[simp] theorem execCsr_vault (p l x found) (s : State) : Out.Keeps s (execCsr p l x found s) := by
  refine (Out.keeps_next ..).mpr (State.issue_vault (fun en s => ?_) s)
  rw [Issued.state_done]
  split
  · next h => exact vault_of_eq h (by simp)
  · next h => simpa using vault_of_eq h (by simp)

@[simp] theorem execGrid_vault (p l x found) (s : State) : Out.Keeps s (execGrid p l x found s) := by
  refine (Out.keeps_next ..).mpr (State.issue_vault (fun en s => ?_) s)
  rw [Issued.state_done]
  split
  · next h => exact vault_of_eq h (by simp)
  · next h => simpa using vault_of_eq h (by simp)

@[simp] theorem execWdrain_vault (p l x found) (s : State) : Out.Keeps s (execWdrain p l x found s) := by
  refine (Out.keeps_next ..).mpr (State.issue_vault (fun en s => ?_) s)
  dsimp only
  split
  · next h => simpa using vault_of_eq h (by simp)
  · next h => simpa using vault_of_eq h (by simp)

/-! What the vector instructions share -/

@[simp] theorem State.popD_vault (p l w) (s : State) : (s.popD p l w).vault = s.vault := by
  simp [State.popD]

@[simp] theorem State.laneEffects_vault (p l outs) (s : State) : (s.laneEffects p l outs).vault = s.vault := by
  simp [State.laneEffects]

@[simp] theorem State.writeLine_vault (p l n v) (s : State) : (s.writeLine p l n v).vault = s.vault := by
  simp [State.writeLine]

@[simp] theorem State.vecLine_vault (p l x f en) (s src : State) : (s.vecLine p l x f en src).state.vault = s.vault := by
  simp [State.vecLine]

@[simp] theorem State.vecMask_vault (p l x f en) (s src : State) : (s.vecMask p l x f en src).state.vault = s.vault := by
  simp [State.vecMask]

@[simp] theorem State.vecIssue_vault {p l x found op} {f : Entry → State → State → Issued}
    (hf : ∀ en src s, (f en src s).state.vault = s.vault) (s : State) : (s.vecIssue p l x found op f).vault = s.vault :=
  State.issueBy_vault hf s

@[simp] theorem State.vecReduce_vault (p l x res en) (s src : State) : (s.vecReduce p l x res en src).state.vault = s.vault := by
  simp [State.vecReduce]

/-! The quantiser and scale steering -/

@[simp] theorem State.quantRun_vault (p l x w) (s src : State) : (s.quantRun p l x w src).vault = s.vault := by
  simp [State.quantRun]

@[simp] theorem State.steerRun_vault (p l w) (s : State) : (s.steerRun p l w).vault = s.vault := by
  simp [State.steerRun]

@[simp] theorem State.calRun_vault (p l w) (s : State) : (s.calRun p l w).vault = s.vault := by
  simp [State.calRun]

@[simp] theorem State.setQntAll_vault (p i code) (s : State) : (s.setQntAll p i code).vault = s.vault := by
  unfold State.setQntAll
  split <;> simp

@[simp] theorem State.panic_vault (p k valid) (s : State) : (s.panic p k valid).1.vault = s.vault := by
  unfold State.panic
  dsimp only
  (repeat' split) <;> simp

@[simp] theorem execSteerDecision_vault (p k) (s : State) : Out.Keeps s (execSteerDecision p k s) := by
  unfold execSteerDecision
  dsimp only
  (repeat' split) <;> simp

/-! Registers, but for those of the security engine and of resets -/

@[simp] theorem State.slotWrite_vault (p l k w v) (s : State) : (s.slotWrite p l k w v).vault = s.vault := by
  unfold State.slotWrite
  split <;> simp

@[simp] theorem State.gridRead_vault (p l off) (s : State) : (s.gridRead p l off).2.vault = s.vault := by
  simp [State.gridRead]

@[simp] theorem State.gridWrite_vault (p l off v) (s : State) : (s.gridWrite p l off v).vault = s.vault := by
  simp [State.gridWrite]

@[simp] theorem State.guardRead_vault (p l off) (s : State) : (s.guardRead p l off).2.vault = s.vault := by
  simp [State.guardRead]

@[simp] theorem State.guardWrite_vault (p l off v) (s : State) : (s.guardWrite p l off v).vault = s.vault := by
  simp [State.guardWrite]

@[simp] theorem State.semRegWrite_vault (src sp off v) (s : State) : (s.semRegWrite src sp off v).vault = s.vault := by
  unfold State.semRegWrite
  split <;> simp

@[simp] theorem State.seqRegRead_vault (p off) (s : State) : (s.seqRegRead p off).2.vault = s.vault := by
  simp [State.seqRegRead]

@[simp] theorem State.relayTake_vault (p q) (s : State) : (s.relayTake p q).2.vault = s.vault := by
  unfold State.relayTake
  split <;> simp

@[simp] theorem State.relayPut_vault (src p q v) (s : State) : (s.relayPut src p q v).2.vault = s.vault := by
  simp [State.relayPut]

@[simp] theorem State.relayRead_vault (p off) (s : State) : (s.relayRead p off).2.vault = s.vault := by
  simp [State.relayRead]

@[simp] theorem State.relayWrite_vault (src p off v) (s : State) : (s.relayWrite src p off v).2.vault = s.vault := by
  simp [State.relayWrite]

@[simp] theorem State.logChan_vault (c code) (s : State) : (s.logChan c code).vault = s.vault := by
  simp [State.logChan]

@[simp] theorem State.ringCommit_vault (c v) (s : State) : (s.ringCommit c v).vault = s.vault := by
  simp [State.ringCommit]

@[simp] theorem State.tailWrite_vault (c v) (s : State) : (s.tailWrite c v).vault = s.vault := by
  simp [State.tailWrite]

@[simp] theorem State.chanWrite_vault (c off v) (s : State) : (s.chanWrite c off v).vault = s.vault := by
  simp [State.chanWrite]

@[simp] theorem State.tailBroadcast_vault (p v) (s : State) : (s.tailBroadcast p v).vault = s.vault := by
  simp [State.tailBroadcast]

@[simp] theorem State.depotEmpty_vault (p) (s : State) : (s.depotEmpty p).vault = s.vault := by
  simp [State.depotEmpty]

@[simp] theorem State.trunkWrite_vault (p off v) (s : State) : (s.trunkWrite p off v).vault = s.vault := by
  unfold State.trunkWrite
  split <;> simp

@[simp] theorem State.spRead_vault (d off) (s : State) : (s.spRead d off).2.vault = s.vault := by
  simp [State.spRead]

@[simp] theorem State.spWrite_vault (src d off v) (s : State) : (s.spWrite src d off v).vault = s.vault := by
  simp [State.spWrite]

@[simp] theorem State.statRead_vault (p off) (s : State) : (s.statRead p off).2.vault = s.vault := by
  simp [State.statRead]

@[simp] theorem State.statWrite_vault (src p off v) (s : State) : (s.statWrite src p off v).vault = s.vault := by
  simp [State.statWrite]

@[simp] theorem State.claim_vault (src p n) (s : State) : (s.claim src p n).2.vault = s.vault := by
  unfold State.claim
  dsimp only
  split <;> simp

@[simp] theorem State.release_vault (src p n v) (s : State) : (s.release src p n v).vault = s.vault := by
  simp [State.release]

@[simp] theorem State.rtRead_vault (src p off) (s : State) : (s.rtRead src p off).2.vault = s.vault := by
  simp [State.rtRead]

@[simp] theorem State.rtWrite_vault (src p off v) (s : State) : (s.rtWrite src p off v).vault = s.vault := by
  simp [State.rtWrite]

@[simp] theorem State.noReg_vault (src a) (s : State) : (s.noReg src a).2.2.vault = s.vault := by
  simp [State.noReg]

@[simp] theorem State.partRead_vault (src p off a) (s : State) : (s.partRead src p off a).2.2.vault = s.vault := by
  rcases hv : semView (.part p) off with _ | ⟨o, i⟩ <;> simp [State.partRead, hv]

@[simp] theorem State.storePartial_vault (src p off) (s : State) : (s.storePartial src p off).2.vault = s.vault := by
  simp [State.storePartial]

@[simp] theorem State.storeWrite_vault (src p off data) (s : State) : (s.storeWrite src p off data).2.vault = s.vault := by
  unfold State.storeWrite
  split
  · exact State.storePartial_vault ..
  · exact vault_pair (State.descWrite_vault ..)

@[simp] theorem State.pageWrite_vault (src p l off v who) (s : State) : (s.pageWrite src p l off v who).state.vault = s.vault := by
  unfold State.pageWrite
  split
  · split
    · next h => exact vault_of_eq h (by simp)
    · next h => exact vault_of_eq h (by simp)
  · split <;> simp

@[simp] theorem State.partWrite_vault (src p off a v who) (s : State) : (s.partWrite src p off a v who).state.vault = s.vault := by
  rcases hr : s.resetWrite src p v who with ⟨st, t⟩
  have ht : t.vault = s.vault := vault_of_eq hr (by simp)
  rcases hv : semView (.part p) off with _ | ⟨o, i⟩ <;> cases st <;> simp [State.partWrite, hv, hr, ht]

@[simp] theorem State.linkRead_vault (h off) (s : State) : (s.linkRead h off).2.vault = s.vault := by
  simp [State.linkRead]

@[simp] theorem State.linkRegWrite_vault (n off v) (s : State) : (s.linkRegWrite n off v).vault = s.vault := by
  simp [State.linkRegWrite]

@[simp] theorem State.linkWrite_vault (h off v) (s : State) : (s.linkWrite h off v).vault = s.vault := by
  unfold State.linkWrite
  (repeat' split) <;> simp

@[simp] theorem State.logRingRead_vault (h off) (s : State) : (s.logRingRead h off).2.vault = s.vault := by
  unfold State.logRingRead
  split <;> simp

@[simp] theorem State.hubRead_vault (src h off a) (s : State) : (s.hubRead src h off a).2.2.vault = s.vault := by
  unfold State.hubRead
  dsimp only
  (repeat' split) <;> simp

@[simp] theorem State.hubWrite_vault (src h off a v) (s : State) : (s.hubWrite src h off a v).state.vault = s.vault := by
  simp only [State.hubWrite]
  (repeat' split) <;> simp [*]

@[simp] theorem State.taskWrite_vault (h off v) (s : State) : (s.taskWrite h off v).2.vault = s.vault := by
  simp [State.taskWrite]

@[simp] theorem State.logRead_vault (h off) (s : State) : (s.logRead h off).2.vault = s.vault := by
  simp [State.logRead]

@[simp] theorem State.timeRead_vault (h off) (s : State) : (s.timeRead h off).2.vault = s.vault := by
  simp [State.timeRead]

@[simp] theorem State.blkRead_vault (h off) (s : State) : (s.blkRead h off).2.vault = s.vault := by
  simp [State.blkRead]

@[simp] theorem State.regRead_vault (src a) (s : State) : (s.regRead src a).2.2.vault = s.vault := by
  simp only [State.regRead]
  (repeat' split) <;> simp [*]

@[simp] theorem State.regBad_vault (src a) (s : State) : (s.regBad src a).2.vault = s.vault := by
  unfold State.regBad
  split <;> simp

@[simp] theorem State.readWords_vault (src) (n a : Nat) (s : State) : (s.readWords src n a).2.2.vault = s.vault := by
  induction n generalizing a s with
  | zero => rfl
  | succ n ih =>
    unfold State.readWords
    dsimp only
    (repeat' split) <;> simp [ih]

@[simp] theorem State.regReadN_vault (src a n) (s : State) : (s.regReadN src a n).2.2.vault = s.vault := by
  simp [State.regReadN]

@[simp] theorem State.readCommand_vault (src a) (s : State) : (s.readCommand src a).vault = s.vault := by
  simp [State.readCommand]

/-! Trace records -/

@[simp] theorem State.traceDrop_vault (p) (s : State) : (s.traceDrop p).vault = s.vault := by
  simp [State.traceDrop]

@[simp] theorem State.traceRecord_vault (p rec) (s : State) : (s.traceRecord p rec).vault = s.vault := by
  unfold State.traceRecord
  dsimp only
  (repeat' split) <;> try simp
  next h => simpa using State.sendReq_vault h

/-! Bales -/

@[simp] theorem State.convTrunk_vault (p fx) (s : State) : (s.convTrunk p fx).vault = s.vault := by
  simp [State.convTrunk]

@[simp] theorem State.convChan_vault (c fx) (s : State) : (s.convChan c fx).vault = s.vault := by
  unfold State.convChan
  split <;> simp

@[simp] theorem State.convAt_vault (p who fx) (s : State) : (s.convAt p who fx).vault = s.vault := by
  unfold State.convAt
  split <;> simp

@[simp] theorem State.modDepot_vault (d f) (s : State) : (s.modDepot d f).vault = s.vault := by
  simp [State.modDepot]

@[simp] theorem State.depotDrop_vault (die d) (s : State) : (s.depotDrop die d).vault = s.vault := by
  simp [State.depotDrop]

/-! Channels -/

@[simp] theorem State.ringAsk_vault (c i) (s : State) : (s.ringAsk c i).vault = s.vault := by
  simp [State.ringAsk]

@[simp] theorem State.baleCome_vault (c st d) (s : State) : (s.baleCome c st d).vault = s.vault := by
  simp [State.baleCome]

@[simp] theorem State.chanParity_vault (c) (s : State) : (s.chanParity c).vault = s.vault := by
  unfold State.chanParity
  split <;> simp

@[simp] theorem execBaleFetch_vault (c parity) (s : State) : Out.Keeps s (execBaleFetch c parity s) := by
  unfold execBaleFetch
  dsimp only
  (repeat' split) <;> simp

@[simp] theorem execBaleRelayPop_vault (c) (s : State) : Out.Keeps s (execBaleRelayPop c s) := by
  simp only [execBaleRelayPop]
  (repeat' split) <;> simp [*]

@[simp] theorem State.askDescs_vault (c hs) (s : State) : (s.askDescs c hs).vault = s.vault :=
  vault_foldl (fun s h => by split <;> simp) _ _

@[simp] theorem State.touchDesc_vault (c h) (s : State) : (s.touchDesc c h).vault = s.vault := by
  unfold State.touchDesc
  split <;> simp

@[simp] theorem State.mergeOne_vault (c i sd dd total) (s : State) : (s.mergeOne c i sd dd total).2.vault = s.vault := by
  unfold State.mergeOne
  dsimp only
  (repeat' split) <;> simp

@[simp] theorem mergeStep_vault (c) (m : Merge) : (mergeStep c m).state.vault = m.state.vault := by
  unfold mergeStep
  dsimp only
  (repeat' split) <;> simp

@[simp] theorem mergeRun_vault (c n) (m : Merge) : (mergeRun c n m).state.vault = m.state.vault := by
  induction n generalizing m with
  | zero => rfl
  | succ n ih =>
    unfold mergeRun
    split <;> simp [ih]

@[simp] theorem State.mergeNext_vault (c more b sd dd) (s : State) : (s.mergeNext c more b sd dd).2.vault = s.vault := by
  simp [State.mergeNext]

@[simp] theorem State.countWrite_vault (c no) (s : State) : (s.countWrite c no).vault = s.vault := by
  simp [State.countWrite]

@[simp] theorem State.holdWrite_vault (c no a d) (s : State) : (s.holdWrite c no a d).vault = s.vault := by
  simp [State.holdWrite]

/-- The body of `sendWrite` is put in its place by its definition as a function: the kernel checks its equation at an argument by
evaluating the bits of a packet's header. -/
@[simp] theorem State.sendWrite_vault (c no k x) (s : State) : (s.sendWrite c no k x).vault = s.vault := by
  have hdef : @State.sendWrite = @State.sendWrite := rfl
  conv at hdef => rhs; delta State.sendWrite
  rw [hdef]
  dsimp only
  split
  · next h => exact (State.sendReq_vault h).trans (State.countWrite_vault ..)
  · simp

@[simp] theorem State.issueWrite_vault (c no k x) (s : State) : (s.issueWrite c no k x).vault = s.vault := by
  unfold State.issueWrite
  dsimp only
  (repeat' split) <;> simp

@[simp] theorem State.modTags_vault (c f) (s : State) : (s.modTags c f).vault = s.vault := by
  unfold State.modTags
  split <;> simp

@[simp] theorem State.returnRead_vault (c no piece st d) (s : State) : (s.returnRead c no piece st d).vault = s.vault := by
  simp [State.returnRead]

@[simp] theorem State.sendRead_vault (c no x) (s : State) : (s.sendRead c no x).vault = s.vault := by
  unfold State.sendRead
  dsimp only
  split
  · (repeat' split) <;> simp
  · split
    · next h => exact State.sendReq_vault h
    · simp

@[simp] theorem State.issueRead_vault (c) (s : State) : (s.issueRead c).2.vault = s.vault := by
  unfold State.issueRead
  dsimp only
  (repeat' split) <;> simp

@[simp] theorem State.pumpReads_vault (l n) (s : State) : (s.pumpReads l n).vault = s.vault := by
  have hturn : ∀ (l : List ChanId) (a : Bool × State),
      (l.foldl (fun (a : Bool × State) c => let z := a.2.issueRead c; (a.1 || z.1, z.2)) a).2.vault = a.2.vault := fun l => by
    induction l with
    | nil => exact fun _ => rfl
    | cons c l ih => exact fun a => (ih _).trans (State.issueRead_vault c a.2)
  induction n generalizing s with
  | zero => rfl
  | succ n ih => simp [State.pumpReads, ih, hturn]

@[simp] theorem State.pump_vault (c) (s : State) : (s.pump c).vault = s.vault := by
  simp [State.pump]

@[simp] theorem State.modRun_vault (c no f) (s : State) : (s.modRun c no f).vault = s.vault := by
  simp [State.modRun]

@[simp] theorem State.runWrites_vault (c ieee idx) (l : List (Bale × DescRec × DescRec)) (data) (s : State) :
    (s.runWrites c ieee idx l data).2.vault = s.vault := by
  induction l generalizing data s with
  | nil => rfl
  | cons e l ih =>
    obtain ⟨b, sd, dd⟩ := e
    simp [State.runWrites, ih]

@[simp] theorem State.startWrites_vault (c r) (s : State) : (s.startWrites c r).vault = s.vault := by
  unfold State.startWrites
  dsimp only
  split <;> simp

@[simp] theorem State.startLines_vault (c r) (s : State) : (s.startLines c r).vault = s.vault := by
  unfold State.startLines
  split <;> simp

@[simp] theorem State.advanceRun_vault (c no n) (s : State) : (s.advanceRun c no n).vault = s.vault := by
  induction n generalizing s with
  | zero => rfl
  | succ n ih =>
    unfold State.advanceRun
    (repeat' split) <;> simp [ih]

@[simp] theorem execReadDataReturn_vault (c) (s : State) : Out.Keeps s (execReadDataReturn c s) := by
  unfold execReadDataReturn
  split <;> simp

@[simp] theorem State.startRun_vault (c l) (s : State) : (s.startRun c l).vault = s.vault := by
  unfold State.startRun
  split <;> simp

@[simp] theorem State.tryStart_vault (c more u) (s : State) : (s.tryStart c more u).vault = s.vault := by
  unfold State.tryStart
  dsimp only
  split
  · simp
  · split
    · simp
    · split
      · next h => exact vault_of_eq h (by simp)
      · next h => simpa using vault_of_eq h (by simp)

@[simp] theorem execBaleStart_vault (c parity more) (s : State) : Out.Keeps s (execBaleStart c parity more s) := by
  unfold execBaleStart
  dsimp only
  split <;> simp

@[simp] theorem State.baleSignal_vault (c w) (s : State) : (s.baleSignal c w).vault = s.vault := by
  simp [State.baleSignal]

@[simp] theorem State.traceBale_vault (c) (s : State) : (s.traceBale c).vault = s.vault := by
  simp [State.traceBale]

@[simp] theorem State.finishBale_vault (c b) (s : State) : (s.finishBale c b).vault = s.vault := by
  simp [State.finishBale]

@[simp] theorem State.relayAdd_vault (p n h) (s : State) : (s.relayAdd p n h).vault = s.vault := by
  simp [State.relayAdd]

@[simp] theorem State.releaseBales_vault (c) (l : List Bale) (s : State) : (s.releaseBales c l).vault = s.vault := by
  induction l generalizing s with
  | nil => rfl
  | cons b l ih =>
    unfold State.releaseBales
    (repeat' split) <;> simp [ih]

@[simp] theorem State.dropDest_vault (c r) (s : State) : (s.dropDest c r).vault = s.vault := by
  simp [State.dropDest]

@[simp] theorem execBaleRelayPush_vault (c) (s : State) : Out.Keeps s (execBaleRelayPush c s) := by
  unfold execBaleRelayPush
  dsimp only
  (repeat' split) <;> simp

@[simp] theorem execDeadlineMiss_vault (p n) (s : State) : Out.Keeps s (execDeadlineMiss p n s) := by
  unfold execDeadlineMiss
  dsimp only
  split <;> simp

@[simp] theorem execDepotLineFill_vault (d) (s : State) : Out.Keeps s (execDepotLineFill d s) := by
  unfold execDepotLineFill
  dsimp only
  (repeat' split) <;> simp

/-! Control forms -/

@[simp] theorem State.ctlWrite_vault (p l e x w v) (s : State) : (s.ctlWrite p l e x w v).vault = s.vault := by
  simp [State.ctlWrite]

@[simp] theorem State.loopRun_vault (p l e x en) (s : State) : (s.loopRun p l e x en).vault = s.vault := by
  simp [State.loopRun]

@[simp] theorem State.bindRun_vault (p l e x w) (s : State) : (s.bindRun p l e x w).vault = s.vault := by
  unfold State.bindRun
  dsimp only
  (repeat' split) <;> simp

@[simp] theorem State.bindMiss_vault (p l e x) (s : State) : (s.bindMiss p l e x).vault = s.vault := by
  unfold State.bindMiss
  dsimp only
  split <;> simp

/-! The custom-operation port -/

@[simp] theorem execCopRequestAccepted_vault (p l n) (s : State) : Out.Keeps s (execCopRequestAccepted p l s n) := by
  simp only [execCopRequestAccepted]
  (repeat' split) <;> simp [*]

@[simp] theorem State.copHeader_vault (p l b) (s : State) : (s.copHeader p l b).vault = s.vault := by
  unfold State.copHeader
  split <;> simp

@[simp] theorem State.copBeat_vault (p l b) (s : State) : (s.copBeat p l b).vault = s.vault := by
  simp only [State.copBeat]
  (repeat' split) <;> simp [*]

@[simp] theorem execCustomOpTimeout_vault (p l) (s : State) : Out.Keeps s (execCustomOpTimeout p l s) := by
  unfold execCustomOpTimeout
  split <;> simp

@[simp] theorem execCopRequestStall_vault (p l) (s : State) : Out.Keeps s (execCopRequestStall p l s) := by
  unfold execCopRequestStall
  split <;> simp

/-! The outer-product array -/

@[simp] theorem State.feedDone_vault (p l u sd n m shared) (s : State) : (s.feedDone p l u sd n m shared).vault = s.vault := by
  unfold State.feedDone
  dsimp only
  (repeat' split) <;> simp

@[simp] theorem State.abortBoth_vault (p l f g) (s : State) : (s.abortBoth p l f g).vault = s.vault := by
  simp [State.abortBoth]

@[simp] theorem State.opaSteps_vault (p l w sa sb count) (left idx : Nat) (s : State) : (s.opaSteps p l w sa sb count left idx).vault = s.vault := by
  induction left generalizing idx s with
  | zero => rfl
  | succ left ih => simp [State.opaSteps, ih]

@[simp] theorem State.opaRun_vault (p l x w) (s : State) : (s.opaRun p l x w).vault = s.vault := by
  simp [State.opaRun]

@[simp] theorem State.drainRun_vault (p l x w) (s : State) : (s.drainRun p l x w).vault = s.vault := by
  simp [State.drainRun]

/-! The control port -/

@[simp] theorem State.portMessage_vault {h hdr} {f : State → State} (hf : ∀ s, (f s).vault = s.vault) (s : State) :
    (s.portMessage h hdr f).vault = s.vault := by
  unfold State.portMessage
  dsimp only
  (repeat' split) <;> simp [hf]

/-! The ports of the memories -/

@[simp] theorem State.answerReq_vault (m st) (s : State) : (s.answerReq m st).vault = s.vault := by
  simp [State.answerReq]

@[simp] theorem State.dmaUpdate_vault (m p l off n) (s : State) : (s.dmaUpdate m p l off n).2.vault = s.vault := by
  unfold State.dmaUpdate
  dsimp only
  (repeat' split) <;> simp

@[simp] theorem State.dmaPiece_vault (m p l off n) (s : State) : (s.dmaPiece m p l off n).2.2.vault = s.vault := by
  unfold State.dmaPiece
  split <;> simp

@[simp] theorem State.dmaServe_vault (p l cls m t) (s : State) : (s.dmaServe p l cls m t).vault = s.vault := by
  simp [State.dmaServe]

@[simp] theorem execScratchpadDmaAccess_vault (p l cls flips parity) (s : State) :
    Out.Keeps s (execScratchpadDmaAccess p l cls flips parity s) := by
  unfold execScratchpadDmaAccess
  dsimp only
  (repeat' split) <;> simp

@[simp] theorem execEccWriteBack_vault (p l) (s : State) : Out.Keeps s (execEccWriteBack p l s) := by
  unfold execEccWriteBack
  split <;> simp

@[simp] theorem State.reqOn_vault (d cls pre post r) (s : State) : (s.reqOn d cls pre post r).vault = s.vault := by
  simp only [State.reqOn]
  (repeat' split) <;> simp [*]

@[simp] theorem State.parityLoss_vault (d ca) (s : State) : (s.parityLoss d ca).vault = s.vault := by
  simp [State.parityLoss]

/-! The sequencer, but for its stores -/

@[simp] theorem State.scalarLoad_vault (p rd a size) (s : State) : (s.scalarLoad p rd a size).vault = s.vault := by
  simp [State.scalarLoad]

@[simp] theorem State.setNext_vault (p k v) (s : State) : (s.setNext p k v).vault = s.vault := by
  simp [State.setNext]

@[simp] theorem State.noFallback_vault (p k) (s : State) : (s.noFallback p k).vault = s.vault := by
  unfold State.noFallback
  dsimp only
  split <;> simp

@[simp] theorem State.descw_vault (p w) (s : State) : (s.descw p w).vault = s.vault := by
  simp [State.descw]

@[simp] theorem State.markSeq_vault (p) (s : State) : (s.markSeq p).vault = s.vault := by
  simp [State.markSeq]

@[simp] theorem State.broadcast_vault (p b svals) (s : State) : (s.broadcast p b svals).vault = s.vault := by
  simp [State.broadcast]

@[simp] theorem State.traceBundle_vault (p off hdr) (s : State) : (s.traceBundle p off hdr).vault = s.vault := by
  simp [State.traceBundle]

@[simp] theorem State.issueEnd_vault (p b off target taken fret svals) (s : State) :
    (s.issueEnd p b off target taken fret svals).vault = s.vault := by
  unfold State.issueEnd
  dsimp only
  split <;> simp

@[simp] theorem State.seqSignal_vault (p b) (s : State) : (s.seqSignal p b).2.vault = s.vault := by
  unfold State.seqSignal
  split <;> simp

@[simp] theorem State.bundleMiss_vault (p) (s : State) : (s.bundleMiss p).vault = s.vault := by
  unfold State.bundleMiss
  dsimp only
  split <;> simp

@[simp] theorem State.bundleFill_vault (p o st data) (s : State) : (s.bundleFill p o st data).vault = s.vault := by
  simp [State.bundleFill]

@[simp] theorem execBundleCacheFill_vault (p) (s : State) : Out.Keeps s (execBundleCacheFill p s) := by
  unfold execBundleCacheFill
  dsimp only
  (repeat' split) <;> simp

@[simp] theorem execScalarLoadReturn_vault (p) (s : State) : Out.Keeps s (execScalarLoadReturn p s) := by
  unfold execScalarLoadReturn
  dsimp only
  (repeat' split) <;> simp

@[simp] theorem execSlotDispatch_vault (p l) (s : State) : Out.Keeps s (execSlotDispatch p l s) := by
  unfold execSlotDispatch
  dsimp only
  (repeat' split) <;> simp

/-! Vector instructions -/

@[simp] theorem State.vecConvert_vault (p l x  en) (s src : State) : (s.vecConvert p l x  en src).state.vault = s.vault := by
  simp [State.vecConvert]

@[simp] theorem State.vecCompress_vault (p l x  en) (s src : State) : (s.vecCompress p l x  en src).state.vault = s.vault := by
  simp [State.vecCompress]

@[simp] theorem State.vecExpand_vault (p l x  en) (s src : State) : (s.vecExpand p l x  en src).state.vault = s.vault := by
  simp [State.vecExpand]

@[simp] theorem State.vecState_vault (p l x f en) (s src : State) : (s.vecState p l x f en src).state.vault = s.vault := by
  simp [State.vecState]

end Sys2Proof.Machine
end

section
/-! O60: what every step keeps (R310, R433, R434, R479, R481). The invariant is one of the vault; here stand the operations that
change it: bytes written into the stacks, keys, burned fuses, TAP instructions, wipes and resets, and what may lead to one of these,
a write to the registers of the security engine or of resets among them. -/

namespace Sys2Proof.Machine

/-! What the invariant says of the vault -/

/-- How a fuse reads, from the two copies that a vault holds. -/
def Vault.bits (u : Vault) : Fuses := u.fuses.read u.fuseCopy

/-- The order of R433 and R434 in which fuses are burned. -/
def Fuses.InOrder (f : Fuses) : Prop :=
  (∃ r v : Fin 17, f.ret.toNat = 2 ^ r.val - 1 ∧ f.svc.toNat = 2 ^ v.val - 1 ∧ v ≤ r ∧ r.val ≤ v.val + 1 ∧ (0 < r.val → f.svc0 = true))
    ∧ (f.svc0 = true → f.prov = true)

/-- An instruction that the TAP controller of die d holds (R481). -/
def tapHolds (d : Fin 28) (code : Byte) : Prop :=
  code.toNat ∈ [0xFF, 1, 2, 3, 4, 5, 0x10] ∨ (code = 0x20 ∧ d.val < 24) ∨ (code = 0x30 ∧ 24 ≤ d.val) ∨ (code = 0x40 ∧ d.val = 24)

/-- The invariant, of the vault alone. -/
def Vault.Legal (u : Vault) : Prop := Memory.wf u.hbm = true ∧ u.bits.InOrder ∧ ∀ d : Fin 28, tapHolds d u.tap[d]

theorem State.inv_iff (s : State) : s.Inv ↔ s.vault.Legal := Iff.rfl

@[simp] theorem Vault.legal_ite {c : Prop} [Decidable c] {a b : Vault} : (if c then a else b).Legal ↔ if c then a.Legal else b.Legal :=
  iff_of_eq (apply_ite ..)

/-- Wherever a command leads, the invariant holds. -/
def Out.Legal (o : Out) : Prop := ∀ t, o = .next t → t.vault.Legal

@[simp] theorem Out.legal_next (t : State) : Out.Legal (.next t) ↔ t.vault.Legal := by simp [Out.Legal]

theorem Out.Keeps.legal {s : State} {o : Out} (hk : Out.Keeps s o) (h : s.vault.Legal) : Out.Legal o := fun t ht => (hk t ht).symm ▸ h

theorem legal_foldl {α : Type} {f : State → α → State} (hf : ∀ s a, s.vault.Legal → (f s a).vault.Legal) (l : List α) {s : State}
    (h : s.vault.Legal) : (l.foldl f s).vault.Legal := by
  induction l generalizing s with
  | nil => exact h
  | cons a l ih => exact ih (hf s a h)

/-- The state of a pair. -/
theorem legal_of_pair {α : Type} {r : α × State} {a : α} {t : State} (h : r = (a, t)) (hr : r.2.vault.Legal) : t.vault.Legal := by
  subst h; exact hr

theorem legal_of_ans {r q : RegAns} (h : r = q) (hr : r.state.vault.Legal) : q.state.vault.Legal := h ▸ hr

/-! The stacks' contents (R310) -/

theorem Vault.Legal.hbm {u : Vault} (h : u.Legal) {m : Memory} (hm : (u.hbm.map Prod.fst).Pairwise (· < ·) → (m.map Prod.fst).Pairwise (· < ·)) :
    ({ u with hbm := m } : Vault).Legal :=
  ⟨decide_eq_true (hm (of_decide_eq_true h.1)), h.2⟩

theorem State.legal_hbm {s : State} (h : s.vault.Legal) {m : Memory}
    (hm : (s.hbm.map Prod.fst).Pairwise (· < ·) → (m.map Prod.fst).Pairwise (· < ·)) : ({ s with hbm := m } : State).vault.Legal :=
  Vault.Legal.hbm (u := s.vault) h hm

@[simp] theorem State.hbmStore_legal (d loc data) {s : State} (h : s.vault.Legal) : (s.hbmStore d loc data).vault.Legal := by
  refine State.legal_hbm h fun hr => ?_
  split
  · exact rising_memWrite _ _ _ hr
  · exact rising_memList _ _ _ hr

@[simp] theorem State.rekeyRegion_legal (r fill) {s : State} (h : s.vault.Legal) : (s.rekeyRegion r fill).vault.Legal :=
  State.legal_hbm (s := s.modRegion r _) h fun hr => rising_sublist List.filter_sublist hr

theorem Vault.Legal.tap {u : Vault} (h : u.Legal) {w : Vector Byte 28} (hw : ∀ d : Fin 28, tapHolds d w[d]) : ({ u with tap := w } : Vault).Legal :=
  ⟨h.1, h.2.1, hw⟩

theorem Vault.Legal.hbm_nil {u : Vault} (h : u.Legal) : ({ u with hbm := [] } : Vault).Legal := h.hbm fun _ => List.Pairwise.nil

@[simp] theorem State.swapDue_legal (r) {s : State} (h : s.vault.Legal) : (s.swapDue r).vault.Legal := by
  unfold State.swapDue
  split <;> simp [h]

@[simp] theorem State.manyBad_legal (d unit) {s : State} (h : s.vault.Legal) : (s.manyBad d unit).vault.Legal := by
  simp [State.manyBad, h]

@[simp] theorem State.unitSymbols_legal (d unit bad) {s : State} (h : s.vault.Legal) : (s.unitSymbols d unit bad).vault.Legal := by
  simp [State.unitSymbols, h]

@[simp] theorem State.unitWrite_legal (src d loc data) {s : State} (h : s.vault.Legal) : (s.unitWrite src d loc data).2.vault.Legal := by
  simp [State.unitWrite, h]

@[simp] theorem State.elemRead_legal (src a n) {s : State} (h : s.vault.Legal) : (s.elemRead src a n).2.2.vault.Legal := by
  unfold State.elemRead
  split <;> simp [h]

@[simp] theorem State.elemReads_legal (src) (l : List (Nat × Nat)) {s : State} (h : s.vault.Legal) : (s.elemReads src l).2.2.vault.Legal := by
  induction l generalizing s with
  | nil => exact h
  | cons e l ih =>
    obtain ⟨a, n⟩ := e
    simp [State.elemReads, h, ih]

@[simp] theorem State.elemWrites_legal (l : List (Nat × Nat)) (d) {s : State} (h : s.vault.Legal) : (s.elemWrites l d).vault.Legal := by
  induction l generalizing d s with
  | nil => exact h
  | cons e l ih =>
    obtain ⟨a, n⟩ := e
    unfold State.elemWrites
    refine ih _ ?_
    split <;> simp [h]

@[simp] theorem State.unitUpdate_legal (m d n) {s : State} (h : s.vault.Legal) : (s.unitUpdate m d n).2.vault.Legal := by
  simp [State.unitUpdate, h]

@[simp] theorem State.unitPiece_legal (m d loc n bad) {s : State} (h : s.vault.Legal) : (s.unitPiece m d loc n bad).2.2.vault.Legal := by
  unfold State.unitPiece
  split <;> simp [h]

@[simp] theorem State.stackServe_legal (d cls l i m bad) {s : State} (h : s.vault.Legal) : (s.stackServe d cls l i m bad).vault.Legal := by
  unfold State.stackServe
  split <;> simp [h]

@[simp] theorem State.putImage_legal (d base data) {s : State} (h : s.vault.Legal) : (s.putImage d base data).vault.Legal :=
  legal_foldl (fun s e hs => by simp [hs]) _ h

@[simp] theorem State.capSpoil_legal {s : State} (h : s.vault.Legal) : s.capSpoil.vault.Legal :=
  legal_foldl (fun s e hs => by simp [hs]) _ (by simp [h])

/-! Fuses (R433, R434) -/

theorem toNat_lt_of_eq_pow {x : BitVec 16} {r : Fin 17} (h : x.toNat = 2 ^ r.val - 1) : x = BitVec.ofNat 16 (2 ^ r.val - 1) :=
  BitVec.eq_of_toNat_eq (by rw [h, BitVec.toNat_ofNat, Nat.mod_eq_of_lt]; exact h ▸ x.isLt)

/-- A bank whose lowest r bits are burned has r ones. -/
theorem ones_lowest (r : Fin 17) : ones (BitVec.ofNat 16 (2 ^ r.val - 1)) = r.val := by
  revert r; decide

/-- Burning the next bit of a bank burns one bit more, until all are burned. -/
theorem burnNext_lowest (r : Fin 17) (h : r.val < 16) :
    (BitVec.ofNat 16 (2 ^ r.val - 1) ||| burnNext (BitVec.ofNat 16 (2 ^ r.val - 1))).toNat = 2 ^ (r.val + 1) - 1 := by
  revert r; decide

/-- Where a bank is not fully burned, the next bit burns. -/
theorem burned_next {x : BitVec 16} {r : Fin 17} (hx : x.toNat = 2 ^ r.val - 1) (hfull : x ≠ BitVec.allOnes 16) :
    ∃ k : Fin 17, k.val = r.val + 1 ∧ (x ||| burnNext x).toNat = 2 ^ k.val - 1 := by
  have hr : r.val < 16 := by
    refine Nat.lt_of_le_of_ne (Nat.le_of_lt_succ r.isLt) fun he => hfull ?_
    exact BitVec.eq_of_toNat_eq (by rw [hx, he]; decide)
  refine ⟨⟨r.val + 1, by omega⟩, rfl, ?_⟩
  rw [toNat_lt_of_eq_pow hx]
  exact burnNext_lowest r hr

theorem ones_of_lowest {x : BitVec 16} {r : Fin 17} (hx : x.toNat = 2 ^ r.val - 1) : ones x = r.val := by
  rw [toNat_lt_of_eq_pow hx, ones_lowest]


/-- A burn reads as the burn of what is read, when it burns both copies alike. -/
theorem Vault.Legal.burn {s : State} (h : s.vault.Legal) {f : Fuses → Fuses} (hf : (Fuses.read (f s.fuses) (f s.fuseCopy)).InOrder) :
    (s.burn f).vault.Legal :=
  ⟨h.1, hf, h.2.2⟩

theorem State.life_ret {s : State} (h : s.life = 3) : ones s.fuseBits.svc < ones s.fuseBits.ret := by
  unfold State.life at h
  split at h
  · cases h
  · split at h
    · assumption
    · split at h
      · cases h
      · split at h <;> cases h

theorem State.life_service {s : State} (h : s.life = 2) : ones s.fuseBits.ret ≤ ones s.fuseBits.svc ∧ s.fuseBits.svc0 = true := by
  unfold State.life at h
  split at h
  · cases h
  · split at h
    · cases h
    · split at h
      · exact ⟨by omega, by assumption⟩
      · split at h <;> cases h

theorem State.life_provisioned {s : State} (h : s.life = 1) : s.fuseBits.prov = true := by
  unfold State.life at h
  split at h
  · cases h
  · split at h
    · cases h
    · split at h
      · cases h
      · split at h
        · assumption
        · cases h

/-- A bit burned in both copies reads as burned over what they read. -/
theorem or_burn (a b x : BitVec 16) : a ||| x ||| (b ||| x) = a ||| b ||| x := by
  ext i
  simp only [BitVec.getElem_or]
  cases a[i] <;> cases b[i] <;> cases x[i] <;> rfl

/-- Every transition burns fuses in the order of R434. -/
@[simp] theorem State.transition_legal (tgt) {s : State} (h : s.vault.Legal) : (s.transition tgt).2.vault.Legal := by
  obtain ⟨⟨r, v, hr, hv, hvr, hrv, hsvc⟩, hprov⟩ : s.fuseBits.InOrder := h.2.1
  unfold State.transition
  dsimp only
  split
  · exact h.burn ⟨⟨r, v, hr, hv, hvr, hrv, hsvc⟩, hprov⟩
  split
  · exact Vault.Legal.burn (s := { s with drbg := s.drbg + 1 }) h ⟨⟨r, v, hr, hv, hvr, hrv, hsvc⟩, fun _ => rfl⟩
  split
  next hlife =>
    split
    · exact h.burn ⟨⟨r, v, hr, hv, hvr, hrv, fun _ => rfl⟩, fun _ => State.life_provisioned hlife.1⟩
    · exact h
  split
  next hlife =>
    obtain ⟨hle, hsvc0⟩ := State.life_service hlife.1
    rw [ones_of_lowest hr, ones_of_lowest hv] at hle
    split
    · exact h
    next hfull =>
    split
    · obtain ⟨k, hk, hburn⟩ := burned_next hr hfull
      refine h.burn ⟨⟨k, v, ?_, hv, by omega, by omega, fun _ => hsvc0⟩, hprov⟩
      rw [← hburn]
      exact congrArg BitVec.toNat (or_burn ..)
    · exact h
  split
  next hlife =>
    have hlt := State.life_ret hlife.1
    rw [ones_of_lowest hr, ones_of_lowest hv] at hlt
    split
    · exact h
    next hfull =>
    split
    · obtain ⟨k, hk, hburn⟩ := burned_next hv hfull
      refine h.burn ⟨⟨r, k, hr, ?_, by omega, by omega, hsvc⟩, hprov⟩
      rw [← hburn]
      exact congrArg BitVec.toNat (or_burn ..)
    · exact h
  · exact h

/-! What else touches the vault: wipes (R432), resets (R470, R471, R473) -/

@[simp] theorem State.coldWipe_legal (keep) {s : State} (h : s.vault.Legal) : (s.coldWipe keep).vault.Legal := h.hbm_nil

@[simp] theorem execPwrOkFall_legal {s : State} (h : s.vault.Legal) : Out.Legal (execPwrOkFall s) :=
  (Out.legal_next _).mpr (h.hbm_nil)

@[simp] theorem State.warmReset_legal {s : State} (h : s.vault.Legal) : s.warmReset.vault.Legal := by
  have hstop : ∀ {u : State}, u.vault.Legal → ({ u with hbm := [] } : State).vault.Legal := fun hu => hu.hbm_nil
  unfold State.warmReset
  dsimp only
  split
  · rw [State.warmEnd_vault]
    refine legal_foldl (fun s d hs => by simpa using hs) _ (Vault.Legal.hbm_nil (u := State.vault _) ?_)
    simpa using h
  · refine legal_foldl (fun s d hs => by simpa using hs) _ (Vault.Legal.hbm_nil (u := State.vault _) ?_)
    simpa using h

@[simp] theorem State.warmWrite_legal (src v) {s : State} (h : s.vault.Legal) : (s.warmWrite src v).2.vault.Legal := by
  unfold State.warmWrite
  split
  · split <;> simp [h]
  · exact h

theorem State.regCommand_legal {src a} {f : State → Code × State} (hf : ∀ s : State, s.vault.Legal → (f s).2.vault.Legal) {s : State}
    (h : s.vault.Legal) : (s.regCommand src a f).vault.Legal := by
  simp [State.regCommand, h, hf s h]

theorem execWarmReset_legal (h : Fin 4) (v) {s : State} (hs : s.vault.Legal) : Out.Legal (execWarmReset h v s) :=
  (Out.legal_next _).mpr (State.regCommand_legal (fun _ hu => State.warmWrite_legal _ _ hu) hs)

theorem execColdReset_legal (env) {s : State} (h : s.vault.Legal) : Out.Legal (execColdReset env s) := by
  refine (Out.legal_next _).mpr ?_
  split
  · have hw := State.coldWipe_legal false h
    simp [hw]
  · exact h

/-! The security engine and long operations (R426, R434, R436) -/

@[simp] theorem State.lcAdvance_legal (h v) {s : State} (hs : s.vault.Legal) : (s.lcAdvance h v).2.vault.Legal := by
  have ht := State.transition_legal (secTgt v) hs
  have hw := (State.coldWipe_legal true ht).tap (w := Vector.replicate 28 1) fun d => .inl (by simp)
  have hwiped : ∀ n, ({ (s.transition (secTgt v)).2.coldWipe true with drbg := n, tap := Vector.replicate 28 1 } : State).vault.Legal :=
    fun _ => hw
  unfold State.lcAdvance
  dsimp only
  (repeat' split) <;> simp only [hs, ht, State.logSec_vault, State.deriveKeys_vault, hwiped]

@[simp] theorem State.secRun_legal (c) {s : State} (h : s.vault.Legal) : (s.secRun c).vault.Legal := by
  simp [State.secRun, h]

@[simp] theorem State.secStep_legal {s : State} (h : s.vault.Legal) : s.secStep.vault.Legal := by
  unfold State.secStep
  (repeat' split) <;> simp [h]

@[simp] theorem State.secResume_legal {s : State} (h : s.vault.Legal) : s.secResume.vault.Legal :=
  State.secStep_legal (State.secStep_legal (State.secStep_legal (State.secStep_legal h)))

@[simp] theorem State.longOps_legal {s : State} (h : s.vault.Legal) : s.longOps.vault.Legal := by
  simp [State.longOps, h]

@[simp] theorem State.tick_legal {s : State} (h : s.vault.Legal) : s.tick.vault.Legal := by
  simp [State.tick, h]

@[simp] theorem State.secWrite_legal (g v) {s : State} (h : s.vault.Legal) : (s.secWrite g v).vault.Legal := by
  simp [State.secWrite, h]

@[simp] theorem State.secCommand_legal (g op v) {s : State} (h : s.vault.Legal) : (s.secCommand g op v).vault.Legal := by
  simp [State.secCommand, h]

@[simp] theorem State.abortDone_legal (p d a) {s : State} (h : s.vault.Legal) : (s.abortDone p d a).vault.Legal := by
  simp [State.abortDone, h]

/-! Register writes (R12) -/

@[simp] theorem State.secBlockWrite_legal (g off v) {s : State} (h : s.vault.Legal) : (s.secBlockWrite g off v).2.vault.Legal := by
  simp [State.secBlockWrite, h]

@[simp] theorem State.blkWrite_legal (g off v) {s : State} (h : s.vault.Legal) : (s.blkWrite g off v).state.vault.Legal := by
  unfold State.blkWrite
  dsimp only
  (repeat' split) <;> try simp [h]
  · next he => exact legal_of_pair he (State.warmWrite_legal _ _ h)
  · next he => exact legal_of_pair he (State.warmWrite_legal _ _ h)

@[simp] theorem State.regWrite_legal (src a v who) {s : State} (h : s.vault.Legal) : (s.regWrite src a v who).state.vault.Legal := by
  unfold State.regWrite
  (repeat' split) <;> simp [h]

@[simp] theorem State.writeWords_legal (src who) (l : List W32) (a) {s : State} (h : s.vault.Legal) :
    (s.writeWords src who l a).state.vault.Legal := by
  induction l generalizing who a s with
  | nil => exact h
  | cons v l ih =>
    have hw := State.regWrite_legal src a v who h
    unfold State.writeWords
    dsimp only
    split
    · simp [h]
    · split
      · next he => exact ih _ _ (by simpa [he] using hw)
      · next he => exact ih _ _ (by simpa [he] using hw)
      · exact hw

@[simp] theorem State.regWriteN_legal (src a n data who) {s : State} (h : s.vault.Legal) : (s.regWriteN src a n data who).state.vault.Legal := by
  unfold State.regWriteN
  (repeat' split) <;> simp [h]

@[simp] theorem State.writeCommand_legal (src a v) {s : State} (h : s.vault.Legal) : (s.writeCommand src a v).vault.Legal :=
  State.regCommand_legal (fun _ hu => State.regWriteN_legal _ _ _ _ _ hu) h

@[simp] theorem State.viewCommand_legal (src sp ctr view i v) {s : State} (h : s.vault.Legal) :
    (s.viewCommand src sp ctr view i v).vault.Legal := by
  simp [State.viewCommand, h]

@[simp] theorem State.hubRun_legal (r) {s : State} (h : s.vault.Legal) : (s.hubRun r).vault.Legal := by
  have hw := fun a n d who => State.regWriteN_legal r.src a n d who h
  unfold State.hubRun
  split
  · simp [h]
  · split
    · simp [h]
    · dsimp only
      split
      · split <;> simp [h]
      · split
        · next he => simpa using legal_of_ans he (hw ..)
        · next he => exact legal_of_ans he (hw ..)
        · next he => split <;> simpa using legal_of_ans he (hw ..)

@[simp] theorem State.portTake_legal (g tag a len data) {s : State} (h : s.vault.Legal) : (s.portTake g tag a len data).vault.Legal := by
  simp [State.portTake, h]

theorem State.portMessage_legal {g hdr} {f : State → State} (hf : ∀ s : State, s.vault.Legal → (f s).vault.Legal) {s : State}
    (h : s.vault.Legal) : (s.portMessage g hdr f).vault.Legal := by
  have := hf s h
  unfold State.portMessage
  dsimp only
  (repeat' split) <;> simp [h, this]

theorem execControlRead_legal (g hdr data) {s : State} (h : s.vault.Legal) : Out.Legal (execControlRead g hdr data s) :=
  (Out.legal_next _).mpr (State.portMessage_legal (fun _ hu => by simp [hu]) h)

theorem execControlWrite_legal (g hdr data) {s : State} (h : s.vault.Legal) : Out.Legal (execControlWrite g hdr data s) :=
  (Out.legal_next _).mpr (State.portMessage_legal (fun _ hu => by simp [hu]) h)

@[simp] theorem State.regWrites_legal (c no) (l : List (Nat × List Byte)) {s : State} (h : s.vault.Legal) : (s.regWrites c no l).vault.Legal := by
  induction l generalizing s with
  | nil => exact h
  | cons e l ih =>
    obtain ⟨a, d⟩ := e
    simp [State.regWrites, h, ih]

/-! The sequencer (R200, R201) -/

/-- The state that a scalar slot leaves. -/
def Flow.state : Flow → State
  | .next s | .jump _ s | .fault _ _ s => s

@[simp] theorem Flow.state_next (s : State) : (Flow.next s).state = s := rfl
@[simp] theorem Flow.state_jump (n) (s : State) : (Flow.jump n s).state = s := rfl
@[simp] theorem Flow.state_fault (c a) (s : State) : (Flow.fault c a s).state = s := rfl
@[simp] theorem Flow.state_ite {c : Prop} [Decidable c] {a b : Flow} : (if c then a else b).state = if c then a.state else b.state := apply_ite ..

@[simp] theorem State.fbchk_vault (p k ret) (s : State) : (s.fbchk p k ret).state.vault = s.vault := by
  unfold State.fbchk
  dsimp only
  (repeat' split) <;> simp

@[simp] theorem State.scalarStore_legal (p a data) {s : State} (h : s.vault.Legal) : (s.scalarStore p a data).vault.Legal := by
  simp [State.scalarStore, h]

@[simp] theorem State.scalarMem_legal (p w) {s : State} (h : s.vault.Legal) : (s.scalarMem p w).state.vault.Legal := by
  simp [State.scalarMem, h]

@[simp] theorem State.scalar_legal (p w off nxt) {s : State} (h : s.vault.Legal) : (s.scalar p w off nxt).state.vault.Legal := by
  cases hc : (s.part p).calls <;> simp [State.scalar, h, hc]

@[simp] theorem State.issueBundle_legal (p b) {s : State} (h : s.vault.Legal) : (s.issueBundle p b).vault.Legal := by
  unfold State.issueBundle
  dsimp only
  split
  · simp [h]
  · split
    · simp [h]
    · next w _ =>
      have hs := State.scalar_legal p w (s.part p).next.toNat ((s.part p).next.toNat + b.len) (s := (s.seqSignal p b).2) (by simp [h])
      split <;> simp_all

/-! Test access (R481, R482) -/

theorem State.tapSelect_legal {d code row here} {s : State} (h : s.vault.Legal) (hcode : here = true → tapHolds d code) :
    (s.tapSelect d code row here).vault.Legal := by
  unfold State.tapSelect
  split
  · refine Vault.Legal.tap (u := s.vault) h fun e => ?_
    by_cases he : d = e
    · subst he
      simp only [Fin.getElem_fin, Vector.getElem_set_self]
      split
      · next hb => exact hcode (by simpa using (Bool.and_eq_true_iff.mp hb).1)
      · exact .inl (by decide)
    · have hne : d.val ≠ e.val := fun k => he (Fin.ext k)
      simp only [Fin.getElem_fin, Vector.getElem_set_ne _ _ hne]
      exact h.2.2 e
  · exact h

/-! Commands -/

theorem execBundleIssue_legal (p parity) {s : State} (h : s.vault.Legal) : Out.Legal (execBundleIssue p parity s) := by
  refine (Out.legal_next _).mpr ?_
  (repeat' split) <;> simp [h]

theorem execAbortDump_legal (p) {s : State} (h : s.vault.Legal) : Out.Legal (execAbortDump p s) := by
  refine (Out.legal_next _).mpr ?_
  (repeat' split) <;> simp [h]

theorem execBaleComplete_legal (c) {s : State} (h : s.vault.Legal) : Out.Legal (execBaleComplete c s) := by
  refine (Out.legal_next _).mpr ?_
  dsimp only
  (repeat' split) <;> simp [h]

theorem execStackPortAccess_legal (d cls sel bad ca) {s : State} (h : s.vault.Legal) :
    Out.Legal (execStackPortAccess d cls sel bad s ca) := by
  refine (Out.legal_next _).mpr ?_
  dsimp only
  (repeat' split) <;> simp [h]

theorem execPatrolScrub_legal (d unit bad ca) {s : State} (h : s.vault.Legal) : Out.Legal (execPatrolScrub d unit bad s ca) := by
  refine (Out.legal_next _).mpr ?_
  dsimp only
  (repeat' split) <;> simp [h]

theorem execHubAliasForward_legal (g) {s : State} (h : s.vault.Legal) : Out.Legal (execHubAliasForward g s) := by
  refine (Out.legal_next _).mpr ?_
  split <;> simp [h]

theorem execEventQueueRoom_legal (g room) {s : State} (h : s.vault.Legal) : Out.Legal (execEventQueueRoom g room s) := by
  refine (Out.legal_next _).mpr ?_
  split
  · exact State.longOps_legal (by simp [h])
  · exact h

theorem execCaptureQuiesced_legal {s : State} (h : s.vault.Legal) : Out.Legal (execCaptureQuiesced s) := by
  refine (Out.legal_next _).mpr ?_
  split
  · have himage : ((capDies s.capMask).foldl (fun t e => t.putImage e.1 s.capBase (s.dieImage e.1)) s.drawn).vault.Legal :=
      legal_foldl (fun t e ht => by simp [ht]) _ (by simp [h])
    simp [himage]
  · exact h

theorem execCaptureWriteDone_legal (status) {s : State} (h : s.vault.Legal) : Out.Legal (execCaptureWriteDone status s) := by
  refine (Out.legal_next _).mpr ?_
  split
  · simp [h]
  · exact h

theorem execTapReset_legal {s : State} (h : s.vault.Legal) : Out.Legal (execTapReset s) := by
  refine (Out.legal_next _).mpr ?_
  split
  · exact h.tap fun d => .inl (by simp)
  · exact h

theorem execProbesel_legal (d sel) {s : State} (h : s.vault.Legal) : Out.Legal (execProbesel d sel s) := by
  have ht := State.tapSelect_legal (code := 0x30) (row := 4) (here := decide (24 ≤ d.val)) h
    fun hd => .inr (.inr (.inl ⟨rfl, of_decide_eq_true hd⟩))
  refine (Out.legal_next _).mpr ?_
  dsimp only
  split
  · rw [State.modHub_vault]
    exact ht
  · exact ht

/-- Every command keeps the invariant: one that reaches the stacks' contents, the fuses or the TAP controllers by the lemma on
what it does there, every other one because it leaves them as they are. -/
theorem exec_legal (i : Instr) {s : State} (h : s.vault.Legal) : Out.Legal (exec i s) := by
  cases i with
  | coldReset env => exact execColdReset_legal env h
  | pwrOkFall => exact execPwrOkFall_legal h
  | warmReset g v => exact execWarmReset_legal g v h
  | controlRead g hdr data => exact execControlRead_legal g hdr data h
  | controlWrite g hdr data => exact execControlWrite_legal g hdr data h
  | registerWrite src a v clash => exact (Out.legal_next _).mpr (by simp [h])
  | semaphoreSet src sp idx v => exact (Out.legal_next _).mpr (State.viewCommand_legal _ _ _ _ _ _ h)
  | addAlias src sp idx v => exact (Out.legal_next _).mpr (State.viewCommand_legal _ _ _ _ _ _ h)
  | subAlias src sp idx v => exact (Out.legal_next _).mpr (State.viewCommand_legal _ _ _ _ _ _ h)
  | counterSet src sp idx v => exact (Out.legal_next _).mpr (State.viewCommand_legal _ _ _ _ _ _ h)
  | incAlias src sp idx v => exact (Out.legal_next _).mpr (State.viewCommand_legal _ _ _ _ _ _ h)
  | bundleIssue p parity => exact execBundleIssue_legal p parity h
  | abortDump p => exact execAbortDump_legal p h
  | baleComplete c => exact execBaleComplete_legal c h
  | stackPortAccess d cls sel bad ca => exact execStackPortAccess_legal d cls sel bad ca h
  | patrolScrub d unit bad ca => exact execPatrolScrub_legal d unit bad ca h
  | regionKeySwap r => exact (Out.legal_next _).mpr (State.secResume_legal (State.swapDue_legal r h))
  | hubAliasForward g => exact execHubAliasForward_legal g h
  | eventQueueRoom g room => exact execEventQueueRoom_legal g room h
  | tenantSet g v => exact (Out.legal_next _).mpr (State.secCommand_legal _ _ _ h)
  | regionSet g v => exact (Out.legal_next _).mpr (State.secCommand_legal _ _ _ h)
  | attest g v => exact (Out.legal_next _).mpr (State.secCommand_legal _ _ _ h)
  | lcAdvance g v => exact (Out.legal_next _).mpr (State.secCommand_legal _ _ _ h)
  | captureQuiesced => exact execCaptureQuiesced_legal h
  | captureWriteDone status => exact execCaptureWriteDone_legal status h
  | tapReset => exact execTapReset_legal h
  | bypass d => exact (Out.legal_next _).mpr (State.tapSelect_legal h fun _ => .inl (by decide))
  | idcode d => exact (Out.legal_next _).mpr (State.tapSelect_legal h fun _ => .inl (by decide))
  | samplePreload d => exact (Out.legal_next _).mpr (State.tapSelect_legal h fun _ => .inl (by decide))
  | extest d => exact (Out.legal_next _).mpr (State.tapSelect_legal h fun _ => .inl (by decide))
  | clamp d => exact (Out.legal_next _).mpr (State.tapSelect_legal h fun _ => .inl (by decide))
  | highz d => exact (Out.legal_next _).mpr (State.tapSelect_legal h fun _ => .inl (by decide))
  | wspSelect d => exact (Out.legal_next _).mpr (State.tapSelect_legal h fun _ => .inl (by decide))
  | stack1500 d => exact (Out.legal_next _).mpr (State.tapSelect_legal h fun hd => .inr (.inl ⟨rfl, of_decide_eq_true hd⟩))
  | probesel d sel => exact execProbesel_legal d sel h
  | secscan d => exact (Out.legal_next _).mpr (State.tapSelect_legal h fun hd => .inr (.inr (.inr ⟨rfl, of_decide_eq_true hd⟩)))
  | abortPropagate g => exact (execAbortPropagate_vault g s).legal h
  | baleFetch c parity => exact (execBaleFetch_vault c parity s).legal h
  | baleRelayPop c => exact (execBaleRelayPop_vault c s).legal h
  | baleRelayPush c => exact (execBaleRelayPush_vault c s).legal h
  | baleStart c parity more => exact (execBaleStart_vault c parity more s).legal h
  | borderDrainTimeout g => exact (execBorderDrainTimeout_vault g s).legal h
  | bundleCacheFill p => exact (execBundleCacheFill_vault p s).legal h
  | channelFlushTimeout c => exact (execChannelFlushTimeout_vault c s).legal h
  | copRequestAccepted p l n => exact (execCopRequestAccepted_vault p l n s).legal h
  | copRequestStall p l => exact (execCopRequestStall_vault p l s).legal h
  | creditStarvation n => exact (execCreditStarvation_vault n s).legal h
  | csr p l x found => exact (execCsr_vault p l x found s).legal h
  | customOpTimeout p l => exact (execCustomOpTimeout_vault p l s).legal h
  | deadlineMiss p n => exact (execDeadlineMiss_vault p n s).legal h
  | depotLineFill d => exact (execDepotLineFill_vault d s).legal h
  | descriptorCacheFill u => exact (execDescriptorCacheFill_vault u s).legal h
  | eccWriteBack p l => exact (execEccWriteBack_vault p l s).legal h
  | endRecord g => exact (execEndRecord_vault g s).legal h
  | fabricPllLockTimeout g => exact (execFabricPllLockTimeout_vault g s).legal h
  | grid p l x found => exact (execGrid_vault p l x found s).legal h
  | linkTrainStart g => exact (execLinkTrainStart_vault g s).legal h
  | mbistComplete d t pass => exact (execMbistComplete_vault d t pass s).legal h
  | readDataReturn c => exact (execReadDataReturn_vault c s).legal h
  | remoteRequestTimeout n tag => exact (execRemoteRequestTimeout_vault n tag s).legal h
  | scalarLoadReturn p => exact (execScalarLoadReturn_vault p s).legal h
  | scratchpadDmaAccess p l cls flips parity => exact (execScratchpadDmaAccess_vault p l cls flips parity s).legal h
  | slotDispatch p l => exact (execSlotDispatch_vault p l s).legal h
  | steerDecision p k => exact (execSteerDecision_vault p k s).legal h
  | stream g hdr data => exact (execStream_vault g hdr data s).legal h
  | taskDelivery g => exact (execTaskDelivery_vault g s).legal h
  | taskDescriptorCheck g => exact (execTaskDescriptorCheck_vault g s).legal h
  | taskFinish p => exact (execTaskFinish_vault p s).legal h
  | taskStart p parity => exact (execTaskStart_vault p parity s).legal h
  | watchdogExpiry u => exact (execWatchdogExpiry_vault u s).legal h
  | wdrain p l x found => exact (execWdrain_vault p l x found s).legal h
  | _ => exact Out.Keeps.legal ((Out.keeps_next s _).mpr (by simp)) h

/-- Settles O60: a step runs a command, or one MCLK cycle passes; both keep the invariant. -/
theorem invariantKept : Obligations.InvariantKept := by
  unfold Obligations.InvariantKept
  intro s t h ht
  rw [State.inv_iff] at h ⊢
  unfold step at ht
  split at ht
  · cases ht
    exact State.tick_legal h
  · next c rest _ => exact exec_legal c (s := { s with pending := rest }) h t ht

end Sys2Proof.Machine
end

section
/-! What a register command that is not refused comes to (R12, R494), as a step. -/

namespace Sys2Proof.Machine

theorem next_regCommand {src : Source} {a : Nat} {s : State} (f : State → Code × State) (h : s.reaches src a true) :
    (.next (s.regCommand src a f) : Out) = .next (((f s).2.punish src (f s).1).answered (f s).1 0) :=
  congrArg Host.Outcome.next (State.regCommand_of_reaches f h)

theorem next_regCommand_zero {src : Source} {a : Nat} {s t : State} {f : State → Code × State} (h : s.reaches src a true)
    (hf : f s = (0, t)) : (.next (s.regCommand src a f) : Out) = .next (State.answered 0 0 t) := by
  rw [next_regCommand f h, hf, State.punish_zero]

/-- A control port runs no task that a rejection could abort. -/
theorem State.punish_port (h : Fin 4) (code : Code) (s : State) : s.punish (.port h) code = s := by
  unfold State.punish
  split <;> rfl

theorem next_regCommand_port {h : Fin 4} {a : Nat} {s t : State} {code : Code} {f : State → Code × State}
    (hr : s.reaches (.port h) a true) (hf : f s = (code, t)) :
    (.next (s.regCommand (.port h) a f) : Out) = .next (State.answered code 0 t) := by
  rw [next_regCommand f hr, hf, State.punish_port]

end Sys2Proof.Machine
end

section
/-! O31: a write of RING_HI, TAIL or CTAIL_BC (R266, R268). -/

namespace Sys2Proof.Machine

theorem State.ringFits_iff {s : State} {c : ChanId} {v : W32} :
    let k := s.chan c
    s.ringFits c v = true ↔ (k.stateCode = 0 ∨ k.stateCode = 3) ∧ 4 ≤ fld k.stagedLo 0 5 ∧ fld k.stagedLo 0 5 ≤ 16
      ∧ (s.part (chanPart c)).inWindows (fld v 0 24 * 2 ^ 32 + fld k.stagedLo 6 26 * 64)
          (fld v 0 24 * 2 ^ 32 + fld k.stagedLo 6 26 * 64 + 64 * 2 ^ fld k.stagedLo 0 5 - 1) = true := by
  simp only [State.ringFits, Bool.and_eq_true, decide_eq_true_eq, and_assoc]

theorem State.chan_core (s : State) (p : Fin 12) (l : Fin 32) (n : Fin 4) : s.chan (.core p l n) = (s.core p l).chans[n] := rfl

theorem State.modChan_core (p : Fin 12) (l : Fin 32) (n : Fin 4) (f : Chan → Chan) (s : State) :
    s.modChan (.core p l n) f = s.modCore p l fun k => { k with chans := k.chans.set n (f k.chans[n]) } := rfl

/-- TAIL moves by d in one channel of a core. -/
def Core.advanceTail (n : Fin 4) (d : W32) (c : Core) : Core :=
  { c with chans := c.chans.set n { c.chans[n] with tail := c.chans[n].tail + d } }

theorem Core.chans_advanceTail (n m : Fin 4) (d : W32) (c : Core) :
    (c.advanceTail n d).chans[m] = if m.val = n.val then { c.chans[m] with tail := c.chans[m].tail + d } else c.chans[m] := by
  by_cases h : m = n
  · subst h
    simp [Core.advanceTail]
  · have hval : n.val ≠ m.val := fun e => h (Fin.ext e.symm)
    simp [Core.advanceTail, hval, hval.symm]

theorem State.mem_live {s : State} {p : Fin 12} {l : Fin 32} : l ∈ (s.part p).live ↔ (s.core p l).fenced = false := by
  rw [Part.live, List.mem_filter, Bool.not_eq_true']
  exact and_iff_right (List.mem_finRange l)

/-- A tail that the ring can hold is taken. -/
theorem State.tailWrite_of_le {s : State} {c : ChanId} {v : W32}
    (h : (v - (s.chan c).head).toNat ≤ 2 ^ fld (s.chan c).ringLo 0 5) :
    s.tailWrite c v = s.modChan c fun k => { k with tail := v } := by
  simp only [State.tailWrite, if_neg (Nat.not_lt.mpr h)]

/-- A broadcast that no core rejects moves TAIL once in each core listed. -/
theorem State.foldl_tailWrite {p : Fin 12} {n : Fin 4} {d : W32} {ls : List (Fin 32)} {s : State} (hnd : ls.Nodup)
    (h : ∀ l ∈ ls, let k := (s.core p l).chans[n]; (k.tail + d - k.head).toNat ≤ 2 ^ fld k.ringLo 0 5) :
    ls.foldl (fun s l => s.tailWrite (.core p l n) ((s.chan (.core p l n)).tail + d)) s =
      ls.foldl (fun s l => s.modCore p l (Core.advanceTail n d)) s := by
  induction ls generalizing s with
  | nil => rfl
  | cons l ls ih =>
    obtain ⟨hl, hls⟩ := List.nodup_cons.mp hnd
    have hfirst : s.tailWrite (.core p l n) ((s.chan (.core p l n)).tail + d) = s.modCore p l (Core.advanceTail n d) := by
      have hk := h l List.mem_cons_self
      rw [← State.chan_core] at hk
      rw [State.tailWrite_of_le hk, State.modChan_core]
      exact State.modCore_congr p l _ (Core.advanceTail n d) s rfl
    rw [List.foldl_cons, List.foldl_cons, hfirst]
    refine ih hls fun m hm => ?_
    rw [State.core_modCore_ne p p l m _ s fun e => hl (e.2 ▸ hm)]
    exact h m (List.mem_cons_of_mem _ hm)

/-- Settles O31: each write is the channel's own operation, by the cases of each; a broadcast that no core rejects is one
move of TAIL in each live core. -/
theorem ringRegisters : Obligations.RingRegisters := by
  unfold Obligations.RingRegisters
  intro src c v s
  refine ⟨fun hr => ⟨fun hok => ?_, fun hok => ?_⟩, fun hr => ⟨fun hle => ?_, fun hlt => ?_⟩, fun p hr hle => ?_⟩
  · refine next_regCommand_zero hr ?_
    rw [State.ringCommit, if_pos (State.ringFits_iff.mpr hok)]
  · refine next_regCommand_zero hr ?_
    rw [State.ringCommit, if_neg fun hfit => hok (State.ringFits_iff.mp hfit)]
  · refine next_regCommand_zero hr ?_
    rw [State.tailWrite_of_le hle]
  · refine next_regCommand_zero hr ?_
    simp only [State.tailWrite, if_pos hlt]
  · obtain ⟨n, hn⟩ : ∃ n : Fin 4, n.val = fld v 0 2 := ⟨⟨fld v 0 2, Nat.mod_lt _ (by decide)⟩, rfl⟩
    have hnd := (s.part p).live_nodup
    have hfold : s.tailBroadcast p v = (s.part p).live.foldl (fun s l => s.modCore p l (Core.advanceTail n (BitVec.ofNat 32 (fld v 16 16)))) s := by
      rw [← State.foldl_tailWrite hnd fun l hl => hle l hl n hn, State.tailBroadcast]
      have hn' : n = ⟨fld v 0 2, Nat.mod_lt _ (by decide)⟩ := Fin.ext hn
      rw [hn']
      rfl
    refine ⟨s.tailBroadcast p v, ?_, fun l m => ?_, ?_⟩
    · exact next_regCommand_zero hr rfl
    · rw [hfold, State.core_foldl_modCore _ hnd]
      rw [← hn]
      by_cases hl : (s.core p l).fenced = false
      · rw [if_pos (State.mem_live.mpr hl), Core.chans_advanceTail]
        simp only [hl, true_and]
      · rw [if_neg fun h => hl (State.mem_live.mp h), if_neg fun h => hl h.1]
    · rw [hfold]
      exact (State.PartAndHubs.foldl_modCore p _ _ s).1
end Sys2Proof.Machine
end

section
/-! O34: the task ring of a hub (R411, R419). -/

namespace Sys2Proof.Machine

theorem isPortOf_self (h : Fin 4) : isPortOf h (.port h) = true := decide_eq_true rfl

theorem isPortOf_of_ne {h : Fin 4} {src : Source} (hne : src ≠ .port h) : isPortOf h src = false := decide_eq_false hne

theorem State.ringOk_iff {s : State} {h : Fin 4} {v : W32} :
    let b := s.hub h
    s.ringOk h v = true ↔ b.head = b.tail ∧ 4 ≤ fld b.stagedLo 0 4 ∧ fld b.stagedLo 0 4 ≤ 12
      ∧ s.hostOpen (fld v 0 24 * 2 ^ 32 + fld b.stagedLo 7 25 * 128) (128 * 2 ^ fld b.stagedLo 0 4) = true := by
  simp only [State.ringOk, Bool.and_eq_true, decide_eq_true_eq, and_assoc]

section
variable {h : Fin 4} {v : W32} {s : State}

theorem State.taskCommit_of_ok (hok : s.ringOk h v = true) : s.taskCommit h v = (0, s.modHub h fun b =>
    { b.unfetch with ringLo := b.stagedLo, ringHi := BitVec.ofNat 24 v.toNat, head := 0, tail := 0, checked := none }) := by
  rw [State.taskCommit, if_pos hok]

theorem State.taskCommit_of_not_ok (hok : ¬ s.ringOk h v = true) :
    s.taskCommit h v = (0x3F04, (s.taskRej h none).logHub h 0x3F04 0) := by
  rw [State.taskCommit, if_neg hok]

theorem State.taskTail_of_le (hle : (v - (s.hub h).head).toNat ≤ 2 ^ fld (s.hub h).ringLo 0 4) :
    s.taskTail h v = (0, s.modHub h fun b => if v = b.head then { b.unfetch with tail := v } else { b with tail := v }) := by
  simp only [State.taskTail, if_neg (Nat.not_lt.mpr hle)]

theorem State.taskTail_of_lt (hlt : 2 ^ fld (s.hub h).ringLo 0 4 < (v - (s.hub h).head).toNat) :
    s.taskTail h v = (0x3F02, (s.taskRej h (some 0x3F02)).logHub h 0x3F02 0) := by
  simp only [State.taskTail, if_pos hlt]

end

/-- Settles O34: of the hub's own port the write is the ring's commit or tail, by the cases of each; of another it does nothing. -/
theorem taskRings : Obligations.TaskRings := by
  unfold Obligations.TaskRings
  intro src h v s
  refine ⟨fun hr => ⟨fun hsrc hok => ?_, fun hsrc hok => ?_, fun hsrc => ?_⟩,
    fun hr => ⟨fun hsrc hle => ?_, fun hsrc hlt => ?_, fun hsrc => ?_⟩⟩
  · subst hsrc
    refine next_regCommand_port hr ?_
    rw [if_pos (isPortOf_self h), State.taskCommit_of_ok (State.ringOk_iff.mpr hok)]
    rfl
  · subst hsrc
    refine next_regCommand_port hr ?_
    rw [if_pos (isPortOf_self h), State.taskCommit_of_not_ok fun hfit => hok (State.ringOk_iff.mp hfit)]
    rfl
  · refine next_regCommand_zero hr ?_
    rw [isPortOf_of_ne hsrc, if_neg Bool.false_ne_true]
  · subst hsrc
    refine next_regCommand_port hr ?_
    rw [if_pos (isPortOf_self h), State.taskTail_of_le hle]
    rfl
  · subst hsrc
    refine next_regCommand_port hr ?_
    rw [if_pos (isPortOf_self h), State.taskTail_of_lt hlt]
    rfl
  · refine next_regCommand_zero hr ?_
    rw [isPortOf_of_ne hsrc, if_neg Bool.false_ne_true]

end Sys2Proof.Machine
end

section
/-! O35: owners of global blocks (R427, R429, R438). -/

namespace Sys2Proof.Machine

/-! What entries of the trouble log leave of a hub (R416, R458, R460) -/

/-- Beside its trouble log and what events write, hub c is b. -/
def Hub.LogsOnly (b c : Hub) : Prop :=
  c = { b with log := c.log, logWr := c.logWr, logRd := c.logRd, logLost := c.logLost, lostNext := c.lostNext, thrSent := c.thrSent,
               evSeq := c.evSeq, alert := c.alert, evq := c.evq, evLate := c.evLate, evPend := c.evPend }

theorem Hub.LogsOnly.refl (b : Hub) : b.LogsOnly b := rfl

theorem Hub.LogsOnly.trans {b c d : Hub} (h : b.LogsOnly c) (k : c.LogsOnly d) : b.LogsOnly d := by
  unfold Hub.LogsOnly at *
  rw [k, h]

/-- What does not look at the log and the events is as it was. -/
theorem Hub.LogsOnly.eq {β : Type} {b c : Hub} (h : b.LogsOnly c) (f : Hub → β) : f c = f
    { b with log := c.log, logWr := c.logWr, logRd := c.logRd, logLost := c.logLost, lostNext := c.lostNext, thrSent := c.thrSent,
             evSeq := c.evSeq, alert := c.alert, evq := c.evq, evLate := c.evLate, evPend := c.evPend } := congrArg f h

theorem Hub.EventsOnly.logsOnly {b c : Hub} (h : b.EventsOnly c) : b.LogsOnly c := by
  unfold Hub.EventsOnly at h
  unfold Hub.LogsOnly
  rw [h]

theorem State.modHub_logsOnly {h : Fin 4} {f : Hub → Hub} {s : State} (hf : (s.hub h).LogsOnly (f (s.hub h))) (g : Fin 4) :
    (s.hub g).LogsOnly ((s.modHub h f).hub g) := by
  by_cases e : h = g
  · subst e
    rw [State.hub_modHub]
    exact hf
  · rw [State.hub_modHub_ne _ _ _ _ e]
    rfl

theorem State.logStamp_logsOnly (h : Fin 4) (time : W64) (code : Code) (part core flags : Nat) (arg0 arg1 : W64) (s : State) (g : Fin 4) :
    (s.hub g).LogsOnly ((s.logStamp h time code part core flags arg0 arg1).hub g) := by
  have hput (e : LogEntry) : (s.hub g).LogsOnly ((s.modHub h fun b => b.logPut e).hub g) := by
    refine State.modHub_logsOnly ?_ g
    rfl
  have hsent (t : State) : (t.hub g).LogsOnly ((t.modHub h fun b => { b with thrSent := true }).hub g) := by
    refine State.modHub_logsOnly ?_ g
    rfl
  unfold State.logStamp
  simp only
  split
  · exact ((hput _).trans (hsent _)).trans (State.sendEvent_eventsOnly ..).logsOnly
  · exact hput _


theorem State.logSrc_logsOnly (src : Source) (code : Code) (s : State) (g : Fin 4) : (s.hub g).LogsOnly ((s.logSrc src code).hub g) :=
  s.logStamp_logsOnly ..

theorem State.logSrc_hubsOnly (src : Source) (code : Code) (s : State) : s.HubsOnly (s.logSrc src code) := s.logStamp_frame ..

/-! SEC_GOWN, block by block (R429, R438) -/

/-- What is left of a map where the keys that f refuses go. -/
theorem Sparse.get_filter {α : Type} (d : α) (f : Nat → Bool) (m : Sparse α) (i : Nat) :
    Sparse.get d (m.filter fun e => f e.1) i = if f i then Sparse.get d m i else d := by
  induction m with
  | nil => simp [Sparse.get]
  | cons e m ih =>
    obtain ⟨k, x⟩ := e
    by_cases hk : f k = true
    · rw [List.filter_cons_of_pos (by exact hk)]
      simp only [Sparse.get, ih]
      by_cases hi : k = i
      · subst hi; simp [hk]
      · simp [hi]
    · rw [List.filter_cons_of_neg (by exact hk), ih]
      by_cases hi : k = i
      · subst hi; simp [hk]
      · simp [Sparse.get, hi]

section
variable (h : Fin 4) (b : Fin 32) (t : BitVec 4) (s : State)

theorem State.gown_setOwner (c : Fin 32) : ((s.setOwner h b t).hub h).gown[c] = if c = b then t else (s.hub h).gown[c] := by
  rw [State.setOwner, State.hub_modHub]
  by_cases e : c = b
  · subst e
    simp
  · have hval : b.val ≠ c.val := fun k => e (Fin.ext k.symm)
    simp [e, hval]

theorem State.gsems_setOwner (i : Nat) : Sparse.get 0 ((s.setOwner h b t).hub h).gsems i =
    if i / 64 = b.val then 0 else Sparse.get 0 (s.hub h).gsems i := by
  rw [State.setOwner, State.hub_modHub]
  refine (Sparse.get_filter 0 (fun k => decide (k / 64 ≠ b.val)) _ i).trans ?_
  by_cases e : i / 64 = b.val <;> simp [e]

theorem State.gctrs_setOwner (i : Nat) : Sparse.get 0 ((s.setOwner h b t).hub h).gctrs i =
    if i / 16 = b.val then 0 else Sparse.get 0 (s.hub h).gctrs i := by
  rw [State.setOwner, State.hub_modHub]
  refine (Sparse.get_filter 0 (fun k => decide (k / 16 ≠ b.val)) _ i).trans ?_
  by_cases e : i / 16 = b.val <;> simp [e]

end

section
variable (src : Source) (h w : Fin 4) (v : W32) (s : State)

/-- The block that field j of word w names. -/
def ownedBlock (w : Fin 4) (j : Fin 8) : Fin 32 := ⟨8 * w.val + j.val, by omega⟩

/-- The tenant that the word written names for a block. -/
def newOwner (v : W32) (b : Nat) : BitVec 4 := BitVec.ofNat 4 (fld v (4 * (b % 8)) 4)

/-- The word written changes the block's owner. -/
def State.OwnerChanges (b : Nat) : Prop :=
  b / 8 = w.val ∧ (newOwner v b).toNat < 13 ∧ newOwner v b ≠ vget 0 (s.hub h).gown b

/-- The block's owner runs a task. -/
def State.OwnerRuns (b : Nat) : Prop := ∃ p, (s.part p).tenant = vget 0 (s.hub h).gown b ∧ (s.part p).task.isSome = true

/-- What one field of the word written does (R429). -/
def ownerStep (r : Code × State) (j : Fin 8) : Code × State :=
  let b := ownedBlock w j
  let t : BitVec 4 := BitVec.ofNat 4 (fld v (4 * j.val) 4)
  let old := (r.2.hub h).gown[b]
  if 13 ≤ t.toNat ∨ t = old then r
  else if (List.finRange 12).any fun p => decide ((r.2.part p).tenant = old) && (r.2.part p).task.isSome then
    (0x8E03, if r.1 = 0 then r.2.logSrc src 0x8E03 else r.2)
  else (r.1, r.2.setOwner h b t)

/-- The block has a new owner once the fields js are done. -/
def State.OwnerGiven (js : List (Fin 8)) (b : Nat) : Prop :=
  (∃ j ∈ js, b = (ownedBlock w j).val) ∧ s.OwnerChanges h w v b ∧ ¬ s.OwnerRuns h b

open Classical in
/-- What a write of SEC_GOWN has done after the fields js. -/
structure State.OwnersDone (js : List (Fin 8)) (r : Code × State) : Prop where
  frame : s.HubsOnly r.2
  status : r.1 = 0 ∨ r.1 = 0x8E03
  kept : r.1 = 0x8E03 ↔ ∃ j ∈ js, s.OwnerChanges h w v (ownedBlock w j).val ∧ s.OwnerRuns h (ownedBlock w j).val
  gown : ∀ b : Fin 32, (r.2.hub h).gown[b] = if s.OwnerGiven h w v js b.val then newOwner v b.val else (s.hub h).gown[b]
  gsems : ∀ i, Sparse.get 0 (r.2.hub h).gsems i = if s.OwnerGiven h w v js (i / 64) then 0 else Sparse.get 0 (s.hub h).gsems i
  gctrs : ∀ i, Sparse.get 0 (r.2.hub h).gctrs i = if s.OwnerGiven h w v js (i / 16) then 0 else Sparse.get 0 (s.hub h).gctrs i

variable {src h w v s}

theorem State.gownWrite_of_served (hok : ¬ (s.life ≠ 2 ∧ ((List.range 8).any fun j => decide (1 ≤ fld v (4 * j) 4 ∧ fld v (4 * j) 4 ≤ 12)) = true)) :
    s.gownWrite src h w v = (List.finRange 8).foldl (ownerStep src h w v) (0, s) := if_neg hok

theorem State.OwnersDone.nil : s.OwnersDone h w v [] (0, s) where
  frame := rfl
  status := .inl rfl
  kept := by simp
  gown b := by simp [State.OwnerGiven]
  gsems i := by simp [State.OwnerGiven]
  gctrs i := by simp [State.OwnerGiven]

theorem newOwner_ownedBlock (w : Fin 4) (j : Fin 8) : newOwner v (ownedBlock w j).val = BitVec.ofNat 4 (fld v (4 * j.val) 4) := by
  have hmod : (ownedBlock w j).val % 8 = j.val := by
    simp only [ownedBlock]
    omega
  rw [newOwner, hmod]

theorem ownedBlock_inj {j k : Fin 8} (e : (ownedBlock w j).val = (ownedBlock w k).val) : j = k := by
  simp only [ownedBlock] at e
  omega

theorem State.ownerGiven_append {js : List (Fin 8)} {j : Fin 8} {b : Nat} : s.OwnerGiven h w v (js ++ [j]) b ↔
    s.OwnerGiven h w v js b ∨ (b = (ownedBlock w j).val ∧ s.OwnerChanges h w v b ∧ ¬ s.OwnerRuns h b) := by
  simp only [State.OwnerGiven, List.mem_append, List.mem_singleton, or_and_right, exists_or, exists_eq_left]

theorem State.OwnersDone.unset {js : List (Fin 8)} {j : Fin 8} {r : Code × State} (hd : s.OwnersDone h w v js r) (hj : j ∉ js) :
    (r.2.hub h).gown[ownedBlock w j] = vget 0 (s.hub h).gown (ownedBlock w j).val := by
  have hnot : ¬ s.OwnerGiven h w v js (ownedBlock w j).val := fun ⟨⟨k, hk, e⟩, _⟩ => hj (ownedBlock_inj e ▸ hk)
  rw [hd.gown, if_neg hnot, vget_fin]

open Classical in
/-- A field that gives nothing leaves what was done, beside the status and the log. -/
theorem State.OwnersDone.keep {js : List (Fin 8)} {j : Fin 8} {r : Code × State} {st : Code} {t : State} (hd : s.OwnersDone h w v js r)
    (hno : ¬ (s.OwnerChanges h w v (ownedBlock w j).val ∧ ¬ s.OwnerRuns h (ownedBlock w j).val))
    (ht : r.2.HubsOnly t) (hlog : (r.2.hub h).LogsOnly (t.hub h))
    (hst : st = if s.OwnerChanges h w v (ownedBlock w j).val then 0x8E03 else r.1) :
    s.OwnersDone h w v (js ++ [j]) (st, t) := by
  have hgiven (b : Nat) : s.OwnerGiven h w v (js ++ [j]) b ↔ s.OwnerGiven h w v js b := by
    rw [State.ownerGiven_append]
    exact or_iff_left fun ⟨e, k⟩ => hno (e ▸ k)
  refine ⟨hd.frame.trans ht, ?_, ?_, fun b => ?_, fun i => ?_, fun i => ?_⟩
  · rw [hst]
    split
    · exact .inr rfl
    · exact hd.status
  · have hlast : (∃ k ∈ js ++ [j], s.OwnerChanges h w v (ownedBlock w k).val ∧ s.OwnerRuns h (ownedBlock w k).val) ↔
        r.1 = 0x8E03 ∨ s.OwnerChanges h w v (ownedBlock w j).val := by
      have hruns : s.OwnerChanges h w v (ownedBlock w j).val → s.OwnerRuns h (ownedBlock w j).val :=
        fun hc => not_not.mp fun hr => hno ⟨hc, hr⟩
      simp only [List.mem_append, List.mem_singleton, or_and_right, exists_or, exists_eq_left, hd.kept, and_iff_left_of_imp hruns]
    rw [hlast, hst]
    split
    · simp_all
    · simp_all
  · rw [hlog.eq (Hub.gown ·)]
    simp only [hgiven, hd.gown]
  · rw [hlog.eq (Hub.gsems ·)]
    simp only [hgiven, hd.gsems]
  · rw [hlog.eq (Hub.gctrs ·)]
    simp only [hgiven, hd.gctrs]

open Classical in
/-- A block whose owner runs no task gets the tenant that the word names. -/
theorem State.OwnersDone.give {js : List (Fin 8)} {j : Fin 8} {r : Code × State} (hd : s.OwnersDone h w v js r)
    (hchg : s.OwnerChanges h w v (ownedBlock w j).val) (hrun : ¬ s.OwnerRuns h (ownedBlock w j).val) :
    s.OwnersDone h w v (js ++ [j]) (r.1, r.2.setOwner h (ownedBlock w j) (newOwner v (ownedBlock w j).val)) := by
  have hgiven (b : Nat) : s.OwnerGiven h w v (js ++ [j]) b ↔ s.OwnerGiven h w v js b ∨ b = (ownedBlock w j).val := by
    rw [State.ownerGiven_append]
    exact or_congr_right ⟨fun k => k.1, fun e => ⟨e, e ▸ hchg, e ▸ hrun⟩⟩
  refine ⟨hd.frame.trans rfl, hd.status, ?_, fun b => ?_, fun i => ?_, fun i => ?_⟩
  · rw [hd.kept]
    simp [List.mem_append, or_and_right, exists_or, hrun]
  · rw [State.gown_setOwner, hd.gown]
    by_cases e : b = ownedBlock w j
    · subst e
      rw [if_pos rfl, if_pos ((hgiven _).mpr (.inr rfl))]
    · simp only [if_neg e, (hgiven _).trans (or_iff_left fun k => e (Fin.ext k))]
  · rw [State.gsems_setOwner, hd.gsems]
    by_cases e : i / 64 = (ownedBlock w j).val
    · rw [if_pos e, if_pos ((hgiven _).mpr (.inr e))]
    · simp only [if_neg e, (hgiven _).trans (or_iff_left e)]
  · rw [State.gctrs_setOwner, hd.gctrs]
    by_cases e : i / 16 = (ownedBlock w j).val
    · rw [if_pos e, if_pos ((hgiven _).mpr (.inr e))]
    · simp only [if_neg e, (hgiven _).trans (or_iff_left e)]

theorem State.OwnersDone.step {js : List (Fin 8)} {j : Fin 8} {r : Code × State} (hd : s.OwnersDone h w v js r) (hj : j ∉ js) :
    s.OwnersDone h w v (js ++ [j]) (ownerStep src h w v r j) := by
  have hold := hd.unset hj
  have hnew := newOwner_ownedBlock (v := v) w j
  have hchg : s.OwnerChanges h w v (ownedBlock w j).val ↔
      ¬ (13 ≤ (newOwner v (ownedBlock w j).val).toNat ∨ newOwner v (ownedBlock w j).val = (r.2.hub h).gown[ownedBlock w j]) := by
    have hword : (ownedBlock w j).val / 8 = w.val := by
      simp only [ownedBlock]
      omega
    rw [State.OwnerChanges, hold, not_or, Nat.not_le]
    exact and_iff_right hword
  have hrun : s.OwnerRuns h (ownedBlock w j).val ↔ ((List.finRange 12).any fun p =>
      decide ((r.2.part p).tenant = (r.2.hub h).gown[ownedBlock w j]) && (r.2.part p).task.isSome) = true := by
    simp only [State.OwnerRuns, hold, hd.frame.eq (State.part ·), List.any_eq_true, Bool.and_eq_true, decide_eq_true_eq, List.mem_finRange,
      true_and]
    rfl
  simp only [ownerStep]
  rw [← hnew]
  split
  case isTrue hsame =>
    have hno := fun hc => hchg.mp hc hsame
    exact hd.keep (fun k => hno k.1) rfl rfl (if_neg hno).symm
  case isFalse hdiff =>
    split
    case isTrue hr =>
      have hlog : r.2.HubsOnly (if r.1 = 0 then r.2.logSrc src 0x8E03 else r.2) := by
        split
        · exact State.logSrc_hubsOnly ..
        · rfl
      have hlogs : (r.2.hub h).LogsOnly ((if r.1 = 0 then r.2.logSrc src 0x8E03 else r.2).hub h) := by
        split
        · exact State.logSrc_logsOnly ..
        · rfl
      exact hd.keep (fun k => k.2 (hrun.mpr hr)) hlog hlogs (if_pos (hchg.mpr hdiff)).symm
    case isFalse hr => exact hd.give (hchg.mpr hdiff) fun k => hr (hrun.mp k)

theorem State.OwnersDone.foldl {js : List (Fin 8)} (hnd : js.Nodup) : s.OwnersDone h w v js (js.foldl (ownerStep src h w v) (0, s)) := by
  induction js using List.reverseRecOn with
  | nil => exact .nil
  | append_singleton js j ih =>
    obtain ⟨hjs, -, hdis⟩ := List.nodup_append.mp hnd
    rw [List.foldl_append]
    exact (ih hjs).step fun hj => hdis j hj j List.mem_cons_self rfl

end

/-- A field names a block of the word. -/
theorem exists_ownedBlock {w : Fin 4} {b : Nat} (hb : b / 8 = w.val) : ∃ j : Fin 8, b = (ownedBlock w j).val := by
  refine ⟨⟨b % 8, Nat.mod_lt _ (by decide)⟩, ?_⟩
  simp only [ownedBlock]
  omega

/-- Settles O35: the fold over the word's fields gives what `State.OwnersDone` says of those done; its 8 fields name the
blocks of the word. -/
theorem globalBlockOwners : Obligations.GlobalBlockOwners := by
  unfold Obligations.GlobalBlockOwners
  intro src h w v s hr b new old runs changes leases
  have hleases : leases ↔ ((List.range 8).any fun j => decide (1 ≤ fld v (4 * j) 4 ∧ fld v (4 * j) 4 ≤ 12)) = true := by
    have hnew (j : Nat) (hj : j < 8) : (new j).toNat = fld v (4 * j) 4 := by
      have hmod : j % 8 = j := Nat.mod_eq_of_lt hj
      have hlt : fld v (4 * j) 4 < 2 ^ 4 := fld_lt ..
      simp only [new, hmod, BitVec.toNat_ofNat, Nat.mod_eq_of_lt hlt]
    simp only [leases, List.any_eq_true, List.mem_range, decide_eq_true_eq]
    exact exists_congr fun j => and_congr_right fun hj => by rw [hnew j hj]
  refine ⟨fun hlife hl => ?_, fun hok => ?_⟩
  · refine (next_regCommand _ hr).trans ?_
    rw [State.gownWrite, if_pos ⟨hlife, hleases.mp hl⟩]
  · have hserve : ¬ (s.life ≠ 2 ∧ ((List.range 8).any fun j => decide (1 ≤ fld v (4 * j) 4 ∧ fld v (4 * j) 4 ≤ 12)) = true) :=
      fun ⟨hlife, hl⟩ => hok.elim hlife fun hn => hn (hleases.mpr hl)
    have hd : s.OwnersDone h w v (List.finRange 8) (s.gownWrite src h w v) := by
      rw [State.gownWrite_of_served hserve]
      exact .foldl (List.nodup_finRange 8)
    have hgiven (k : Nat) : s.OwnerGiven h w v (List.finRange 8) k ↔ changes k ∧ ¬ runs k := by
      refine and_iff_right_of_imp fun ⟨⟨hword, _⟩, _⟩ => ?_
      obtain ⟨j, hj⟩ := exists_ownedBlock hword
      exact ⟨j, List.mem_finRange j, hj⟩
    refine ⟨(s.gownWrite src h w v).2, (s.gownWrite src h w v).1, next_regCommand _ hr, hd.status, hd.kept.trans ⟨?_, ?_⟩, fun j hj => ?_, ?_, ?_,
      hd.frame⟩
    · exact fun ⟨j, _, hj⟩ => ⟨_, (ownedBlock w j).isLt, hj⟩
    · rintro ⟨j, -, hc, hrun⟩
      obtain ⟨i, rfl⟩ := exists_ownedBlock hc.1
      exact ⟨i, List.mem_finRange i, hc, hrun⟩
    · have hg := hd.gown ⟨j, hj⟩
      simp only [new, old, vget_of_lt _ _ j hj]
      exact ⟨fun hc hrun => hg.trans (if_pos ((hgiven j).mpr ⟨hc, hrun⟩)), fun hc => hg.trans (if_neg fun k => hc ((hgiven j).mp k))⟩
    · exact fun i _ => ⟨fun hc => (hd.gsems i).trans (if_pos ((hgiven _).mpr hc)), fun hc => (hd.gsems i).trans (if_neg fun k => hc ((hgiven _).mp k))⟩
    · exact fun i _ => ⟨fun hc => (hd.gctrs i).trans (if_pos ((hgiven _).mpr hc)), fun hc => (hd.gctrs i).trans (if_neg fun k => hc ((hgiven _).mp k))⟩

end Sys2Proof.Machine
end

section
/-! O48: temperature, refresh, key swap, zero-fill and training of a stack (R307, R313, R315, R316, R321). -/

namespace Sys2Proof.Machine

/-! Temperature and refresh (R321) -/

section
variable {d : Fin 24} {t : Byte} {s : State}

/-- What the thresholds make of a stack at a reading: throttling, holding. -/
theorem exec_temperatureRead (hready : s.phase = .ready) (hfused : s.fused (stackPart d) = false) {throt hold : Bool}
    (hthrot : throt = if 95 ≤ t.toNat then true else if t.toNat < 90 then false else s.stackPorts[d].throt)
    (hhold : hold = if 105 ≤ t.toNat then true else if t.toNat < 100 then false else s.stackPorts[d].hold) :
    let u := s.modStack d fun k => { k with temp := t, throt := throt, hold := hold }
    let u := if throt && !s.stackPorts[d].throt then u.logPart (stackPart d) 0x5D10 0 else u
    exec (.temperatureRead d t) s = .next (if hold && !s.stackPorts[d].hold then
      (u.logPart (stackPart d) 0x5D11 0).sendEvent (homeHub (stackPart d)) 2 0x5D11 (stackPart d).val 0 0 else u) := by
  subst hthrot hhold
  exact congrArg Host.Outcome.next (if_pos ⟨hready, hfused⟩)

theorem exec_refresh (hready : s.phase = .ready) (hfused : s.fused (stackPart d) = false) (rfm : Bool) :
    exec (.refresh d rfm) s = .next (s.modStack d fun k => if rfm then { k with rfms := k.rfms + 1 } else { k with refreshes := k.refreshes + 1 }) :=
  congrArg Host.Outcome.next (if_pos ⟨hready, hfused⟩)

end

/-! Key swap and zero-fill (R313, R315, R316) -/

section
variable {r : Fin 1536} {s : State}

theorem State.secResume_of_idle (hnow : s.secNow = none) (hq : s.secQ = []) : s.secResume = s := by
  have hstep : s.secStep = s := by simp only [State.secStep, hnow, hq]
  simp only [State.secResume, hstep]

theorem State.swapDue_of_some {fill : Bool} (h : s.regions[r].swap = some fill) : s.swapDue r = s.rekeyRegion r fill := by
  simp only [State.swapDue, h]

/-- The bytes that new keys leave: those outside the region. -/
theorem State.mem_hbm_rekeyRegion (fill : Bool) (e : Nat × Byte) :
    e ∈ (s.rekeyRegion r fill).hbm ↔ e ∈ s.hbm ∧ (e.1 < regionBase r ∨ regionBase r + 2 ^ 30 ≤ e.1) := by
  refine List.mem_filter.trans (and_congr_right fun _ => ?_)
  rw [Bool.not_eq_true', Bool.and_eq_false_iff, decide_eq_false_iff_not, decide_eq_false_iff_not, Nat.not_le, Nat.not_lt]

theorem exec_zeroFillDone_of_fill (hfill : s.regions[r].fill = true) : exec (.zeroFillDone r) s =
    .next ((s.modRegion r fun e => { e with fill := false, zero := true }).modStack (stackNo (r.val / 64)) fun k =>
      { k with badUnits := k.badUnits.filter fun u => !(decide (r.val % 64 * 2 ^ 24 ≤ u) && decide (u < (r.val % 64 + 1) * 2 ^ 24)) }) :=
  congrArg Host.Outcome.next (if_pos hfill)

end

/-! Training (R307, R473) -/

section
variable {d : Fin 24} {s : State}

theorem State.warm_logPart (p : Fin 12) (code : Code) (arg : W64) (s : State) : (s.logPart p code arg).warm = s.warm :=
  (State.logPart_hubsOnly ..).eq State.warm

theorem State.allTrained_iff (ok : Bool) :
    ((List.finRange 24).all fun e => !(s.modStack d fun k => { k with training := false, up := ok }).stackPorts[e].training) = true ↔
      ∀ e, e ≠ d → s.stackPorts[e].training = false := by
  have hport (e : Fin 24) : (s.modStack d fun k => { k with training := false, up := ok }).stackPorts[e].training =
      if e = d then false else s.stackPorts[e].training := by
    by_cases he : e = d
    · subst he
      rw [State.stack_modStack, if_pos rfl]
    · rw [State.stack_modStack_ne _ _ _ _ (Ne.symm he), if_neg he]
  simp only [List.all_eq_true, List.mem_finRange, true_imp_iff, hport, Bool.not_eq_true']
  exact forall_congr' fun e => by by_cases he : e = d <;> simp [he]

end

/-- Settles O48: the thresholds' bands decide the two flags of a reading; a swap, a fill and a training are the operations above. -/
theorem stackUpkeep : Obligations.StackUpkeep := by
  unfold Obligations.StackUpkeep
  refine ⟨fun d t s hready hfused => ?_, fun r s => ⟨fun hswap => ?_, State.secResume_of_idle, fun fill hswap => ?_, fun hfill => ?_, fun hfill => ?_⟩,
    fun d s htrain hready hwarm => ⟨fun hall => ?_, fun e he hte => ?_⟩, fun d ok s htrain hready hwarm => ?_⟩
  · intro k p s' T
    have hT : t.toNat = T := rfl
    have hread {throt hold : Bool} := exec_temperatureRead (t := t) (throt := throt) (hold := hold) hready hfused
    simp only [hT] at hread
    refine ⟨fun hlo hhi => ?_, fun hhi => ?_, fun hlo hhi => ?_, fun hlo hhi => ?_, fun hlo hthrot => ?_, exec_refresh hready hfused false,
      exec_refresh hready hfused true⟩
    · refine (hread (throt := k.throt) (hold := false) ?_ ?_).trans ?_
      · rw [if_neg (by omega), if_neg (by omega)]
      · rw [if_neg (by omega), if_pos (by omega)]
      · rw [Bool.and_not_self]
        rfl
    · refine (hread (throt := false) (hold := false) ?_ ?_).trans rfl
      · rw [if_neg (by omega), if_pos (by omega)]
      · rw [if_neg (by omega), if_pos (by omega)]
    · refine (hread (throt := true) (hold := false) ?_ ?_).trans ?_
      · rw [if_pos (by omega)]
      · rw [if_neg (by omega), if_pos (by omega)]
      · cases k.throt <;> rfl
    · refine (hread (throt := true) (hold := k.hold) ?_ ?_).trans ?_
      · rw [if_pos (by omega)]
      · rw [if_neg (by omega), if_neg (by omega)]
      · rw [Bool.and_not_self]
        cases k.throt <;> rfl
    · refine (hread (throt := true) (hold := true) ?_ ?_).trans ?_
      · rw [if_pos (by omega)]
      · rw [if_pos (by omega)]
      · rw [show s.stackPorts[d].throt = true from hthrot]
        cases k.hold <;> rfl
  · refine congrArg (fun t : State => Host.Outcome.next t.secResume) ?_
    exact State.swapDue_of_none hswap
  · refine ⟨s.rekeyRegion r fill, ?_, rfl, fun e => State.mem_hbm_rekeyRegion fill e, rfl⟩
    exact congrArg (fun t : State => Host.Outcome.next t.secResume) (State.swapDue_of_some hswap)
  · exact congrArg Host.Outcome.next (if_neg (by rw [hfill]; exact Bool.false_ne_true))
  · exact ⟨_, exec_zeroFillDone_of_fill hfill, rfl, fun e he => State.stack_modStack_ne _ _ _ _ he.symm, rfl⟩
  · refine (congrArg Host.Outcome.next (if_pos ⟨htrain, hready⟩)).trans ?_
    refine congrArg Host.Outcome.next (if_pos ?_)
    rw [Bool.and_eq_true]
    exact ⟨hwarm, (State.allTrained_iff true).mpr hall⟩
  · refine (congrArg Host.Outcome.next (if_pos ⟨htrain, hready⟩)).trans ?_
    refine congrArg Host.Outcome.next (if_neg ?_)
    rw [Bool.and_eq_true]
    exact fun h => Bool.false_ne_true (((State.allTrained_iff true).mp h.2 e he).symm.trans hte)
  · refine (congrArg Host.Outcome.next (if_pos ⟨htrain, hready⟩)).trans ?_
    cases ok with
    | true =>
      refine congrArg Host.Outcome.next (if_neg ?_)
      rw [Bool.and_eq_true]
      exact fun h => Bool.false_ne_true (hwarm.symm.trans h.1)
    | false =>
      refine congrArg Host.Outcome.next (if_neg ?_)
      rw [Bool.and_eq_true]
      refine fun h => Bool.false_ne_true (hwarm.symm.trans (Eq.trans ?_ h.1))
      rw [if_neg Bool.false_ne_true, State.warm_logPart]
      rfl

end Sys2Proof.Machine
end

section
/-! O58: a step runs the command at the front of the queue (R359, R409, R430, R466). -/

namespace Sys2Proof.Machine

theorem step_cons (c : Instr) (rest : List Instr) (s : State) : step { s with pending := c :: rest } = exec c { s with pending := rest } := rfl

theorem step_nil {s : State} (h : s.pending = []) : step s = .next s.tick := by simp only [step, h]

/-! Where nothing waits (R409, R430) -/

theorem State.capTry_of_idle {s : State} (h : s.capWait = []) : s.capTry = s := by simp only [State.capTry, h]

theorem State.longOps_of_idle {s : State} (hnow : s.secNow = none) (hq : s.secQ = []) (hcap : s.capWait = []) : s.longOps = s := by
  rw [State.longOps, State.secResume_of_idle hnow hq, State.capTry_of_idle hcap]

/-! The edges of the fabric clocks (R359) -/

/-- Beside flip-flops and the values drawn, an edge of the fabric clocks leaves the block as it was. -/
theorem State.fabricEdges_frame (s : State) :
    s.fabricEdges = { s with parts := s.fabricEdges.parts, hubs := s.fabricEdges.hubs, free := s.fabricEdges.free } := by
  unfold State.fabricEdges
  split <;> rfl

theorem State.part_fabricEdges (p : Fin 12) (s : State) :
    s.fabricEdges.part p = { s.part p with flops := (s.fabricEdges.part p).flops } := by
  unfold State.fabricEdges
  split
  · rfl
  · simp [State.part, State.drawn]

theorem State.hub_fabricEdges (h : Fin 4) (s : State) :
    s.fabricEdges.hub h = { s.hub h with flops := (s.fabricEdges.hub h).flops } := by
  unfold State.fabricEdges
  split
  · rfl
  · simp [State.hub, State.drawn]

/-! One MCLK cycle (R192, R466) -/

theorem Part.cycle_skip (free : Nat → W32) (q : Part) : (q.cycle free).skip = BitVec.ofNat 17 (q.skip.toNat - 4) := by
  unfold Part.cycle
  simp only
  split <;> rfl

theorem Part.cycle_cores (free : Nat → W32) (q : Part) : (q.cycle free).cores = q.cores := by
  unfold Part.cycle
  simp only
  split <;> rfl

theorem State.part_mclk (p : Fin 12) (s : State) : s.mclk.part p = (s.part p).cycle fun k => s.freeLane (3 * p.val + k) := by
  simp [State.part, State.mclk]

theorem State.skip_mclk (p : Fin 12) (s : State) : (s.mclk.part p).skip = BitVec.ofNat 17 ((s.part p).skip.toNat - 4) := by
  rw [State.part_mclk, Part.cycle_skip]

theorem State.cores_mclk (p : Fin 12) (s : State) : (s.mclk.part p).cores = (s.part p).cores := by
  rw [State.part_mclk, Part.cycle_cores]

theorem State.dieTime_mclk (d : Fin 28) (s : State) : s.mclk.dieTime[d] = s.dieTime[d] + if s.half then 3 else 2 := by
  simp [State.mclk]

/-- Settles O58: a cycle that the fabric clocks' edges follow, each by its frame. -/
theorem stepRunsTheCommand : Obligations.StepRunsTheCommand := by
  unfold Obligations.StepRunsTheCommand
  refine ⟨step_cons, fun s hs => ⟨s.tick, step_nil hs, fun hoff => if_pos hoff, fun hon => ⟨s.mclk.fabricEdges, if_neg hon, ?_⟩⟩, fun s nbits w => rfl⟩
  have hsame {β : Type} (f : State → β) := congrArg f s.mclk.fabricEdges_frame
  have hnow : s.mclk.fabricEdges.secNow = s.secNow := hsame State.secNow
  have hq : s.mclk.fabricEdges.secQ = s.secQ := hsame State.secQ
  have hcap : s.mclk.fabricEdges.capWait = s.capWait := hsame State.capWait
  refine ⟨fun h1 h2 h3 => (if_neg hon).trans (State.longOps_of_idle (hnow.trans h1) (hq.trans h2) (hcap.trans h3)),
    hsame State.half, fun d => ?_, (hsame State.pending).trans hs, hsame State.links, hsame State.hbm, hsame State.stackPorts, hsame State.regions,
    hnow, hq, hcap, fun h => s.mclk.hub_fabricEdges h, fun p => ⟨?_, ?_⟩⟩
  · rw [hsame State.dieTime]
    exact s.dieTime_mclk d
  · exact (congrArg Part.skip (State.part_fabricEdges p s.mclk)).trans (s.skip_mclk p)
  · exact (congrArg Part.cores (State.part_fabricEdges p s.mclk)).trans (s.cores_mclk p)

end Sys2Proof.Machine
end

section
/-! O14: taking an abort (R417, R444, R445). -/

namespace Sys2Proof.Machine

section
variable {p : Fin 12} {info : AbortInfo} {s : State}

theorem State.abort_stopPart : ((s.stopPart p info).part p).abort = some info := by
  simp [State.stopPart, State.part, State.modPart]

theorem State.core_stopPart (k : Fin 32) : (s.stopPart p info).core p k =
    { ((s.core p k).abandon fun i => s.freeLane (2 ^ 40 * k.val + i)).discard with chans := (s.core p k).chans.map (Chan.beginFlush s.now) } := by
  simp only [State.core, State.stopPart, State.modPart]
  simp

theorem State.part_stopPart_ne {q : Fin 12} (hq : q ≠ p) : (s.stopPart p info).part q = { s.part q with subQ := dropSubs p (s.part q).subQ } := by
  have hval : p.val ≠ q.val := fun e => hq (Fin.ext e.symm)
  simp [State.stopPart, State.part, State.modPart, hval, State.drawn]

theorem State.claims_stopPart (n : Fin 32) : ((s.stopPart p info).part p).claims[n] =
    if (s.part p).claims[n].owner = 1 then { (s.part p).claims[n] with owner := 0, free := true } else (s.part p).claims[n] := by
  simp [State.stopPart, State.part, State.modPart, State.drawn]
  rfl

theorem State.reports_stopPart (h : Fin 4) : ((s.stopPart p info).hub h).reports = (s.hub h).reports := by
  simp [State.stopPart, State.hub, State.modPart, State.drawn]

theorem State.stopPart_frame : s.stopPart p info = { s with parts := (s.stopPart p info).parts, hubs := (s.stopPart p info).hubs, free := s.free + 1 } := rfl

/-- The partition's first abort (R444). -/
theorem State.abortCore_first {t : TaskDesc} {l : Fin 32} {code : Code} {arg : W64} (htask : (s.part p).task = some t) (hnone : (s.part p).abort = none) :
    s.abortCore p l code arg = (s.stopPart p
      { code := code, arg := arg, time := s.now, core := BitVec.ofNat 8 l.val,
        waits := (s.part p).waiters s.now, dump := none, dumpBad := false }).modHub t.hub fun b => { b with reports := b.reports ++ [(p, t.serial, code)] } := by
  simp only [State.abortCore, State.abortWith, htask, hnone]

theorem State.abortCore_later {t : TaskDesc} {i : AbortInfo} {l : Fin 32} {code : Code} {arg : W64} (htask : (s.part p).task = some t)
    (hsome : (s.part p).abort = some i) : s.abortCore p l code arg = s.logAt (homeHub p) code p.val l.val 2 t.id arg := by
  simp only [State.abortCore, State.abortWith, htask, hsome]

theorem State.abortCore_idle {l : Fin 32} {code : Code} {arg : W64} (htask : (s.part p).task = none) :
    s.abortCore p l code arg = (s.logAt (homeHub p) code p.val l.val 0 0 arg).sendEvent (homeHub p) 2 code p.val 0 0 := by
  simp only [State.abortCore, State.abortWith, htask]

end

/-- Settles O14: by the three cases of `State.abortWith`; the first abort is the stop of the partition, reported to the hub. -/
theorem abortStopsThePartition : Obligations.AbortStopsThePartition := by
  unfold Obligations.AbortStopsThePartition
  intro p l code arg s
  refine ⟨fun t htask hnone => ?_, fun t i htask hsome => State.abortCore_later htask hsome, State.abortCore_idle⟩
  rw [State.abortCore_first htask hnone]
  generalize ({ code := code, arg := arg, time := s.now, core := BitVec.ofNat 8 l.val,
                waits := (s.part p).waiters s.now, dump := none, dumpBad := false } : AbortInfo) = info
  have hpart (q : Fin 12) (f : Hub → Hub) : ((s.stopPart p info).modHub t.hub f).part q = (s.stopPart p info).part q := rfl
  have hcore (k : Fin 32) (f : Hub → Hub) : ((s.stopPart p info).modHub t.hub f).core p k = (s.stopPart p info).core p k := rfl
  simp only [hpart, hcore, State.hub_modHub, State.reports_stopPart, State.abort_stopPart, State.claims_stopPart, State.core_stopPart]
  refine ⟨trivial, fun k => ⟨_, rfl, fun i => ?_⟩, fun q hq => State.part_stopPart_ne hq, trivial, fun n => trivial, rfl⟩
  exact Vector.getElem_map _ i.isLt

end Sys2Proof.Machine
end

section
/-! O57: test access (R437, R479 to R485). -/

namespace Sys2Proof.Machine

section
variable {s : State}

/-! TAP instructions (R437, R479 to R482) -/

theorem State.tapSelect_of_powered (hp : s.pwrOk = true) (d : Fin 28) (code : Byte) (row : Nat) (here : Bool) :
    s.tapSelect d code row here = { s with tap := s.tap.set d (if here = true ∧ s.gate row = true then code else 0xFF) } := by
  simp only [State.tapSelect, if_pos hp, Bool.and_eq_true]

theorem State.gate_life (s : State) : s.gate 1 = true ∧ (s.gate 2 = true ↔ s.life ≠ 2) ∧ (s.gate 4 = true ↔ s.life ≠ 2)
    ∧ (s.gate 5 = true ↔ s.life = 0 ∨ s.life = 4) :=
  ⟨rfl, decide_eq_true_iff, decide_eq_true_iff, decide_eq_true_iff⟩

theorem State.tapActs_pins {d : Fin 28} (h : s.tap[d] = 3 ∨ s.tap[d] = 4 ∨ s.tap[d] = 5) :
    s.tapActs d = if s.rstN then 0xFF else s.tap[d] := by
  simp only [State.tapActs, h, true_and]

theorem idcodeOf_fields (d : Fin 28) : fld (idcodeOf d) 28 4 = 1 ∧ fld (idcodeOf d) 12 16 = (if d.val < 24 then 0xC012 else 0xC112)
    ∧ fld (idcodeOf d) 1 11 = 0x5E7 ∧ fld (idcodeOf d) 0 1 = 1 := by
  by_cases hd : d.val < 24
  · simp only [idcodeOf, if_pos hd]
    decide
  · simp only [idcodeOf, if_neg hd]
    decide

/-! Probe selection (R485) -/

theorem exec_probesel_hub (hp : s.pwrOk = true) {d : Fin 28} {h : Fin 4} (hd : d.val = 24 + h.val) (hg : s.gate 4 = true) (sel : BitVec 256) :
    exec (.probesel d sel) s = .next (State.modHub h (fun b => { b with probe := sel }) { s with tap := s.tap.set d 0x30 }) := by
  have hhub : hubNo d.val = h := by
    apply Fin.ext
    simp only [hubNo]
    omega
  have h24 : decide (24 ≤ d.val) = true := decide_eq_true (by omega)
  refine congrArg Host.Outcome.next ?_
  simp only [hhub, State.tapSelect_of_powered hp, h24, hp, hg, Bool.and_self, if_true, and_self]

theorem exec_probesel_closed (hp : s.pwrOk = true) {d : Fin 28} (h : d.val < 24 ∨ s.gate 4 = false) (sel : BitVec 256) :
    exec (.probesel d sel) s = .next { s with tap := s.tap.set d 0xFF } := by
  have hno : ¬ (decide (24 ≤ d.val) = true ∧ s.gate 4 = true) := by
    rw [decide_eq_true_iff]
    rintro ⟨hd, hg⟩
    exact h.elim (fun k => by omega) fun k => Bool.false_ne_true (k.symm.trans hg)
  refine congrArg Host.Outcome.next ?_
  simp only [State.tapSelect_of_powered hp, hp, Bool.true_and, Bool.and_eq_true, if_neg hno]

/-! Wrappers (R483, R484) -/

theorem exec_mbistComplete (hp : s.pwrOk = true) {d : Fin 28} {t : BitVec 5} {i : WrapId} (hi : wrapAt d t = some i)
    (hrun : (s.wrapper i).status = 2) (pass : Bool) :
    exec (.mbistComplete d t pass) s = .next (s.setWrapper i { s.wrapper i with status := if pass then 3 else 4 }) := by
  refine (congrArg Host.Outcome.next ?_ : execMbistComplete d t pass s = _)
  simp only [hi, if_pos (And.intro hp hrun)]

theorem Core.wrap_wipe (c : Core) (b : Bool) (g : Vector (BitVec 16) 32) : (c.wipe b g).wrap = c.wrap := by
  simp only [Core.wipe]

/-- Leaving a test wipes a core, and keeps its wrapper. -/
theorem State.wrapper_leaveTest (i : WrapId) (wir : BitVec 3) (s : State) : (s.leaveTest i wir).wrapper i = s.wrapper i := by
  cases i with
  | core p l =>
    simp only [State.leaveTest, State.wrapper]
    split
    · rw [State.core_modCore, Core.wrap_wipe]
    · rfl
  | die p b => rfl
  | hub h => rfl

theorem State.wrapInstr_nowhere {d : Fin 28} {t : BitVec 5} (hi : wrapAt d t = none) (wir : BitVec 3) (data : W32) :
    s.wrapInstr d t wir data = s := by
  unfold State.wrapInstr
  simp only [hi, ite_self]

section
variable {d : Fin 28} {t : BitVec 5} {i : WrapId} {wir : BitVec 3}

theorem State.wrapInstr_refused (hp : s.pwrOk = true) (htap : s.tap[d] = 0x10) (hi : wrapAt d t = some i)
    (hno : ¬ (wir = 0 ∨ s.wrapOpen i = true)) (data : W32) :
    s.wrapInstr d t wir data = (s.leaveTest i 0).setWrapper i { wir := 0, status := 1, data := data, tested := (s.wrapper i).tested } := by
  have hok : (decide (wir = 0) || s.wrapOpen i) = false := by
    rw [Bool.eq_false_iff, ne_eq, Bool.or_eq_true, decide_eq_true_iff]
    exact hno
  have htest : isTest 0 = false := rfl
  simp only [State.wrapInstr, hp, htap, decide_true, Bool.and_self, if_true, hi, hok, Bool.false_eq_true, if_false, State.wrapper_leaveTest, htest,
    Bool.or_false]

theorem State.wrapInstr_accepted (hp : s.pwrOk = true) (htap : s.tap[d] = 0x10) (hi : wrapAt d t = some i)
    (hok : wir = 0 ∨ s.wrapOpen i = true) (data : W32) :
    s.wrapInstr d t wir data = (s.leaveTest i wir).setWrapper i
      { wir := wir, data := data, tested := (s.wrapper i).tested || isTest wir,
        status := if wir = 3 then 2 else if wir = 4 ∧ 2 ≤ (s.wrapper i).status.toNat then (s.wrapper i).status else 0 } := by
  have hok' : (decide (wir = 0) || s.wrapOpen i) = true := by
    rw [Bool.or_eq_true, decide_eq_true_iff]
    exact hok
  simp only [State.wrapInstr, hp, htap, decide_true, Bool.and_self, if_true, hi, hok', Bool.true_eq_false, if_false, State.wrapper_leaveTest]

end

end

/-- Settles O57: every TAP instruction is `State.tapSelect` of its code and row, every wrapper instruction `State.wrapInstr` of its code. -/
theorem testAccess : Obligations.TestAccess := by
  unfold Obligations.TestAccess
  refine ⟨fun s hp => congrArg Host.Outcome.next (if_pos hp), fun d s i code row here hp hi => ?_, fun d sel s hp => ⟨fun h hd hg => ?_, fun h => exec_probesel_closed hp h sel⟩,
    State.gate_life, fun d s => State.tapActs_pins, idcodeOf_fields, fun d t data s c wir hp htap hc => ?_, fun p l wir s => ?_,
    fun s p l b => ⟨Iff.rfl, ?_⟩, fun d t pass i s hp hi hrun => exec_mbistComplete hp hi hrun pass⟩
  · have hsel : exec i s = .next (s.tapSelect d code row here) := by
      simp only [List.mem_cons, Prod.mk.injEq, List.not_mem_nil, or_false] at hi
      rcases hi with ⟨rfl, rfl, rfl, rfl⟩ | ⟨rfl, rfl, rfl, rfl⟩ | ⟨rfl, rfl, rfl, rfl⟩ | ⟨rfl, rfl, rfl, rfl⟩ | ⟨rfl, rfl, rfl, rfl⟩ | ⟨rfl, rfl, rfl, rfl⟩
        | ⟨rfl, rfl, rfl, rfl⟩ | ⟨rfl, rfl, rfl, rfl⟩ | ⟨rfl, rfl, rfl, rfl⟩ <;> rfl
    rw [hsel, State.tapSelect_of_powered hp]
  · exact ⟨_, exec_probesel_hub hp hd hg sel, rfl, State.hub_modHub .., rfl⟩
  · have hrun : exec c s = .next (s.wrapInstr d t wir data) := by
      simp only [List.mem_cons, Prod.mk.injEq, List.not_mem_nil, or_false] at hc
      rcases hc with ⟨rfl, rfl⟩ | ⟨rfl, rfl⟩ | ⟨rfl, rfl⟩ | ⟨rfl, rfl⟩ | ⟨rfl, rfl⟩ <;> rfl
    rw [hrun]
    refine ⟨fun hi => by rw [State.wrapInstr_nowhere hi], fun i hi => ⟨fun hno => ?_, fun hok => ?_⟩⟩
    · rw [State.wrapInstr_refused hp htap hi hno]
    · rw [State.wrapInstr_accepted hp htap hi hok]
      refine ⟨_, rfl, fun h3 => if_pos h3, fun h3 h4 => ?_⟩
      rw [if_neg h3, if_neg fun h => h4 h.1]
  · have htest : (isTest (s.core p l).wrap.wir && decide ((s.core p l).wrap.wir ≠ wir)) = true ↔
        isTest (s.core p l).wrap.wir = true ∧ (s.core p l).wrap.wir ≠ wir := by
      rw [Bool.and_eq_true, decide_eq_true_iff]
    refine ⟨fun h1 h2 => if_pos (htest.mpr ⟨h1, h2⟩), fun h => if_neg fun k => ?_⟩
    obtain ⟨h1, h2⟩ := htest.mp k
    exact h.elim (fun e => Bool.false_ne_true (e.symm.trans h1)) h2
  · simp only [State.wrapOpen, Bool.and_eq_true, decide_eq_true_iff]

end Sys2Proof.Machine
end

section
/-! O36: LINK_CTL and LINK_CERT (R375, R392, R402). -/

namespace Sys2Proof.Machine

/-! Steps that change links and the random generator only -/

/-- Beside its links and the generator, t is s. -/
def State.LinksOnly (s t : State) : Prop := t = { s with links := t.links, drbg := t.drbg }

theorem State.LinksOnly.trans {s t u : State} (h : s.LinksOnly t) (k : t.LinksOnly u) : s.LinksOnly u := by
  unfold State.LinksOnly at *
  rw [k, h]

theorem State.LinksOnly.eq {β : Type} {s t : State} (h : s.LinksOnly t) (f : State → β) : f t = f { s with links := t.links, drbg := t.drbg } :=
  congrArg f h

theorem State.LinksOnly.foldl {α : Type} {f : State → α → State} (l : List α) (s : State) (h : ∀ t : State, ∀ a ∈ l, t.LinksOnly (f t a)) :
    s.LinksOnly (l.foldl f s) :=
  List.foldlRecOn l f rfl fun t ht a ha => ht.trans (h t a ha)

theorem State.modLink_linksOnly (n : Fin 16) (f : Link → Link) (s : State) : s.LinksOnly (s.modLink n f) := rfl

theorem State.linkPacket_linksOnly (n : Fin 16) (ptype : Nat) (data : List Byte) (s : State) : s.LinksOnly (s.linkPacket n ptype data) := by
  unfold State.linkPacket State.egress
  exact State.modLink_linksOnly ..

theorem State.sendFinish_linksOnly (n : Fin 16) (s : State) : s.LinksOnly (s.sendFinish n) := by
  unfold State.sendFinish
  simp only
  split
  · exact State.linkPacket_linksOnly ..
  · rfl

theorem State.sendHello_linksOnly (n : Fin 16) (s : State) : s.LinksOnly (s.sendHello n) := by
  unfold State.sendHello
  simp only
  split
  · refine State.LinksOnly.trans (t := { s with drbg := s.drbg + 3 }) rfl ?_
    exact ((State.modLink_linksOnly ..).trans (State.linkPacket_linksOnly ..)).trans (State.sendFinish_linksOnly ..)
  · rfl

/-! The own certificate (R402) -/

/-- The state with VALID recomputed at every hub. -/
def State.certified (s : State) : State := { s with hubs := s.hubs.map fun (b : Hub) => { b with certv := s.ownCert b } }

theorem State.recert_linksOnly (s : State) : s.certified.LinksOnly s.recert :=
  State.LinksOnly.foldl _ _ fun t n _ => t.sendHello_linksOnly n

theorem State.certv_recert (g : Fin 4) (s : State) : (s.recert.hub g).certv = s.ownCert (s.hub g) := by
  refine (s.recert_linksOnly.eq fun t => (t.hub g).certv).trans ?_
  simp [State.certified, State.hub]

theorem State.cert_recert (s : State) : s.recert.cert = s.cert := s.recert_linksOnly.eq State.cert

/-! LINK_CTL (R375, R392) -/

section
variable {n : Fin 16} {v : W32} {s : State}

/-- The state with DISABLE as written. -/
def State.disableWritten (n : Fin 16) (v : W32) (s : State) : State := s.modLink n fun k => { k with disable := bit v 0 }

theorem State.state_disableWritten : (s.disableWritten n v).links[n].state = s.links[n].state := by
  rw [State.disableWritten, State.link_modLink]

/-- A write of LINK_CTL: the session that it ends, and KEYUPD. -/
theorem State.linkCtl_eq (n : Fin 16) (v : W32) (s : State) : s.linkCtl n v =
    let stopped := decide (s.links[n].state = .quar ∨ s.links[n].state = .disabled)
    let t := if (if stopped then bit v 1 else bit v 0) then (s.disableWritten n v).endSession n Link.toIdle else s.disableWritten n v
    if bit v 2 && decide (t.links[n].state = .active) then t.linkPacket n 8 [] else t := by
  rw [← State.state_disableWritten (n := n) (v := v)]
  rfl

theorem State.linkCtl_of_no_rekey (hkey : bit v 2 = false) : s.linkCtl n v =
    if (if s.links[n].state = .quar ∨ s.links[n].state = .disabled then bit v 1 else bit v 0) = true then
      (s.disableWritten n v).endSession n Link.toIdle
    else s.disableWritten n v := by
  simp only [State.linkCtl_eq, hkey, Bool.false_and, Bool.false_eq_true, if_false, decide_eq_true_eq]

theorem State.linkCtl_rekey (hkey : bit v 2 = true) (hon : bit v 0 = false) (hactive : s.links[n].state = .active) :
    s.linkCtl n v = (s.disableWritten n v).linkPacket n 8 [] := by
  have hfree : ¬ (LinkState.active = .quar ∨ LinkState.active = .disabled) := by decide
  simp only [State.linkCtl_eq, hkey, hon, hactive, hfree, decide_false, Bool.false_eq_true, if_false, State.state_disableWritten, decide_true,
    Bool.and_self, if_true]

end

/-- Where nothing waits for any link, the end of a session changes the link alone. -/
theorem State.endSession_of_no_waits {s : State} {f : Link → Link} (h : ∀ m : Fin 16, s.links[m].waits = []) (n : Fin 16)
    (hf : (f s.links[n]).waits = []) : s.endSession n f = s.modLink n f := by
  have hwaits (m : Fin 16) : (s.modLink n f).links[m].waits = [] := by
    by_cases e : n = m
    · subst e
      rw [State.link_modLink, hf]
    · rw [State.link_modLink_ne f (Ne.symm e), h]
  have hmod : s.modLink n (fun k => { f k with waits := [] }) = s.modLink n f := by
    have hsame : { f s.links[n] with waits := [] } = f s.links[n] := by rw [← hf]
    simp only [State.modLink, hsame]
  have hmap : (s.modLink n f).links.map (fun (k : Link) => { k with waits := k.waits.map (Waiting.unlinked n) }) = (s.modLink n f).links := by
    refine Vector.ext fun i hi => ?_
    have hnone : (s.modLink n f).links[i].waits = [] := hwaits ⟨i, hi⟩
    rw [Vector.getElem_map, hnone, List.map_nil, ← hnone]
  simp only [State.endSession, h n, List.map_nil, List.foldl_nil, hmod, hmap]

/-- Settles O36: a write of LINK_CTL by the cases of `State.linkCtl_eq`, one of LINK_CERT by what `State.recert` leaves. -/
theorem linkControlRegisters : Obligations.LinkControlRegisters := by
  unfold Obligations.LinkControlRegisters
  intro src n v s held take
  refine ⟨fun hr => ⟨fun hkey c hc => ?_, fun hkey hon hactive => ?_⟩, fun k => ⟨rfl, rfl⟩, fun h => State.endSession_of_no_waits h n rfl,
    fun h w hsrc hr => ?_⟩
  · have hrun : exec c s = .next (State.answered 0 0 (s.linkCtl n v)) := by
      rcases hc with rfl | ⟨rfl, hrearm⟩
      · exact next_regCommand_zero hr rfl
      · exact (congrArg Host.Outcome.next (if_pos hrearm)).trans (next_regCommand_zero hr rfl)
    rw [hrun, State.linkCtl_of_no_rekey hkey]
    refine ⟨fun hh h1 => ?_, fun hh h1 => ?_, fun hh h0 => ?_, fun hh h0 => ?_⟩
    · rw [if_pos ((if_pos hh).trans h1)]
      rfl
    · rw [if_neg fun k => Bool.false_ne_true (h1.symm.trans ((if_pos hh).symm.trans k))]
      rfl
    · rw [if_pos ((if_neg hh).trans h0)]
      rfl
    · rw [if_neg fun k => Bool.false_ne_true (h0.symm.trans ((if_neg hh).symm.trans k))]
      rfl
  · refine (congrArg Host.Outcome.next (if_pos hkey)).trans ?_
    refine next_regCommand_zero hr ?_
    rw [State.linkCtl_rekey hkey hon hactive]
    rfl
  · subst hsrc
    exact ⟨_, next_regCommand_zero hr rfl, State.cert_recert _, fun g => State.certv_recert g _⟩

end Sys2Proof.Machine
end

section
/-! O46: read data, line fills and deadline timers (R279, R284, R288, R290, R291). -/

namespace Sys2Proof.Machine

/-! Read data (R279, R290, R291) -/

section
variable {c : ChanId} {s : State} {x : Ret} {t : List Ret}

/-- The oldest read data have left, and their tag is free. -/
def State.tagFreed (c : ChanId) (t : List Ret) (s : State) : State := (s.modChan c fun k => { k with ret := t }).modTags c (· - 1)

/-- A channel still completes what it has started, and the bale is there. -/
def State.BaleLive (s : State) (c : ChanId) (no : W32) : Prop := s.chanOpen c = true ∧ ∃ r ∈ (s.chan c).runs, r.no = no

theorem State.baleLive_iff {no : W32} : (s.chanOpen c && (s.chan c).runs.any fun r => decide (r.no = no)) = true ↔ s.BaleLive c no := by
  simp only [State.BaleLive, Bool.and_eq_true, List.any_eq_true, decide_eq_true_eq]

theorem exec_readDataReturn_dropped (hret : (s.chan c).ret = x :: t) (hgone : ¬ (s.tagFreed c t).BaleLive c x.bale) :
    exec (.readDataReturn c) s = .next ((s.tagFreed c t).pump c) := by
  refine (congrArg Host.Outcome.next ?_ : execReadDataReturn c s = _)
  simp only [hret]
  exact if_neg fun h => hgone (State.baleLive_iff.mp h)

theorem exec_readDataReturn_fault (hret : (s.chan c).ret = x :: t) (hlive : (s.tagFreed c t).BaleLive c x.bale) (hst : x.status ≠ 0) :
    exec (.readDataReturn c) s = .next (((s.tagFreed c t).modRun c x.bale fun r => { r with reads := r.reads - 1 }).chanFault c 0x5B01
      (BitVec.ofNat 64 x.status.toNat)) := by
  refine (congrArg Host.Outcome.next ?_ : execReadDataReturn c s = _)
  simp only [hret]
  exact (if_pos (State.baleLive_iff.mpr hlive)).trans (if_pos hst)

theorem exec_readDataReturn_joins (hret : (s.chan c).ret = x :: t) (hlive : (s.tagFreed c t).BaleLive c x.bale) (hst : x.status = 0) :
    exec (.readDataReturn c) s = .next ((((s.tagFreed c t).modRun c x.bale fun r =>
      { r with reads := r.reads - 1, got := r.got ++ [(x.piece, x.data)] }).advanceRun c x.bale 2).pump c) := by
  refine (congrArg Host.Outcome.next ?_ : execReadDataReturn c s = _)
  simp only [hret]
  exact (if_pos (State.baleLive_iff.mpr hlive)).trans (if_neg (not_not.mpr hst))

end

/-! Line fills (R284) -/

section
variable {d : Fin 24} {s : State}

theorem State.modDepot_congr {f g : Depot → Depot} (h : f (s.depot d) = g (s.depot d)) : s.modDepot d f = s.modDepot d g := by
  refine State.modPart_congr ?_
  unfold State.depot at h
  rw [h]

/-- The line that a fill allocates: the data that are back, with what was written meanwhile. -/
def Fill.line (f : Fill) (data : List Byte) : DepotLine := { base := f.base, data := f.upd.foldl (fun l e => overlay l e.1 e.2) data }

/-- Each read that waited for a fill is answered, in order. -/
def Fill.serve (f : Fill) (st : Code) (data : List Byte) (s : State) : State :=
  f.wait.foldl (fun s w => s.returnRead w.1 w.2.1 w.2.2.1 st (if st = 0 then (data.drop w.2.2.2.1).take w.2.2.2.2 else [])) s

theorem exec_depotLineFill {before after : List Fill} {f : Fill} {st : Code} {data : List Byte} (hfills : (s.depot d).fills = before ++ f :: after)
    (hwait : ∀ x ∈ before, x.done = none) (hdone : f.done = some (st, data)) :
    let s' := s.modDepot d fun t => { t with fills := before ++ after }
    exec (.depotLineFill d) s = .next (f.serve st data (if st = 0 ∧ f.alloc = true then s'.modDepot d fun t => t.alloc (f.line data) else s')) := by
  intro s'
  obtain ⟨hfirst, hrest⟩ := find?_and_erase_of_first (f := fun f : Fill => f.done.isSome) (post := after) (fun x hx => by rw [hwait x hx]; rfl)
    (show f.done.isSome = true by rw [hdone]; rfl)
  rw [← hfills] at hfirst hrest
  have herase : s.modDepot d (fun t => { t with fills := t.fills.erase f }) = s' := State.modDepot_congr (by rw [hrest])
  refine (congrArg Host.Outcome.next ?_ : execDepotLineFill d s = _)
  simp only [hfirst, hdone, herase]
  rfl

end

/-! Deadline timers (R288) -/

section
variable {p : Fin 12} {n : Fin 16} {s : State}

theorem exec_deadlineMiss_unarmed (h : (s.part p).tmrArm[n] = none) : exec (.deadlineMiss p n) s = .next s := by
  refine (congrArg Host.Outcome.next ?_ : execDeadlineMiss p n s = _)
  simp only [h]

theorem exec_deadlineMiss_armed {t : W64} (h : (s.part p).tmrArm[n] = some t) (hrt : (s.part p).rtEn = true) (hlim : (s.part p).tmrLim[n].toNat ≠ 0)
    (hready : s.phase = .ready) (hrun : s.timersRun p = true) :
    exec (.deadlineMiss p n) s = .next (if (s.part p).tmrLim[n].toNat * 1000 + (s.part p).heldSince t ≤ (s.now - t).toNat then
      ((s.modPart p fun q => { q with tmrArm := q.tmrArm.set n none, rtMiss := satAdd q.rtMiss 1 }).logPart p
        0xAB01 (BitVec.ofNat 64 n.val)).sendEvent (homeHub p) 3 0xAB01 p.val 0 (BitVec.ofNat 64 n.val) else s) := by
  refine (congrArg Host.Outcome.next ?_ : execDeadlineMiss p n s = _)
  simp only [h, hrt, hlim, hready, hrun, ne_eq, not_false_eq_true, decide_true, Bool.and_self, Bool.true_and, decide_eq_true_eq]

end

/-- Settles O46: by the outcomes of each command above. -/
theorem baleReturns : Obligations.BaleReturns := by
  unfold Obligations.BaleReturns
  refine ⟨fun c s x t => ?_, fun d s before after f st data hfills _ hwait hdone => ?_, fun p n s t => ?_⟩
  · intro s' live hret
    exact ⟨exec_readDataReturn_joins hret, exec_readDataReturn_fault hret, exec_readDataReturn_dropped hret⟩
  · have hfill := exec_depotLineFill hfills hwait hdone
    refine ⟨fun hst halloc => hfill.trans ?_, fun hno => hfill.trans ?_⟩
    · rw [if_pos ⟨hst, halloc⟩]
      rfl
    · rw [if_neg fun h => hno.elim (fun k => k h.1) fun k => Bool.false_ne_true (k.symm.trans h.2)]
      rfl
  · refine ⟨exec_deadlineMiss_unarmed, fun harm hrt hlim hready hrun => ⟨fun hdue => ?_, fun hdue => ?_⟩⟩
    · exact (exec_deadlineMiss_armed harm hrt hlim hready hrun).trans (congrArg Host.Outcome.next (if_pos hdue))
    · exact (exec_deadlineMiss_armed harm hrt hlim hready hrun).trans (congrArg Host.Outcome.next (if_neg hdue))

end Sys2Proof.Machine
end

section
/-! O41: descriptor checks and delivery (R411 to R413, R475). -/

namespace Sys2Proof.Machine

/-! The descriptor's fetch and its checks (R411, R412) -/

section
variable {h : Fin 4} {s : State} {d : TaskDesc}

theorem exec_taskDescriptorCheck_ask (hready : s.phase = .ready) (hnone : (s.hub h).checked = none) (hwork : (s.hub h).head ≠ (s.hub h).tail)
    (hread : (s.hub h).descRead = none) (hbell : (s.hub h).bellWaits = []) : exec (.taskDescriptorCheck h) s =
    .next ((s.modHub h fun b => { b with descRead := some none }).requestHere (.desc h (s.hub h).nextTask) (.port h) .read (s.hub h).headAddr 128 []) := by
  refine (congrArg Host.Outcome.next ?_ : execTaskDescriptorCheck h s = _)
  rw [if_pos ⟨hready, hnone, hwork⟩]
  simp only [hread, hbell, if_true]

theorem exec_taskDescriptorCheck_take {st : Code} {data : List Byte} (hready : s.phase = .ready) (hnone : (s.hub h).checked = none)
    (hwork : (s.hub h).head ≠ (s.hub h).tail) (hread : (s.hub h).descRead = some (some (st, data))) :
    exec (.taskDescriptorCheck h) s = .next (s.taskCheck h st data) := by
  refine (congrArg Host.Outcome.next ?_ : execTaskDescriptorCheck h s = _)
  rw [if_pos ⟨hready, hnone, hwork⟩]
  simp only [hread]

/-- The hub after a refusal: HEAD advances past the descriptor. -/
def Hub.refuseTask (code : Code) (b : Hub) : Hub :=
  { b with nextTask := b.nextTask + 1, descRead := none, head := b.head + 1, taskRej := true, taskErr := code }

section
variable {st : Code} {data : List Byte} {n : Nat} {s' : State} {code : Code}

theorem State.taskCheck_passed (hb : s.taskBytes st data = (n, s')) (hd : Sys2Proof.Machine.taskOf n h (s.hub h).head (s.hub h).nextTask = d)
    (hcode : s'.taskChecks d (taskZero n) = 0) :
    s.taskCheck h st data = s'.modHub h fun b => { b with nextTask := b.nextTask + 1, descRead := none, checked := some d } := by
  simp only [State.taskCheck, hb, hd, hcode, if_true, State.modHub_modHub]

theorem State.taskCheck_refused (hb : s.taskBytes st data = (n, s')) (hd : Sys2Proof.Machine.taskOf n h (s.hub h).head (s.hub h).nextTask = d)
    (hcode : s'.taskChecks d (taskZero n) = code) (hne : code ≠ 0) :
    s.taskCheck h st data =
      let t := (s'.modHub h (Hub.refuseTask code)).logAt h code (0xF0 + h.val) 0xFF 0 d.id 0
      if code = 0x3F03 then t.sendEvent h 1 code 0xFF 0 d.id
      else t.modHub h fun b => { b with tasks := b.tasks ++ [{ RunTask.new d with status := code, notrun := true }] } := by
  simp only [State.taskCheck, hb, hd, hcode, if_neg hne, State.taskRej, State.modHub_modHub]
  rfl

end

/-- The codes of R412 stand for the first check that fails. -/
theorem State.taskChecks_of_parts {zero : Bool} {p : Fin 12} {r : List (Fin 12)} (hparts : d.parts = p :: r) : s.taskChecks d zero =
    if d.endAddr.toNat % 64 ≠ 0 ∨ s.hostOpen d.endAddr.toNat 64 = false then 0x3F03
    else if zero = false ∨ d.pmask = 0 then 0x4F01
    else if d.parts.any s.fused then 0x4F02
    else if 256 < d.scount ∨ 4096 < d.sbase + d.scount ∨ 256 < d.gcount ∨ 2048 < d.gbase + d.gcount then 0x4F03
    else if (d.parts.any fun q => decide ((s.part q).tenant ≠ (s.part p).tenant)) ||
         ((List.range d.gcount).any fun i => decide (s.wordOwner d.ghub false (d.gbase + i) ≠ (s.part p).tenant)) then 0x8F01
    else 0 := by
  simp only [State.taskChecks]
  rw [hparts]

/-! Delivery (R413, R475) -/

theorem exec_taskDelivery_full (hc : (s.hub h).checked = some d) (hfull : ∃ p ∈ d.parts, 8 ≤ (s.part p).delivery.length) :
    exec (.taskDelivery h) s = .next (s.modHub h fun b => { b with waitQ := true }) := by
  refine (congrArg Host.Outcome.next ?_ : execTaskDelivery h s = _)
  simp only [hc]
  refine if_neg fun hall => ?_
  obtain ⟨p, hp, hlen⟩ := hfull
  have := List.all_eq_true.mp hall p hp
  rw [decide_eq_true_iff] at this
  omega

theorem exec_taskDelivery_room (hc : (s.hub h).checked = some d) (hroom : ∀ p ∈ d.parts, (s.part p).delivery.length < 8) :
    exec (.taskDelivery h) s = .next (s.deliver h d) := by
  refine (congrArg Host.Outcome.next ?_ : execTaskDelivery h s = _)
  simp only [hc]
  exact if_pos (List.all_eq_true.mpr fun p hp => decide_eq_true (hroom p hp))

end

/-- The same change of each partition of a list is one change of the block. -/
theorem State.foldl_modPart (f : Part → Part) {ps : List (Fin 12)} (hnd : ps.Nodup) (s : State) :
    ps.foldl (fun s p => s.modPart p f) s = { s with parts := Vector.ofFn fun p : Fin 12 => if p ∈ ps then f (s.part p) else s.part p } := by
  induction ps generalizing s with
  | nil =>
    have hparts : Vector.ofFn (fun p : Fin 12 => s.part p) = s.parts := Vector.ext fun i hi => Vector.getElem_ofFn hi
    simp only [List.foldl_nil, List.not_mem_nil, if_false, hparts]
  | cons q ps ih =>
    obtain ⟨hq, hps⟩ := List.nodup_cons.mp hnd
    rw [List.foldl_cons, ih hps]
    refine congrArg (fun v : Vector Part 12 => { s with parts := v }) ?_
    refine Vector.ext fun i hi => ?_
    rw [Vector.getElem_ofFn, Vector.getElem_ofFn]
    by_cases he : q = ⟨i, hi⟩
    · subst he
      rw [if_neg hq, if_pos List.mem_cons_self, State.part_modPart]
    · rw [State.part_modPart_ne _ _ _ _ he]
      simp only [List.mem_cons, Ne.symm he, false_or]

theorem TaskDesc.parts_nodup (d : TaskDesc) : d.parts.Nodup := (List.nodup_finRange 12).filter _

theorem TaskDesc.mem_parts {d : TaskDesc} {p : Fin 12} : p ∈ d.parts ↔ d.pmask.getLsbD p.val = true := by
  rw [TaskDesc.parts, List.mem_filter]
  exact and_iff_right (List.mem_finRange p)

/-- A task joins a partition's delivery queue; a ramp-down is reversed. -/
def Part.takeDelivery (d : TaskDesc) (q : Part) : Part := { q with delivery := q.delivery ++ [d], power := q.back }

/-- At partitions that are all available, the task joins each queue. -/
theorem State.foldl_deliver {d : TaskDesc} {ps : List (Fin 12)} {s : State} (hav : ∀ p ∈ ps, (s.part p).unavail = false) :
    ps.foldl (fun s p => if (s.part p).unavail then s.unrun p d else s.modPart p fun q => { q with delivery := q.delivery ++ [d], power := q.back }) s =
      ps.foldl (fun s p => s.modPart p (Part.takeDelivery d)) s := by
  induction ps generalizing s with
  | nil => rfl
  | cons p ps ih =>
    have hp := hav p List.mem_cons_self
    rw [List.foldl_cons, List.foldl_cons, hp, if_neg Bool.false_ne_true]
    refine ih fun q hq => ?_
    by_cases he : p = q
    · subst he
      rw [State.part_modPart]
      exact hp
    · rw [State.part_modPart_ne _ _ _ _ he]
      exact hav q (List.mem_cons_of_mem p hq)

theorem State.deliver_available {h : Fin 4} {d : TaskDesc} {s : State} (hav : ∀ p ∈ d.parts, (s.part p).unavail = false) :
    s.deliver h d =
      let t := { RunTask.new d with left := d.pmask, gsnap := s.counts (.hub d.ghub) d.gbase d.gcount }
      { s.modHub h fun b => { b with checked := none, waitQ := false, head := b.head + 1, tasks := b.tasks ++ [t] } with
        parts := Vector.ofFn fun p : Fin 12 => if p ∈ d.parts then (s.part p).takeDelivery d else s.part p } := by
  simp only [State.deliver]
  rw [State.foldl_deliver (by exact hav), State.foldl_modPart _ d.parts_nodup]
  rfl

/-- Settles O41: a descriptor is asked for, taken and checked, or delivered, by the cases above. -/
theorem taskSubmission : Obligations.TaskSubmission := by
  unfold Obligations.TaskSubmission
  refine ⟨fun h s => exec_taskDescriptorCheck_ask, fun h s s' n st data => ?_, fun s d zero p r => ?_, fun h s d hc => ⟨exec_taskDelivery_full hc, fun hroom => ?_⟩⟩
  · intro b hready hnone hwork hread hb d code refuse
    have hrun := exec_taskDescriptorCheck_take hready hnone hwork hread
    refine ⟨fun hst => ?_, fun h0 => ?_, fun h3 => ?_, fun h0 h3 => ?_⟩
    · subst hst
      exact ⟨(congrArg Prod.fst hb).symm, (congrArg Prod.snd hb).symm⟩
    · rw [hrun, State.taskCheck_passed hb rfl h0]
    · rw [hrun, State.taskCheck_refused hb rfl rfl (show code ≠ 0 from h3 ▸ (by decide))]
      exact congrArg Host.Outcome.next (if_pos h3)
    · rw [hrun, State.taskCheck_refused hb rfl rfl h0]
      exact congrArg Host.Outcome.next (if_neg h3)
  · intro bad1 bad2 bad3 bad4 bad5 hparts
    rw [State.taskChecks_of_parts hparts]
    have h3 : d.parts.any s.fused = true ↔ bad3 := List.any_eq_true
    have h5 : ((d.parts.any fun q => decide ((s.part q).tenant ≠ (s.part p).tenant)) ||
         ((List.range d.gcount).any fun i => decide (s.wordOwner d.ghub false (d.gbase + i) ≠ (s.part p).tenant))) = true ↔ bad5 := by
      simp only [Bool.or_eq_true, List.any_eq_true, decide_eq_true_eq, List.mem_range]
      rfl
    simp only [h3, h5]
    refine ⟨fun k1 => if_pos k1, fun k1 k2 => ?_, fun k1 k2 k3 => ?_, fun k1 k2 k3 k4 => ?_, fun k1 k2 k3 k4 k5 => ?_, fun k1 k2 k3 k4 k5 => ?_⟩
    · rw [if_neg k1, if_pos k2]
    · rw [if_neg k1, if_neg k2, if_pos k3]
    · rw [if_neg k1, if_neg k2, if_neg k3, if_pos k4]
    · rw [if_neg k1, if_neg k2, if_neg k3, if_neg k4, if_pos k5]
    · rw [if_neg k1, if_neg k2, if_neg k3, if_neg k4, if_neg k5]
  · rw [exec_taskDelivery_room hc fun p hp => (hroom p hp).1, State.deliver_available fun p hp => (hroom p hp).2]
    simp only [TaskDesc.mem_parts]
    rfl

end Sys2Proof.Machine
end

section
/-! O55: captures (R409, R445, R453 to R455). -/

namespace Sys2Proof.Machine

section
variable {s : State}

/-! A capture begins (R409, R445, R453) -/

/-- The oldest capture still waits. -/
def State.CapBlocked (s : State) (mask : BitVec 12) : Prop :=
  s.anyLoad = true ∨ (∃ r, s.secNow = some r ∧ secLop r.cmd.v ≠ 0) ∨ s.capState ≠ .idle
    ∨ ∃ p : Fin 12, mask.getLsbD p.val = true ∧ (s.part p).abort.isSome = true

theorem State.capBlocked_iff {mask : BitVec 12} :
    (s.anyLoad = true ∨ (s.secNow.any fun r => decide (secLop r.cmd.v ≠ 0)) = true ∨ s.capState ≠ .idle
      ∨ ((List.finRange 12).any fun p => mask.getLsbD p.val && (s.part p).abort.isSome) = true) ↔ s.CapBlocked mask := by
  simp only [State.CapBlocked, Option.any_eq_true, decide_eq_true_eq, List.any_eq_true, Bool.and_eq_true, List.mem_finRange, true_and]

section
variable {h : Fin 4} {v : W32} {rest : List (Fin 4 × W32)} (hw : s.capWait = (h, v) :: rest)
include hw

theorem State.capTry_blocked (hb : s.CapBlocked (BitVec.ofNat 12 (fld v 0 12))) : s.capTry = s := by
  simp only [State.capTry, hw]
  exact if_pos (State.capBlocked_iff.mpr hb)

theorem State.capTry_free (hb : ¬ s.CapBlocked (BitVec.ofNat 12 (fld v 0 12))) :
    s.capTry =
      let mask := BitVec.ofNat 12 (fld v 0 12)
      let u := State.busyAll 3 { s with capWait := rest }
      if u.capCheck mask ≠ 0 then u.capEnd (u.capCheck mask) else { u with capState := .quiescing, capMask := mask, capSince := u.now } := by
  simp only [State.capTry, hw]
  exact if_neg fun k => hb (State.capBlocked_iff.mp k)

end

/-! Its check (R453) -/

theorem State.capCheck_bad {mask : BitVec 12} (h : mask = 0 ∨ 2 ^ 36 < s.capOff.toNat * 2 ^ 20 + 411107328) : s.capCheck mask = 0x3003 := by
  rw [State.capCheck]
  exact if_pos h

/-- What a passed check says of the slice and of the stacks written. -/
theorem State.capCheck_zero {mask : BitVec 12} (h : s.capCheck mask = 0) : mask ≠ 0 ∧ s.capOff.toNat * 2 ^ 20 + 411107328 ≤ 2 ^ 36
    ∧ ∀ e ∈ capDies mask, s.stackPorts[e.1].up = true := by
  rw [State.capCheck] at h
  simp only at h
  split at h
  · cases h
  · rename_i hform
    obtain ⟨hmask, hroom⟩ := not_or.mp hform
    split at h
    · cases h
    · split at h
      · cases h
      · rename_i hup
        rw [Bool.not_eq_true, List.any_eq_false] at hup
        exact ⟨hmask, Nat.le_of_not_lt hroom, fun e he => by simpa using hup e he⟩

/-! Its end (R409, R442, R454) -/

theorem State.capEnd_eq (code : Code) (s : State) : s.capEnd code = State.eventAll 3 code
    (if code = 0 then { s with capState := .idle, capCode := code } else State.logBlock code 0 { s with capState := .idle, capCode := code }) := rfl

theorem State.capEnd_hubsOnly (code : Code) (s : State) : { s with capState := .idle, capCode := code }.HubsOnly (s.capEnd code) := by
  refine State.HubsOnly.trans ?_ (State.eventAll_hubsOnly ..)
  split
  · rfl
  · exact State.logStamp_frame ..

theorem State.part_capResume (p : Fin 12) : s.capResume.part p = if (s.part p).seqState = 3 then { s.part p with seqState := 1 } else s.part p :=
  Vector.getElem_map _ p.isLt

end

/-! Quiescing and writing (R454) -/

/-- The partitions that the capture names. -/
def State.capNamed (s : State) : List (Fin 12) := (List.finRange 12).filter fun p => s.capMask.getLsbD p.val

/-- The state with the images written. -/
def State.imaged (s : State) : State := (capDies s.capMask).foldl (fun t e => t.putImage e.1 s.capBase (s.dieImage e.1)) s.drawn

section
variable {s : State}

theorem State.mem_capNamed {p : Fin 12} : p ∈ s.capNamed ↔ s.capMask.getLsbD p.val = true := by
  rw [State.capNamed, List.mem_filter]
  exact and_iff_right (List.mem_finRange p)

theorem State.capNamed_nodup : s.capNamed.Nodup := (List.nodup_finRange 12).filter _

/-- Nothing is in flight at the partitions that the capture names. -/
theorem State.capQuiesced_iff : s.capNamed.all s.quiesced = true ↔ ∀ p : Fin 12, s.capMask.getLsbD p.val = true → s.quiesced p = true := by
  simp only [List.all_eq_true, State.mem_capNamed]

theorem exec_captureQuiesced (hq : s.capState = .quiescing) (hall : ∀ p : Fin 12, s.capMask.getLsbD p.val = true → s.quiesced p = true) :
    exec .captureQuiesced s = .next (State.progress 3 1 1 (List.finRange 4)
      { s.imaged with parts := Vector.ofFn fun p : Fin 12 => if p ∈ s.capNamed then { s.imaged.part p with isolated := true } else s.imaged.part p
                      capState := .writing, capHeld := s.now }) := by
  refine (congrArg Host.Outcome.next (if_pos ⟨hq, State.capQuiesced_iff.mpr hall⟩) : execCaptureQuiesced s = _).trans ?_
  have hisolate := State.foldl_modPart (fun q => { q with isolated := true }) s.capNamed_nodup s.imaged
  exact congrArg (fun t : State => Host.Outcome.next (State.progress 3 1 1 (List.finRange 4) { t with capState := .writing, capHeld := s.now })) hisolate

theorem exec_captureQuiesced_busy (hbusy : ∃ p : Fin 12, s.capMask.getLsbD p.val = true ∧ s.quiesced p = false) :
    exec .captureQuiesced s = .next s := by
  obtain ⟨p, hp, hno⟩ := hbusy
  exact congrArg Host.Outcome.next (if_neg fun h => Bool.false_ne_true (hno.symm.trans (State.capQuiesced_iff.mp h.2 p hp)))

end

/-- Settles O55: a waiting capture begins by the cases of `State.capTry`, quiesces, writes and ends by those of its commands. -/
theorem captures : Obligations.Captures := by
  unfold Obligations.Captures
  refine ⟨fun h v s hr hgo => ?_, fun h v rest s hw => ⟨State.capTry_blocked hw, fun hb hc => ?_, fun hb hc => ?_⟩,
    fun mask s => ⟨State.capCheck_bad, State.capCheck_zero⟩, fun s => ⟨fun hq hall => ?_, fun _ => exec_captureQuiesced_busy, fun hq hlate => ?_, fun hearly => ?_, fun status hwr => ?_⟩,
    fun code s => ⟨(s.capEnd_hubsOnly code).eq State.capState, (s.capEnd_hubsOnly code).eq State.capCode, s.capEnd_eq code⟩, fun s p => State.part_capResume p⟩
  · refine (congrArg Host.Outcome.next (if_pos hgo)).trans (next_regCommand_zero hr ?_)
    exact congrArg (Prod.mk 0) (if_pos hgo)
  · exact (State.capTry_free hw hb).trans (if_pos hc)
  · exact (State.capTry_free hw hb).trans (if_neg (not_not.mpr hc))
  · refine ⟨_, exec_captureQuiesced hq hall, rfl, rfl, rfl, rfl, fun p => ?_⟩
    refine (Vector.getElem_ofFn p.isLt).trans ?_
    simp only [State.mem_capNamed]
    rfl
  · exact congrArg Host.Outcome.next (if_pos ⟨hq, hlate⟩)
  · exact congrArg Host.Outcome.next (if_neg fun h => by omega)
  · exact congrArg Host.Outcome.next (if_pos hwr)

end Sys2Proof.Machine
end

section
/-! O50: links train, authenticate and go DOWN (R375, R376, R389, R399). -/

namespace Sys2Proof.Machine

theorem add_mod_of_dvd {a b n : Nat} (h : n ∣ b) : (a + b) % n = a % n := by
  rw [Nat.add_mod, Nat.mod_eq_zero_of_dvd h, Nat.add_zero, Nat.mod_mod]

theorem Header.bits_toNat_mod (h : Header) : h.bits.toNat % 2 ^ 4 = h.ptype % 16 % 2 ^ 4 := by
  have hpow {x k : Nat} (hk : 4 ≤ k) : 2 ^ 4 ∣ x * 2 ^ k := (pow_dvd_pow 2 hk).mul_left x
  rw [Header.bits, BitVec.toNat_ofNat, Nat.mod_mod_of_dvd _ (pow_dvd_pow 2 (by decide : 4 ≤ 192)), add_mod_of_dvd (hpow (by decide : 4 ≤ 128)),
    add_mod_of_dvd (hpow (by decide : 4 ≤ 64)), add_mod_of_dvd (hpow (by decide : 4 ≤ 48)), add_mod_of_dvd (hpow (by decide : 4 ≤ 40)),
    add_mod_of_dvd (hpow (by decide : 4 ≤ 36)), add_mod_of_dvd (hpow (by decide : 4 ≤ 34)), add_mod_of_dvd, add_mod_of_dvd,
    add_mod_of_dvd (hpow (by decide : 4 ≤ 24)), add_mod_of_dvd (hpow (by decide : 4 ≤ 16)), add_mod_of_dvd (hpow (by decide : 4 ≤ 8)),
    add_mod_of_dvd (hpow (le_refl 4))]
  · split
    · exact Nat.dvd_add (pow_dvd_pow 2 (by decide : 4 ≤ 28)) (hpow (by decide : 4 ≤ 29))
    · exact Nat.dvd_zero _
  · split
    · exact pow_dvd_pow 2 (by decide : 4 ≤ 33)
    · exact Nat.dvd_zero _

theorem Header.ptype_ofBits_bits (h : Header) : (Header.ofBits h.bits).ptype = h.ptype % 16 := by
  have hread : (Header.ofBits h.bits).ptype = h.bits.toNat % 2 ^ 4 := by
    simp only [Header.ofBits, fld, fieldN, Nat.pow_zero, Nat.div_one]
  rw [hread, h.bits_toNat_mod]
  exact Nat.mod_mod h.ptype 16

/-! A packet of the link itself (R382, R385) -/

/-- The control packet of a type that a link queues. -/
def State.ownPacket (s : State) (n : Fin 16) (ptype : Nat) (data : List Byte) : OutPacket :=
  let dst := s.links[n].seen.toNat
  let h : Header := { ptype := ptype, orig := 15, src := s.devNum.toNat, dst := dst, hops := 15, arr := none, lir := false, redop := 0,
                      fmt := 0, len4 := data.length / 4, tag := 0, addr := dst * 2 ^ 48, status := 0 }
  { vc := BitVec.ofNat 2 (packVc ptype), hdr := h.bits, data := data }

theorem State.linkPacket_eq (n : Fin 16) (ptype : Nat) (data : List Byte) (s : State) :
    s.linkPacket n ptype data = s.modLink n fun k => { k with egress := k.egress ++ [s.ownPacket n ptype data] } := by
  rw [State.linkPacket, State.egress, State.ownPacket]

theorem State.ptype_ownPacket (s : State) (n : Fin 16) {ptype : Nat} (h : ptype < 16) (data : List Byte) :
    (Header.ofBits (s.ownPacket n ptype data).hdr).ptype = ptype := by
  rw [State.ownPacket, Header.ptype_ofBits_bits]
  exact Nat.mod_eq_of_lt h

theorem State.data_ownPacket (s : State) (n : Fin 16) (ptype : Nat) (data : List Byte) : (s.ownPacket n ptype data).data = data := by
  rw [State.ownPacket]

/-! HELLO and FINISH (R375, R389) -/

/-- The HELLO that a link sends (R389). -/
def State.hello (s : State) (n : Fin 16) : List Byte :=
  pointBytes (Config.publicKey (ephemeral s.drbg)) ++ bytesOf 32 (Config.draw (s.drbg + 2)).toNat ++ s.certBytes
    ++ pointBytes (Config.authorityKey (s.hub (linkHub n)).dahHash)

/-- The link with its HELLO sent, its timer started. -/
def State.helloed (s : State) (n : Fin 16) : State :=
  State.linkPacket n 6 (s.hello n) (({ s with drbg := s.drbg + 3 } : State).modLink n fun k =>
    { k with eph := ephemeral s.drbg, helloTx := s.hello n, since := s.now })

section
variable {n : Fin 16} {s : State}

theorem State.sendHello_of_invalid (h : (s.hub (linkHub n)).certv = false) : s.sendHello n = s := by
  unfold State.sendHello
  simp only
  rw [if_neg fun k => Bool.false_ne_true (h.symm.trans k.2.2)]

theorem State.sendHello_of_valid (hauth : s.links[n].state = .auth) (hv : (s.hub (linkHub n)).certv = true) (hfirst : s.links[n].helloTx = []) :
    s.sendHello n = (s.helloed n).sendFinish n := by
  unfold State.sendHello
  simp only
  rw [if_pos ⟨hauth, hfirst, hv⟩]
  rfl

theorem State.hello_ne_nil : s.hello n ≠ [] := by
  have hlen : (s.hello n).length ≠ 0 := by
    simp only [State.hello, pointBytes, List.length_append, length_bytesOf]
    omega
  exact fun h => hlen (by rw [h, List.length_nil])

theorem State.link_helloed : ∃ o : OutPacket, (s.helloed n).links[n] = { s.links[n] with
    eph := ephemeral s.drbg, helloTx := s.hello n, since := s.now, egress := s.links[n].egress ++ [o] }
      ∧ o.data = s.hello n ∧ (Header.ofBits o.hdr).ptype = 6 := by
  rw [State.helloed, State.linkPacket_eq, State.link_modLink, State.link_modLink]
  exact ⟨_, rfl, State.data_ownPacket .., State.ptype_ownPacket _ n (by decide) _⟩

theorem State.sendFinish_alone (h : s.links[n].helloRx = []) : s.sendFinish n = s := by
  unfold State.sendFinish
  exact if_neg fun k => k.2 h

theorem State.link_sendFinish (htx : s.links[n].helloTx ≠ []) (hrx : s.links[n].helloRx ≠ []) : ∃ o : OutPacket,
    (s.sendFinish n).links[n] = { s.links[n] with egress := s.links[n].egress ++ [o] } ∧ (Header.ofBits o.hdr).ptype = 7
      ∧ o.data = pointBytes (Config.sign s.idKey (hashBytes (transcript s.links[n].helloTx s.links[n].helloRx))) := by
  unfold State.sendFinish
  simp only
  rw [if_pos ⟨htx, hrx⟩, State.linkPacket_eq, State.link_modLink]
  exact ⟨_, rfl, State.ptype_ownPacket _ n (by decide) _, State.data_ownPacket ..⟩

theorem State.idKey_helloed : (s.helloed n).idKey = s.idKey := by
  have h : State.LinksOnly s (s.helloed n) :=
    (State.LinksOnly.trans (t := { s with drbg := s.drbg + 3 }) rfl (State.modLink_linksOnly ..)).trans (State.linkPacket_linksOnly ..)
  exact h.eq State.idKey

end

/-- What a sent HELLO leaves of the link: itself and, after the partner's, a FINISH. -/
theorem State.link_sendHello {n : Fin 16} {s : State} (hauth : s.links[n].state = .auth) (hv : (s.hub (linkHub n)).certv = true)
    (hfirst : s.links[n].helloTx = []) : ∃ (o : OutPacket) (fin : List OutPacket), (s.sendHello n).links[n] = { s.links[n] with
        eph := ephemeral s.drbg, helloTx := s.hello n, since := s.now, egress := s.links[n].egress ++ o :: fin }
      ∧ (s.links[n].helloRx = [] → fin = [])
      ∧ (s.links[n].helloRx ≠ [] → ∃ o', fin = [o'] ∧ (Header.ofBits o'.hdr).ptype = 7
          ∧ o'.data = pointBytes (Config.sign s.idKey (hashBytes (transcript (s.hello n) s.links[n].helloRx))))
      ∧ o.data = s.hello n ∧ (Header.ofBits o.hdr).ptype = 6 := by
  obtain ⟨o, hlink, hdata, hptype⟩ := State.link_helloed (n := n) (s := s)
  have hrx := congrArg Link.helloRx hlink
  have htx := congrArg Link.helloTx hlink
  rw [State.sendHello_of_valid hauth hv hfirst]
  by_cases hnone : s.links[n].helloRx = []
  · rw [State.sendFinish_alone (hrx.trans hnone), hlink]
    exact ⟨o, [], rfl, fun _ => rfl, fun h => absurd hnone h, hdata, hptype⟩
  · obtain ⟨o', hlink', hptype', hdata'⟩ := State.link_sendFinish (n := n) (s := s.helloed n) (fun h => State.hello_ne_nil (htx.symm.trans h))
      fun h => hnone (hrx.symm.trans h)
    rw [State.idKey_helloed, htx, hrx] at hdata'
    rw [hlink', hlink]
    refine ⟨o, [o'], ?_, fun h => absurd h hnone, fun _ => ⟨o', rfl, hptype', hdata'⟩, hdata, hptype⟩
    rw [← List.append_cons]

/-! Stagger slots (R376) -/

/-- A lane group starts: the first of a link in IDLE, or the second. -/
def Link.startGroup (now : W64) (k : Link) : Link := if k.state = .idle then k.train now 1 else { k with groups := 2 }

section
variable {h : Fin 4} {n : Fin 16} {s : State}

theorem exec_linkTrainStart_slot (hready : s.phase = .ready) (hslot : s.now.toNat / 250000 % 4 = h.val)
    (hlast : (s.hub h).lastSlot ≠ some (s.now.toNat / 250000)) (hhub : linkHub n = h) (hwant : s.links[n].wantsGroup = true)
    (hfirst : ∀ m, m < n → linkHub m = h → s.links[m].wantsGroup = false) :
    exec (.linkTrainStart h) s = .next ((s.modLink n (Link.startGroup s.now)).modHub h fun b =>
      { b with lastSlot := some (s.now.toNat / 250000) }) := by
  have hfind : ((List.finRange 16).find? fun n => decide (linkHub n = h) && s.links[n].wantsGroup) = some n := by
    rw [← Fin.find?_eq_find?_finRange, Fin.find?_eq_some_iff]
    refine ⟨by rw [hwant, decide_eq_true hhub, Bool.and_self], fun m hm => ?_⟩
    by_cases hmh : linkHub m = h
    · rw [hfirst m hm hmh, Bool.and_false]
    · rw [decide_eq_false hmh, Bool.false_and]
  refine (congrArg Host.Outcome.next (if_pos ⟨hready, hslot, hlast⟩) : execLinkTrainStart h s = _).trans ?_
  simp only [hfind]
  rfl

theorem exec_linkTrainStart_none (hno : s.now.toNat / 250000 % 4 ≠ h.val ∨ (s.hub h).lastSlot = some (s.now.toNat / 250000)) :
    exec (.linkTrainStart h) s = .next s :=
  congrArg Host.Outcome.next (if_neg fun ⟨_, hslot, hlast⟩ => hno.elim (fun k => k hslot) hlast)

end

/-! The end of a session (R394, R399) -/

/-- The state in which a session has ended, before what waited is sent on. -/
def State.sessionEnded (s : State) (n : Fin 16) (f : Link → Link) : State :=
  let s := s.modLink n fun k => { f k with waits := [] }
  { s with links := s.links.map fun (k : Link) => { k with waits := k.waits.map (Waiting.unlinked n) } }

theorem State.endSession_eq (n : Fin 16) (f : Link → Link) (s : State) : s.endSession n f =
    (s.links[n].waits.map (Waiting.unlinked n)).foldl (fun s w => (s.launch w).getD (s.stranded w)) (s.sessionEnded n f) := rfl

theorem State.link_sessionEnded (n : Fin 16) (f : Link → Link) (s : State) : (s.sessionEnded n f).links[n] = { f s.links[n] with waits := [] } := by
  refine (Vector.getElem_map _ n.isLt).trans ?_
  exact congrArg (fun k : Link => { k with waits := k.waits.map (Waiting.unlinked n) }) (State.link_modLink ..)

theorem State.link_sessionEnded_ne {n m : Fin 16} (f : Link → Link) (s : State) (hm : m ≠ n) :
    (s.sessionEnded n f).links[m] = { s.links[m] with waits := s.links[m].waits.map (Waiting.unlinked n) } := by
  refine (Vector.getElem_map _ m.isLt).trans ?_
  exact congrArg (fun k : Link => { k with waits := k.waits.map (Waiting.unlinked n) }) (State.link_modLink_ne _ hm)

/-- Settles O50: by what a stagger slot, a HELLO and the end of a session leave of each link. -/
theorem linkTraining : Obligations.LinkTraining := by
  unfold Obligations.LinkTraining
  refine ⟨fun h n s => ?_, fun h s => exec_linkTrainStart_none, fun n rev s htrain hgroups => congrArg Host.Outcome.next (if_pos ⟨htrain, hgroups⟩),
    fun n s hauth => ⟨State.sendHello_of_invalid, fun hv hfirst => ?_⟩, fun n s => ?_, fun n cause s => ?_,
    fun n f s => ⟨s.sessionEnded n f, s.endSession_eq n f, s.link_sessionEnded n f, fun m hm => s.link_sessionEnded_ne f hm, rfl⟩⟩
  · intro k slot hready hslot hlast hhub hclaimed hon hstate hfirst
    have hwant : k.wantsGroup = true := by
      simp only [Link.wantsGroup, hclaimed, hon, Bool.not_false, Bool.and_self, Bool.true_and, Bool.or_eq_true, Bool.and_eq_true, decide_eq_true_eq]
      exact hstate
    refine ⟨_, exec_linkTrainStart_slot hready hslot hlast hhub hwant hfirst, ?_, fun m hm => ?_, State.hub_modHub .., fun g hg => ?_, rfl⟩
    · exact State.link_modLink n (Link.startGroup s.now) s
    · exact State.link_modLink_ne (Link.startGroup s.now) hm
    · exact State.hub_modHub_ne _ _ _ _ hg.symm
  · obtain ⟨o, fin, hlink, hrest⟩ := State.link_sendHello hauth hv hfirst
    rw [hlink]
    exact ⟨rfl, _, o, fin, rfl, rfl, rfl, hrest⟩
  · intro k
    have hage : s.linkAge n = (s.now - k.since).toNat := rfl
    refine ⟨fun htrain hlate => congrArg Host.Outcome.next (if_pos ⟨htrain, hlate⟩), fun hearly => ⟨?_, ?_⟩,
      fun hauth htx hlate => congrArg Host.Outcome.next (if_pos ⟨hauth, htx, hlate⟩), fun hdown hlate => ?_, fun hno => ?_⟩
    · exact congrArg Host.Outcome.next (if_neg fun h => by omega)
    · exact congrArg Host.Outcome.next (if_neg fun h => by omega)
    · exact ⟨_, congrArg Host.Outcome.next (if_pos ⟨hdown, hlate⟩), State.link_modLink .., fun m hm => State.link_modLink_ne _ hm, rfl⟩
    · exact congrArg Host.Outcome.next (if_neg fun h => hno.elim (fun k => k h.1) fun k => by omega)
  · simp only [State.linkDown, decide_eq_true_eq]

end Sys2Proof.Machine
end

section
/-! O53: the security engine and its commands (R421 to R438). -/

namespace Sys2Proof.Machine

/-! The engine's queue (R409, R426, R438) -/

section
variable {h : Fin 4} {v : W32} {s : State}

theorem State.secCommand_ready (hready : s.phase = .ready) (hfree : (s.hub h).busy = none) {op : Nat} (hop : secOp v = op) :
    s.secCommand h op v = (s.secWrite h v).answered 0 0 := if_pos ⟨hop, hready, hfree⟩

theorem State.secCommand_busy (hbusy : (s.hub h).busy.isSome = true) (op : Nat) : s.secCommand h op v = s := by
  refine if_neg fun ⟨_, _, hfree⟩ => ?_
  rw [hfree] at hbusy
  exact Bool.false_ne_true hbusy

theorem State.secStep_running {r : SecRun} (hnow : s.secNow = some r) : s.secStep = s.secGo r := by simp only [State.secStep, hnow]

theorem State.secStep_empty (hnow : s.secNow = none) (hq : s.secQ = []) : s.secStep = s := by simp only [State.secStep, hnow, hq]

theorem State.secStep_next {c : SecCmd} {t : List SecCmd} (hnow : s.secNow = none) (hq : s.secQ = c :: t) :
    s.secStep = if s.secWaits c = true then s else State.secRun c { s with secQ := t } := by simp only [State.secStep, hnow, hq]

/-! Forms (R427) -/

/-- A command of a wrong form. -/
def BadForm (v : W32) : Prop :=
  secOp v = 0 ∨ 4 < secOp v ∨ 12 < (secTen v).toNat ∨ (secOp v ≠ 4 ∧ secTgt v ≠ 0) ∨ (secOp v ≠ 2 ∧ (secKr v ∨ secHost v))
    ∨ (secOp v = 4 ∧ (secTgt v = 0 ∨ 4 < secTgt v))

/-- The three outcomes of the check, each by its code alone. -/
theorem State.secForm_iff (v : W32) (s : State) :
    let far := secTen v ≠ 0 ∧ s.life ≠ 2
    (s.secForm v = 0x8E01 ↔ BadForm v) ∧ (s.secForm v = 0x8E02 ↔ ¬ BadForm v ∧ far) ∧ (s.secForm v = 0 ↔ ¬ BadForm v ∧ ¬ far) := by
  intro far
  by_cases hbad : BadForm v
  · have hcode : s.secForm v = 0x8E01 := if_pos hbad
    simp [hcode, hbad]
  · by_cases hfar : far
    · have hcode : s.secForm v = 0x8E02 := (if_neg hbad).trans (if_pos hfar)
      simp [hcode, hbad, hfar]
    · have hcode : s.secForm v = 0 := (if_neg hbad).trans (if_neg hfar)
      simp [hcode, hbad, hfar]

/-! A command runs (R426) -/

theorem State.secRun_bad {c : SecCmd} (hform : s.secForm c.v ≠ 0) : s.secRun c = s.secEnd c (s.secForm c.v) := if_pos hform

theorem State.secRun_op {c : SecCmd} (hform : s.secForm c.v = 0) : s.secRun c =
    if secOp c.v = 1 then s.tenantSet c else if secOp c.v = 2 then s.regionSet c else if secOp c.v = 3 then s.attest c
    else (s.lcAdvance c.hub c.v).2.secEnd c (s.lcAdvance c.hub c.v).1 := if_neg (not_not.mpr hform)

end

/-! Partitions that PMASK names (R430) -/

section
variable {c : SecCmd} {h : Fin 4} {s : State}

theorem State.mem_secParts {p : Fin 12} : p ∈ s.secParts h ↔ (s.hub h).arg1.getLsbD p.val = true := by
  rw [State.secParts, List.mem_filter]
  exact and_iff_right (List.mem_finRange p)

theorem State.secParts_nodup : (s.secParts h).Nodup := (List.nodup_finRange 12).filter _

/-- Steps that each change one partition of a list by f, and no other, change those of the list. -/
theorem State.part_foldl {g : State → Fin 12 → State} {f : Part → Part} (hsame : ∀ (s : State) p, (g s p).part p = f (s.part p))
    (hne : ∀ (s : State) p q, q ≠ p → (g s p).part q = s.part q) {ps : List (Fin 12)} (hnd : ps.Nodup) (s : State) (q : Fin 12) :
    (ps.foldl g s).part q = if q ∈ ps then f (s.part q) else s.part q := by
  induction ps generalizing s with
  | nil => simp
  | cons p ps ih =>
    obtain ⟨hp, hps⟩ := List.nodup_cons.mp hnd
    rw [List.foldl_cons, ih hps]
    by_cases he : q = p
    · subst he
      rw [if_neg hp, if_pos List.mem_cons_self, hsame]
    · simp only [hne s p q he, List.mem_cons, he, false_or]

theorem State.part_foldl_modPart (f : Part → Part) {ps : List (Fin 12)} (hnd : ps.Nodup) (s : State) (q : Fin 12) :
    (ps.foldl (fun s p => s.modPart p f) s).part q = if q ∈ ps then f (s.part q) else s.part q :=
  State.part_foldl (fun s p => State.part_modPart p f s) (fun s p q hq => State.part_modPart_ne p q f s hq.symm) hnd s q

/-- A named partition under a change of its tenant: unavailable and isolated, its custom-operation ports flushing. -/
def Part.isolate (q : Part) : Part :=
  { q with unavail := true, isolated := true, cores := q.cores.map fun k => { k with copFlush := true } }

theorem State.tenantSet_busy (hb : ∃ p : Fin 12, (s.hub c.hub).arg1.getLsbD p.val = true ∧ (s.part p).task.isSome = true) :
    s.tenantSet c = s.secEnd c 0x8E03 := by
  obtain ⟨p, hp, htask⟩ := hb
  exact if_pos (List.any_eq_true.mpr ⟨p, State.mem_secParts.mpr hp, htask⟩)

theorem State.tenantSet_free (hfree : ∀ p : Fin 12, (s.hub c.hub).arg1.getLsbD p.val = true → (s.part p).task = none) :
    s.tenantSet c = ((s.secParts c.hub).foldl (fun s p => s.modPart p Part.isolate) s).secPhase c .drain [] := by
  refine if_neg fun hany => ?_
  obtain ⟨p, hp, htask⟩ := List.any_eq_true.mp hany
  rw [hfree p (State.mem_secParts.mp hp)] at htask
  exact Bool.false_ne_true htask

/-! The wipe of a tenant change (R430 steps 3 and 4) -/

theorem State.part_wipePart (p q : Fin 12) (s : State) :
    ((s.wipePart .tenant p).part q) = if q = p then Part.wipe .tenant (s.part q) else s.part q := by
  have hparts : ((s.part p).delivery.foldl (fun s d => s.unrun p d) s).part q = s.part q :=
    congrArg (fun v : Vector Part 12 => v[q]) (s.foldl_unrun_frame p _).1
  by_cases he : q = p
  · subst he
    rw [if_pos rfl, ← hparts]
    exact State.part_modPart ..
  · rw [if_neg he, ← hparts]
    exact State.part_modPart_ne _ _ _ _ (Ne.symm he)

/-- Global blocks of a lessee return to tenant 0. -/
def State.blocksBack (t : BitVec 4) (s : State) : State :=
  (List.finRange 4).foldl (fun s h => (List.finRange 32).foldl (fun s b => if (s.hub h).gown[b] = t then s.setOwner h b 0 else s) s) s

theorem State.blocksBack_hubsOnly (t : BitVec 4) (s : State) : s.HubsOnly (s.blocksBack t) :=
  State.HubsOnly.foldl _ s fun s h _ => State.HubsOnly.foldl _ s fun s b _ => by
    split
    · rfl
    · rfl

/-- A region that a departing lessee leaves. -/
def Region.left (zf : Bool) (t : BitVec 4) (r : Region) : Region := if r.ten = t then { r.rotate zf with ten := 0, host := true } else r

theorem State.departed_eq (zf : Bool) (t : BitVec 4) (s : State) : s.departed zf t =
    let u := State.blocksBack t { s with regions := s.regions.map (Region.left zf t) }
    { u with links := u.links.map fun (k : Link) => if k.tenant = t then { k with bound := false } else k } := rfl

theorem State.departed_frame (zf : Bool) (t : BitVec 4) (s : State) : s.departed zf t =
    { s with regions := s.regions.map (Region.left zf t), hubs := (s.departed zf t).hubs
             links := s.links.map fun (k : Link) => if k.tenant = t then { k with bound := false } else k } := by
  have hb := State.blocksBack_hubsOnly t { s with regions := s.regions.map (Region.left zf t) }
  unfold State.HubsOnly at hb
  rw [State.departed_eq]
  simp only
  rw [hb]

theorem State.part_departed (zf : Bool) (t : BitVec 4) (s : State) (p : Fin 12) : (s.departed zf t).part p = s.part p :=
  have hparts : (s.departed zf t).parts = s.parts := by rw [s.departed_frame zf t]
  congrArg (fun v : Vector Part 12 => v[p]) hparts

theorem State.region_departed (zf : Bool) (t : BitVec 4) (s : State) (r : Fin 1536) :
    (s.departed zf t).regions[r] = s.regions[r].left zf t := by
  rw [congrArg State.regions (s.departed_frame zf t)]
  exact Vector.getElem_map _ r.isLt

theorem State.link_departed (zf : Bool) (t : BitVec 4) (s : State) (n : Fin 16) :
    (s.departed zf t).links[n] = if s.links[n].tenant = t then { s.links[n] with bound := false } else s.links[n] := by
  rw [congrArg State.links (s.departed_frame zf t)]
  exact Vector.getElem_map _ n.isLt

theorem State.part_foldl_departed (zf : Bool) (ts : List (BitVec 4)) (s : State) (p : Fin 12) :
    (ts.foldl (State.departed zf) s).part p = s.part p := by
  induction ts generalizing s with
  | nil => rfl
  | cons t ts ih => rw [List.foldl_cons, ih, State.part_departed]

theorem State.part_tenantWipe (p : Fin 12) :
    (s.tenantWipe c).part p = if p ∈ s.secParts c.hub then Part.wipe .tenant (s.part p) else s.part p := by
  refine (State.part_foldl_departed _ _ _ p).trans ?_
  refine State.part_foldl (fun s p => ?_) (fun s p q hq => ?_) State.secParts_nodup s p
  · rw [State.part_wipePart, if_pos rfl]
  · rw [State.part_wipePart, if_neg hq]

/-- What a tenant change gives a partition (R430 step 5). -/
def Part.lease (t : BitVec 4) (q : Part) : Part :=
  { q with tenant := t, unavail := decide (q.pers = .held), isolated := decide (q.pers = .held) }

/-- The state once a tenant change has given its partitions. -/
def State.leased (c : SecCmd) (s : State) : State :=
  ((s.secParts c.hub).foldl (fun s p => s.modPart p (Part.lease (secTen c.v))) s).logSec 0x8E21

theorem State.tenantGive_eq : s.tenantGive c = (s.leased c).secEnd c 0 := rfl

theorem State.logSec_hubsOnly (code : Code) (s : State) : s.HubsOnly (s.logSec code) := State.logStamp_frame ..

theorem State.part_leased (p : Fin 12) :
    (s.leased c).part p = if p ∈ s.secParts c.hub then (s.part p).lease (secTen c.v) else s.part p :=
  ((State.logSec_hubsOnly ..).eq (State.part · p)).trans (State.part_foldl_modPart _ State.secParts_nodup s p)

/-! A phase of the command that runs (R430, R431) -/

theorem State.secGo_drain {r : SecRun} (hph : r.phase = .drain) :
    s.secGo r = if ((s.secParts r.cmd.hub).all fun p => (s.partReqs p).isEmpty) = true then s.tenantWipe r.cmd else s := by
  simp only [State.secGo, hph]

theorem State.secGo_rotate {r : SecRun} (hph : r.phase = .rotate) :
    s.secGo r = if (r.regs.any fun i => (s.secProgress r).regions[i].swap.isSome) = true then s.secProgress r
      else if secOp r.cmd.v = 1 then (s.secProgress r).tenantGive r.cmd else (s.secProgress r).secEnd r.cmd 0 := by
  simp only [State.secGo, hph]

/-- No region is due. -/
theorem State.not_any_swap {l : List (Fin 1536)} (h : ∀ i ∈ l, s.regions[i].swap = none) : ¬ (l.any fun i => s.regions[i].swap.isSome) = true := by
  rw [List.any_eq_true]
  rintro ⟨i, hi, hsome⟩
  rw [h i hi] at hsome
  exact Bool.false_ne_true hsome

theorem State.secGo_report {r : SecRun} (hph : r.phase = .report) : (r.ended = none → s.secGo r = s) ∧ ∀ st, r.ended = some st → s.secGo r = s.secEnd r.cmd st := by
  refine ⟨fun h => ?_, fun st h => ?_⟩
  · simp only [State.secGo, hph, h]
  · simp only [State.secGo, hph, h]

end

/-! REGION_SET (R431) -/

/-- The regions that a command names. -/
def State.namedRegion (s : State) (h : Fin 4) (r : Fin 1536) : Bool :=
  decide (fld (s.hub h).arg0 0 11 ≤ r.val) && decide (r.val < fld (s.hub h).arg0 0 11 + fld (s.hub h).arg0 16 11)

section
variable {c : SecCmd} {s : State}

theorem State.namedRegion_iff {h : Fin 4} {r : Fin 1536} : s.namedRegion h r = true ↔
    fld (s.hub h).arg0 0 11 ≤ r.val ∧ r.val < fld (s.hub h).arg0 0 11 + fld (s.hub h).arg0 16 11 := by
  rw [State.namedRegion, Bool.and_eq_true, decide_eq_true_iff, decide_eq_true_iff]

theorem State.regionSet_eq : s.regionSet c =
    if fld (s.hub c.hub).arg0 16 11 = 0 ∨ 1536 < fld (s.hub c.hub).arg0 0 11 + fld (s.hub c.hub).arg0 16 11 then s.secEnd c 0x8E01
    else if ((List.finRange 1536).any fun r => s.namedRegion c.hub r && (s.regions[r].fill || s.regions[r].swap == some true)) = true then
      s.secEnd c 0x8E03
    else State.secPhase c .rotate ((List.finRange 1536).filter fun r => s.namedRegion c.hub r && s.regions[r].turns c.v)
      { s with regions := Vector.ofFn fun r : Fin 1536 => if s.namedRegion c.hub r then s.regions[r].give c.v else s.regions[r] } := rfl

theorem State.secNow_secPhase_regions (c : SecCmd) (ph : SecPhase) (regs : List (Fin 1536)) (v : Vector Region 1536) (s : State) :
    (State.secPhase c ph regs { s with regions := v }).secNow = some { cmd := c, since := s.now, phase := ph, regs := regs, ended := none } := rfl

theorem Region.turns_iff {v : W32} {e : Region} : e.turns v = true ↔ e.ten ≠ secTen v ∨ secKr v = true := by
  rw [Region.turns, Bool.or_eq_true, decide_eq_true_iff]

theorem Region.give_of_turns {v : W32} {e : Region} (h : e.turns v = true) (hfill : e.swap ≠ some true) :
    e.give v = { e with ten := secTen v, host := secHost v, swap := some (secZf v) } := by
  have hsame : (secZf v || e.swap == some true) = secZf v := by
    rw [beq_false_of_ne hfill, Bool.or_false]
  rw [Region.give, if_pos h, Region.rotate, hsame]

theorem Region.give_of_stays {v : W32} {e : Region} (h : ¬ e.turns v = true) : e.give v = { e with ten := secTen v, host := secHost v } := by
  rw [Region.give, if_neg h]

end

/-! Life-cycle transitions (R433, R434, R436) -/

section
variable {tgt : Nat} {s : State}

theorem State.life_of_scrap (h : s.fuses.scrap = true) : s.life = 4 := by
  have hscrap : s.fuseBits.scrap = true := by rw [State.fuseBits, Fuses.read, h, Bool.true_or]
  rw [State.life, if_pos hscrap]

/-- Any state but SCRAPPED goes to SCRAPPED. -/
theorem State.transition_scrap (hlife : s.life ≠ 4) (ht : tgt = 4) :
    s.transition tgt = (0, s.burn fun u => { u with scrap := true, idSeed := BitVec.allOnes 256 }) := if_pos ⟨ht, hlife⟩

theorem State.transition_provision (hlife : s.life = 0) (ht : tgt = 1) :
    s.transition tgt = (0, { s with drbg := s.drbg + 1 }.burn fun u =>
      { u with prov := true, idSeed := Config.draw s.drbg, authH := BitVec.ofNat 384 (ofBytes (bytesOfWords (s.auth.toList.take 12))) }) := by
  subst ht
  rw [State.transition, if_neg (by omega), if_pos ⟨hlife, rfl⟩]

theorem State.transition_service (hlife : s.life = 1) (ht : tgt = 2) :
    s.transition tgt = if s.authorised 2 then (0, s.burn fun u => { u with svc0 := true }) else (0x8E05, s) := by
  subst ht
  simp only [State.transition, hlife, Nat.reduceEqDiff, false_and, if_false, and_self, if_true]

theorem State.transition_return (hlife : s.life = 2) (ht : tgt = 3) :
    s.transition tgt = if s.fuseBits.ret = BitVec.allOnes 16 then (0x8E06, s)
      else if s.authorised 3 then (0, s.burn fun u => { u with ret := u.ret ||| burnNext s.fuseBits.ret }) else (0x8E05, s) := by
  subst ht
  simp only [State.transition, hlife, Nat.reduceEqDiff, false_and, if_false, and_self, if_true]

theorem State.transition_resume (hlife : s.life = 3) (ht : tgt = 2) :
    s.transition tgt = if s.fuseBits.svc = BitVec.allOnes 16 then (0x8E06, s)
      else if s.authorised 2 then (0, s.burn fun u => { u with svc := u.svc ||| burnNext s.fuseBits.svc }) else (0x8E05, s) := by
  subst ht
  simp only [State.transition, hlife, Nat.reduceEqDiff, false_and, if_false, and_self, if_true]

theorem State.transition_none (h4 : ¬ (s.life ≠ 4 ∧ tgt = 4)) (h01 : ¬ (s.life = 0 ∧ tgt = 1)) (h12 : ¬ (s.life = 1 ∧ tgt = 2))
    (h23 : ¬ (s.life = 2 ∧ tgt = 3)) (h32 : ¬ (s.life = 3 ∧ tgt = 2)) : s.transition tgt = (0x8E04, s) := by
  rw [State.transition, if_neg fun h => h4 h.symm, if_neg h01, if_neg h12, if_neg h23, if_neg h32]

theorem State.lcAdvance_hub {h : Fin 4} {v : W32} (hne : h ≠ 0) : s.lcAdvance h v = (0x8E01, s) := if_pos hne

/-- Some partition runs a task. -/
theorem State.anyTask_iff : (s.parts.any fun q => q.task.isSome) = true ↔ ∃ p, (s.part p).task.isSome = true := by
  rw [Vector.any_eq_true]
  exact ⟨fun ⟨i, hi, h⟩ => ⟨⟨i, hi⟩, h⟩, fun ⟨p, h⟩ => ⟨p.val, p.isLt, h⟩⟩

theorem State.lcAdvance_busy {v : W32} (htask : ∃ p, (s.part p).task.isSome = true) : s.lcAdvance 0 v = (0x8E03, s) := by
  rw [State.lcAdvance, if_neg (by decide), if_pos (State.anyTask_iff.mpr htask)]

theorem State.lcAdvance_free {v : W32} (hfree : ¬ ∃ p, (s.part p).task.isSome = true) : s.lcAdvance 0 v =
    let r := s.transition (secTgt v)
    if r.1 ≠ 0 then r
    else (0, (({ r.2.coldWipe true with drbg := r.2.drbg + 1, tap := Vector.replicate 28 1 }).deriveKeys).logSec 0x8E20) := by
  rw [State.lcAdvance, if_neg (by decide), if_neg fun h => hfree (State.anyTask_iff.mp h)]

end

/-! ATTEST (R424) -/

section
variable {c : SecCmd} {s : State}

theorem State.attest_blank (hlife : s.life = 0 ∨ s.life = 4) : s.attest c = s.secEnd c 0x8E07 := if_pos hlife

theorem State.attest_report (hlife : ¬ (s.life = 0 ∨ s.life = 4))
    (hopen : s.hostOpen ((s.hub c.hub).arg3.toNat * 2 ^ 32 + fld (s.hub c.hub).arg2 11 21 * 2048) 2048 = true) :
    s.attest c = (s.secPhase c .report []).requestHere (.report c.hub) (.port c.hub) .write
      ((s.hub c.hub).arg3.toNat * 2 ^ 32 + fld (s.hub c.hub).arg2 11 21 * 2048) 2048
      (s.report c.hub ++ pointBytes (Config.sign s.idKey (s.report c.hub))) := by
  refine (if_neg hlife).trans (if_neg ?_)
  rw [hopen]
  exact fun h => Bool.false_ne_true h.symm

end

/-- Settles O53: by what the queue, the checks and each command of the security engine do. -/
theorem securityCommands : Obligations.SecurityCommands := by
  unfold Obligations.SecurityCommands
  refine ⟨fun h v s hready hfree => ?_, fun h v s hbusy => ?_, fun h v s hop => if_neg hop, fun s => ?_, fun v s => s.secForm_iff v, fun c s => ?_,
    fun c code s => rfl, fun c s => ?_, fun r s => ?_, fun c s => ?_, fun c s => ?_, fun q => ?_, fun t zf s => ?_, fun c s => ?_, fun c s => ?_,
    fun tgt s => ?_, fun h v s => ?_⟩
  · exact ⟨fun hop => congrArg Host.Outcome.next (State.secCommand_ready hready hfree hop), fun hop => congrArg Host.Outcome.next (State.secCommand_ready hready hfree hop),
      fun hop => congrArg Host.Outcome.next (State.secCommand_ready hready hfree hop), fun hop => congrArg Host.Outcome.next (State.secCommand_ready hready hfree hop)⟩
  · have hskip (op : Nat) : (.next (s.secCommand h op v) : Out) = .next s := congrArg Host.Outcome.next (State.secCommand_busy hbusy op)
    exact ⟨hskip 1, hskip 2, hskip 3, hskip 4⟩
  · refine ⟨rfl, fun r => State.secStep_running, State.secStep_empty, fun c t hnow hq => ⟨fun hw => ?_, fun hw => ?_⟩⟩
    · rw [State.secStep_next hnow hq, if_pos hw]
    · rw [State.secStep_next hnow hq, if_neg (by rw [hw]; exact Bool.false_ne_true)]
  · refine ⟨State.secRun_bad, fun hform => ?_⟩
    rw [State.secRun_op hform]
    exact ⟨fun h => by simp [h], fun h => by simp [h], fun h => by simp [h], fun h => by simp [h]⟩
  · refine ⟨State.tenantSet_busy, fun hfree => ?_⟩
    intro t
    have ht : t = _ := State.tenantSet_free hfree
    have hpart (p : Fin 12) := State.part_foldl_modPart Part.isolate (State.secParts_nodup (h := c.hub) (s := s)) s p
    have hframe := State.foldl_modPart Part.isolate (State.secParts_nodup (h := c.hub) (s := s)) s
    rw [ht]
    refine ⟨?_, fun p hp => (hpart p).trans (if_pos (State.mem_secParts.mpr hp)), fun p hp => (hpart p).trans (if_neg fun h => hp (State.mem_secParts.mp h)), ?_⟩
    · rw [hframe]
      rfl
    · rw [hframe]
      rfl
  · refine ⟨fun hph => ⟨fun hbusy => ?_, fun hnone => ?_⟩, fun hph => ⟨fun hdue => ?_, fun hnone => ⟨fun hop => ?_, fun hop => ?_⟩⟩, State.secGo_report⟩
    · obtain ⟨p, hp, hreq⟩ := hbusy
      rw [State.secGo_drain hph, if_neg fun h => hreq (List.isEmpty_iff.mp (List.all_eq_true.mp h p hp))]
    · rw [State.secGo_drain hph, if_pos (List.all_eq_true.mpr fun p hp => List.isEmpty_iff.mpr (hnone p hp))]
    · rw [State.secGo_rotate hph, if_pos (List.any_eq_true.mpr hdue)]
    · rw [State.secGo_rotate hph, if_neg (State.not_any_swap hnone), if_pos hop]
    · rw [State.secGo_rotate hph, if_neg (State.not_any_swap hnone), if_neg hop]
  · refine ⟨fun p hp => ?_, fun p hp => ?_, _, rfl⟩
    · rw [State.part_tenantWipe, if_pos (State.mem_secParts.mpr hp)]
    · rw [State.part_tenantWipe, if_neg fun h => hp (State.mem_secParts.mp h)]
  · refine ⟨s.leased c, rfl, fun p hp => ?_, fun p hp => ?_⟩
    · rw [State.part_leased, if_pos (State.mem_secParts.mpr hp)]
      rfl
    · rw [State.part_leased, if_neg fun h => hp (State.mem_secParts.mp h)]
  · refine ⟨rfl, rfl, rfl, rfl, rfl, rfl, fun l => ?_⟩
    have hcore : (Part.wipe .tenant q).cores[l] = q.cores[l].wipe false q.grid67 := Vector.getElem_map _ l.isLt
    rw [hcore]
    simp only [Core.wipe, Bool.false_eq_true, if_false, and_self]
  · exact ⟨fun r => s.region_departed zf t r, fun n => s.link_departed zf t n⟩
  · intro base n turn
    have hnamed (r : Fin 1536) : s.namedRegion c.hub r = true ↔ base ≤ r.val ∧ r.val < base + n := State.namedRegion_iff
    have hheld : ((List.finRange 1536).any fun r => s.namedRegion c.hub r && (s.regions[r].fill || s.regions[r].swap == some true)) = true ↔
        ∃ r : Fin 1536, base ≤ r.val ∧ r.val < base + n ∧ (s.regions[r].fill = true ∨ s.regions[r].swap = some true) := by
      simp only [List.any_eq_true, List.mem_finRange, true_and, Bool.and_eq_true, hnamed, Bool.or_eq_true, beq_iff_eq, and_assoc]
    refine ⟨fun hbad => ?_, fun hok hbusy => ?_, fun hok hfree => ?_⟩
    · rw [State.regionSet_eq, if_pos hbad]
    · rw [State.regionSet_eq, if_neg hok, if_pos (hheld.mpr hbusy)]
    · intro t
      have hnone : ¬ ∃ r : Fin 1536, base ≤ r.val ∧ r.val < base + n ∧ (s.regions[r].fill = true ∨ s.regions[r].swap = some true) := by
        rintro ⟨r, hlo, hhi, hh⟩
        obtain ⟨hfill, hswap⟩ := hfree r hlo hhi
        exact hh.elim (fun k => Bool.false_ne_true (hfill.symm.trans k)) hswap
      have ht : t = _ := State.regionSet_eq.trans ((if_neg hok).trans (if_neg fun h => hnone (hheld.mp h)))
      have hregion (r : Fin 1536) : t.regions[r] = if s.namedRegion c.hub r then s.regions[r].give c.v else s.regions[r] := by
        rw [ht]
        exact Vector.getElem_ofFn r.isLt
      refine ⟨⟨(List.finRange 1536).filter fun r => s.namedRegion c.hub r && s.regions[r].turns c.v, by rw [ht, State.secNow_secPhase_regions], fun r => ?_⟩,
        by rw [ht, State.secPhase], fun r => ⟨fun hr => ⟨fun hturn => ?_, fun hturn => ?_⟩, fun hr => ?_⟩⟩
      · rw [List.mem_filter, Bool.and_eq_true, hnamed, Region.turns_iff, and_assoc]
        exact and_iff_right (List.mem_finRange r)
      · rw [hregion, if_pos ((hnamed r).mpr hr), Region.give_of_turns (Region.turns_iff.mpr hturn) (hfree r hr.1 hr.2).2]
      · rw [hregion, if_pos ((hnamed r).mpr hr), Region.give_of_stays fun h => hturn (Region.turns_iff.mp h)]
      · rw [hregion, if_neg fun h => hr ((hnamed r).mp h)]
  · exact ⟨State.attest_blank, fun h0 h4 hopen => State.attest_report (not_or.mpr ⟨h0, h4⟩) hopen⟩
  · refine ⟨fun hlife ht => ⟨State.transition_scrap hlife ht, ?_⟩, fun hlife ht => ⟨_, State.transition_provision hlife ht, rfl, rfl, rfl, rfl⟩,
      State.transition_service, fun hlife ht hleft => ?_, fun hlife ht hleft => ?_, fun hall => ?_, State.transition_none, rfl, rfl⟩
    · rw [State.transition_scrap hlife ht]
      exact State.life_of_scrap rfl
    · rw [State.transition_return hlife ht, if_neg hleft]
    · rw [State.transition_resume hlife ht, if_neg hleft]
    · rcases hall with ⟨hlife, ht, hret⟩ | ⟨hlife, ht, hsvc⟩
      · rw [State.transition_return hlife ht, if_pos hret]
      · rw [State.transition_resume hlife ht, if_pos hsvc]
  · refine ⟨State.lcAdvance_hub, fun h0 htask => ?_, fun h0 hfree code t ht => ⟨fun hcode => ?_, fun hcode => ?_⟩⟩
    · subst h0
      exact State.lcAdvance_busy htask
    · subst h0
      rw [State.lcAdvance_free hfree, ht]
      exact if_pos hcode
    · subst h0
      rw [State.lcAdvance_free hfree, ht]
      exact if_neg (not_not.mpr hcode)

end Sys2Proof.Machine
end

section
/-! O51: flits (R378, R381 to R384, R391, R392, R399, R400). -/

namespace Sys2Proof.Machine

/-! The CRC of a flit (R378) -/

theorem crcBit_lt {w poly c : Nat} (hc : c < 2 ^ w) : crcBit w poly c < 2 ^ w := by
  unfold crcBit
  split
  · exact Nat.mod_lt _ (Nat.two_pow_pos w)
  · exact lt_of_le_of_lt (Nat.div_le_self c 2) hc

theorem crcRef_lt {w poly c : Nat} (hw : 8 ≤ w) (hc : c < 2 ^ w) (l : List Byte) : crcRef w poly c l < 2 ^ w := by
  refine List.foldlRecOn (motive := fun c => c < 2 ^ w) l _ hc fun c hc b _ => ?_
  have hb : b.toNat < 2 ^ w := lt_of_lt_of_le b.isLt (Nat.pow_le_pow_right (by decide) hw)
  have hx : Nat.xor c b.toNat < 2 ^ w := Nat.xor_lt_two_pow hc hb
  iterate 8 refine crcBit_lt ?_
  exact hx

theorem flitCrc_lt (l : List Byte) : flitCrc l < 2 ^ 32 :=
  Nat.xor_lt_two_pow (crcRef_lt (by decide) (by decide) l) (by decide)

theorem length_flitOf (hdr : Nat) {body : List Byte} (h : body.length ≤ 244) : (flitOf hdr body).length = 256 := by
  simp only [flitOf, List.length_append, length_bytesOf]
  omega

theorem take_flitOf (hdr : Nat) {body : List Byte} (h : body.length ≤ 244) :
    (flitOf hdr body).take 252 = bytesOf 8 hdr ++ body ++ bytesOf (244 - body.length) 0 := by
  have hlen : (bytesOf 8 hdr ++ body ++ bytesOf (244 - body.length) 0).length = 252 := by
    simp only [List.length_append, length_bytesOf]
    omega
  rw [flitOf]
  exact List.take_left' hlen

theorem crc_flitOf (hdr : Nat) {body : List Byte} (h : body.length ≤ 244) :
    hfield (flitOf hdr body) 252 4 = flitCrc ((flitOf hdr body).take 252) := by
  have hlen : (bytesOf 8 hdr ++ body ++ bytesOf (244 - body.length) 0).length = 252 := by
    simp only [List.length_append, length_bytesOf]
    omega
  rw [take_flitOf hdr h, hfield, flitOf]
  rw [List.drop_left' hlen, List.take_of_length_le (by rw [length_bytesOf]), ofBytes_bytesOf]
  exact Nat.mod_eq_of_lt (flitCrc_lt _)

/-! One flit slot (R378, R381, R383) -/

/-- The wait for credits, kept with each slot. -/
def Link.timed (now : W64) (k : Link) : Link :=
  { k with credWait := if k.starved then (match k.credWait with
                                          | some t => some t
                                          | none => some now) else none }

/-- The data flit that a link sends next in a VC. -/
def Link.newFlit (k : Link) (vc : Nat) : List Byte :=
  flitOf (1 + k.txSeq.toNat * 4 + k.commonHdr + vc * 2 ^ 41 + (fillBody vc 130 [] none k).2.1.getD 63 * 2 ^ 43) (fillBody vc 130 [] none k).1

/-- The link after a new data flit of a VC. -/
def Link.dataFlit (k : Link) (vc : Nat) : Link :=
  { (fillBody vc 130 [] none k).2.2.sent (k.newFlit vc) with
    txSeq := k.txSeq + 1, replay := (fillBody vc 130 [] none k).2.2.replay ++ [(k.txSeq, k.newFlit vc)] }

/-- The link after the flit of a slot. -/
def Link.flown (k : Link) : Link :=
  if k.state = .quar then k.idleFlit
  else
    match k.resend with
    | f :: t => { k with resend := t, txDone := k.txDone ++ [f.2] }
    | [] =>
      if 512 ≤ k.replay.length then k.idleFlit
      else
        match k.pickVc with
        | none => k.idleFlit
        | some vc => k.dataFlit vc

theorem Link.slot_eq (now : W64) (k : Link) : Link.slot now k = k.flown.timed now := rfl

/-! What a packet's begin and a body's fill leave of a link -/

section
variable {o : OutPacket} {k : Link}

/-- A packet leaves sealed under the key and the counter (R391). -/
theorem Link.begin_bytes (h6 : (Header.ofBits o.hdr).ptype ≠ 6) (h7 : (Header.ofBits o.hdr).ptype ≠ 7) :
    let ct := gcm k.txKey (packIv k.txCtr) o.data
    (k.begin o).1 = bytesOf 24 o.hdr.toNat ++ ct ++ bytesOf 16 (Config.tag k.txKey (packIv k.txCtr) (bytesOf 24 o.hdr.toNat) ct).toNat :=
  congrArg Prod.fst (if_neg (not_or.mpr ⟨h6, h7⟩))

/-- KEYUPD renews the key and begins the counter again (R392). -/
theorem Link.begin_keyupd (h8 : (Header.ofBits o.hdr).ptype = 8) :
    (k.begin o).2.txKey = nextKey k.txKey k.txCtr ∧ (k.begin o).2.txCtr = 0 := by
  have hno : ¬ (8 = 6 ∨ 8 = 7) := by decide
  simp only [Link.begin, h8, if_neg hno, if_true, and_self]

/-- Another sealed packet counts. -/
theorem Link.begin_counts (h6 : (Header.ofBits o.hdr).ptype ≠ 6) (h7 : (Header.ofBits o.hdr).ptype ≠ 7) (h8 : (Header.ofBits o.hdr).ptype ≠ 8) :
    (k.begin o).2.txKey = k.txKey ∧ (k.begin o).2.txCtr = k.txCtr + 1 := by
  simp only [Link.begin, if_neg (not_or.mpr ⟨h6, h7⟩), if_neg h8, and_self]

end

theorem Link.begin_keeps (o : OutPacket) (k : Link) : (k.begin o).2.txDone = k.txDone ∧ (k.begin o).2.replay = k.replay := by
  unfold Link.begin
  simp only
  split
  · exact ⟨rfl, rfl⟩
  · split <;> exact ⟨rfl, rfl⟩

theorem Link.setRest_keeps (k : Link) (vc : Nat) (l : List Byte) : (k.setRest vc l).txDone = k.txDone ∧ (k.setRest vc l).replay = k.replay :=
  ⟨rfl, rfl⟩

/-- Filling a body sends no flit. -/
theorem fillBody_keeps (vc n : Nat) (b : List Byte) (st : Option Nat) (k : Link) :
    (fillBody vc n b st k).2.2.txDone = k.txDone ∧ (fillBody vc n b st k).2.2.replay = k.replay := by
  induction n generalizing b st k with
  | zero => exact ⟨rfl, rfl⟩
  | succ n ih =>
    unfold fillBody
    simp only
    split
    · exact ⟨rfl, rfl⟩
    · split
      · exact ih ..
      · split
        · exact ⟨rfl, rfl⟩
        · split
          · exact ⟨rfl, rfl⟩
          · rename_i o _
            obtain ⟨hdone, hreplay⟩ := k.begin_keeps o
            obtain ⟨hd, hr⟩ := ih b (st.orElse fun _ => some (b.length / 4)) ((k.begin o).2.setRest vc (k.begin o).1)
            exact ⟨hd.trans hdone, hr.trans hreplay⟩

theorem Link.repaid_keeps (v n : Nat) (k : Link) : (k.repaid v n).txDone = k.txDone ∧ (k.repaid v n).replay = k.replay ∧ (k.repaid v n).resend = k.resend := by
  unfold Link.repaid
  simp only
  split <;> exact ⟨rfl, rfl, rfl⟩

theorem Link.sent_keeps (k : Link) (flit : List Byte) : (k.sent flit).txDone = k.txDone ++ [flit] ∧ (k.sent flit).replay = k.replay := by
  obtain ⟨hdone, hreplay, -⟩ := Link.repaid_keeps (if k.state = .quar then (0, 0) else k.returns).1 (if k.state = .quar then (0, 0) else k.returns).2
    { k with txDone := k.txDone ++ [flit], nakOwed := false, ackOwed := 0 }
  exact ⟨hdone, hreplay⟩

theorem Link.dataFlit_sends (k : Link) (vc : Nat) : (k.dataFlit vc).txSeq = k.txSeq + 1 ∧ (k.dataFlit vc).txDone = k.txDone ++ [k.newFlit vc]
    ∧ (k.dataFlit vc).replay = k.replay ++ [(k.txSeq, k.newFlit vc)] := by
  obtain ⟨hdone, hreplay⟩ := fillBody_keeps vc 130 [] none k
  have hsent := ((fillBody vc 130 [] none k).2.2.sent_keeps (k.newFlit vc)).1
  rw [hdone] at hsent
  simp only [Link.dataFlit, hsent, hreplay, and_self]

section
variable {k : Link}

theorem Link.flown_quar (h : k.state = .quar) : k.flown = k.idleFlit := if_pos h

theorem Link.flown_resend (h : k.state ≠ .quar) {f : BitVec 12 × List Byte} {t : List (BitVec 12 × List Byte)} (hr : k.resend = f :: t) :
    k.flown = { k with resend := t, txDone := k.txDone ++ [f.2] } := by
  simp only [Link.flown, if_neg h, hr]

theorem Link.flown_idle (h : k.state ≠ .quar) (hr : k.resend = []) (hno : 512 ≤ k.replay.length ∨ k.pickVc = none) : k.flown = k.idleFlit := by
  rcases hno with hfull | hno
  · simp only [Link.flown, if_neg h, hr, if_pos hfull]
  · simp only [Link.flown, if_neg h, hr, hno, ite_self]

theorem Link.flown_data (h : k.state ≠ .quar) (hr : k.resend = []) (hroom : k.replay.length < 512) {vc : Nat} (hvc : k.pickVc = some vc) :
    k.flown = k.dataFlit vc := by
  simp only [Link.flown, if_neg h, hr, if_neg (Nat.not_le.mpr hroom), hvc]

/-- In QUAR a link returns no credits. -/
theorem Link.commonHdr_quar (h : k.state = .quar) : k.commonHdr = (k.rxSeq - 1).toNat * 2 ^ 14 + flag k.nakOwed 26 := by
  simp only [Link.commonHdr, if_pos h, Nat.zero_mul, Nat.add_zero]

theorem Link.owed_idleFlit_quar (h : k.state = .quar) : k.idleFlit.owed = k.owed := by
  simp only [Link.idleFlit, Link.sent, if_pos h, Link.repaid, Nat.zero_min, Nat.sub_zero]
  rw [if_neg (by decide)]
  exact vset_vget 0 k.owed (by decide)

/-! The next VC (R381) -/

theorem Link.pickVc_sync (h : k.hasData 3 = true) : k.pickVc = some 3 := if_pos h

theorem Link.pickVc_control (h3 : k.hasData 3 = false) (h2 : k.hasData 2 = true) : k.pickVc = some 2 := by
  rw [Link.pickVc, h3, h2, if_neg Bool.false_ne_true, if_pos rfl]

theorem Link.pickVc_turn (h3 : k.hasData 3 = false) (h2 : k.hasData 2 = false) (r0 : k.rest 0 = []) (r1 : k.rest 1 = []) (h0 : k.hasData 0 = true)
    (h1 : k.hasData 1 = true) : k.pickVc = some (if k.altVc then 1 else 0) := by
  cases halt : k.altVc <;> simp [Link.pickVc, h3, h2, r0, r1, h0, h1, halt]

end

/-! What waits for a link enters its egress queue (R382) -/

section
variable {n : Fin 16} {f : Nat} {s : State}

theorem State.enterLink_full (h : ∀ w ∈ s.links[n].waits, s.links[n].space w.cls = false) : s.enterLink n f = s := by
  cases f with
  | zero => rfl
  | succ f =>
    have hnone : (s.links[n].waits.find? fun w => s.links[n].space w.cls) = none :=
      List.find?_eq_none.mpr fun w hw => by rw [h w hw]; exact Bool.false_ne_true
    simp only [State.enterLink, hnone]

theorem State.modLink_congr {g g' : Link → Link} (h : g s.links[n] = g' s.links[n]) : s.modLink n g = s.modLink n g' := by
  simp only [State.modLink, h]

theorem State.enterLink_space {pre post : List Waiting} {w : Waiting} (hw : s.links[n].waits = pre ++ w :: post)
    (hpre : ∀ x ∈ pre, s.links[n].space x.cls = false) (hspace : s.links[n].space w.cls = true) :
    s.enterLink n (f + 1) = ((s.modLink n fun k => { k with waits := pre ++ post }).accept n w).enterLink n f := by
  obtain ⟨hfirst, hrest⟩ := find?_and_erase_of_first (f := fun w : Waiting => s.links[n].space w.cls) (post := post) hpre hspace
  rw [← hw] at hfirst hrest
  have herase : s.modLink n (fun k => { k with waits := k.waits.erase w }) = s.modLink n fun k => { k with waits := pre ++ post } :=
    State.modLink_congr (by rw [hrest])
  simp only [State.enterLink, hfirst, herase]

end

/-! A received flit (R383, R400) -/

section
variable {n : Fin 16} {flit : List Byte} {s : State}

theorem State.flitIn_bad (h : 2 ≤ fieldN (hfield flit 0 8) 0 2 ∨ fieldN (hfield flit 0 8) 43 6 = 61 ∨ fieldN (hfield flit 0 8) 43 6 = 62
    ∨ fieldN (hfield flit 0 8) 49 15 ≠ 0) : s.flitIn n flit = s.linkQuar n 0x6C05 := if_pos h

theorem State.flitIn_good (hgood : ¬ (2 ≤ fieldN (hfield flit 0 8) 0 2 ∨ fieldN (hfield flit 0 8) 43 6 = 61 ∨ fieldN (hfield flit 0 8) 43 6 = 62
    ∨ fieldN (hfield flit 0 8) 49 15 ≠ 0)) : s.flitIn n flit =
      if fieldN (hfield flit 0 8) 0 2 = 1 ∧ fieldN (hfield flit 0 8) 2 12 ≠ s.links[n].rxSeq.toNat then s.modLink n Link.badFlit
      else
        let u := s.modLink n (Link.heard (hfield flit 0 8))
        let v := (u.modLink n (Link.inOrder u.now)).bodyIn n (fieldN (hfield flit 0 8) 41 2) (words4 ((flit.drop 8).take 244))
        if fieldN (hfield flit 0 8) 26 1 = 1 ∧ 8 ≤ u.links[n].nakRun then (u.logHub (linkHub n) 0x6C02 0).linkDown n .retry
        else if fieldN (hfield flit 0 8) 0 2 = 0 then u
        else if 64 ≤ v.links[n].ackOwed then v.transmit n else v := if_neg hgood

theorem State.modLink_modLink (g g' : Link → Link) : (s.modLink n g).modLink n g' = s.modLink n fun k => g' (g k) := by
  simp [State.modLink]

theorem exec_flitReceive (hst : s.links[n].state = .auth ∨ s.links[n].state = .active) (hlen : flit.length = 256) (fec : Bool) :
    exec (.flitReceive n fec flit) s = .next (if fec = true ∧ flitCrc (flit.take 252) = hfield flit 252 4 then
      (s.modLink n fun k => { k with lastRx := s.now }).flitIn n flit
      else s.modLink n fun k => Link.badFlit { k with lastRx := s.now }) := by
  refine (congrArg Host.Outcome.next (if_pos ⟨hst, hlen⟩) : execFlitReceive n fec flit s = _).trans ?_
  simp only [State.modLink_modLink, Bool.and_eq_true, decide_eq_true_eq]

end

/-! The heartbeat (R399) -/

theorem State.vc_ownPacket (s : State) (n : Fin 16) (ptype : Nat) (data : List Byte) :
    (s.ownPacket n ptype data).vc = BitVec.ofNat 2 (packVc ptype) := by
  rw [State.ownPacket]

theorem exec_heartbeatSend {n : Fin 16} {s : State} (hst : s.links[n].state = .active) (hlate : 10000 ≤ (s.now - s.links[n].lastBeat).toNat) :
    exec (.heartbeatSend n) s = .next ((s.modLink n fun k => { k with lastBeat := s.now }).modLink n fun k =>
      { k with egress := k.egress ++ [(s.modLink n fun k => { k with lastBeat := s.now }).ownPacket n 9 []] }) := by
  refine (congrArg Host.Outcome.next (if_pos ⟨hst, hlate⟩) : execHeartbeatSend n s = _).trans ?_
  rw [State.linkPacket_eq]

/-- Settles O51: by what each slot, each packet and each received flit do to the link. -/
theorem linkFlits : Obligations.LinkFlits := by
  unfold Obligations.LinkFlits
  refine ⟨fun n s hst => ⟨congrArg Host.Outcome.next (if_pos hst), rfl⟩,
    fun n f s => ⟨State.enterLink_full, fun pre w post hw hpre hspace _ => State.enterLink_space hw hpre hspace⟩, fun now k => ?_,
    fun hdr body hb => ⟨length_flitOf hdr hb, crc_flitOf hdr hb⟩, fun o k => ?_, fun n fec flit s => ?_, fun n flit s => ?_, fun now k => ?_, fun n s hst howed => ?_,
    fun n s hst hlate => ?_⟩
  · simp only [Link.slot_eq]
    refine ⟨fun h => ?_, fun h f t hr => ?_, fun h hr hno => ?_, fun h hr hroom vc hvc => ?_, Link.pickVc_sync, Link.pickVc_control, Link.pickVc_turn⟩
    · rw [Link.flown_quar h]
      have hsent := (k.sent_keeps (flitOf k.commonHdr [])).1
      exact ⟨hsent.trans (by rw [Link.commonHdr_quar h]), Link.owed_idleFlit_quar h⟩
    · rw [Link.flown_resend h hr]
      exact ⟨rfl, rfl, rfl⟩
    · rw [Link.flown_idle h hr hno]
      exact k.sent_keeps _
    · obtain ⟨hseq, hdone, hreplay⟩ := k.dataFlit_sends vc
      rw [Link.flown_data h hr hroom hvc]
      exact ⟨k.newFlit vc, hseq, hdone, hreplay, rfl⟩
  · exact ⟨Link.begin_bytes, Link.begin_keyupd, Link.begin_counts⟩
  · intro k good hst hlen
    refine ⟨fun hbad => ?_, fun hgood => ?_⟩
    · rw [exec_flitReceive hst hlen, if_neg hbad]
      rfl
    · rw [exec_flitReceive hst hlen, if_pos hgood]
  · intro h bad late u v
    have hin (hgood : ¬ bad) := State.flitIn_good (n := n) (flit := flit) (s := s) hgood
    refine ⟨State.flitIn_bad, fun hgood hlate => ?_, fun hgood hlate hnak hrun => ?_, fun hgood hlate hno => ⟨fun h0 => ?_, fun h1 => ?_⟩⟩
    · exact (hin hgood).trans (if_pos hlate)
    · exact (hin hgood).trans ((if_neg hlate).trans (if_pos ⟨hnak, hrun⟩))
    · exact (hin hgood).trans ((if_neg hlate).trans ((if_neg hno).trans (if_pos h0)))
    · exact (hin hgood).trans ((if_neg hlate).trans ((if_neg hno).trans (if_neg fun h0 => Nat.one_ne_zero (h1.symm.trans h0))))
  · exact ⟨rfl, rfl, rfl, fun h => if_pos h, fun h => if_neg h⟩
  · exact ⟨fun hlate => congrArg Host.Outcome.next (if_pos ⟨hst.symm, howed, hlate⟩),
      fun hearly => congrArg Host.Outcome.next (if_neg fun h => Nat.not_le.mpr hearly h.2.2)⟩
  · have hrun := exec_heartbeatSend hst hlate
    generalize ho : (s.modLink n fun k => { k with lastBeat := s.now }).ownPacket n 9 [] = o at hrun
    refine ⟨_, o, hrun, ?_, ?_, ?_, ?_, fun m hm => ?_, rfl⟩
    · rw [← ho, State.ptype_ownPacket _ n (by decide)]
    · rw [← ho, State.vc_ownPacket]
      rfl
    · rw [← ho, State.data_ownPacket]
    · rw [State.link_modLink, State.link_modLink]
    · rw [State.link_modLink_ne _ hm, State.link_modLink_ne _ hm]

end Sys2Proof.Machine
end

section
/-! O37: messages of a control port (R326, R404 to R408, R411). -/

namespace Sys2Proof.Machine

/-! Words and their bytes (R10) -/

theorem wordsOf_append {x : List Byte} (hx : x.length = 4) (l : List Byte) : wordsOf (x ++ l) = BitVec.ofNat 32 (ofBytes x) :: wordsOf l := by
  have hlen : (x ++ l).length / 4 = l.length / 4 + 1 := by
    rw [List.length_append, hx]
    omega
  rw [wordsOf, hlen, List.range_succ_eq_map, List.map_cons, List.map_map, Nat.mul_zero, List.drop_zero, List.take_left' hx]
  refine congrArg _ (List.map_congr_left fun i _ => ?_)
  have hdrop : (x ++ l).drop (4 * (i + 1)) = l.drop (4 * i) := by
    rw [Nat.mul_succ, Nat.add_comm, ← List.drop_drop, List.drop_left' hx]
  simp only [Function.comp_apply, hdrop]

theorem wordsOf_bytesOfWords (d : List W32) : wordsOf (bytesOfWords d) = d := by
  induction d with
  | nil => rfl
  | cons w d ih =>
    have hcons : bytesOfWords (w :: d) = bytesOf 4 w.toNat ++ bytesOfWords d := rfl
    rw [hcons, wordsOf_append (length_bytesOf 4 _), ih, ofBytes_bytesOf_toNat 4 rfl, BitVec.ofNat_toNat, BitVec.setWidth_eq]

/-! A number packed of fields -/

theorem fieldN_add_above {lo w k : Nat} (h : lo + w ≤ k) (a b : Nat) : fieldN (a + b * 2 ^ k) lo w = fieldN a lo w := by
  obtain ⟨c, rfl⟩ := Nat.exists_eq_add_of_le h
  have hsplit : a + b * 2 ^ (lo + w + c) = a + b * 2 ^ c * 2 ^ w * 2 ^ lo := by ring
  rw [fieldN, fieldN, hsplit, Nat.add_mul_div_right _ _ (Nat.two_pow_pos lo), Nat.add_mul_mod_self_right]

theorem fieldN_top {lo w a : Nat} (h : a < 2 ^ lo) (b : Nat) : fieldN (a + b * 2 ^ lo) lo w = b % 2 ^ w := by
  rw [fieldN, Nat.add_mul_div_right _ _ (Nat.two_pow_pos lo), Nat.div_eq_of_lt h, Nat.zero_add]

theorem fld_ofNat {n lo w : Nat} (h : lo + w ≤ n) (x : Nat) : fld (BitVec.ofNat n x) lo w = fieldN x lo w := by
  obtain ⟨c, rfl⟩ := Nat.exists_eq_add_of_le h
  have hmod : x = x % 2 ^ (lo + w + c) + x / 2 ^ (lo + w + c) * 2 ^ (lo + w + c) := (Nat.mod_add_div' x _).symm
  rw [fld, BitVec.toNat_ofNat]
  conv_rhs => rw [hmod, fieldN_add_above (by omega)]

/-! Headers of messages to the host (R404) -/

theorem header_completion (tag : Byte) (st : Code) {d : List W32} (hd : d.length ≤ 64) :
    let m := HostMsg.header (.completion tag st d)
    fld m 0 4 = 8 ∧ fld m 8 8 = tag.toNat ∧ fld m 16 7 = d.length ∧ fld m 88 16 = st.toNat := by
  have ht := tag.isLt
  have hst := st.isLt
  have hbound : 0x8 + tag.toNat * 2 ^ 8 + d.length % 128 * 2 ^ 16 < 2 ^ 88 :=
    lt_of_lt_of_le (by omega : _ < 2 ^ 23) (Nat.pow_le_pow_right (by decide) (by decide))
  simp only [HostMsg.header]
  refine ⟨?_, ?_, ?_, ?_⟩
  · rw [fld_ofNat (by decide), fieldN_add_above (by decide), fieldN_add_above (by decide), fieldN_add_above (by decide)]
    rfl
  · rw [fld_ofNat (by decide), fieldN_add_above (by decide), fieldN_add_above (by decide), fieldN_top (by decide), Nat.mod_eq_of_lt ht]
  · rw [fld_ofNat (by decide), fieldN_add_above (by decide), fieldN_top (by omega)]
    omega
  · rw [fld_ofNat (by decide), fieldN_top hbound, Nat.mod_eq_of_lt hst]

theorem header_busy (tag : Byte) (lop : BitVec 4) (prog : Byte) :
    let m := HostMsg.header (.busy tag lop prog)
    fld m 0 4 = 9 ∧ fld m 8 8 = tag.toNat ∧ fld m 104 8 = prog.toNat ∧ fld m 112 4 = lop.toNat := by
  have ht := tag.isLt
  have hp := prog.isLt
  have hl := lop.isLt
  have hlow : 0x9 + tag.toNat * 2 ^ 8 < 2 ^ 104 := lt_of_lt_of_le (by omega : _ < 2 ^ 16) (Nat.pow_le_pow_right (by decide) (by decide))
  have hhigh : 0x9 + tag.toNat * 2 ^ 8 + prog.toNat * 2 ^ 104 < 2 ^ 112 := by
    have hprog : (prog.toNat + 1) * 2 ^ 104 ≤ 2 ^ 8 * 2 ^ 104 := Nat.mul_le_mul_right _ hp
    rw [← Nat.pow_add, Nat.succ_mul] at hprog
    exact lt_of_lt_of_le (by rw [Nat.add_comm (prog.toNat * 2 ^ 104)]; exact Nat.add_lt_add_right hlow _) hprog
  simp only [HostMsg.header]
  refine ⟨?_, ?_, ?_, ?_⟩
  · rw [fld_ofNat (by decide), fieldN_add_above (by decide), fieldN_add_above (by decide), fieldN_add_above (by decide)]
    rfl
  · rw [fld_ofNat (by decide), fieldN_add_above (by decide), fieldN_add_above (by decide), fieldN_top (by decide), Nat.mod_eq_of_lt ht]
  · rw [fld_ofNat (by decide), fieldN_add_above (by decide), fieldN_top hlow, Nat.mod_eq_of_lt hp]
  · rw [fld_ofNat (by decide), fieldN_top hhigh, Nat.mod_eq_of_lt hl]

theorem header_event (e : Event) : fld (HostMsg.header (.event e)) 0 4 = 0xA ∧ fld (HostMsg.header (.event e)) 16 7 = 8 := by
  simp only [HostMsg.header]
  decide

/-! READ and WRITE messages (R405, R406) -/

section
variable {h : Fin 4} {hdr : BitVec 128} {data : List W32} {s : State} {f : State → State}

/-- A port that is up and not BUSY takes a message. -/
theorem State.portMessage_free (hready : s.phase = .ready) (hup : (s.hub h).portUp = true) (hfree : (s.hub h).busy = none) :
    s.portMessage h hdr f = f s := by
  simp only [State.portMessage, hready, hup, hfree, and_self, if_true]

theorem State.portMessage_busy {o : Busy} (hready : s.phase = .ready) (hup : (s.hub h).portUp = true) (hbusy : (s.hub h).busy = some o)
    (hlo : 1 ≤ msgType hdr) (hhi : msgType hdr ≤ 3) : s.portMessage h hdr f = s.say h (.busy (msgTag hdr) o.lop o.prog) := by
  simp only [State.portMessage, hready, hup, hbusy, hlo, hhi, and_self, if_true]

/-- The state once a port's request holds its tag. -/
def State.tagged (h : Fin 4) (tag : Byte) (s : State) : State := s.modHub h fun b => { b with tagsOut := b.tagsOut ++ [tag] }

theorem State.portTake_now {tag : Byte} {a len : Nat} (hw : s.portWaits h a (!data.isEmpty) = []) : s.portTake h tag a len data =
    (s.tagged h tag).hubRun { src := .port h, addr := a, len := len, data := data, who := .port h tag, waits := [] } := by
  simp only [State.portTake, hw, List.isEmpty_nil, if_true, State.tagged]

theorem State.portTake_later {tag : Byte} {a len : Nat} (hw : s.portWaits h a (!data.isEmpty) ≠ []) : s.portTake h tag a len data =
    (s.tagged h tag).modHub h fun b => { b with aliases := b.aliases ++
      [{ src := .port h, addr := a, len := len, data := data, who := .port h tag, waits := s.portWaits h a (!data.isEmpty) }] } := by
  have hne : (s.portWaits h a (!data.isEmpty)).isEmpty = false := by
    rw [List.isEmpty_eq_false_iff]
    exact hw
  simp only [State.portTake, hne, Bool.false_eq_true, if_false, State.tagged]

theorem State.hubRun_read {tag : Byte} {a len : Nat} {st : Code} {d : List W32} {u : State} (hq : addrQueue a = none)
    (hread : s.regReadN (.port h) a len = (st, d, u)) :
    s.hubRun { src := .port h, addr := a, len := len, data := [], who := .port h tag, waits := [] } = u.portAnswer h tag st d := by
  simp only [State.hubRun, hq, Option.isSome_none, Bool.false_eq_true, if_false, List.isEmpty_nil, if_true, hread, State.complete, wordsOf_bytesOfWords]

theorem State.hubRun_write {tag : Byte} {a : Nat} {st : Code} {u : State} (hq : addrQueue a = none) (hdata : data ≠ [])
    (hfree : (s.hub h).busy = none) (hwrite : s.regWriteN (.port h) a (4 * data.length) data (some (h, tag)) = .now st u) :
    s.hubRun { src := .port h, addr := a, len := 0, data := data, who := .port h tag, waits := [] } = u.portAnswer h tag st [] := by
  have hne : data.isEmpty = false := List.isEmpty_eq_false_iff.mpr hdata
  simp only [State.hubRun, hq, Option.isSome_none, Bool.false_eq_true, if_false, hne, State.busyFor, hfree, ite_self, hwrite, State.complete]
  rfl

theorem State.hubRun_memory {tag : Byte} {a len : Nat} (hq : (addrQueue a).isSome = true) :
    s.hubRun { src := .port h, addr := a, len := len, data := data, who := .port h tag, waits := [] } =
      s.memAsk { who := .port h tag, src := .port h, kind := if data.isEmpty then .read else .write, addr := a,
                 len := if data.isEmpty then len else 4 * data.length, data := bytesOfWords data, got := [],
                 arrive := none, last := false, tail := false, consume := false } := if_pos hq

theorem exec_controlRead (hready : s.phase = .ready) (hup : (s.hub h).portUp = true) (hfree : (s.hub h).busy = none)
    (hval : s.msgValid h 1 hdr = true) (hlen : 0 < msgLen hdr) :
    exec (.controlRead h hdr []) s = .next (s.portTake h (msgTag hdr) (msgAddr hdr % 2 ^ 48) (4 * msgLen hdr) []) := by
  refine congrArg Host.Outcome.next ((State.portMessage_free hready hup hfree).trans ((if_neg ?_).trans (if_neg (Nat.ne_of_gt hlen))))
  rw [hval]
  exact fun k => k.elim (fun e => Bool.false_ne_true e.symm) fun e => e rfl

theorem exec_controlWrite (hready : s.phase = .ready) (hup : (s.hub h).portUp = true) (hfree : (s.hub h).busy = none)
    (hval : s.msgValid h 2 hdr = true) (hdata : data.length = msgLen hdr) (hlen : 0 < msgLen hdr) :
    exec (.controlWrite h hdr data) s = .next (s.portTake h (msgTag hdr) (msgAddr hdr % 2 ^ 48) 0 data) := by
  refine congrArg Host.Outcome.next ((State.portMessage_free hready hup hfree).trans ((if_neg ?_).trans (if_neg (Nat.ne_of_gt hlen))))
  rw [hval]
  exact fun k => k.elim (fun e => Bool.false_ne_true e.symm) fun e => e hdata

/-! A doorbell (R411) -/

/-- The ring with a new TAIL; a descriptor under fetch that it no longer holds is forgotten. -/
def Hub.takeTail (v : W32) (b : Hub) : Hub := if v = b.head then { b.unfetch with tail := v } else { b with tail := v }

/-- The requests of a port that have not completed do not look at its task ring. -/
theorem State.portOut_modHub {g : Hub → Hub} (htags : (g (s.hub h)).tagsOut = (s.hub h).tagsOut) (hal : (g (s.hub h)).aliases = (s.hub h).aliases) :
    (s.modHub h g).portOut h = s.portOut h := by
  simp only [State.portOut, State.hub_modHub, htags, hal]
  rfl

/-- A doorbell for the hub's own ring that the port may perform. -/
theorem exec_doorbell {v : W32} (hready : s.phase = .ready) (hup : (s.hub h).portUp = true) (hfree : (s.hub h).busy = none)
    (hty : msgType hdr = 3) (hzero : msgZero hdr = true) (hlen : msgLen hdr = 1) (hring : msgAddr hdr % 4 = h.val)
    (hnew : (s.hub h).tagsOut.contains (msgTag hdr) = false) :
    exec (.doorbell h hdr [v]) s = .next (State.say h (.completion (msgTag hdr) (s.taskTail h v).1 [])
      (if (s.taskTail h v).1 = 0 then
        (s.taskTail h v).2.modHub h fun b => { b with bellWaits := (((s.taskTail h v).2.portOut h).filter fun e => e.2.2.1).map fun e => e.1 }
      else (s.taskTail h v).2)) := by
  refine congrArg Host.Outcome.next ((State.portMessage_free hready hup hfree).trans (if_neg ?_))
  simp only [hty, hzero, hlen, hring, hnew, List.length_cons, List.length_nil, Nat.zero_add, ne_eq, not_true_eq_false, Bool.true_eq_false,
    Bool.false_eq_true, or_self, not_false_eq_true]

/-! A stream message (R326) -/

theorem streamOk_iff : streamOk hdr data = true ↔ fld hdr 0 4 = 4 ∧ fld hdr 4 4 = 0 ∧ fld hdr 23 9 = 0 ∧ fld hdr 32 56 = 0 ∧ fld hdr 88 40 = 0
    ∧ fld hdr 16 7 ≤ 64 ∧ data.length = fld hdr 16 7 := by
  simp only [streamOk, Bool.and_eq_true, decide_eq_true_eq, and_assoc]

theorem exec_stream_bad (hup : (s.hub h).portUp = true) (hbad : streamOk hdr data = false ∨ (s.hub h).tagsOut.contains (msgTag hdr) = true) :
    exec (.stream h hdr data) s = .next (s.portInvalid h (msgTag hdr)) := by
  refine congrArg Host.Outcome.next ((if_neg ?_).trans (if_pos hbad))
  rw [hup]
  exact fun e => Bool.false_ne_true e.symm

/-- Bytes that reach a loader change its buffer and, at most, the time of its last whole record. -/
theorem Loader.push_eq (now : W64) (bytes : List Byte) (l : Loader) :
    ∃ since, l.push now bytes = { l with started := true, buf := l.buf ++ bytes, since := since } := by
  unfold Loader.push
  simp only
  split
  · exact ⟨now, rfl⟩
  · exact ⟨l.since, rfl⟩

section
variable (hup : (s.hub h).portUp = true) (hok : streamOk hdr data = true) (hnew : (s.hub h).tagsOut.contains (msgTag hdr) = false)
include hup hok hnew

theorem exec_stream_busy {o : Busy} (hbusy : (s.hub h).busy = some o) : exec (.stream h hdr data) s =
    .next (if (s.hub h).loader.started = true ∧ o.lop = 1 then
      (s.modLoader h (Loader.push s.now (bytesOfWords data))).say h (.completion (msgTag hdr) 0 [])
    else s.say h (.busy (msgTag hdr) o.lop o.prog)) := by
  refine (congrArg Host.Outcome.next ?_ : execStream h hdr data s = _)
  have hnew' : (s.hub h).tagsOut.contains (BitVec.ofNat 8 (fld hdr 8 8)) = false := hnew
  simp only [hup, hok, hnew', hbusy, Bool.true_eq_false, Bool.false_eq_true, if_false, or_self]
  rfl

theorem exec_stream_first (hfree : (s.hub h).busy = none) (hdata : data ≠ []) : exec (.stream h hdr data) s =
    .next ((s.modHub h fun b => { b with
      busy := some { lop := 1, prog := 0 },
      loader := { Loader.idle with lastErr := b.loader.lastErr }.push s.now (bytesOfWords data) }).say h (.completion (msgTag hdr) 0 [])) := by
  refine (congrArg Host.Outcome.next ?_ : execStream h hdr data s = _)
  have hnew' : (s.hub h).tagsOut.contains (BitVec.ofNat 8 (fld hdr 8 8)) = false := hnew
  have hne : data.isEmpty = false := List.isEmpty_eq_false_iff.mpr hdata
  simp only [hup, hok, hnew', hfree, hne, Bool.true_eq_false, Bool.false_eq_true, if_false, or_self]
  rfl

end

end

/-- Settles O37: each message by the cases of the port, and the headers by their fields. -/
theorem controlPortMessages : Obligations.ControlPortMessages := by
  unfold Obligations.ControlPortMessages
  intro h hdr data s hready hup b tag len a s1 req ty
  refine ⟨fun o c hbusy hlo hhi hc => ?_, fun hfree hbad => ?_, fun hfree hbad => ?_, fun hfree hval hdata hlen hw => ?_, fun hfree hval hdata hlen hw => ?_,
    fun v hfree hty hzero hlen hdata hring hnew => ?_, fun hfree hval hdata hlen hw => ?_, ?_,
    fun d st lop prog e hd => ⟨header_completion tag st hd, header_busy tag lop prog, header_event e⟩⟩
  · rcases hc with rfl | rfl | rfl
    · exact congrArg Host.Outcome.next (State.portMessage_busy hready hup hbusy hlo hhi)
    · exact congrArg Host.Outcome.next (State.portMessage_busy hready hup hbusy hlo hhi)
    · exact congrArg Host.Outcome.next (State.portMessage_busy hready hup hbusy hlo hhi)
  · exact congrArg Host.Outcome.next ((State.portMessage_free hready hup hfree).trans (if_pos (.inl hbad)))
  · exact congrArg Host.Outcome.next ((State.portMessage_free hready hup hfree).trans (if_pos (.inl hbad)))
  · subst hdata
    have hrun := exec_controlRead hready hup hfree hval hlen
    rw [State.portTake_now hw] at hrun
    refine ⟨fun st d u hq hread => ?_, fun hq => ?_⟩
    · exact hrun.trans (congrArg Host.Outcome.next (State.hubRun_read hq hread))
    · exact hrun.trans (congrArg Host.Outcome.next (State.hubRun_memory hq))
  · have hne : data ≠ [] := fun e => by rw [e] at hdata; exact absurd hdata (Nat.ne_of_lt hlen)
    have hempty : data.isEmpty = false := List.isEmpty_eq_false_iff.mpr hne
    have hrun := exec_controlWrite hready hup hfree hval hdata hlen
    rw [State.portTake_now (by rw [hempty]; exact hw)] at hrun
    have hbusy : (s1.hub h).busy = none := (congrArg Hub.busy (State.hub_modHub ..)).trans hfree
    have hwords : 4 * data.length = 4 * len := congrArg (4 * ·) hdata
    refine ⟨fun st u hq hwrite => ?_, fun hq => ?_⟩
    · rw [← hwords] at hwrite
      exact hrun.trans (congrArg Host.Outcome.next (State.hubRun_write hq hne hbusy hwrite))
    · have hmem := State.hubRun_memory (h := h) (s := s1) (tag := tag) (len := 0) (data := data) hq
      rw [hempty, if_neg Bool.false_ne_true, if_neg Bool.false_ne_true, hwords] at hmem
      exact hrun.trans (congrArg Host.Outcome.next hmem)
  · subst hdata
    have hrun := exec_doorbell (v := v) hready hup hfree hty hzero hlen hring hnew
    refine ⟨fun hle => ?_, fun hlt => ?_⟩
    · have hout : (s.modHub h (Hub.takeTail v)).portOut h = s.portOut h := by
        refine State.portOut_modHub ?_ ?_ <;> rw [Hub.takeTail] <;> split <;> rfl
      rw [hrun, State.taskTail_of_le hle, if_pos rfl]
      refine congrArg (fun t : State => Host.Outcome.next (State.say h (.completion tag 0 []) t)) ?_
      refine (congrArg (fun l : List (Byte × Nat × Bool × Option (Nat × Nat)) =>
        State.modHub h (fun b => { b with bellWaits := (l.filter fun e => e.2.2.1).map fun e => e.1 }) (s.modHub h (Hub.takeTail v))) hout).trans ?_
      rw [State.modHub_modHub]
      rfl
    · rw [hrun, State.taskTail_of_lt hlt]
      rfl
  · subst hdata
    rw [exec_controlRead hready hup hfree hval hlen, State.portTake_later hw]
    rfl
  · intro ok
    have hform : ok ↔ streamOk hdr data = true ∧ b.tagsOut.contains tag = false := by
      rw [streamOk_iff]
      simp only [ok, and_assoc]
      rfl
    refine ⟨fun hbad => exec_stream_bad hup ?_, fun o hbusy hlop hstart hok => ?_, fun o hbusy hno hok => ?_, fun hfree hok hdata => ?_⟩
    · by_cases hst : streamOk hdr data = true
      · exact .inr (Bool.not_eq_false _ ▸ fun k => hbad (hform.mpr ⟨hst, k⟩))
      · exact .inl (Bool.not_eq_true _ ▸ hst)
    · obtain ⟨hst, hnew⟩ := hform.mp hok
      obtain ⟨since, hpush⟩ := Loader.push_eq s.now (bytesOfWords data) b.loader
      rw [hstart.symm] at hpush
      refine ⟨since, (exec_stream_busy hup hst hnew hbusy).trans ?_⟩
      rw [if_pos ⟨hstart, hlop⟩]
      refine congrArg (fun t : State => Host.Outcome.next (State.say h (.completion tag 0 []) t)) (State.modHub_congr ?_)
      exact congrArg (fun l : Loader => { b with loader := l }) hpush
    · obtain ⟨hst, hnew⟩ := hform.mp hok
      refine (exec_stream_busy hup hst hnew hbusy).trans ?_
      rw [if_neg fun k => hno.elim (fun e => e k.2) fun e => Bool.false_ne_true (e.symm.trans k.1)]
      rfl
    · obtain ⟨hst, hnew⟩ := hform.mp hok
      obtain ⟨since, hpush⟩ := Loader.push_eq s.now (bytesOfWords data) { Loader.idle with lastErr := b.loader.lastErr }
      refine ⟨since, (exec_stream_first hup hst hnew hfree hdata).trans ?_⟩
      refine congrArg (fun t : State => Host.Outcome.next (State.say h (.completion tag 0 []) t)) (State.modHub_congr ?_)
      exact congrArg (fun l : Loader => { b with busy := some { lop := 1, prog := 0 }, loader := l }) hpush

end Sys2Proof.Machine
end

section
/-! O49: personality streams (R326, R328 to R334, R347 to R354, R364). -/

namespace Sys2Proof.Machine

/-! The header (R329, R330) -/

section
variable {h : Fin 4} {s : State}

/-- A whole header is checked once no tenant change of a target is under way. -/
theorem exec_streamHeader (hstart : (s.hub h).loader.started = true) (hidle : (s.hub h).loader.state = .idle)
    (hlen : 512 ≤ (s.hub h).loader.buf.length) (hfree : ∀ p ∈ targets ((s.hub h).loader.buf.take 512), s.secTakes p = false) :
    exec (.streamHeader h) s = .next (if s.streamChecks h ((s.hub h).loader.buf.take 512) = 0 then s.beginLoad h ((s.hub h).loader.buf.take 512)
      else s.reject h (s.streamChecks h ((s.hub h).loader.buf.take 512))) := by
  have hany : ((targets ((s.hub h).loader.buf.take 512)).any s.secTakes) = false :=
    List.any_eq_false.mpr fun p hp => by rw [hfree p hp]; exact Bool.false_ne_true
  exact congrArg Host.Outcome.next (if_pos ⟨hstart, hidle, hlen, hany⟩)

/-- Before a load has begun, a rejection is logged and ends it. -/
theorem State.reject_idle (hidle : (s.hub h).loader.state = .idle) {code : Code} (hcode : code ≠ 0) :
    s.reject h code = ((s.logHub h code (BitVec.ofNat 64 (s.hub h).loader.done)).modLoader h fun l =>
      { Loader.idle with prog := l.prog, lastErr := code }).sendEvent h 5 code 0xFF 1 0 := by
  simp only [State.reject, hidle, if_true, State.loadEnd, if_neg hcode, State.logReject]

/-- A partition that becomes the target of a load. -/
def Part.load (q : Part) : Part := { q with unavail := true, isolated := true, pers := .loading }

theorem targets_nodup (hdr : List Byte) : (targets hdr).Nodup := (List.nodup_finRange 12).filter _

/-- A hub whose port has begun a load in state s. -/
def State.begunHub (hdr : List Byte) (s : State) (b : Hub) : Hub := { b with
  hubf := if tgtHub hdr then .loading else b.hubf
  loader := { b.loader with state := .header, hdr := hdr, seed := s.streamSeed hdr, buf := b.loader.buf.drop 512, isoAt := s.now,
                            prev := Vector.ofFn fun p : Fin 12 => (s.part p).pers, prevHub := b.hubf } }

theorem State.beginLoad_eq (hdr : List Byte) :
    s.beginLoad h hdr = (targets hdr).foldl (fun s p => s.modPart p Part.load) (s.modHub h (s.begunHub hdr)) := rfl

theorem State.part_beginLoad (hdr : List Byte) (p : Fin 12) :
    (s.beginLoad h hdr).part p = if p ∈ targets hdr then (s.part p).load else s.part p := by
  rw [State.beginLoad_eq, State.part_foldl_modPart Part.load (targets_nodup hdr)]
  rfl

theorem State.hub_beginLoad (hdr : List Byte) (g : Fin 4) : (s.beginLoad h hdr).hub g = (s.modHub h (s.begunHub hdr)).hub g := by
  rw [State.beginLoad_eq, State.foldl_modPart Part.load (targets_nodup hdr)]
  rfl

/-- R329's second check: the header names another hub, or a target that is another hub's or fused off. -/
theorem misplaced_iff (hdr : List Byte) :
    (hfield hdr 0xA 1 ≠ h.val ∨ (targets hdr).any (fun p => decide (homeHub p ≠ h) || s.fused p) = true) ↔
      (hfield hdr 0xA 1 ≠ h.val ∨ ∃ p ∈ targets hdr, homeHub p ≠ h ∨ s.fused p = true) := by
  simp only [List.any_eq_true, Bool.or_eq_true, decide_eq_true_eq]

/-- A rejected header is logged, and the load ends before it began. -/
theorem exec_streamHeader_reject (hstart : (s.hub h).loader.started = true) (hidle : (s.hub h).loader.state = .idle)
    (hlen : 512 ≤ (s.hub h).loader.buf.length) (hfree : ∀ p ∈ targets ((s.hub h).loader.buf.take 512), s.secTakes p = false)
    {code : Code} (hcode : code ≠ 0) (hchecks : s.streamChecks h ((s.hub h).loader.buf.take 512) = code) :
    exec (.streamHeader h) s = .next (((s.logHub h code (BitVec.ofNat 64 (s.hub h).loader.done)).modLoader h fun l =>
      { Loader.idle with prog := l.prog, lastErr := code }).sendEvent h 5 code 0xFF 1 0) := by
  rw [exec_streamHeader hstart hidle hlen hfree, hchecks, if_neg hcode, State.reject_idle hidle hcode]

/-! A rejection (R350, R351) -/

theorem State.reject_header (hst : (s.hub h).loader.state = .header) (code : Code) :
    let l := (s.hub h).loader
    let b := (targets l.hdr).foldl (fun s p => s.modPart p fun q =>
      { q with pers := vget PersState.none l.prev p.val, unavail := decide (vget PersState.none l.prev p.val = .held),
               isolated := decide (vget PersState.none l.prev p.val = .held) }) (s.logReject h code)
    s.reject h code = (if tgtHub l.hdr then b.modHub h fun b => { b with hubf := l.prevHub } else b).loadEnd h code := by
  have hno : ¬ LoadState.header = .idle := by decide
  simp only [State.reject, hst, if_neg hno, if_true]

theorem State.reject_committed (hst : (s.hub h).loader.state = .committed ∨ (s.hub h).loader.state = .releasing) (code : Code) :
    let l := (s.hub h).loader
    let b := (targets l.hdr).foldl (fun s p =>
      ((s.wipePart .load p).modPart p fun q => { q.bare with pers := .held, unavail := true, isolated := true }).bareRegs p) (s.logReject h code)
    s.reject h code = (if tgtHub l.hdr then ((b.idleLinks h).bareHub h).modHub h fun b => { b with hubf := .held } else b).loadEnd h code := by
  have hidle : (s.hub h).loader.state ≠ .idle := by rcases hst with e | e <;> rw [e] <;> decide
  have hheader : (s.hub h).loader.state ≠ .header := by rcases hst with e | e <;> rw [e] <;> decide
  simp only [State.reject, if_neg hidle, if_neg hheader]

/-! Segments (R328, R332) -/

theorem State.takeSegment_misplaced (hi : hfield ((s.hub h).loader.buf.take 8) 0 4 ≠ (s.hub h).loader.done) :
    s.takeSegment h = (0x7E08, s) := if_pos hi

/-- The tag of the segment at hand is not the one that its bytes have. -/
theorem State.takeSegment_forged (hi : hfield ((s.hub h).loader.buf.take 8) 0 4 = (s.hub h).loader.done)
    (htag : Config.tag (segKey (s.hub h).loader.seed (s.hub h).loader.done) (List.replicate 12 0) ((s.hub h).loader.buf.take 8)
        (((s.hub h).loader.buf.drop 8).take (segLen (s.hub h).loader.hdr (s.hub h).loader.done))
      ≠ BitVec.ofNat 128 (hfield (s.hub h).loader.buf (8 + segLen (s.hub h).loader.hdr (s.hub h).loader.done) 16)) :
    s.takeSegment h = (0x7E07, s) := by
  simp only [State.takeSegment]
  rw [if_neg (not_not.mpr hi), if_pos htag]

/-- A whole segment is authenticated and its commands run, once the loader may pass the commit point. -/
theorem exec_segment {code : Code} {s' : State} (hcur : (s.hub h).loader.state = .header ∨ (s.hub h).loader.state = .committed)
    (hended : (s.hub h).loader.ended = false) (hlen : 24 + segLen (s.hub h).loader.hdr (s.hub h).loader.done ≤ (s.hub h).loader.buf.length)
    (hdrained : (s.hub h).loader.state = .committed ∨ (s.hub h).loader.drained = true ∨ s.drained h = true)
    (hrun : s.takeSegment h = (code, s')) : exec (.segment h) s = .next (if code = 0 then s' else s'.reject h code) := by
  refine (congrArg Host.Outcome.next (if_pos ⟨hcur, hended, hlen, hdrained⟩) : execSegment h s = _).trans ?_
  rw [hrun]

/-! Timeouts of a load (R352, R354, R364) -/

theorem exec_streamTimeout_early (hearly : (s.hub h).loader.whole ≠ 0 ∨ (s.now - (s.hub h).loader.since).toNat < 100000000) :
    exec (.streamTimeout h) s = .next s := by
  refine (congrArg Host.Outcome.next (if_neg ?_) : execStreamTimeout h s = _)
  rintro ⟨-, -, hwhole, hlate⟩
  exact hearly.elim (fun k => k hwhole) (Nat.not_lt.mpr hlate)

theorem exec_fabricPllLockTimeout_late {t : W64} (ht : (s.hub h).loader.pllFrom = some t) (hended : (s.hub h).loader.ended = true)
    (hruns : ∃ d ∈ streamDies h (s.hub h).loader.hdr, s.pllRuns d = true) (hlate : 20000 ≤ (s.now - t).toNat) :
    exec (.fabricPllLockTimeout h) s = .next (s.reject h 0x7E15) := by
  refine (congrArg Host.Outcome.next ?_ : execFabricPllLockTimeout h s = _)
  simp only [ht]
  exact if_pos ⟨hended, List.any_eq_true.mpr hruns, hlate⟩

theorem exec_fabricPllLockTimeout_early {t : W64} (ht : (s.hub h).loader.pllFrom = some t) (hearly : (s.now - t).toNat < 20000) :
    exec (.fabricPllLockTimeout h) s = .next s := by
  refine (congrArg Host.Outcome.next ?_ : execFabricPllLockTimeout h s = _)
  simp only [ht]
  exact if_neg fun k => Nat.not_le.mpr hearly k.2.2

theorem exec_borderDrainTimeout_load {s' : State}
    (hs' : s' = State.modLoader h (fun l => { l with drained := true }) ((targets (s.hub h).loader.hdr).foldl (fun s p => s.abandon p) s))
    (hnone : s'.secNow = none) (hst : (s.hub h).loader.state = .header) (hwait : (s.hub h).loader.drained = false)
    (hlate : 50000 ≤ (s.now - (s.hub h).loader.isoAt).toNat) : exec (.borderDrainTimeout h) s = .next s' := by
  refine (congrArg Host.Outcome.next ?_ : execBorderDrainTimeout h s = _)
  rw [if_pos ⟨hst, hwait, hlate⟩, ← hs']
  simp only [hnone]

theorem exec_borderDrainTimeout_tenant {r : SecRun} (hr : s.secNow = some r) (hhub : r.cmd.hub = h) (hph : r.phase = .drain)
    (hst : (s.hub h).loader.state ≠ .header) (hlate : 50000 ≤ (s.now - r.since).toNat) :
    exec (.borderDrainTimeout h) s = .next ((s.secParts h).foldl (fun s p => s.abandon p) s) := by
  refine (congrArg Host.Outcome.next ?_ : execBorderDrainTimeout h s = _)
  rw [if_neg fun k => hst k.1]
  simp only [hr]
  exact if_pos ⟨hhub, hph, hlate⟩

theorem exec_borderDrainTimeout_early (hnone : s.secNow = none) (hearly : (s.now - (s.hub h).loader.isoAt).toNat < 50000) :
    exec (.borderDrainTimeout h) s = .next s := by
  refine (congrArg Host.Outcome.next ?_ : execBorderDrainTimeout h s = _)
  rw [if_neg fun k => Nat.not_le.mpr hearly k.2.2]
  simp only [hnone]

end

/-- Settles O49: the checks of R329 are taken one by one, and what each record, timeout, command and the release does is
stated by its own lemma above. -/
theorem personalityStreams : Obligations.PersonalityStreams := by
  unfold Obligations.PersonalityStreams
  refine ⟨fun h s => ?_, fun h s code _ => ⟨fun hst => State.reject_header hst code, fun hst => State.reject_committed hst code⟩,
    fun h s => ?_, fun h n s => ?_, fun h s => ?_⟩
  · intro l hdr akey c1 c2 c3 c4 c5 c6 c7 c8 c9 hstart hidle hlen hfree
    have hmis := misplaced_iff (h := h) (s := s) hdr
    have hrun : (targets hdr).any (fun p => (s.part p).task.isSome) = true ↔ c9 := List.any_eq_true
    refine ⟨fun code hfails => exec_streamHeader_reject hstart hidle hlen hfree ?_ ?_, fun n1 n2 n3 n4 n5 n6 n7 n8 n9 => ?_⟩
    · rcases hfails with ⟨-, rfl⟩ | ⟨-, -, rfl⟩ | ⟨-, -, -, rfl⟩ | ⟨-, -, -, -, rfl⟩ | ⟨-, -, -, -, -, rfl⟩
        | ⟨-, -, -, -, -, -, rfl⟩ | ⟨-, -, -, -, -, -, -, rfl⟩ | ⟨-, -, -, -, -, -, -, -, rfl⟩ | ⟨-, -, -, -, -, -, -, -, -, rfl⟩ <;> decide
    · rcases hfails with ⟨k, rfl⟩ | ⟨n1, k, rfl⟩ | ⟨n1, n2, k, rfl⟩ | ⟨n1, n2, n3, k, rfl⟩ | ⟨n1, n2, n3, n4, k, rfl⟩
        | ⟨n1, n2, n3, n4, n5, k, rfl⟩ | ⟨n1, n2, n3, n4, n5, n6, k, rfl⟩ | ⟨n1, n2, n3, n4, n5, n6, n7, k, rfl⟩
        | ⟨n1, n2, n3, n4, n5, n6, n7, n8, k, rfl⟩
      · exact if_pos k
      · exact (if_neg n1).trans (if_pos (hmis.mpr k))
      · exact (if_neg n1).trans ((if_neg (mt hmis.mp n2)).trans (if_pos k))
      · exact (if_neg n1).trans ((if_neg (mt hmis.mp n2)).trans ((if_neg n3).trans (if_pos k)))
      all_goals refine (if_neg n1).trans ((if_neg (mt hmis.mp n2)).trans ((if_neg n3).trans ((if_neg n4).trans ?_)))
      · exact if_pos k
      all_goals refine (if_neg n5).trans ?_
      · exact if_pos k
      · exact (if_neg n6).trans (if_pos k)
      · exact (if_neg n6).trans ((if_neg n7).trans (if_pos k))
      · exact (if_neg n6).trans ((if_neg n7).trans ((if_neg n8).trans (if_pos (hrun.mpr k))))
    · have hchecks : s.streamChecks h hdr = 0 :=
        (if_neg n1).trans ((if_neg (mt hmis.mp n2)).trans ((if_neg n3).trans ((if_neg n4).trans ((if_neg n5).trans
          ((if_neg n6).trans ((if_neg n7).trans ((if_neg n8).trans (if_neg (mt hrun.mp n9)))))))))
      have hhub : (s.beginLoad h hdr).hub h = s.begunHub hdr (s.hub h) := (State.hub_beginLoad hdr h).trans (State.hub_modHub h _ s)
      refine ⟨s.beginLoad h hdr, (exec_streamHeader hstart hidle hlen hfree).trans (congrArg Host.Outcome.next (if_pos hchecks)), ?_, ?_, ?_,
        State.part_beginLoad hdr, fun g hg => (State.hub_beginLoad hdr g).trans (State.hub_modHub_ne h g _ s (Ne.symm hg))⟩
      all_goals rw [hhub]; rfl
  · exact ⟨fun hcur hended hlen hdrained code s' hrun => exec_segment hcur hended hlen hdrained hrun, State.takeSegment_misplaced,
      State.takeSegment_forged, exec_streamTimeout_early,
      fun hcur hended hwhole hlate => congrArg Host.Outcome.next (if_pos ⟨hcur, hended, hwhole, hlate⟩),
      fun t ht hended hruns hlate => exec_fabricPllLockTimeout_late ht hended hruns hlate,
      fun t ht hearly => exec_fabricPllLockTimeout_early ht hearly, exec_borderDrainTimeout_load rfl, exec_borderDrainTimeout_early,
      fun r hr hhub hph hst => exec_borderDrainTimeout_tenant hr hhub hph hst, fun p => rfl⟩
  · refine ⟨fun hc => ?_, fun code hc => ?_, fun k s' hc => ?_, fun s' hc => ?_, fun hst => if_neg hst, fun hst => if_pos hst⟩
    all_goals simp only [State.commands, hc]
  · exact fun hended => congrArg Host.Outcome.next (if_pos hended)

end Sys2Proof.Machine
end
